-- ==== Sys2Proof/Word.lean ====
section
/-!
DEFINITION. Word.lean: the one container of the model's sparse tables. Register words are natural numbers below
`2 ^ 32`; the operations on numbers and tables stand in Machine/Bits.lean.
-/
namespace Sys2Proof

/-- A sparse map: pairs in strictly rising key order. What an unlisted key reads as is the reader's default. -/
abbrev SMap (α : Type) := List (Nat × α)

end Sys2Proof
end

