-- ==== Sys2Proof/Syntax.lean ====
section
/-!
DEFINITION. Syntax.lean: the commands and events the block takes, one constructor per row of the opcode table.

The block has no encoded instructions. A command that host software writes to `PAGE_CMD` carries its channel, its
page instance and its 24-bit argument, so that a malformed argument can be sent and is refused as R79 says. An
event carries the outside data that the spec says it depends on (a received message, a measured value).
-/
namespace Sys2Proof

/-- A command written to `PAGE_CMD` (R79): the channel it comes through in the codes of R121 (0 host link,
1 service link, 2 and 3 recipe engines, 4 the device itself), the page's instance, `PAGE_CMD` [31:8], and whether
it arrives sooner than 5 µs after the previous ticket (R118). -/
structure Cmd where
  ch : Nat
  inst : Nat
  arg : Nat
  soon : Bool
  deriving DecidableEq, Repr


/-- An error that the DRAM shows in a line's burst (R309, R310): channel, line of the channel (channel address / 64),
codeword, device, and the symbol added to what was stored. -/
structure MemErr where
  ch : Nat
  line : Nat
  cw : Nat
  dev : Nat
  xor : Nat
  deriving DecidableEq, Repr

/-- What training of a memory channel finds (R304, R305): a DIMM is present; its SPD says that it is a DDR5 RDIMM with ECC of x4 devices
that are not 3DS stacks; training succeeded; its capacity in GiB, ranks (0 one, 1 two), density (0 16 Gbit, 1 32 Gbit), the highest
rate it supports (0 4800, 1 5600, 2 6400 MT/s; each lower one is supported with it), and its serial number. -/
structure Dimm where
  present : Bool
  rdimm : Bool
  trained : Bool
  capacity : Nat
  ranks : Nat
  density : Nat
  rate : Nat
  serial : Nat
  deriving DecidableEq, Repr

/-- What a grid-sense tracker holds as a frame begins (R203): the input, the phase at the midpoint of the frame just ended (2^32 per
cycle), the frequency in mHz and the fundamental's amplitude in mV peak, and, where a cycle ended in that frame, its phase error in
0.001°. -/
structure GridReading where
  input : Nat
  phase : Nat
  freq : Nat
  amp : Nat
  cycle : Option Int
  deriving DecidableEq, Repr

/-- What comes from outside as a frame begins: `slack` the completion-slack sensors' reports of the frame just ended, as sensor and
value (R455), and `grid` what the grid-sense trackers hold (R203). -/
structure FrameStart where
  slack : List (Nat × Nat)
  grid : List GridReading
  deriving DecidableEq, Repr


/-- The commands and events of the block: one constructor per row of the opcode table, those with operands first.
The operands carry what the sender knows and the block does not: which instance, and the outside data of an event. -/
inductive Instr where
  /-- `FRAME_BOUNDARY` (R53): A K03 frame boundary begins a frame: commits exchange, both-copies entries are written and plan computation for frame N+2 starts. -/
  | frameBoundary (start : FrameStart)
  /-- `PLAN_ASSEMBLED` (R44): A lane's plan for frame N completes and is placed in frame assembly. -/
  | planAssembled (lane : Nat)
  /-- `FRAME_DEADLINE_MISS` (R45): A lane's plan is not assembled when frame N-1 begins; the frame goes out with plan validity clear and a NOTE fault is raised. -/
  | frameDeadlineMiss (lane : Nat)
  /-- `LANE_FRAME_LAUNCH` (R167): A lane launches a downstream frame whose header and S slots are filled according to the lane state. -/
  | laneFrameLaunch (lane : Nat) (soon : Bool)
  /-- `HEALTH_WEIGHT_WRITE_COMPLETE` (R286): A tile finishes writing a lane's back copy and marks it complete. -/
  | healthWeightWriteComplete (lane : Nat)
  /-- `RANK_REFRESH` (R217): Every 50 frames the selector refreshes the charge and discharge rank orders, with current inhibits and stir partners. -/
  | rankRefresh (lane : Nat)
  /-- `FILTER_STEP` (R276): A tile runs the prediction and measurement update for every cell of its lane, or skips the step if it is late. -/
  | filterStep (lane : Nat)
  /-- `REST_ANCHOR` (R281): A cell's rest timer reaches t_rest and an anchor is taken. -/
  | restAnchor (lane idx : Nat)
  /-- `TAPER_DECLARATION` (R283): A full or empty timer reaches taper_s and the cell is declared FULL or EMPTY. -/
  | taperDeclaration (lane idx : Nat)
  /-- `UPSTREAM_FRAME_RECEIVED` (R185): A corrected upstream frame is delivered to framing and the control tap and passed through the sieve. -/
  | upstreamFrameReceived (lane payload : Nat) (bad : List Nat) (corr : Nat) (flrFull : Bool)
  /-- `MISSING_UPSTREAM_FRAME` (R185): An expected upstream frame does not arrive and every slot becomes a gap. -/
  | missingUpstreamFrame (lane : Nat) (flrFull : Bool)
  /-- `CODEWORD_RECEIVED` (R151): A codeword is decoded, and corrected and uncorrectable counts are updated. -/
  | codewordReceived (lane : Nat) (symbols : List Nat)
  /-- `LOSS_OF_SIGNAL` (R153): The received amplitude stays below 60 mVppd for 1 us and the lane re-enters TRAIN. -/
  | lossOfSignal (lane : Nat)
  /-- `LOSS_OF_SIGNAL_CLEAR` (R153): The amplitude stays above 100 mVppd for 10 us and loss of signal clears. -/
  | lossOfSignalClear (lane : Nat)
  /-- `TRAINING_BLOCK_RECEIVED` (R136): A training block is received, and a control word confirmed in 3 blocks is acted on. -/
  | trainingBlockReceived (lane word : Nat)
  /-- `COEFF_TIMEOUT` (R138): A requester waits more than 100 us for coefficient status and training fails. -/
  | coeffTimeout (lane : Nat)
  /-- `RX_READY` (R139): Eye heights stay at or above 24 mV for 1 ms and the receiver sets ready. -/
  | rxReady (lane upper middle lower : Nat)
  /-- `TRAINING_COMPLETE` (R139): After the 64 further ready blocks, codewords begin at the next boundary and the lane enters ALIGN. -/
  | trainingComplete (lane duration : Nat)
  /-- `TRAINING_FAIL` (R140): A training or alignment timeout expires, the failure reason is recorded and the lane is squelched for 1 s. -/
  | trainingFail (lane reason : Nat)
  /-- `SQUELCH_WAIT_END` (R140): The 1 s squelch ends and training restarts from P1. -/
  | squelchWaitEnd (lane : Nat)
  /-- `DELAY_MEASURED` (R143): An RTT measurement over 16 frames completes; the launch advance is stepped, or the delay is accepted and the lane enters ENUM. -/
  | delayMeasured (lane rtt : Nat)
  /-- `LANE_ENABLE` (R148): The ENABLE command takes the lane from DOWN to TRAIN. -/
  | laneEnable (twin : Bool) (c : Cmd)
  /-- `AUTO_ENABLE` (R546): The device issues ENABLE to auto-enabled lanes once the group domain is on and its PLL has locked. -/
  | autoEnable (group : Nat)
  /-- `LANE_DISABLE` (R149): The DISABLE command takes the lane to DOWN, after 4 posture frames from RUN or SAFE. -/
  | laneDisable (twin : Bool) (c : Cmd)
  /-- `LANE_SAFE` (R148): The SAFE command moves the lane from RUN to SAFE at the next frame boundary. -/
  | laneSafe (twin : Bool) (c : Cmd)
  /-- `LANE_ENUMERATE` (R148): The ENUMERATE command moves the lane from SAFE to ENUM. -/
  | laneEnumerate (twin : Bool) (c : Cmd)
  /-- `LANE_RETRAIN` (R148): The RETRAIN command moves the lane to TRAIN from P1. -/
  | laneRetrain (twin : Bool) (c : Cmd)
  /-- `LANE_LOOP` (R156): The LOOP command enters near or remote PRBS31 loopback. -/
  | laneLoop (twin : Bool) (c : Cmd)
  /-- `LOOP_EXIT` (R148): The LOOP_EXIT command leaves loopback for DOWN. -/
  | loopExit (twin : Bool) (c : Cmd)
  /-- `LANE_CLEAR_COUNTERS` (R154): The CLEAR_COUNTERS command zeroes the lane's counters and LNK_SAT. -/
  | laneClearCounters (twin : Bool) (c : Cmd)
  /-- `D2D_LINK_LOST` (R43): A die-to-die handshake fails for 2 us or a retrain fails; the lane die's lanes go to SAFE and a CONTAIN fault is raised. -/
  | d2dLinkLost (die : Nat)
  /-- `D2D_RETRAIN` (R43): Every 100 ms a lost die-to-die link attempts to retrain. -/
  | d2dRetrain (die : Nat)
  /-- `D2D_LINK_RETRAINED` (R150): A link retrains, and lanes that entered SAFE by its loss return to ENUM. -/
  | d2dLinkRetrained (die : Nat)
  /-- `MGMT_BLOCK_RECEIVED` (R186): A management-channel block is received; in-order messages such as inventory, MAP_ACK and CFG_ACK are accepted and acted on. -/
  | mgmtBlockReceived (lane : Nat) (block : List Nat) (bad : Bool)
  /-- `MGMT_RETRANSMIT` (R187): After 32 frames without an ack advance, unacknowledged messages are sent again. -/
  | mgmtRetransmit (lane : Nat)
  /-- `INVENTORY_RETRY` (R189): The inventory is resent after 100 ms without completion, or repeated every 1 s in BUDGET_FAIL. -/
  | inventoryRetry (lane : Nat)
  /-- `LANE_ENTER_RUN` (R190): After a loaded MAP_ACK, the lane enters RUN at the next frame boundary; impedance ordinals and filters reset. -/
  | laneEnterRun (lane : Nat)
  /-- `MAP_RELEASE` (R196): The command validates the held slot map and starts LOADING. -/
  | mapRelease (c : Cmd)
  /-- `MAP_DEFAULT` (R196): The command rewrites the default map under the same map_id. -/
  | mapDefault (c : Cmd)
  /-- `B_SET` (R196): The command sets the downstream byte of a B endpoint from the next frame. -/
  | bSet (c : Cmd)
  /-- `MBX_SEND` (R196): The command queues the host mailbox message to a node or head. -/
  | mbxSend (c : Cmd)
  /-- `FRM_INVENTORY` (R196): The command restarts the ENUM work at INVENTORY. -/
  | frmInventory (c : Cmd)
  /-- `MBX_RX_RELEASE` (R195): Writing 1 to FRM_MBX_RX_STATUS.full frees the receive mailbox. -/
  | mbxRxRelease (ch : Nat)
  /-- `SCH_COMMIT` (R58): Writing 1 to SCH_COMMIT.go issues a ticket and awaits the exchange at the next boundary. -/
  | schCommit (ch : Nat) (soon : Bool)
  /-- `SHADOW_TABLE_WRITE` (R235): A write to the shadow limit and target tables is applied, or ignored whole when out of range. -/
  | shadowTableWrite (ch : Nat) (priv : Bool) (off val : Nat)
  /-- `ACTIVE_TABLE_WRITE` (R60): A privileged direct write to an active table entry is applied to both copies and recorded in the ledger. -/
  | activeTableWrite (ch off val : Nat)
  /-- `MODE` (R201): The bank MODE command is judged against the state at the next boundary and queued for it. -/
  | bankMode (c : Cmd)
  /-- `WITHDRAW` (R237): The command withdraws a cell position from the next boundary. -/
  | cellWithdraw (c : Cmd)
  /-- `RETURN` (R237): The command clears withdrawn and BENCH_FAILED from the next boundary. -/
  | cellReturn (c : Cmd)
  /-- `ASSIGN` (R237): The command changes a string's bank membership at the next boundary. -/
  | stringAssign (c : Cmd)
  /-- `GRID_LOCK_GAINED` (R203): A grid-sense tracker declares lock after 25 good cycles. -/
  | gridLockGained (g freq amp phase : Nat)
  /-- `GRID_LOCK_LOST` (R203): A tracker loses lock, and AC_LOCKED banks on that input move to HOLD. -/
  | gridLockLost (g : Nat)
  /-- `STIR_DWELL_EXPIRY` (R225): A stir slot's dwell expires and it takes the next member. -/
  | stirDwellExpiry (lane slot : Nat)
  /-- `BROKEN_T_RESTORE` (R211): A substituted cell temperature that has agreed for 10 s is restored. -/
  | brokenTRestore (lane idx : Nat)
  /-- `METER_PERIOD` (R341): A bank-meter output period of 100 us completes; energy is summed and bank overcurrent and voltage are checked. -/
  | meterPeriod (codes : List Nat) (ovr : Nat)
  /-- `CAL_HANDOVER` (R343): At the next metering boundary the spare takes over the channel, or the step is rejected. -/
  | calHandover (diff : Nat) (clipped : Bool)
  /-- `PLAN_APPLY` (R243): The IMP command moves staged bin plans into force for the lanes concerned. -/
  | planApply (c : Cmd)
  /-- `BIN_PLAN_TAKE` (R244): A changed bin takes its new entry at the next window start or window end. -/
  | binPlanTake (lane bin : Nat)
  /-- `WINDOW_CLOSE` (R255): A bin window closes, and Z, quality, coherence and the previous-result word are computed for each served cell. -/
  | windowClose (lane bin : Nat)
  /-- `RESULT_DELIVERY` (R259): GOOD results are delivered to the estimator, which updates resistance. -/
  | resultDelivery (lane bin : Nat)
  /-- `OFFSET_REFRESH` (R252): A lane's due twiddle refresh runs in a stir-free frame. -/
  | offsetRefresh (lane : Nat)
  /-- `OFFSET_REFRESH_FORCED` (R252): Ten seconds after the due time, a refresh is forced and costs a frame of gap samples. -/
  | offsetRefreshForced (lane : Nat)
  /-- `EST_RELOAD` (R54): Writing 1 to EST_RELOAD.go reloads the class tables at the next filter step. -/
  | estReload (ch : Nat) (soon : Bool)
  /-- `IMPORT` (R291): The command copies named import records into use at the next health boundary. -/
  | estImport (c : Cmd)
  /-- `CLEAR_STALE` (R291): The command clears the stale flags of named positions at the next health boundary. -/
  | clearStale (c : Cmd)
  /-- `RESET_LEARNED` (R291): The command returns named positions to nameplate at the next health boundary. -/
  | resetLearned (c : Cmd)
  /-- `CHECKPOINT` (R293): The command requests a signed checkpoint at the next health boundary. -/
  | checkpoint (c : Cmd)
  /-- `CKPT_LOAD` (R293): The command verifies the checkpoint region and schedules its load. -/
  | ckptLoad (c : Cmd)
  /-- `MEMORY_CHANNEL_TRAINED` (R305): A memory channel completes or fails training. -/
  | memoryChannelTrained (ch : Nat) (x : Dimm)
  /-- `MEMORY_READ` (R310): A read reaches a channel controller and is decoded as clean, corrected, poisoned or uncorrectable. -/
  | memoryRead (line : Nat) (errs : List MemErr)
  /-- `MEMORY_WRITE` (R316): A write reaches a channel and merges into the ladle or writes a full line. -/
  | memoryWrite (addr : Nat) (bytes : List Nat) (errs : List MemErr)
  /-- `LADLE_AGE_FLUSH` (R316): A ladle entry reaches age_us and is flushed. -/
  | ladleAgeFlush (ch : Nat) (errs : List MemErr)
  /-- `BLAME_DECAY` (R312): Every decay hours all blame counters are halved. -/
  | blameDecay (ch : Nat)
  /-- `SCRUB_VISIT` (R322): The scourer's pace timer visits the next valid line and rewrites a corrected one. -/
  | scrubVisit (ch : Nat) (errs : List MemErr)
  /-- `SELF_REFRESH_ENTRY` (R324): A channel idle for 1 ms during hibernation enters self-refresh. -/
  | selfRefreshEntry (ch : Nat) (errs : List MemErr)
  /-- `FENCE` (R317): The MEM command flushes every ladle entry existing at acceptance. -/
  | memFence (c : Cmd)
  /-- `ZERO` (R326): The MEM command clears the super-valid bits of a range so that it reads zero. -/
  | memZero (c : Cmd)
  /-- `REMAP` (R326): The MEM command dissolves the map and builds it again. -/
  | memRemap (c : Cmd)
  /-- `MARK` (R328): The MEMC command marks a DRAM device failed without a fault. -/
  | memcMark (c : Cmd)
  /-- `UNMARK` (R328): The MEMC command removes a mark and clears the blame counters. -/
  | memcUnmark (c : Cmd)
  /-- `MEMC_CLEAR_COUNTERS` (R328): The MEMC command clears the channel counters and MEMC_SAT. -/
  | memcClearCounters (c : Cmd)
  /-- `FLR_ARM` (R334): The command arms the flight recorder from slot 0. -/
  | flrArm (c : Cmd)
  /-- `FLR_TRIGGER` (R332): A trigger moves ARMED to POST and records its frame and cause. -/
  | flrTrigger (c : Cmd)
  /-- `FLR_STOP` (R334): The command returns the recorder to IDLE. -/
  | flrStop (c : Cmd)
  /-- `FAULT_RAISE` (R108): A fault reaches the collector; it is graded, latched or marked overflow, queued for the drip tray and its consequence applied. -/
  | faultRaise (code loc detail : Nat)
  /-- `FLT_ACK` (R110): The ACK command clears one class latch against its sequence number. -/
  | fltAck (c : Cmd)
  /-- `FLT_TRIP` (R114): The TRIP command raises HOST_TRIP. -/
  | fltTrip (c : Cmd)
  /-- `RELEASE_PINS` (R116): The command releases acknowledgement pins up to a sequence number. -/
  | releasePins (c : Cmd)
  /-- `TICKET_LOOKUP` (R124): A write of TKT_LOOKUP_HI starts a ticket lookup. -/
  | ticketLookup (ch : Nat) (priv : Bool) (hi : Nat)
  /-- `TICKET_LOOKUP_DONE` (R124): The lookup completes and fills TKT_LOOKUP_RESULT. -/
  | ticketLookupDone (ch : Nat)
  /-- `REGISTER_WRITE` (R7): A write to a register without behaviour of its own follows its access code and views. -/
  | registerWrite (ch addr size val : Nat) (soon : Bool)
  /-- `SNAP_READ` (R7): A read of the low word of a SNAP pair latches the high word for the reading channel. -/
  | snapRead (ch addr size : Nat)
  /-- `PAGE_ENABLE_WRITE` (R78): A write of PAGE_CTRL.enable enables or disables the block, or is refused. -/
  | pageEnableWrite (ch : Nat) (priv : Bool) (page : Nat) (en : Bool)
  /-- `PAGE_HIBERNATE_WRITE` (R76): A write of PAGE_CTRL.hibernate requests block hibernation. -/
  | pageHibernateWrite (ch : Nat) (priv : Bool) (page : Nat) (hib : Bool)
  /-- `BLOCK_RESET` (R78): Writing 1 to block_reset resets the block's registers and state as a command. -/
  | blockReset (ch page : Nat) (soon : Bool)
  /-- `HIF_LINK_RESET` (R71): A loss of link, hot reset, FLR, D3hot entry or PE_PERST_N low resets the host link only. -/
  | hifLinkReset (kind : Nat)
  /-- `PCIE_LINK_UP` (R71): The link trains to L0 and HIF_LINK.up sets. -/
  | pcieLinkUp (width speed : Nat)
  /-- `BAR2_READ` (R81): A BAR2 read returns attached-memory data or a poisoned completion. -/
  | bar2Read (offset n : Nat) (errs : List MemErr)
  /-- `BAR2_WRITE` (R81): A BAR2 write goes through the ladle or is dropped outside the host region. -/
  | bar2Write (offset : Nat) (bytes : List (Nat × Nat)) (errs : List MemErr)
  /-- `CUS_NONCE` (R86): The NONCE command draws a new nonce and discards verified signatures. -/
  | cusNonce (c : Cmd)
  /-- `SIGN_IN` (R87): The SIGN_IN command queues verification of the mailbox request. -/
  | signIn (c : Cmd)
  /-- `CUS_OPEN` (R86): The OPEN command opens the privileged view when the signatures satisfy the scope. -/
  | cusOpen (c : Cmd)
  /-- `CUS_CLOSE` (R86): The CLOSE command closes the session. -/
  | cusClose (c : Cmd)
  /-- `SESSION_EXPIRY` (R88): A session's duration expires in RTC ticks and the session closes. -/
  | sessionExpiry (ch : Nat)
  /-- `NONCE_EXPIRY` (R86): A nonce reaches 600 s and no longer admits SIGN_IN. -/
  | nonceExpiry (ch : Nat)
  /-- `LOCKOUT_EXPIRY` (R89): One second after a failed SIGN_IN, the lockout clears. -/
  | lockoutExpiry (ch : Nat)
  /-- `ROTATE` (R363): The CUS command advances a holder's key generation counter. -/
  | cusRotate (c : Cmd)
  /-- `DMA_RING_ENABLE` (R90): A write of DMA_RING_CTRL.enable starts or stops descriptor fetching. -/
  | dmaRingEnable (ch : Nat) (priv : Bool) (ring value : Nat)
  /-- `DMA_TAIL_WRITE` (R90): A write of DMA_RING_TAIL hands descriptors over to the device. -/
  | dmaTailWrite (ch : Nat) (priv : Bool) (ring value : Nat)
  /-- `DESCRIPTOR_FETCH` (R92): The dumbwaiter fetches a descriptor when one is available and unfenced, and issues its ticket. -/
  | descriptorFetch (ring : Nat) (bytes : List Nat)
  /-- `DESCRIPTOR_COMPLETE` (R92): A descriptor's transfer completes and its status and ticket are written back. -/
  | descriptorComplete (ring : Nat) (data : List Nat) (errs : List MemErr)
  /-- `DMA_HOST_ERROR` (R93): A PCIe completion error or timeout abandons the descriptor. -/
  | dmaHostError (ring : Nat)
  /-- `IRQ_SOURCE_EDGE` (R95): A rising edge of an interrupt source sets its pending latch and starts delivery to its target. -/
  | irqSourceEdge (src : Nat)
  /-- `MSIX_DELIVERY` (R96): A held MSI-X message is sent once D06, the link and bus mastering permit. -/
  | msixDelivery (vector : Nat) (busMaster : Bool)
  /-- `IRQ_PEND_WRITE` (R96): A W1C write to IRQ_PEND clears bits and resends vectors that are still pending. -/
  | irqPendWrite (ch : Nat) (priv : Bool) (word val : Nat)
  /-- `IRQ_EN_WRITE` (R95): A write of IRQ_EN enables sources; enabling a pending source counts as its edge. -/
  | irqEnWrite (ch : Nat) (priv : Bool) (word val : Nat)
  /-- `IRQ_TARGET_WRITE` (R96): A write of an interrupt target is applied, or rejected for an enabled source. -/
  | irqTargetWrite (ch : Nat) (priv : Bool) (word val : Nat)
  /-- `SIDE_PORT_READ` (R99): An SPI transaction reads unprivileged words, or is refused. -/
  | sidePortRead (opcode addr n : Nat)
  /-- `CERT_LOAD` (R338): The command loads the certificate chain once. -/
  | certLoad (c : Cmd)
  /-- `LDG_ACK` (R358): The ACK command acknowledges ledger records up to a sealed sequence number. -/
  | ldgAck (c : Cmd)
  /-- `LDG_SEAL` (R352): The SEAL command appends an early seal. -/
  | ldgSeal (c : Cmd)
  /-- `ATTEST` (R364): The command queues a signed attestation document. -/
  | attest (c : Cmd)
  /-- `CERTIFY` (R366): The command queues a signed health certificate for a unit. -/
  | certify (c : Cmd)
  /-- `DEFINE` (R369): The MTR command stages a lease-unit definition for the next metering boundary. -/
  | mtrDefine (c : Cmd)
  /-- `TWIN_FRAME_RECEIVED` (R376): A twin frame is authenticated and its blocks (HELLO, KEY, HB, SNAP, XSEAL, HANDOVER, IRQ) are processed. -/
  | twinFrameReceived (lane : Nat) (bytes : List Nat)
  /-- `HANDOVER` (R396): The TWN command sends HANDOVER naming F_h = current frame + 8. -/
  | twnHandover (c : Cmd)
  /-- `TAKE` (R396): The TWN command makes an unpaired standby active at the next boundary. -/
  | twnTake (c : Cmd)
  /-- `CLOCK_GATE` (R400): A 1 ms judgement gate ends; the oscillator and recovered reference qualify, drift or adopt. -/
  | clockGate (osc ring recd : Nat)
  /-- `TIME_SRC_WRITE` (R132): A write of CLK_TIME_SRC designates the time lane and withdraws an adopted reference. -/
  | timeSrcWrite (ch val : Nat)
  /-- `ADOPT` (R409): The CLK command enters ADOPTING for a qualified reference. -/
  | adopt (c : Cmd)
  /-- `REARM` (R407): The CLK command restarts the synthesiser from a qualified oscillator after LOST. -/
  | rearm (c : Cmd)
  /-- `REARM_RESTART` (R407): At boundary F_r, K03 resumes, transmitters and PWM outputs are released and intervals restart. -/
  | rearmRestart (pre : List Nat)
  /-- `RTC_SET` (R413): The SET command is accepted and waits for the next K00 edge. -/
  | rtcSet (c : Cmd)
  /-- `ARM_SWITCH` (R419): The command arms the switch-over stamp. -/
  | armSwitch (c : Cmd)
  /-- `ALARM_ARM` (R416): A write of RTC_ALMa_HI with arm = 1 arms the alarm in the current epoch. -/
  | alarmArm (ch : Nat) (priv : Bool) (alarm val : Nat)
  /-- `ALARM_FIRE` (R416): The count reaches an armed alarm's value; fired is set and the interrupt raised. -/
  | alarmFire (a : Nat)
  /-- `TRIM_GATE_END` (R415): An RTC trim gate ends and its measurement is stored and applied when auto_apply is set. -/
  | trimGateEnd (raw : Nat)
  /-- `TRIM_CFG_WRITE` (R415): A write of RTC_TRIM_CFG restarts trim gating. -/
  | trimCfgWrite (ch val : Nat)
  /-- `VIN_AUX_VALID` (R423): VIN_AUX stays in range for 10 ms and is declared valid. -/
  | vinAuxValid (mv node : Nat)
  /-- `VBUS_VALID` (R423): VBUS stays above 4.0 V for 10 ms and is declared valid. -/
  | vbusValid (mv node : Nat)
  /-- `PULSE_TEST_END` (R430): A pulse test ends and the cell is judged present or missing. -/
  | pulseTestEnd (rise peak node : Nat)
  /-- `CHG_RESTART` (R438): The PWR RESTART command returns a stopped charger to DETECT. -/
  | chgRestart (c : Cmd)
  /-- `CHG_STOP` (R438): The PWR STOP command stops the charger with cause 4. -/
  | chgStop (c : Cmd)
  /-- `PULSE_TEST` (R438): The PWR PULSE_TEST command runs a pulse test through DETECT. -/
  | pulseTest (c : Cmd)
  /-- `POWER_WARNING` (R435): The node falls below v_warn without an input and the ledger appends SHUTDOWN and an early seal. -/
  | powerWarning (node : Nat)
  /-- `BRN_START` (R462): The BRN START command sets a loop's target and enters TEST. -/
  | brnStart (c : Cmd)
  /-- `BRN_STOP` (R462): The BRN STOP command takes a loop to OFF at once. -/
  | brnStop (c : Cmd)
  /-- `BRN_SETVID` (R448): The BRN SETVID command slews a running loop to a new code. -/
  | brnSetvid (c : Cmd)
  /-- `SHORT_TEST_END` (R446): The 100 us high-side short test ends and the loop enters RAMP or FAULT. -/
  | shortTestEnd (loop : Nat) (peaks : List Int) (rise : Int) (preBias : Nat)
  /-- `POWER_GOOD_SET` (R447): The output stays within pg_win for 100 us, pg sets and the loop enters RUN. -/
  | powerGoodSet (loop : Nat)
  /-- `POWER_GOOD_CLEAR` (R447): The output stays outside pg_win for 20 us in RUN and pg clears. -/
  | powerGoodClear (loop : Nat)
  /-- `SWITCHING_CYCLE` (R449): Each switching cycle the loop computes duty, limits current, truncates overshoot and steps its slew. -/
  | switchingCycle (loop sense vin : Nat) (imon : List Int)
  /-- `HICCUP_END` (R450): t_hiccup elapses and the loop re-enters TEST. -/
  | hiccupEnd (loop : Nat)
  /-- `RETRY_COUNT_CLEAR` (R450): After 100 ms in RUN without limiting the hiccup count clears. -/
  | retryCountClear (loop : Nat)
  /-- `PHASE_SHED_EVALUATION` (R452): Every 1 ms the active phase count is re-evaluated and phases are added or shed. -/
  | phaseShedEvaluation (loop iTotal vOut : Nat) (tmon : List Int)
  /-- `PHASE_TRIM_BALANCE` (R453): Each balancing period phase duty trims move by temperature or current. -/
  | phaseTrimBalance (loop : Nat) (tmon imon : List Int)
  /-- `PHASE_HOT` (R454): A phase's TMON exceeds t_phase_max and the phase is held out. -/
  | phaseHot (phase : Nat) (tmon : Int)
  /-- `PHASE_RETURN` (R454): A held-out phase stays 15 C below the limit for 1 s and returns. -/
  | phaseReturn (phase : Nat)
  /-- `SEQ_RUN` (R479): The SEQ RUN command loads and starts a recipe on an engine. -/
  | seqRun (c : Cmd)
  /-- `SEQ_ABORT` (R479): The SEQ ABORT command ends a run. -/
  | seqAbort (c : Cmd)
  /-- `RAIL_ON` (R479): The SEQ command enables one rail as an ENABLE step. -/
  | railOn (c : Cmd)
  /-- `RAIL_OFF` (R479): The SEQ command disables one rail as a DISABLE step. -/
  | railOff (c : Cmd)
  /-- `HALT` (R473): The recipe step ends the run with or without fail. -/
  | recipeHalt (e : Nat)
  /-- `ENABLE` (R473): The recipe step enables a rail or mask after checking dependencies. -/
  | recipeEnable (e : Nat)
  /-- `DISABLE` (R473): The recipe step disables a rail or mask deepest first. -/
  | recipeDisable (e : Nat)
  /-- `WAIT` (R473): The recipe step starts a wait of n us. -/
  | recipeWait (e : Nat)
  /-- `WAIT_EXPIRY` (R471): A WAIT interval expires and the engine continues. -/
  | waitExpiry (e : Nat)
  /-- `WAITPG` (R473): The recipe step waits until every rail of a mask is good. -/
  | recipeWaitPg (e : Nat)
  /-- `WAITPG_SATISFIED` (R471): The last rail of the mask becomes good and the engine continues. -/
  | waitpgSatisfied (e : Nat)
  /-- `WAITPG_TIMEOUT` (R473): The WAITPG timeout passes, PG_TIMEOUT is raised and the engine continues at the target. -/
  | waitpgTimeout (e : Nat)
  /-- `CHECK` (R474): The recipe step branches on a condition. -/
  | recipeCheck (e : Nat)
  /-- `JUMP` (R473): The recipe step continues at the target. -/
  | recipeJump (e : Nat)
  /-- `RECIPE_SETVID` (R475): The recipe step issues a loop command and may wait for its ticket. -/
  | recipeSetvid (e : Nat)
  /-- `SETVID_STEP_RESUME` (R475): The awaited loop ticket closes and the engine continues. -/
  | setvidStepResume (e : Nat)
  /-- `SETVID_TIMEOUT` (R475): The SETVID step timeout passes and the step is abandoned. -/
  | setvidTimeout (e : Nat)
  /-- `RECIPE_MARK` (R473): The recipe step places a note in the run ticket and SEQ_ENG_NOTE. -/
  | recipeMark (e : Nat)
  /-- `RAIL_GOOD` (R464): An enabled rail becomes good and is running. -/
  | railGood (rail : Nat)
  /-- `LOSS_OF_GOOD` (R465): A running rail stays not good for its deglitch; it raises RAIL_LOST unless explained and starts dependants-only shutdown. -/
  | lossOfGood (rail : Nat)
  /-- `SHUTDOWN_DEPTH_ADVANCE` (R468): A depth has lost good or 1 ms has passed, and the next lower depth is disabled. -/
  | shutdownDepthAdvance (root : Nat)
  /-- `DEPENDENCY_MASK_WRITE` (R466): A write to a rail's dependency mask is stored, or ignored if it forms a cycle. -/
  | dependencyMaskWrite (ch rail word val : Nat)
  /-- `TYPEC_ATTACH` (R483): A partner termination stays unchanged for 150 ms and the port becomes attached. -/
  | typecAttach (vbusLow : Bool)
  /-- `PD_MESSAGE_RECEIVED` (R491): A PD message is received and handled by the protocol layer, the FIXED policy or the VDM responder. -/
  | pdMessageReceived (header : Nat) (objs : List Nat)
  /-- `PD_POLICY_WRITE` (R492): A write of PD_POLICY.host switches between FIXED and HOST policy. -/
  | pdPolicyWrite (ch : Nat) (priv host : Bool)
  /-- `RX_FIFO_RELEASE` (R494): A W1C write of PD_RX_STATUS.valid releases the head FIFO entry. -/
  | rxFifoRelease (ch : Nat) (priv : Bool)
  /-- `ALT_EN_WRITE` (R498): Writing alt_en to 0 exits the alternate mode. -/
  | altEnWrite (ch : Nat) (en : Bool)
  /-- `PD_TX` (R504): The TX command sends a host PD message. -/
  | pdTx (c : Cmd)
  /-- `PD_HARD_RESET` (R504): The command sends Hard Reset. -/
  | pdHardReset (c : Cmd)
  /-- `PD_ROLE` (R494): The ROLE command performs the electrical part of a power-role swap. -/
  | pdRole (c : Cmd)
  /-- `SL_READ` (R500): A READ packet reads BAR0 registers and is answered with DATA. -/
  | slRead (bytes : List Nat)
  /-- `SL_WRITE` (R500): A WRITE packet writes BAR0 registers and is answered with WDONE. -/
  | slWrite (bytes : List Nat) (soon : Bool)
  /-- `SL_LDG` (R500): An LDG packet returns ledger records. -/
  | slLdg (bytes : List Nat)
  /-- `SL_PING` (R500): A PING packet is answered with PONG. -/
  | slPing (bytes : List Nat)
  /-- `KEY_INIT` (R502): A KEY_INIT packet starts keying and queues the device's signature. -/
  | keyInit (bytes : List Nat)
  /-- `THERMAL_SCAN` (R509): A 1 ms scan of all inputs completes; broken sensors, warmth, the ADC shutdown path and the charge window are judged. -/
  | thermalScan (raw : List Nat) (bad : List (Nat × Nat))
  /-- `SENSOR_RESTORE` (R509): A broken input that has agreed with its neighbours for 10 s is restored. -/
  | sensorRestore (input : Nat)
  /-- `COMPARATOR_TRIP` (R511): A die comparator stays tripped for 20 us and thermal shutdown is detected. -/
  | comparatorTrip (sensor : Nat)
  /-- `WDT_KICK` (R517): A write to WDT_KICK checks a slot in, marks it early or is counted as bad. -/
  | wdtKick (ch : Nat) (priv : Bool) (val : Nat)
  /-- `WDT_PERIOD_END` (R518): A watchdog period ends and expires on missing or early slots. -/
  | wdtPeriodEnd (mismatch : Bool)
  /-- `WDT_START` (R523): The command starts a software-start timer. -/
  | wdtStart (c : Cmd)
  /-- `WDT_STOP` (R523): The command stops a software-start timer. -/
  | wdtStop (c : Cmd)
  /-- `OTP_PROGRAM` (R535): The PROGRAM command programs a word. -/
  | otpProgram (c : Cmd)
  /-- `OTP_SEAL` (R537): The SEAL command programs a region's check and seal words. -/
  | otpSeal (c : Cmd)
  /-- `OTP_INCREMENT` (R538): The INCREMENT command steps a host counter. -/
  | otpIncrement (c : Cmd)
  /-- `OTP_SENSE` (R538): The SENSE command reads the array into the shadows. -/
  | otpSense (c : Cmd)
  /-- `OTP_ATTEMPT` (R535): A programming attempt completes and is verified, retried or redirected. -/
  | otpAttempt (bitsSet : Nat)
  /-- `COLD_START` (R544): On power-on, RESET_N release or REBOOT, the device senses OTP, restores latches, closes tickets and appends START. -/
  | coldStart (cause : Nat) (estop trng : Bool) (journal intact : Nat)
  /-- `POWER_UP` (R555): The PWR command asks for the POWER_UP run. -/
  | powerUp (c : Cmd)
  /-- `POWER_DOWN` (R555): The PWR command runs slot 1 on engine 0. -/
  | powerDown (c : Cmd)
  /-- `REBOOT` (R555): The PWR command runs POWER_DOWN, seals and holds reset for 1 ms before a cold start. -/
  | reboot (c : Cmd)
  /-- `PARTNER_TERMINATION_SEEN` (R483): The partner's termination appears on exactly one CC ball, fixing the orientation, and an unattached port passes to its attach-wait state. -/
  | partnerTerminationSeen (cc rp : Nat) (before : Bool)
  /-- `LIMIT_TARGET_EXCHANGE` (R58): At the first frame boundary after a commit, the shadow and active tables exchange roles and the ticket goes to DONE. -/
  | limitTargetExchange
  /-- `BOTH_COPIES_ENTRY_WRITE` (R59): At the next frame boundary, a command that takes effect there writes its entry into both copies of the table. -/
  | bothCopiesEntryWrite
  /-- `HEALTH_BOUNDARY` (R56): Every 5,000 frames a health boundary occurs, and health-weight swaps, weights, partitions and snapshots are processed. -/
  | healthBoundary
  /-- `TAP_DRAIN` (R345): The ledger engine drains a metering tap and attributes bank energy to lease units. -/
  | tapDrain
  /-- `RECORD_BOUNDARY` (R356): At each record boundary the ledger appends ENERGY, BANK and periodic HISTO/SOH records. -/
  | recordBoundary
  /-- `MINUTE_BOUNDARY` (R263): Every 3,000,000 frames a spectra-store entry is written for every served cell. -/
  | minuteBoundary
  /-- `STEP_BOUNDARY` (R268): Every 500 frames a step boundary closes each cell's step record. -/
  | stepBoundary
  /-- `EPOCH_RAISE` (R170): At the next frame boundary the device raises its command epoch to emax + 1 on every lane. -/
  | epochRaise
  /-- `DISCREPANCY_WINDOW` (R347): At the end of a discrepancy window, eta_out and eta_in are judged. -/
  | discrepancyWindow
  /-- `CAL_STEP_START` (R343): A self-calibration step begins, with the spare measuring its zero and reference. -/
  | calStepStart
  /-- `CAL_OVERLAP_START` (R343): At the first metering boundary after 1 s, the spare connects in parallel with the channel. -/
  | calOverlapStart
  /-- `EST_COMMAND_APPLY` (R291): At the health boundary an accepted IMPORT, CLEAR_STALE or RESET_LEARNED takes effect. -/
  | estCommandApply
  /-- `CHECKPOINT_PERIOD` (R293): The checkpoint period expires in RTC ticks and a checkpoint is requested. -/
  | checkpointPeriod
  /-- `CHECKPOINT_SNAPSHOT` (R293): At the health boundary, in-use records are copied, hashed and queued for signing. -/
  | checkpointSnapshot
  /-- `CHECKPOINT_SIGNED` (R293): The checkpoint header signature is written and the ticket goes to DONE. -/
  | checkpointSigned
  /-- `CKPT_LOAD_APPLY` (R293): At the health boundary, loaded records replace in-use records without learned_since_start. -/
  | ckptLoadApply
  /-- `PROBE` (R300): A hibernation probe timer wakes the estimator for its length. -/
  | hibProbe
  /-- `PAGE_ACCESS_WAKE` (R300): An access to the EST or IMP page or to windows 2-6 is a wake cause that ends hibernation. -/
  | pageAccessWake
  /-- `ESTIMATOR_READY` (R301): After a wake cause the tiles and lane arithmetic become ready and the hibernated interval is predicted. -/
  | estimatorReady
  /-- `MAP_BUILD` (R305): Once every powered channel has trained or failed, the attached-memory map is built. -/
  | mapBuild
  /-- `ZERO_DONE` (R326): A ZERO command completes its range and its ticket goes to DONE. -/
  | zeroDone
  /-- `FLR_FREEZE` (R332): After post further recorded frames the recorder freezes and FLR_FROZEN is raised. -/
  | flrFreeze
  /-- `DRIP_APPEND` (R117): A queued drip-tray record is appended to the pantry ring. -/
  | dripAppend
  /-- `ESTOP_ASSERT` (R111): ESTOP_N stays low for 1.0 us and ESTOP is raised. -/
  | estopAssert
  /-- `ESTOP_RELEASE` (R111): ESTOP_N rises, and TRIP_N is re-judged. -/
  | estopRelease
  /-- `TICKET_WAIT_TAKE` (R118): A command held for the 5 us ticket spacing is judged and taken when its ticket can be issued. -/
  | ticketWaitTake
  /-- `PRIV_WRITE_ENTER_QUEUE` (R84): A privileged write held by a full ledger queue enters it and takes effect. -/
  | privWriteEnterQueue
  /-- `SIGN_IN_VERIFY_DONE` (R87): The signature engine finishes a SIGN_IN check and sets last_error and the phase. -/
  | signInVerifyDone
  /-- `INT_N_PULSE` (R96): A 10 us low pulse on INT_N serves the lowest pending side-port source. -/
  | intNPulse
  /-- `INT_N_PULSE_END` (R96): The pulse ends, its bit clears and GEN_SIDE_IRQ_LAST records the source. -/
  | intNPulseEnd
  /-- `DOCUMENT_SIGNED` (R364): The signature engine finishes an ATTEST or CERTIFY document and LDG_OUT becomes READY. -/
  | documentSigned
  /-- `LEDGER_APPEND` (R357): A queued record is journaled, written to its slot and chained. -/
  | ledgerAppend
  /-- `SEAL_SIGNED` (R352): The signature engine finishes a seal and LDG_SEAL advances. -/
  | sealSigned
  /-- `UNIT_DEF_APPLY` (R369): At the metering boundary the staged definition comes into force and UNIT_DEF is written. -/
  | unitDefApply
  /-- `PAIRING_KEY_VERIFIED` (R378): Both KEY signatures verify and encrypted twin frames start from the second boundary after. -/
  | pairingKeyVerified
  /-- `XSEAL_VERIFIED` (R394): The partner's seal signature is verified, and TWIN_SEAL is appended and acknowledged. -/
  | xsealVerified
  /-- `SNAPSHOT_APPLY` (R391): At the frame boundary after its seal, the standby applies a verified snapshot. -/
  | snapshotApply
  /-- `HEARTBEAT_MISS` (R381): No HB block of frame k has authenticated by boundary k+1 and a miss is counted. -/
  | heartbeatMiss
  /-- `BECOME_ACTIVE` (R385): At a frame boundary the device becomes active with a raised epoch and writes TAKEOVER. -/
  | becomeActive
  /-- `DEMOTE` (R386): An active device that sees a later or rival obeyed epoch becomes standby at the next boundary. -/
  | demote
  /-- `ORPHAN_TAKEOVER` (R387): An unpaired standby finds the plant unobeyed for holdoff frames after pair_wait and becomes active. -/
  | orphanTakeover
  /-- `OSC_EDGE_LOST` (R400): No K01 edge for 1 us; the oscillator is lost. -/
  | oscEdgeLost
  /-- `NONE_TIMEOUT` (R403): After 100 ms in NONE without qualification the clock unit enters LOST. -/
  | noneTimeout
  /-- `OSC_STOP` (R411): No K00 edge for 250 us; the epoch increases, alarms are disarmed and sessions close. -/
  | oscStop
  /-- `D02_POWER_ON_RESET` (R411): D02 leaves power-on reset with tick 0 and the epoch unset. -/
  | d02PowerOnReset
  /-- `OSC_START` (R412): The crystal starts and osc_running sets. -/
  | oscStart
  /-- `SET_EDGE_APPLY` (R413): At that edge the tick count is loaded and the epoch increased. -/
  | setEdgeApply
  /-- `VIN_AUX_LOST` (R423): VIN_AUX leaves range for 20 us; the converter stops, D08 loses supply and rails 7-95 are disabled. -/
  | vinAuxLost
  /-- `VBUS_LOST` (R423): VBUS stays below 3.5 V for 20 us and is declared lost. -/
  | vbusLost
  /-- `PRECHARGE_SHORTED` (R425): The analog precharge finds the node below 1.5 V after 60 s and latches shorted. -/
  | prechargeShorted
  /-- `ALWAYS_ON_RAIL_STOP` (R425): The node falls through 2.80 V and the always-on rail stops. -/
  | alwaysOnRailStop
  /-- `PULSE_TEST_PERIODIC` (R430): The periodic timer in DONE or BATTERYLESS starts a pulse test. -/
  | pulseTestPeriodic
  /-- `PRECHARGE_COMPLETE` (R428): The node stays at or above 3.0 V for 1 s and the charger moves to FAST. -/
  | prechargeComplete
  /-- `PRECHARGE_TIMEOUT` (R428): After 60 s in PRECHARGE below 3.0 V the charger stops with cause 3. -/
  | prechargeTimeout
  /-- `FLOAT_REACHED` (R428): The node reaches float in FAST and the charger enters TAPER. -/
  | floatReached
  /-- `TAPER_TERMINATION` (R428): The cell current stays at or below i_term for 60 s and charging is DONE. -/
  | taperTermination
  /-- `RECHARGE` (R428): The node stays below float - 100 mV for 1 s in DONE and a new cycle starts. -/
  | recharge
  /-- `CELL_TEMP_RECOVERED` (R431): TH00 stays within 2-43 C for 10 s and the charger leaves TEMP_HOLD. -/
  | cellTempRecovered
  /-- `SAFETY_TIMER_EXPIRY` (R429): The safety timer reaches its limit and the charger stops with cause 1. -/
  | safetyTimerExpiry
  /-- `CHG_TIMER_MISMATCH` (R429): The duplicated safety timers differ by more than 1 count and the charger stops with cause 2. -/
  | chgTimerMismatch
  /-- `INPUT_COLLAPSE` (R436): The node falls below 2.95 V; outputs are released and recipe engines stop. -/
  | inputCollapse
  /-- `SEQ_TIMER_MISMATCH` (R477): The duplicated sequencer timers disagree and both engines stop. -/
  | seqTimerMismatch
  /-- `TYPEC_DETACH` (R483): VBUS is lost or the CC line opens and the port detaches. -/
  | typecDetach
  /-- `DRP_TOGGLE` (R483): The 75 ms DRP period alternates the unattached role. -/
  | drpToggle
  /-- `ERROR_RECOVERY_END` (R483): After 25 ms open, the port returns to UNATTACHED_SNK. -/
  | errorRecoveryEnd
  /-- `GOODCRC_TIMEOUT` (R491): CRCReceiveTimer expires and the transmission is retried or fails. -/
  | goodcrcTimeout
  /-- `HARD_RESET_RECEIVED` (R489): A hard reset ends the contract and exits the alternate mode. -/
  | hardResetReceived
  /-- `HARD_RESET_VBUS_WAIT_END` (R489): The 1 s wait for VBUS after a hard reset ends. -/
  | hardResetVbusWaitEnd
  /-- `PPS_KEEPALIVE` (R487): Eight seconds after PS_RDY, the last PPS Request is re-sent. -/
  | ppsKeepalive
  /-- `PPS_KEEPALIVE_TIMEOUT` (R487): A keep-alive gets no response within 30 ms and the contract ends. -/
  | ppsKeepaliveTimeout
  /-- `WAIT_RETRY_EXPIRY` (R488): The wait-and-retry timer expires and the Request is re-sent. -/
  | waitRetryExpiry
  /-- `SERVICE_LINK_UP` (R499): The first valid packet after block lock brings the service link UP. -/
  | serviceLinkUp
  /-- `SERVICE_LINK_DOWN` (R499): Loss of block lock for 10 us or 100 ms of silence takes the link down and closes its session. -/
  | serviceLinkDown
  /-- `SL_PING_SEND` (R499): After 20 ms without transmitting, an end sends PING. -/
  | slPingSend
  /-- `KEY_REPLY` (R502): The signature completes, KEY_REPLY is sent and the session key is derived. -/
  | keyReply
  /-- `SHUTDOWN_RAIL_STOP` (R512): 200 us after detection, every loop stops and every XEN output is driven low. -/
  | shutdownRailStop
  /-- `COOLED_SET` (R514): All die readings stay below sd_c - 15 C for 10 s and cooled sets. -/
  | cooledSet
  /-- `WDT_TIMER_MISMATCH` (R521): The duplicated watchdog counters disagree; a fault and a capture follow. -/
  | wdtTimerMismatch
  /-- `OTP_WORK_BEGIN` (R531): D04 comes on and accepted OTP work begins. -/
  | otpWorkBegin
  /-- `SENSE_END` (R530): A sense completes and the shadows and region states are updated. -/
  | senseEnd
  /-- `D04_OFF` (R531): 1 ms after OTP work ends, the block switches D04 off. -/
  | d04Off
  /-- `RESET_N_ASSERT` (R543): RESET_N is low for 1.0 us; outputs are released and every domain except D02 is held off. -/
  | resetNAssert
  /-- `POWER_UP_RUN_START` (R545): When all conditions hold, the power-state logic starts POWER_UP on engine 0. -/
  | powerUpRunStart
  /-- `HIBERNATE_RECIPE_START` (R551): After the tiles write their state, slot 2 starts on engine 0. -/
  | hibernateRecipeStart
  /-- `WAKE_RECIPE_START` (R551): A wake cause starts slot 3, and the estimator wakes when the run ends. -/
  | wakeRecipeStart
  /-- `RETURN_TO_D0` (R71): The PCIe function returns from D3hot to D0 and BAR decoding resumes. -/
  | returnToD0
  /-- `K02_LOCK_LOST` (R401): The recovered reference K02 loses lock, and an adopted reference is withdrawn at once. -/
  | k02LockLost
  /-- `D02_SUPPLY_LOST` (R418): The higher of VBAT and VBACKUP falls below 1.50 V and D02 is held in power-on reset. -/
  | d02SupplyLost
  /-- `SHORTED_LATCH_CLEAR` (R425): After every input powering the analog precharge stage has been absent for 1 s, the shorted latch clears. -/
  | shortedLatchClear
  /-- `TRNG_HEALTH_TESTS_PASS` (R335): The TRNG health tests pass again, trng_ok sets, and operations waiting for entropy proceed. -/
  | trngHealthTestsPass
  deriving DecidableEq, Repr

end Sys2Proof
end

