-- ==== Sys2Proof/Config.lean ====
section
/-!
DEFINITION. Config.lean: what a run of the block does not fix.

Every constant here has no body: nothing in Lean can evaluate it or prove a value of it, so a claim about the
block holds for every value. Two kinds stand here: free values (a number the spec lets the device produce without
saying which), and the cryptographic functions that the spec names by their outside standards (assumptions 4, 5).
-/
namespace Sys2Proof

/-- Free values: the `n`-th value that the spec leaves open in a run (assumption 4). -/
opaque Config.free : Nat → Nat

/-- The TRNG's `n`-th draw, of the number of bits asked for (R335, assumption 4). -/
opaque Config.entropy : Nat → Nat → Nat

/-- SHA-384 of a list of bytes, as a number, first byte most significant (assumption 5). -/
opaque Config.sha384 : List Nat → Nat

/-- ECDSA P-384: does the signature (r ‖ s) of the digest verify under the uncompressed public key? (assumption 5) -/
opaque Config.ecdsaVerify : (key digest sig : Nat) → Bool

/-- ECDSA P-384: the signature (r ‖ s) of a digest under a private key (assumption 5). -/
opaque Config.ecdsaSign : (priv digest : Nat) → Nat

/-- The uncompressed P-384 public key of a private key (assumption 5). -/
opaque Config.publicKey : Nat → Nat

/-- The device key by which the island wraps its private key opens the wrapped key, or does not (R337, assumption 5). -/
opaque Config.unwrapKey : Nat → Option Nat

/-- The wrapped form of a private key (R335, assumption 5). -/
opaque Config.wrapKey : Nat → Nat

/-- ECDH agreement followed by the key derivation of R378 and R502: own private key, the other's public key, salt and info
(assumption 5). -/
opaque Config.deriveKey : (priv pub salt info : Nat) → Nat

/-- AES-256-GCM: the ciphertext of a message followed by its tag, under key, IV and additional data (assumption 5). -/
opaque Config.gcmSeal : (key iv : Nat) → (aad plain : List Nat) → List Nat

/-- AES-256-GCM: the message of a ciphertext followed by its tag, or none where the tag does not authenticate (assumption 5). -/
opaque Config.gcmOpen : (key iv : Nat) → (aad sealed : List Nat) → Option (List Nat)

/-- What the estimator's number format, which the spec does not give, makes of a value it computes (R276, R278,
assumption 13). -/
opaque Config.filterRound : Rat → Rat

/-- The deviation of a twiddle from R250's value between refreshes: lane, bin, instant, frames since the refresh; the model
holds it to ±1 (R251, assumption 4). -/
opaque Config.twiddle : (lane bin n age : Nat) → Int

/-- The rank in which the controller places a line of a two-rank channel: an order the manual does not fix (R306,
assumption 4). -/
opaque Config.dramRank : (channel line : Nat) → Nat

/-- The turnaround that this device reports in its own `INFO` words, in units of 0.125 ns (R136, assumption 23). -/
opaque Config.turnaround : (lane : Nat) → Nat

/-- The current into the backup cell in mA, two's complement in 16 bits, as the supply measures it at a time
(`PWR_NODE.i_cell`, R437, assumption 4). -/
opaque Config.cellCurrent : (time : Nat) → Nat

/-- The current that the charger's converter draws from `VIN_AUX` in mA, and the die temperature at the charger in °C, at a time
(R432, assumption 4). -/
opaque Config.vinCurrent : (time : Nat) → Nat

/-- See `Config.vinCurrent`. -/
opaque Config.chargerTemp : (time : Nat) → Int

/-- How much more the node load needs at a time than the converter can give, in mA; 0 where it can (R432, assumption 4). -/
opaque Config.nodeShortfall : (time : Nat) → Nat

/-- The current drawn from `VBUS` in mA as the supply measures it at a time (`PWR_VBUS.i_in`, R437, assumption 4). -/
opaque Config.vbusCurrent : (time : Nat) → Nat

/-- The trickle charger's current in µA for a programmed one: R418 gives it within ±20 % (assumption 25). -/
opaque Config.trickleCurrent : (set : Nat) → Nat

/-- `PAGE_CAPS.block_caps`, which the manual calls block-defined without defining it for any block (R76, assumption 4). -/
opaque Config.blockCaps : (page : Nat) → Nat

/-- `PAGE_STATE.block_state`, which the manual calls block-defined without defining it for any block (R76, assumption 4). -/
opaque Config.blockState : (page time : Nat) → Nat

end Sys2Proof
end

