-- ==== Sys2Proof/Machine/Bits.lean ====
section
/-!
DEFINITION. Machine/Bits.lean: sparse maps kept as sorted lists, bit fields of numbers, saturating counters,
two's-complement readings, byte order.

A field store (Machine/Ops.lean) truncates every write to the width the spec gives the field, so a reserved bit can
never be stored.
-/
namespace Sys2Proof

/-- The value at `k`, or `d` when `k` is not listed. -/
def SMap.get {α : Type} : SMap α → Nat → α → α
  | [], _, d => d
  | (j, v) :: m, k, d => if j = k then v else SMap.get m k d

/-- Is `k` listed? -/
def SMap.has {α : Type} : SMap α → Nat → Bool
  | [], _ => false
  | (j, _) :: m, k => if j = k then true else SMap.has m k

/-- Write `v` at `k`, keeping the keys in strictly rising order. -/
def SMap.put {α : Type} : SMap α → Nat → α → SMap α
  | [], k, v => [(k, v)]
  | (j, w) :: m, k, v =>
    if k < j then (k, v) :: (j, w) :: m
    else if j = k then (k, v) :: m
    else (j, w) :: SMap.put m k v

/-- Remove `k`. -/
def SMap.del {α : Type} : SMap α → Nat → SMap α
  | [], _ => []
  | (j, w) :: m, k => if j = k then SMap.del m k else (j, w) :: SMap.del m k

/-- Change the value at `k` by `f`, starting from `d` when it is not listed. -/
def SMap.upd {α : Type} (m : SMap α) (k : Nat) (d : α) (f : α → α) : SMap α :=
  m.put k (f (m.get k d))

/-- Every key above the bound `b`, rising strictly. -/
def SMap.sortedFrom {α : Type} : Nat → SMap α → Bool
  | _, [] => true
  | b, (k, _) :: m => decide (b ≤ k) && SMap.sortedFrom (k + 1) m

/-- The keys rise strictly. -/
def SMap.wf {α : Type} (m : SMap α) : Bool := SMap.sortedFrom 0 m

/-- Bit `b` of `n`. -/
def bit (n b : Nat) : Bool := n.testBit b

/-- Bits `[lo + w - 1 : lo]` of `n`. -/
def bits (n lo w : Nat) : Nat := (n >>> lo) % 2 ^ w

/-- A Boolean as one bit. -/
def b2n (b : Bool) : Nat := if b then 1 else 0

/-- `n` with bit `b` set. -/
def setBit (n b : Nat) : Nat := n ||| 2 ^ b

/-- `n` with bit `b` clear. -/
def clrBit (n b : Nat) : Nat := if n.testBit b then n - 2 ^ b else n

/-- The bits of `n` that are not in `m`. -/
def maskOff (n m : Nat) : Nat := n ^^^ (n &&& m)

/-- A counter of `w` bits that saturates. -/
def satInc (w n : Nat) : Nat := if n + 1 < 2 ^ w then n + 1 else 2 ^ w - 1

/-- Adding `k` to a counter of `w` bits that saturates. -/
def satAdd (w n k : Nat) : Nat := min (n + k) (2 ^ w - 1)

/-- `n` held between `lo` and `hi`. -/
def clamp (lo hi n : Nat) : Nat := max lo (min hi n)

/-- An integer held between `lo` and `hi`. -/
def clampI (lo hi n : Int) : Int := max lo (min hi n)

/-- The two's-complement reading of a `w`-bit number. -/
def toSigned (w n : Nat) : Int := if n % 2 ^ w < 2 ^ (w - 1) then (n % 2 ^ w : Nat) else (n % 2 ^ w : Nat) - (2 ^ w : Nat)

/-- The `w`-bit two's complement of an integer. -/
def ofSigned (w : Nat) (z : Int) : Nat := (z % (2 ^ w : Nat)).toNat

/-- The distance of two naturals. -/
def absDiff (a b : Nat) : Nat := if a ≤ b then b - a else a - b

/-- Number of bits set among bits `0 … n - 1`. -/
def popcount : Nat → Nat → Nat
  | 0, _ => 0
  | n + 1, m => popcount n m + (if m.testBit n then 1 else 0)

/-- The bits set among bits `0 … n - 1`, lowest first. -/
def bitList (n m : Nat) : List Nat := (List.range n).filter fun b => m.testBit b

/-- The lowest bit set among bits `0 … n - 1`. -/
def lowestBit (n m : Nat) : Option Nat := (List.range n).find? fun b => m.testBit b

/-- Little-endian number of a list of bytes. -/
def leNat : List Nat → Nat
  | [] => 0
  | b :: bs => b % 256 + 256 * leNat bs

/-- `n` bytes of a number, lowest first. -/
def leBytes : Nat → Nat → List Nat
  | 0, _ => []
  | n + 1, v => (v % 256) :: leBytes n (v / 256)

/-- `x` placed in a list in rising order. -/
def insertSorted (x : Int) : List Int → List Int
  | [] => [x]
  | y :: ys => if x ≤ y then x :: y :: ys else y :: insertSorted x ys

/-- The list in rising order. -/
def sortInts : List Int → List Int
  | [] => []
  | x :: xs => insertSorted x (sortInts xs)

/-- Twice the median of a list: the middle value, or the mean of the two middle values; 0 of an empty list. -/
def median2 (l : List Int) : Int :=
  let s := sortInts l
  let n := s.length
  if n % 2 = 1 then 2 * s.getD (n / 2) 0 else s.getD (n / 2 - 1) 0 + s.getD (n / 2) 0

/-- Fold a state through a list of work items, in order. -/
def each {α σ : Type} (l : List α) (f : α → σ → σ) (s : σ) : σ := l.foldl (fun t a => f a t) s

/-- Do `f` when the condition holds. -/
def onlyIf {σ : Type} (c : Bool) (f : σ → σ) (s : σ) : σ := if c then f s else s

end Sys2Proof
end

