-- ==== Sys2Proof/Machine/Codes.lean ====
section
/-!
DEFINITION. Machine/Codes.lean: the checks and generators the spec defines bit by bit: CRC-8 of control words
(R136), CRC-16 of headers (R166), CRC-32 of blocks and records, the payload scrambler (R127), the check symbols of
RS(140,125) (R126), the PRBS generators (R135, R155, R226), the symbols of PAM4 lines (R125), codewords and training blocks, and the
decoder of a codeword.
-/
namespace Sys2Proof.Machine

/-- One step of a CRC taken most significant bit first. -/
def crcBit (w poly : Nat) (crc : Nat) (b : Bool) : Nat :=
  let top := crc.testBit (w - 1)
  let sh := (crc * 2) % 2 ^ w
  if top != b then sh ^^^ poly else sh

/-- The `n` low bits of `v`, the highest first. -/
def bitsMsb : Nat → Nat → List Bool
  | 0, _ => []
  | n + 1, v => v.testBit n :: bitsMsb n v

/-- CRC-8 of a control word's bits [31:8], x^8 + x^2 + x + 1, initial 0xFF (R136). -/
def crc8Control (word : Nat) : Nat := (bitsMsb 24 (word >>> 8)).foldl (crcBit 8 0x07) 0xFF

/-- CRC-16 of a header's payload bits 0–143, x^16 + x^12 + x^5 + 1, initial 0xFFFF (R166). The header is a 160-bit
number whose most significant bit is payload bit 0. -/
def crc16Header (hdr : Nat) : Nat := (bitsMsb 144 (hdr >>> 16)).foldl (crcBit 16 0x1021) 0xFFFF

/-- One bit of the reflected CRC-32. -/
def crc32Bit (crc : Nat) : Nat := if crc % 2 = 1 then (crc / 2) ^^^ 0xEDB8_8320 else crc / 2

/-- One byte of the reflected CRC-32. -/
def crc32Byte (crc b : Nat) : Nat :=
  crc32Bit (crc32Bit (crc32Bit (crc32Bit (crc32Bit (crc32Bit (crc32Bit (crc32Bit (crc ^^^ (b % 256)))))))))

/-- CRC-32 (IEEE 802.3 polynomial) of bytes in order; its usual reflected form, initial and final all ones
(assumption 7). -/
def crc32 (bytes : List Nat) : Nat := (bytes.foldl crc32Byte 0xFFFF_FFFF) ^^^ 0xFFFF_FFFF

/-- The payload scrambler: the next output bit and state from an input bit; bit k − 1 of the state is out(n − k)
(R127). -/
def scrambleBit (st : Nat) (b : Bool) : Bool × Nat :=
  let o := (b != st.testBit 27) != st.testBit 30
  (o, (st * 2 + b2n o) % 2 ^ 31)

/-- Scramble a list of payload bits. -/
def scramble : Nat → List Bool → List Bool × Nat
  | st, [] => ([], st)
  | st, b :: bs =>
    let (o, st1) := scrambleBit st b
    let (os, st2) := scramble st1 bs
    (o :: os, st2)

/-- Descramble: in(k) = out(k) ⊕ out(k−28) ⊕ out(k−31) (R127). -/
def descramble : Nat → List Bool → List Bool × Nat
  | st, [] => ([], st)
  | st, o :: os =>
    let (bs, st2) := descramble ((st * 2 + b2n o) % 2 ^ 31) os
    (((o != st.testBit 27) != st.testBit 30) :: bs, st2)

/-- Multiplication by α in GF(2^10), p(x) = x^10 + x^3 + 1 (R126). -/
def gfTimesAlpha (a : Nat) : Nat := if a.testBit 9 then ((a * 2) % 1024) ^^^ 0x009 else (a * 2) % 1024

/-- Multiplication in GF(2^10): the sum of a × α^i over the bits i of b. -/
def gfMul (a b : Nat) : Nat :=
  if a = 0 ∨ b = 0 then 0
  else ((List.range 10).foldl (fun (acc : Nat × Nat) i =>
    (if b.testBit i then acc.1 ^^^ acc.2 else acc.1, gfTimesAlpha acc.2)) (0, a % 1024)).1

/-- α^n. -/
def gfPow : Nat → Nat
  | 0 => 1
  | n + 1 => gfTimesAlpha (gfPow n)

/-- Coefficients of g(x) = Π (x − α^i), i = 0–14, without the leading one, highest first (R126). -/
def rsGen : List Nat :=
  let mulRoot (p : List Nat) (r : Nat) : List Nat :=
    -- p holds all coefficients, highest first; the product with (x + r)
    (List.range (p.length + 1)).map fun i => (p.getD i 0) ^^^ (if i = 0 then 0 else gfMul r (p.getD (i - 1) 0))
  ((List.range 15).foldl (fun p i => mulRoot p (gfPow i)) [1]).drop 1

/-- The 15 check symbols of 125 message symbols, c14 first: the remainder of the message × x^15 by g(x) (R126). -/
def rsCheck (message : List Nat) : List Nat :=
  message.foldl (fun (reg : List Nat) m =>
    let fb := m ^^^ reg.headD 0
    ((reg.drop 1 ++ [0]).zip rsGen).map fun (p : Nat × Nat) => p.1 ^^^ gfMul fb p.2) (List.replicate 15 0)

/-- A codeword with no error: its check symbols are those of its message (R126). -/
def rsClean (codeword : List Nat) : Bool := decide (rsCheck (codeword.take 125) = codeword.drop 125)

/-- One step of a PRBS generator x^n + x^m + 1: the new state; its output is the bit shifted in (R155, R226). -/
def prbsStep (n m st : Nat) : Nat := (st * 2 + b2n (st.testBit (n - 1) != st.testBit (m - 1))) % 2 ^ n

/-- PRBS13 x^13 + x^12 + x^2 + x + 1 (R135). -/
def prbs13Step (st : Nat) : Nat :=
  (st * 2 + b2n (((st.testBit 12 != st.testBit 11) != st.testBit 1) != st.testBit 0)) % 2 ^ 13

/-- The field of `len` bits at bit offset `off` of a slot or header of `w` bits, first bit most significant (R161). -/
def slotField (w v off len : Nat) : Nat := (v >>> (w - off - len)) % 2 ^ len

/-! ## The decoder (R126) -/

/-- The inverse of a non-zero element: a^1022. -/
def gfInv (a : Nat) : Nat :=
  ((List.range 9).foldl (fun (acc : Nat × Nat) _ => let sq := gfMul acc.2 acc.2; (gfMul acc.1 sq, sq)) (1, a)).1

/-- The value at x of a polynomial whose coefficients are given lowest first. -/
def gfEval (p : List Nat) (x : Nat) : Nat := p.foldr (fun c acc => gfMul acc x ^^^ c) 0

/-- The 15 syndromes r(α^0) … r(α^14) of a received word, highest symbol first. -/
def rsSyndromes (r : List Nat) : List Nat := (List.range 15).map fun i => gfEval r.reverse (gfPow i)

/-- Sum of two polynomials, lowest coefficient first. -/
def gfAdd : List Nat → List Nat → List Nat
  | [], q => q
  | p, [] => p
  | a :: p, b :: q => (a ^^^ b) :: gfAdd p q

/-- What the search for the error locator holds: the locator and its length, the one before its last change, that change's
discrepancy and how many steps ago it was. -/
structure Locator where
  loc : List Nat
  len : Nat
  prev : List Nat
  disc : Nat
  gap : Nat
  deriving DecidableEq, Repr

/-- One step of the search for the shortest recurrence of the syndromes (Berlekamp and Massey). -/
def Locator.step (syn : List Nat) (x : Locator) (n : Nat) : Locator :=
  let d := (List.range (x.len + 1)).foldl (fun a i => a ^^^ gfMul (x.loc.getD i 0) (syn.getD (n - i) 0)) 0
  if d = 0 then { x with gap := x.gap + 1 }
  else
    let f := gfMul d (gfInv x.disc)
    let next := gfAdd x.loc (List.replicate x.gap 0 ++ x.prev.map (gfMul f))
    if 2 * x.len ≤ n then { loc := next, len := n + 1 - x.len, prev := x.loc, disc := d, gap := 1 }
    else { x with loc := next, gap := x.gap + 1 }

/-- The error locator of a received word. -/
def rsLocator (syn : List Nat) : Locator :=
  (List.range 15).foldl (Locator.step syn) { loc := [1], len := 0, prev := [1], disc := 1, gap := 1 }

/-- The error in the symbol of degree k (Forney): Ω(X⁻¹) X / Λ'(X⁻¹) with X = α^k. -/
def rsErrorAt (syn loc : List Nat) (k : Nat) : Nat :=
  let x := gfPow k
  let inv := gfInv x
  let om := (List.range 15).map fun n => (List.range (n + 1)).foldl (fun a i => a ^^^ gfMul (loc.getD i 0) (syn.getD (n - i) 0)) 0
  let der := (List.range loc.length).map fun i => if i % 2 = 0 then loc.getD (i + 1) 0 else 0
  gfMul (gfMul x (gfEval om inv)) (gfInv (gfEval der inv))

/-- A received word of 140 symbols decoded: the codeword within t = 7 symbol errors of it with their number; none where the word is
uncorrectable (R126). -/
def rsDecode (r : List Nat) : Option (List Nat × Nat) :=
  if rsClean r then some (r, 0)
  else
    let syn := rsSyndromes r
    let x := rsLocator syn
    let at_ := (List.range 140).filter fun k => gfEval x.loc (gfInv (gfPow k)) == 0
    let fixed := r.zipIdx.map fun (e : Nat × Nat) => if (139 - e.2) ∈ at_ then e.1 ^^^ rsErrorAt syn x.loc (139 - e.2) else e.1
    if x.len ≤ 7 ∧ at_.length = x.len ∧ rsClean fixed then some (fixed, x.len) else none

/-! ## Symbols (R125) -/

/-- The PAM4 value of a pair of bits, the first the more significant: Gray code (R125). -/
def pamValue (hi lo : Bool) : Nat := if hi then (if lo then 2 else 3) else (if lo then 1 else 0)

/-- The level of a value: −3, −1, +1, +3 (R125). -/
def pamLevel (v : Nat) : Int := 2 * v - 3

/-- The value of a level. -/
def pamOfLevel (l : Int) : Nat := ((l + 3) / 2).toNat

/-- The two bits of a value. -/
def pamBits (v : Nat) : List Bool := [decide (2 ≤ v), v == 1 || v == 2]

/-- Bits as symbols, two at a time. -/
def pamSymbols : List Bool → List Nat
  | a :: b :: r => pamValue a b :: pamSymbols r
  | _ => []

/-- A line whose polarity is inverted carries the opposite level (R158). -/
def pamInvert (inv : Bool) (v : Nat) : Nat := if inv then 3 - v else v

/-! ## Codewords (R126–R128) -/

/-- The number that bits spell, the first the most significant. -/
def natOfBits (l : List Bool) : Nat := l.foldl (fun a b => 2 * a + b2n b) 0

/-- The first `n` symbols of ten bits of a list of bits. -/
def rsSymbols : Nat → List Bool → List Nat
  | 0, _ => []
  | n + 1, l => natOfBits (l.take 10) :: rsSymbols n (l.drop 10)

/-- A codeword on the line from its 1,250 scrambled payload bits: 700 symbols (R126, R127). -/
def lineCodeword (pay : List Bool) : List Nat :=
  pamSymbols (pay ++ (rsCheck (rsSymbols 125 pay)).flatMap (bitsMsb 10))

/-- A field of a frame: first payload bit, width, value. -/
abbrev PayField := Nat × Nat × Nat

/-- Insert a field by its first bit. -/
def fieldInsert (x : PayField) : List PayField → List PayField
  | [] => [x]
  | y :: ys => if x.1 ≤ y.1 then x :: y :: ys else y :: fieldInsert x ys

/-- Fields in order of their first bit. -/
def fieldSort (l : List PayField) : List PayField := l.foldr fieldInsert []

/-- The next `n` payload bits from bit k of a frame given by its fields in order, and the fields that are left; what no field covers
is zero (R128). -/
def payBits : Nat → Nat → List PayField → List Bool × List PayField
  | 0, _, fs => ([], fs)
  | n + 1, k, [] => (false :: (payBits n (k + 1) []).1, [])
  | n + 1, k, f :: fs =>
    let b := decide (f.1 ≤ k ∧ k < f.1 + f.2.1) && f.2.2.testBit (f.1 + f.2.1 - 1 - k)
    let r := payBits n (k + 1) (if k + 1 < f.1 + f.2.1 then f :: fs else fs)
    (b :: r.1, r.2)

/-- The symbols of the next `n` codewords of a frame from payload bit k, and the scrambler's state after them (R127, R128). -/
def frameLine : Nat → Nat → Nat → List PayField → List Nat × Nat
  | 0, _, st, _ => ([], st)
  | n + 1, k, st, fs =>
    let p := payBits 1_250 k fs
    let s := scramble st p.1
    let r := frameLine n (k + 1_250) s.2 p.2
    (lineCodeword s.1 ++ r.1, r.2)

/-! ## Training blocks (R135, R136) -/

/-- The marker's levels (R135). -/
def trainMarker : List Int := [3, 3, 3, 3, -3, -3, -3, -3, 3, 3, -3, -3, 3, -3, 3, -3]

/-- The next `n` bits of the PRBS13 generator and its state after them. -/
def prbs13Bits : Nat → Nat → List Bool × Nat
  | 0, st => ([], st)
  | n + 1, st =>
    let st := prbs13Step st
    let r := prbs13Bits n st
    (bit st 0 :: r.1, r.2)

/-- The next `n` bits of the PRBS31 generator x^31 + x^28 + 1 and its state after them (R155). -/
def prbs31Bits : Nat → Nat → List Bool × Nat
  | 0, st => ([], st)
  | n + 1, st =>
    let st := prbsStep 31 28 st
    let r := prbs31Bits n st
    (bit st 0 :: r.1, r.2)

/-- A training block's 700 symbols: marker, control word, PRBS13 (R135); and the generator's state after it. -/
def trainBlock (word st : Nat) : List Nat × Nat :=
  let p := prbs13Bits 1_304 st
  (trainMarker.map pamOfLevel ++ (bitsMsb 32 word).map (fun b => pamOfLevel (if b then 3 else -3)) ++ pamSymbols p.1, p.2)

/-- A run of `n` blocks, `k` being the number of the next one: every 64th carries the information word (R135). -/
def trainBlocks (word info : Nat) : Nat → Nat → Nat → List Nat × Nat
  | 0, _, st => ([], st)
  | n + 1, k, st =>
    let b := trainBlock (if k % 64 = 63 then info else word) st
    let r := trainBlocks word info n (k + 1) b.2
    (b.1 ++ r.1, r.2)

/-- A control word closed by its CRC-8 (R136). -/
def controlWord (w : Nat) : Nat := w + crc8Control w

/-- Fields of the given widths, most significant first. -/
def packFields (l : List (Nat × Nat)) : Nat := l.foldl (fun (a : Nat) (x : Nat × Nat) => a * 2 ^ x.1 + x.2 % 2 ^ x.1) 0

/-! ## Real functions (R276) -/

/-- A number cut to 200 binary places. -/
def cutQ (x : Rat) : Rat := (((x * (2 ^ 200 : Nat)).floor : Int) : Rat) / (2 ^ 200 : Nat)

/-- The exponential series of x to its 32nd term: within 2^−200 of e^x for |x| ≤ 1/8. -/
def expSeries (x : Rat) : Rat := (List.range 32).foldl (fun (a : Rat) k => 1 + a * x / ((32 - k : Nat) : Rat)) 1

/-- e^x (R276), far within what the estimator's own number format keeps of it (assumption 13): the series of x / 2^k for the least
k that brings it under 1/8, then k squarings. -/
def expQ (x : Rat) : Rat :=
  let k := Nat.log2 (x.num.natAbs / x.den + 1) + 4
  (List.range k).foldl (fun (a : Rat) _ => cutQ (a * a)) (cutQ (expSeries (x / (2 ^ k : Nat))))

/-- ln 2 to 60 decimal places. -/
def ln2 : Rat := 693147180559945309417232121458176568075500134360255254120680 / (10 ^ 60 : Nat)

/-- 2^x (R276): the whole part exactly, the fraction by e^(x ln 2). -/
def exp2Q (x : Rat) : Rat :=
  let n := x.floor
  let p : Rat := if 0 ≤ n then ((2 ^ n.toNat : Nat) : Rat) else 1 / ((2 ^ (-n).toNat : Nat) : Rat)
  p * expQ ((x - (n : Rat)) * ln2)

end Sys2Proof.Machine
end

