-- ==== Sys2Proof/Machine/Factory.lean ====
section
/-!
DEFINITION. Machine/Factory.lean: the recipe book at first start (R472, R480, R550).
-/
namespace Sys2Proof.Machine

/-- The steps of the factory recipe in slot 0 (R480's listing). -/
def factoryUp : List Nat :=
  [0x5120001b, 0x80000001, 0x10000008, 0x4006f001, 0x7170a01b, 0x7161401b, 0x7155001b, 0x7143c01b, 0x80000002, 0x1000000a, 0x4106f001, 0x1000000b, 0x4206f001, 0x18000003] ++
  [0x4306f001, 0x80000003, 0x10000040, 0x4806f032, 0x18000004, 0x18000005, 0x18000006, 0x4906f002, 0x80000004, 0x5200001a, 0x18000007, 0x4706f005, 0xff, 0x10e00]

/-- Its masks 0–9. -/
def factoryUpMasks : List Nat := [0x100, 0x400, 0x800, 0xb000, 0xff0000, 0xff000000, 0x4280, 0xffffffff00000000, 0x10000000000000000, 0xffff4280]

/-- The steps of the factory recipe in slot 1 (R550). -/
def factoryDown : List Nat := [0x80000101, 0x28000000, 0x300003e8, 0x28000001, 0x28000002, 0x28000003, 0x28000004, 0x28000005, 0x700ff800, 0x701ff800, 0x702ff800, 0x703ff800, 0x28000006, 0x1ff]

/-- Its masks 0–6. -/
def factoryDownMasks : List Nat := [0xffffffff00000000, 0xffff4280, 0x10000000000000000, 0xb000, 0x800, 0x400, 0x100]

/-- The header words 2–63 of a recipe: name and masks (R472). -/
def headerTail (name : Nat) (masks : List Nat) : List Nat :=
  let m := (masks ++ List.replicate (16 - masks.length) 0).flatMap
    fun k => [k % 2 ^ 32, k / 2 ^ 32 % 2 ^ 32, k / 2 ^ 64 % 2 ^ 32]
  [name % 2 ^ 32, name / 2 ^ 32] ++ m ++ List.replicate 12 0

/-- A recipe as the book's words from its slot's offset on: header, then steps (R472). -/
def recipeWords (name : Nat) (masks steps : List Nat) : List Nat :=
  let tail := headerTail name masks
  [0x0001 + steps.length * 0x10000, crc32 ((tail ++ steps).flatMap (leBytes 4))] ++ tail ++ steps

/-- Words laid out from a byte offset on, zeros left out. -/
def layWords : Nat → List Nat → SMap Nat → SMap Nat
  | _, [], m => m
  | o, w :: ws, m => layWords (o + 4) ws (if w = 0 then m else m.put o w)

/-- The recipe book at first start: `PWR_UP` in slot 0, `PWR_DOWN` in slot 1 (R472, R550). -/
def factoryBook : SMap Nat :=
  layWords 0 (recipeWords (leNat [0x50, 0x57, 0x52, 0x5F, 0x55, 0x50, 0, 0]) factoryUpMasks factoryUp)
    (layWords 0x1200 (recipeWords (leNat [0x50, 0x57, 0x52, 0x5F, 0x44, 0x4F, 0x57, 0x4E]) factoryDownMasks factoryDown) [])

end Sys2Proof.Machine
end

