-- ==== Sys2Proof/Machine/Regs.lean ====
section
/-!
DEFINITION. Machine/Regs.lean: every register field of the spec's register tables, by name: its page and
offset, its bit range, its reset value, and its access codes in the unprivileged and the privileged view (R7).

A register that the spec repeats (per lane, bank, ring, word) is ONE field with an index. Where a table
gives a reset value in words ("pantry", "OTP", "mirror", "sense"), the field's reset here is what a part with
a blank pantry and a blank OTP array shows (assumption 3).
-/
namespace Sys2Proof.Machine

/-- One field of one register: `reg` is page × 0x1000 + offset of its first instance, `lo` its lowest bit,
`width` its width, `reset` its reset value. -/
structure Field where
  reg : Nat
  lo : Nat
  width : Nat
  reset : Nat
  deriving DecidableEq, Repr

/-- The field's place in the field store. -/
def Field.code (f : Field) : Nat := f.reg * 32 + f.lo

/-- Access codes (R7). -/
inductive Access where
  | ro | rw | w1c | wo | snap | hidden
  deriving DecidableEq, Repr

/-- A row of a register table: the field, the page offset of its first word, the distance of its instances and
how many a page has, the bit where it stands, its place in a word that holds several instances
(index = word × `mul` + `add`), and its access codes. -/
structure RegField where
  fld : Field
  off : Nat
  stride : Nat
  count : Nat
  pos : Nat
  mul : Nat
  add : Nat
  unpriv : Access
  priv : Access
  deriving DecidableEq, Repr

/-- A row whose field stands at its own bit. -/
def rf (f : Field) (stride count : Nat) (u p : Access) : RegField :=
  ⟨f, f.reg % 0x1000, stride, count, f.lo, 1, 0, u, p⟩

/-- A row of a word that holds several instances of a field. -/
def rfm (f : Field) (count pos mul add : Nat) (u p : Access) : RegField :=
  ⟨f, f.reg % 0x1000, 4, count, pos, mul, add, u, p⟩


-- GEN_HATCH_HW_AGE (R64)
abbrev GEN_HATCH_HW_AGE_sat : Field := ⟨0x180, 31, 1, 0⟩
abbrev GEN_HATCH_HW_AGE_frames : Field := ⟨0x180, 0, 31, 0⟩
-- GEN_HATCH_HW_LANE (R64)
abbrev GEN_HATCH_HW_LANE_lane : Field := ⟨0x184, 0, 9, 0⟩
-- GEN_HATCH_HW_SKIPS (R64)
abbrev GEN_HATCH_HW_SKIPS_count : Field := ⟨0x188, 0, 32, 0⟩
-- GEN_HATCH_LT_AGE (R64)
abbrev GEN_HATCH_LT_AGE_sat : Field := ⟨0x18C, 31, 1, 0⟩
abbrev GEN_HATCH_LT_AGE_frames : Field := ⟨0x18C, 0, 31, 0⟩
-- GEN_HATCH_LT_FRAME_LO (R64)
abbrev GEN_HATCH_LT_FRAME_LO_frame_lo : Field := ⟨0x190, 0, 32, 0⟩
-- GEN_HATCH_LT_FRAME_HI (R64)
abbrev GEN_HATCH_LT_FRAME_HI_frame_hi : Field := ⟨0x194, 0, 16, 0⟩
-- GEN_HATCH_MT_AGE (R64)
abbrev GEN_HATCH_MT_AGE_sat : Field := ⟨0x198, 31, 1, 0⟩
abbrev GEN_HATCH_MT_AGE_frames : Field := ⟨0x198, 0, 31, 0⟩
-- GEN_HATCH_STATUS (R64)
abbrev GEN_HATCH_STATUS_skips_sat : Field := ⟨0x19C, 5, 1, 0⟩
abbrev GEN_HATCH_STATUS_mt_sat : Field := ⟨0x19C, 4, 1, 0⟩
abbrev GEN_HATCH_STATUS_mt_folding : Field := ⟨0x19C, 3, 1, 0⟩
abbrev GEN_HATCH_STATUS_lt_pending : Field := ⟨0x19C, 2, 1, 0⟩
abbrev GEN_HATCH_STATUS_hw_blind : Field := ⟨0x19C, 1, 1, 1⟩
-- GEN_DEADLINE_MISS (R64)
abbrev GEN_DEADLINE_MISS_count : Field := ⟨0x1A0, 0, 32, 0⟩
-- GEN_SIDE_IRQ_LAST (R98)
abbrev GEN_SIDE_IRQ_LAST_source : Field := ⟨0x1A4, 0, 10, 0⟩
-- GEN_SIDE_IRQ_COUNT (R98)
abbrev GEN_SIDE_IRQ_COUNT_count : Field := ⟨0x1A8, 0, 32, 0⟩

-- PAGE_ID (R76)
abbrev PAGE_ID_block : Field := ⟨0x0, 16, 16, 0⟩
abbrev PAGE_ID_instance : Field := ⟨0x0, 0, 16, 0⟩
-- PAGE_VER (R76)
abbrev PAGE_VER_major : Field := ⟨0x4, 24, 8, 1⟩
abbrev PAGE_VER_minor : Field := ⟨0x4, 16, 8, 0⟩
-- PAGE_CAPS (R76)
abbrev PAGE_CAPS_block_caps : Field := ⟨0x8, 4, 28, 0⟩
abbrev PAGE_CAPS_hib : Field := ⟨0x8, 3, 1, 0⟩
abbrev PAGE_CAPS_irq : Field := ⟨0x8, 2, 1, 0⟩
abbrev PAGE_CAPS_cmd : Field := ⟨0x8, 1, 1, 0⟩
abbrev PAGE_CAPS_priv : Field := ⟨0x8, 0, 1, 0⟩
-- PAGE_STATE (R76)
abbrev PAGE_STATE_priv_open : Field := ⟨0xC, 31, 1, 0⟩
abbrev PAGE_STATE_block_state : Field := ⟨0xC, 8, 8, 0⟩
abbrev PAGE_STATE_state : Field := ⟨0xC, 0, 4, 0⟩
-- PAGE_CTRL (R76)
abbrev PAGE_CTRL_hibernate : Field := ⟨0x10, 2, 1, 0⟩
abbrev PAGE_CTRL_block_reset : Field := ⟨0x10, 1, 1, 0⟩
abbrev PAGE_CTRL_enable : Field := ⟨0x10, 0, 1, 1⟩
-- PAGE_CMD (R76)
abbrev PAGE_CMD_arg : Field := ⟨0x14, 8, 24, 0⟩
abbrev PAGE_CMD_opcode : Field := ⟨0x14, 0, 8, 0⟩
-- PAGE_CMD_STATUS (R76)
abbrev PAGE_CMD_STATUS_ticket_lo : Field := ⟨0x18, 16, 16, 0⟩
abbrev PAGE_CMD_STATUS_result : Field := ⟨0x18, 0, 4, 0⟩
-- PAGE_TICKET_HI (R76)
abbrev PAGE_TICKET_HI_ticket_hi : Field := ⟨0x1C, 0, 32, 0⟩
-- PAGE_IRQ_RAW (R76)
abbrev PAGE_IRQ_RAW_raw : Field := ⟨0x20, 0, 32, 0⟩
-- PAGE_IRQ_EN (R76)
abbrev PAGE_IRQ_EN_en : Field := ⟨0x24, 0, 32, 0⟩
-- PAGE_IRQ_PEND (R76)
abbrev PAGE_IRQ_PEND_pend : Field := ⟨0x28, 0, 32, 0⟩
-- PAGE_FAULT_FIRST (R76)
abbrev PAGE_FAULT_FIRST_valid : Field := ⟨0x30, 31, 1, 0⟩
abbrev PAGE_FAULT_FIRST_class : Field := ⟨0x30, 16, 3, 0⟩
abbrev PAGE_FAULT_FIRST_source : Field := ⟨0x30, 0, 16, 0⟩
-- PAGE_FAULT_COUNT (R76)
abbrev PAGE_FAULT_COUNT_sat : Field := ⟨0x34, 31, 1, 0⟩
abbrev PAGE_FAULT_COUNT_count : Field := ⟨0x34, 0, 31, 0⟩

-- HIF_LINK (R80)
abbrev HIF_LINK_up : Field := ⟨0x1100, 16, 1, 0⟩
abbrev HIF_LINK_width : Field := ⟨0x1100, 4, 6, 0⟩
abbrev HIF_LINK_speed : Field := ⟨0x1100, 0, 4, 0⟩
-- HIF_BAR2_BASE (R80)
abbrev HIF_BAR2_BASE_gib : Field := ⟨0x1104, 0, 11, 0⟩
-- HIF_BAR2_DROPS (R80)
abbrev HIF_BAR2_DROPS_count : Field := ⟨0x1108, 0, 32, 0⟩
-- HIF_BAD_ACCESS (R80)
abbrev HIF_BAD_ACCESS_count : Field := ⟨0x110C, 0, 32, 0⟩
-- HIF_LINK_RESETS (R80)
abbrev HIF_LINK_RESETS_count : Field := ⟨0x1110, 0, 32, 0⟩
-- HIF_WIN_BASE (R80)
abbrev HIF_WIN_BASE_mib : Field := ⟨0x1140, 0, 16, 0⟩

-- CUS_STATUS (R89)
abbrev CUS_STATUS_last_error : Field := ⟨0x2100, 8, 8, 0⟩
abbrev CUS_STATUS_lockout : Field := ⟨0x2100, 7, 1, 0⟩
abbrev CUS_STATUS_verify_busy : Field := ⟨0x2100, 6, 1, 0⟩
abbrev CUS_STATUS_both_required : Field := ⟨0x2100, 5, 1, 0⟩
abbrev CUS_STATUS_holder_b_ok : Field := ⟨0x2100, 4, 1, 0⟩
abbrev CUS_STATUS_holder_a_ok : Field := ⟨0x2100, 3, 1, 0⟩
abbrev CUS_STATUS_phase : Field := ⟨0x2100, 0, 3, 0⟩
-- CUS_SCOPE (R89)
abbrev CUS_SCOPE_scope : Field := ⟨0x2104, 0, 32, 0⟩
-- CUS_REMAIN (R89)
abbrev CUS_REMAIN_seconds : Field := ⟨0x2108, 0, 32, 0⟩
-- CUS_SESSION_ID (R89)
abbrev CUS_SESSION_ID_id : Field := ⟨0x210C, 0, 32, 0⟩
-- CUS_DENIED_WRITES (R89)
abbrev CUS_DENIED_WRITES_count : Field := ⟨0x2110, 0, 32, 0⟩
-- CUS_KEY_SLOTS (R89)
abbrev CUS_KEY_SLOTS_programmed : Field := ⟨0x2114, 0, 4, 0⟩
-- CUS_NONCE (R89)
abbrev CUS_NONCE_nonce : Field := ⟨0x2140, 0, 32, 0⟩
-- CUS_MAILBOX_REQ (R89)
abbrev CUS_MAILBOX_REQ_data : Field := ⟨0x2400, 0, 32, 0⟩
-- CUS_MAILBOX_KEY (R89)
abbrev CUS_MAILBOX_KEY_data : Field := ⟨0x2480, 0, 32, 0⟩
-- CUS_MAILBOX_SIG (R89)
abbrev CUS_MAILBOX_SIG_data : Field := ⟨0x2500, 0, 32, 0⟩

-- DMA_RING_BASE_LO (R90)
abbrev DMA_RING_BASE_LO_addr : Field := ⟨0x6100, 5, 27, 0⟩
-- DMA_RING_BASE_HI (R90)
abbrev DMA_RING_BASE_HI_addr : Field := ⟨0x6104, 0, 32, 0⟩
-- DMA_RING_SIZE (R90)
abbrev DMA_RING_SIZE_log2 : Field := ⟨0x6108, 0, 5, 4⟩
-- DMA_RING_TAIL (R90)
abbrev DMA_RING_TAIL_tail : Field := ⟨0x610C, 0, 16, 0⟩
-- DMA_RING_HEAD (R90)
abbrev DMA_RING_HEAD_head : Field := ⟨0x6110, 0, 16, 0⟩
-- DMA_RING_CTRL (R90)
abbrev DMA_RING_CTRL_enable : Field := ⟨0x6114, 0, 1, 0⟩
-- DMA_RING_STATUS (R90)
abbrev DMA_RING_STATUS_state : Field := ⟨0x6118, 0, 2, 0⟩

-- IRQ_PEND (R97)
abbrev IRQ_PEND_pend : Field := ⟨0x3100, 0, 32, 0⟩
-- IRQ_EN (R97)
abbrev IRQ_EN_en : Field := ⟨0x3180, 0, 32, 0⟩
-- IRQ_TARGET (R97)
abbrev IRQ_TARGET_target : Field := ⟨0x3200, 0, 3, 0⟩
-- IRQ_TGT_PEND (R97)
abbrev IRQ_TGT_PEND_pend : Field := ⟨0x3400, 0, 8, 0⟩
-- IRQ_LOST (R97)
abbrev IRQ_LOST_count : Field := ⟨0x3404, 0, 32, 0⟩
-- IRQ_TARGET_REJECT (R97)
abbrev IRQ_TARGET_REJECT_reject : Field := ⟨0x3408, 0, 1, 0⟩
-- IRQ_NEXT (R97)
abbrev IRQ_NEXT_valid : Field := ⟨0x3410, 31, 1, 0⟩
abbrev IRQ_NEXT_source : Field := ⟨0x3410, 0, 10, 0⟩

-- FLT_STATUS (R114)
abbrev FLT_STATUS_estop : Field := ⟨0x4100, 17, 1, 0⟩
abbrev FLT_STATUS_trip_n : Field := ⟨0x4100, 16, 1, 0⟩
abbrev FLT_STATUS_overflow : Field := ⟨0x4100, 8, 5, 0⟩
abbrev FLT_STATUS_latched : Field := ⟨0x4100, 0, 5, 0⟩
-- FLT_TRIP_CFG (R114)
abbrev FLT_TRIP_CFG_open : Field := ⟨0x4104, 0, 1, 0⟩
-- FLT_NEXT_SEQ_LO (R114)
abbrev FLT_NEXT_SEQ_LO_seq_lo : Field := ⟨0x4108, 0, 32, 0⟩
-- FLT_NEXT_SEQ_HI (R114)
abbrev FLT_NEXT_SEQ_HI_seq_hi : Field := ⟨0x410C, 0, 32, 0⟩
-- FLT_PINS (R114)
abbrev FLT_PINS_latch_pins : Field := ⟨0x4110, 8, 3, 0⟩
abbrev FLT_PINS_ack_pins : Field := ⟨0x4110, 0, 7, 0⟩
-- FLT_OVERWRITTEN (R114)
abbrev FLT_OVERWRITTEN_sat : Field := ⟨0x4114, 31, 1, 0⟩
abbrev FLT_OVERWRITTEN_count : Field := ⟨0x4114, 0, 31, 0⟩
-- FLT_ESCALATIONS (R114)
abbrev FLT_ESCALATIONS_sat : Field := ⟨0x4118, 31, 1, 0⟩
abbrev FLT_ESCALATIONS_count : Field := ⟨0x4118, 0, 31, 0⟩
-- FLT_DROPPED (R114)
abbrev FLT_DROPPED_sat : Field := ⟨0x411C, 31, 1, 0⟩
abbrev FLT_DROPPED_count : Field := ⟨0x411C, 0, 31, 0⟩
-- FLT_FIRST_SRC (R114)
abbrev FLT_FIRST_SRC_valid : Field := ⟨0x4120, 31, 1, 0⟩
abbrev FLT_FIRST_SRC_escalated : Field := ⟨0x4120, 30, 1, 0⟩
abbrev FLT_FIRST_SRC_raised : Field := ⟨0x4120, 27, 3, 0⟩
abbrev FLT_FIRST_SRC_page : Field := ⟨0x4120, 16, 7, 0⟩
abbrev FLT_FIRST_SRC_source : Field := ⟨0x4120, 0, 16, 0⟩
-- FLT_FIRST_SEQ_LO (R114)
abbrev FLT_FIRST_SEQ_LO_seq_lo : Field := ⟨0x4124, 0, 32, 0⟩
-- FLT_FIRST_SEQ_HI (R114)
abbrev FLT_FIRST_SEQ_HI_seq_hi : Field := ⟨0x4128, 0, 32, 0⟩
-- FLT_FIRST_WHERE (R114)
abbrev FLT_FIRST_WHERE_location : Field := ⟨0x412C, 0, 32, 0⟩

-- TKT_NEXT_LO (R124)
abbrev TKT_NEXT_LO_next_lo : Field := ⟨0x5100, 0, 32, 0⟩
-- TKT_NEXT_HI (R124)
abbrev TKT_NEXT_HI_next_hi : Field := ⟨0x5104, 0, 16, 0⟩
-- TKT_OPEN (R124)
abbrev TKT_OPEN_count : Field := ⟨0x5108, 0, 17, 0⟩
-- TKT_BUSY_REFUSALS (R124)
abbrev TKT_BUSY_REFUSALS_sat : Field := ⟨0x510C, 31, 1, 0⟩
abbrev TKT_BUSY_REFUSALS_count : Field := ⟨0x510C, 0, 31, 0⟩
-- TKT_ALLOC (R124)
abbrev TKT_ALLOC_index : Field := ⟨0x5110, 0, 16, 0⟩
-- TKT_LOOKUP_LO (R124)
abbrev TKT_LOOKUP_LO_ticket_lo : Field := ⟨0x5120, 0, 32, 0⟩
-- TKT_LOOKUP_HI (R124)
abbrev TKT_LOOKUP_HI_ticket_hi : Field := ⟨0x5124, 0, 16, 0⟩
-- TKT_LOOKUP_RESULT (R124)
abbrev TKT_LOOKUP_RESULT_found : Field := ⟨0x5128, 31, 1, 0⟩
abbrev TKT_LOOKUP_RESULT_state : Field := ⟨0x5128, 24, 3, 0⟩
abbrev TKT_LOOKUP_RESULT_index : Field := ⟨0x5128, 0, 16, 0⟩

-- CLK_TIME_SRC (R132)
abbrev CLK_TIME_SRC_valid : Field := ⟨0x7100, 15, 1, 0⟩
abbrev CLK_TIME_SRC_twin : Field := ⟨0x7100, 9, 1, 0⟩
abbrev CLK_TIME_SRC_lane : Field := ⟨0x7100, 0, 9, 0⟩
-- CLK_STATUS (R408)
abbrev CLK_STATUS_twin_ref : Field := ⟨0x7104, 11, 1, 0⟩
abbrev CLK_STATUS_rec_qualified : Field := ⟨0x7104, 10, 1, 0⟩
abbrev CLK_STATUS_rec_offered : Field := ⟨0x7104, 9, 1, 0⟩
abbrev CLK_STATUS_osc_ok : Field := ⟨0x7104, 8, 1, 0⟩
abbrev CLK_STATUS_state : Field := ⟨0x7104, 0, 3, 0⟩
-- CLK_OSC_DEV (R408)
abbrev CLK_OSC_DEV_dev : Field := ⟨0x7108, 0, 16, 0⟩
-- CLK_REC_DEV (R408)
abbrev CLK_REC_DEV_dev : Field := ⟨0x710C, 0, 32, 0⟩
-- CLK_CORR (R408)
abbrev CLK_CORR_corr : Field := ⟨0x7110, 0, 32, 0⟩
-- CLK_CFG (R408)
abbrev CLK_CFG_slew : Field := ⟨0x7114, 8, 8, 20⟩
abbrev CLK_CFG_auto_adopt : Field := ⟨0x7114, 0, 1, 1⟩
-- CLK_REF_OUTS (R408)
abbrev CLK_REF_OUTS_sat : Field := ⟨0x7118, 31, 1, 0⟩
abbrev CLK_REF_OUTS_count : Field := ⟨0x7118, 0, 31, 0⟩
-- CLK_HOLD_S (R408)
abbrev CLK_HOLD_S_s : Field := ⟨0x711C, 0, 32, 0⟩
-- CLK_FRAME_LO (R408)
abbrev CLK_FRAME_LO_frame_lo : Field := ⟨0x7120, 0, 32, 0⟩
-- CLK_FRAME_HI (R408)
abbrev CLK_FRAME_HI_frame_hi : Field := ⟨0x7124, 0, 16, 0⟩
-- CLK_LOSSES (R408)
abbrev CLK_LOSSES_sat : Field := ⟨0x7128, 31, 1, 0⟩
abbrev CLK_LOSSES_count : Field := ⟨0x7128, 0, 31, 0⟩

-- LNK_STATUS (R158)
abbrev LNK_STATUS_far_loop_capable : Field := ⟨0x40100, 19, 1, 0⟩
abbrev LNK_STATUS_far_ref_src : Field := ⟨0x40100, 18, 1, 0⟩
abbrev LNK_STATUS_advanced : Field := ⟨0x40100, 17, 1, 0⟩
abbrev LNK_STATUS_los : Field := ⟨0x40100, 16, 1, 1⟩
abbrev LNK_STATUS_far_ready : Field := ⟨0x40100, 15, 1, 0⟩
abbrev LNK_STATUS_rx_ready : Field := ⟨0x40100, 14, 1, 0⟩
abbrev LNK_STATUS_frame_lock : Field := ⟨0x40100, 13, 1, 0⟩
abbrev LNK_STATUS_cw_lock : Field := ⟨0x40100, 12, 1, 0⟩
abbrev LNK_STATUS_loop_mode : Field := ⟨0x40100, 4, 2, 0⟩
abbrev LNK_STATUS_state : Field := ⟨0x40100, 0, 3, 0⟩
-- LNK_CFG (R158)
abbrev LNK_CFG_rx_invert : Field := ⟨0x40104, 9, 1, 0⟩
abbrev LNK_CFG_tx_invert : Field := ⟨0x40104, 8, 1, 0⟩
abbrev LNK_CFG_posture_count : Field := ⟨0x40104, 4, 4, 3⟩
abbrev LNK_CFG_posture_open : Field := ⟨0x40104, 0, 1, 0⟩
-- LNK_TXFIR (R158)
abbrev LNK_TXFIR_pre : Field := ⟨0x40108, 16, 8, 0⟩
abbrev LNK_TXFIR_main : Field := ⟨0x40108, 8, 8, 64⟩
abbrev LNK_TXFIR_post : Field := ⟨0x40108, 0, 8, 0⟩
-- LNK_FAR_FIR (R158)
abbrev LNK_FAR_FIR_taps : Field := ⟨0x4010C, 0, 32, 0⟩
-- LNK_TRAIN (R158)
abbrev LNK_TRAIN_duration : Field := ⟨0x40110, 16, 16, 0⟩
abbrev LNK_TRAIN_attempts : Field := ⟨0x40110, 8, 8, 0⟩
abbrev LNK_TRAIN_fail_reason : Field := ⟨0x40110, 0, 4, 0⟩
-- LNK_DELAY (R158)
abbrev LNK_DELAY_one_way : Field := ⟨0x40114, 16, 16, 0⟩
abbrev LNK_DELAY_turnaround : Field := ⟨0x40114, 0, 16, 0⟩
-- LNK_CORR_LO (R158)
abbrev LNK_CORR_LO_count_lo : Field := ⟨0x40118, 0, 32, 0⟩
-- LNK_CORR_HI (R158)
abbrev LNK_CORR_HI_count_hi : Field := ⟨0x4011C, 0, 16, 0⟩
-- LNK_UNCORR (R158)
abbrev LNK_UNCORR_count : Field := ⟨0x40120, 0, 32, 0⟩
-- LNK_HDR_CRC (R158)
abbrev LNK_HDR_CRC_count : Field := ⟨0x40124, 0, 32, 0⟩
-- LNK_LOL (R158)
abbrev LNK_LOL_count : Field := ⟨0x40128, 0, 32, 0⟩
-- LNK_SLIPS (R158)
abbrev LNK_SLIPS_count : Field := ⟨0x4012C, 0, 32, 0⟩
-- LNK_SAT (R158)
abbrev LNK_SAT_flags : Field := ⟨0x40130, 0, 6, 0⟩
-- LNK_EYE (R158)
abbrev LNK_EYE_upper : Field := ⟨0x40134, 16, 8, 0⟩
abbrev LNK_EYE_middle : Field := ⟨0x40134, 8, 8, 0⟩
abbrev LNK_EYE_lower : Field := ⟨0x40134, 0, 8, 0⟩
-- LNK_PRBS_ERR (R158)
abbrev LNK_PRBS_ERR_count : Field := ⟨0x40138, 0, 32, 0⟩
-- LNK_HISTORY (R158)
abbrev LNK_HISTORY_reason : Field := ⟨0x4013C, 28, 4, 0⟩
abbrev LNK_HISTORY_prev_state : Field := ⟨0x4013C, 24, 3, 0⟩
abbrev LNK_HISTORY_frame : Field := ⟨0x4013C, 0, 24, 0⟩
-- LNK_GRP_STATUS (R160)
abbrev LNK_GRP_STATUS_otp_enabled : Field := ⟨0x40500, 31, 1, 0⟩
abbrev LNK_GRP_STATUS_pll_lock : Field := ⟨0x40500, 30, 1, 0⟩
abbrev LNK_GRP_STATUS_run : Field := ⟨0x40500, 0, 16, 0⟩
-- LNK_GRP_AUTO (R160)
abbrev LNK_GRP_AUTO_auto : Field := ⟨0x40504, 0, 16, 0⟩
-- LNK_GRP_LOS (R160)
abbrev LNK_GRP_LOS_los : Field := ⟨0x40508, 0, 16, 65535⟩

-- FRM_SEL (R195)
abbrev FRM_SEL_lane : Field := ⟨0x14100, 0, 9, 0⟩
-- FRM_L_MAP (R195)
abbrev FRM_L_MAP_built : Field := ⟨0x14104, 16, 16, 0⟩
abbrev FRM_L_MAP_in_force : Field := ⟨0x14104, 0, 16, 0⟩
-- FRM_L_INV (R195)
abbrev FRM_L_INV_inv_gen : Field := ⟨0x14108, 24, 8, 0⟩
abbrev FRM_L_INV_phase : Field := ⟨0x14108, 16, 3, 0⟩
abbrev FRM_L_INV_node_count : Field := ⟨0x14108, 0, 9, 0⟩
-- FRM_L_UP_USED (R195)
abbrev FRM_L_UP_USED_bits : Field := ⟨0x1410C, 0, 20, 0⟩
-- FRM_L_DOWN_USED (R195)
abbrev FRM_L_DOWN_USED_bits : Field := ⟨0x14110, 0, 20, 0⟩
-- FRM_L_HEAD (R195)
abbrev FRM_L_HEAD_emax : Field := ⟨0x14114, 16, 16, 0⟩
abbrev FRM_L_HEAD_obeyed : Field := ⟨0x14114, 15, 1, 0⟩
abbrev FRM_L_HEAD_posture_state : Field := ⟨0x14114, 13, 2, 0⟩
abbrev FRM_L_HEAD_posture_cause : Field := ⟨0x14114, 10, 3, 0⟩
abbrev FRM_L_HEAD_bad_count : Field := ⟨0x14114, 6, 4, 0⟩
abbrev FRM_L_HEAD_wake : Field := ⟨0x14114, 5, 1, 0⟩
abbrev FRM_L_HEAD_oc : Field := ⟨0x14114, 4, 1, 0⟩
abbrev FRM_L_HEAD_chain_changed : Field := ⟨0x14114, 3, 1, 0⟩
abbrev FRM_L_HEAD_repeated : Field := ⟨0x14114, 2, 1, 0⟩
abbrev FRM_L_HEAD_emax_valid : Field := ⟨0x14114, 1, 1, 0⟩
-- FRM_L_MISSING (R195)
abbrev FRM_L_MISSING_count : Field := ⟨0x14118, 0, 32, 0⟩
-- FRM_L_OVR (R195)
abbrev FRM_L_OVR_count : Field := ⟨0x1411C, 0, 32, 0⟩
-- FRM_L_ADJ (R195)
abbrev FRM_L_ADJ_count : Field := ⟨0x14120, 0, 32, 0⟩
-- FRM_L_MGMT (R195)
abbrev FRM_L_MGMT_retx : Field := ⟨0x14124, 16, 16, 0⟩
abbrev FRM_L_MGMT_discards : Field := ⟨0x14124, 0, 16, 0⟩
-- FRM_L_ENUM_RETRY (R195)
abbrev FRM_L_ENUM_RETRY_count : Field := ⟨0x14128, 0, 32, 0⟩
-- FRM_L_SAT (R195)
abbrev FRM_L_SAT_flags : Field := ⟨0x1412C, 0, 5, 0⟩
-- FRM_L_CUR_TOL (R195)
abbrev FRM_L_CUR_TOL_tol : Field := ⟨0x14130, 0, 16, 100⟩
-- FRM_ENUM_HOLD (R195)
abbrev FRM_ENUM_HOLD_hold : Field := ⟨0x14140, 0, 32, 0⟩
-- FRM_POSTURE (R195)
abbrev FRM_POSTURE_posture : Field := ⟨0x14180, 0, 32, 0⟩
-- FRM_CHAIN (R195)
abbrev FRM_CHAIN_changed : Field := ⟨0x141C0, 0, 32, 0⟩
-- FRM_EPOCH (R195)
abbrev FRM_EPOCH_role : Field := ⟨0x14200, 16, 1, 1⟩
abbrev FRM_EPOCH_epoch : Field := ⟨0x14200, 0, 16, 0⟩
-- FRM_WAKE_CFG (R195)
abbrev FRM_WAKE_CFG_threshold : Field := ⟨0x14204, 0, 16, 50⟩
-- FRM_B_ADDR (R195)
abbrev FRM_B_ADDR_addr : Field := ⟨0x14220, 0, 32, 0⟩
-- FRM_B_DATA (R195)
abbrev FRM_B_DATA_up : Field := ⟨0x14224, 8, 8, 0⟩
abbrev FRM_B_DATA_down : Field := ⟨0x14224, 0, 8, 0⟩
-- FRM_MBX_TX (R195)
abbrev FRM_MBX_TX_data : Field := ⟨0x14400, 0, 32, 0⟩
-- FRM_MBX_TX_STATUS (R195)
abbrev FRM_MBX_TX_STATUS_state : Field := ⟨0x14480, 0, 2, 0⟩
-- FRM_MBX_RX (R195)
abbrev FRM_MBX_RX_data : Field := ⟨0x14500, 0, 32, 0⟩
-- FRM_MBX_RX_STATUS (R195)
abbrev FRM_MBX_RX_STATUS_full : Field := ⟨0x14580, 31, 1, 0⟩
abbrev FRM_MBX_RX_STATUS_lane : Field := ⟨0x14580, 16, 9, 0⟩
abbrev FRM_MBX_RX_STATUS_dropped : Field := ⟨0x14580, 0, 16, 0⟩

-- SCH_COMMIT (R236)
abbrev SCH_COMMIT_go : Field := ⟨0x15100, 0, 1, 0⟩
-- SCH_REJ_OFFSET (R236)
abbrev SCH_REJ_OFFSET_window : Field := ⟨0x15104, 31, 1, 0⟩
abbrev SCH_REJ_OFFSET_offset : Field := ⟨0x15104, 0, 22, 0⟩
-- SCH_REJ_COUNT (R236)
abbrev SCH_REJ_COUNT_sat : Field := ⟨0x15108, 31, 1, 0⟩
abbrev SCH_REJ_COUNT_count : Field := ⟨0x15108, 0, 31, 0⟩
-- SCH_AGE_CFG (R236)
abbrev SCH_AGE_CFG_t_age_max : Field := ⟨0x1510C, 16, 16, 500⟩
abbrev SCH_AGE_CFG_i_age_max : Field := ⟨0x1510C, 8, 8, 5⟩
abbrev SCH_AGE_CFG_v_age_max : Field := ⟨0x1510C, 0, 8, 50⟩
-- SCH_BLIND (R236)
abbrev SCH_BLIND_blind_gain : Field := ⟨0x15110, 0, 8, 16⟩
-- SCH_GV_CFG (R236)
abbrev SCH_GV_CFG_gv_min : Field := ⟨0x15114, 0, 16, 100⟩
-- SCH_CELL_SEL (R236)
abbrev SCH_CELL_SEL_pos : Field := ⟨0x15120, 0, 32, 0⟩
-- SCH_CELL_INFO (R236)
abbrev SCH_CELL_INFO_present : Field := ⟨0x15124, 31, 1, 0⟩
abbrev SCH_CELL_INFO_status : Field := ⟨0x15124, 28, 3, 0⟩
abbrev SCH_CELL_INFO_stale : Field := ⟨0x15124, 27, 1, 0⟩
abbrev SCH_CELL_INFO_t_subst : Field := ⟨0x15124, 26, 1, 0⟩
abbrev SCH_CELL_INFO_class : Field := ⟨0x15124, 22, 4, 0⟩
abbrev SCH_CELL_INFO_withdrawn : Field := ⟨0x15124, 21, 1, 0⟩
abbrev SCH_CELL_INFO_stir : Field := ⟨0x15124, 20, 1, 0⟩
abbrev SCH_CELL_INFO_role : Field := ⟨0x15124, 18, 2, 0⟩
abbrev SCH_CELL_INFO_inh_chg : Field := ⟨0x15124, 17, 1, 0⟩
abbrev SCH_CELL_INFO_inh_dis : Field := ⟨0x15124, 16, 1, 0⟩
abbrev SCH_CELL_INFO_cur_inh : Field := ⟨0x15124, 15, 1, 0⟩
-- SCH_CELL_RANK (R236)
abbrev SCH_CELL_RANK_rank_chg : Field := ⟨0x15128, 16, 16, 0⟩
abbrev SCH_CELL_RANK_rank_dis : Field := ⟨0x15128, 0, 16, 0⟩
-- SCH_CELL_SWITCHES (R236)
abbrev SCH_CELL_SWITCHES_count : Field := ⟨0x1512C, 0, 32, 0⟩
-- SCH_STR_SEL (R236)
abbrev SCH_STR_SEL_lane : Field := ⟨0x15140, 0, 9, 0⟩
-- SCH_STR_STATUS (R236)
abbrev SCH_STR_STATUS_n : Field := ⟨0x15144, 16, 16, 0⟩
abbrev SCH_STR_STATUS_o : Field := ⟨0x15144, 6, 10, 0⟩
abbrev SCH_STR_STATUS_sat : Field := ⟨0x15144, 5, 1, 0⟩
abbrev SCH_STR_STATUS_limited : Field := ⟨0x15144, 4, 1, 0⟩
abbrev SCH_STR_STATUS_blind_current : Field := ⟨0x15144, 3, 1, 0⟩
abbrev SCH_STR_STATUS_polarity : Field := ⟨0x15144, 1, 2, 0⟩
abbrev SCH_STR_STATUS_stirring : Field := ⟨0x15144, 0, 1, 0⟩
-- SCH_STR_VCMD (R236)
abbrev SCH_STR_VCMD_v_s : Field := ⟨0x15148, 0, 32, 0⟩
-- SCH_STR_BACKOFF (R236)
abbrev SCH_STR_BACKOFF_b_s : Field := ⟨0x1514C, 0, 16, 0⟩
-- SCH_STR_ELIG (R236)
abbrev SCH_STR_ELIG_chg : Field := ⟨0x15150, 16, 16, 0⟩
abbrev SCH_STR_ELIG_dis : Field := ⟨0x15150, 0, 16, 0⟩
-- SCH_STR_LIMIT_FRAMES (R236)
abbrev SCH_STR_LIMIT_FRAMES_count : Field := ⟨0x15154, 0, 32, 0⟩
-- SCH_STR_BLIND_FRAMES (R236)
abbrev SCH_STR_BLIND_FRAMES_count : Field := ⟨0x15158, 0, 32, 0⟩
-- SCH_STR_SAT_FRAMES (R236)
abbrev SCH_STR_SAT_FRAMES_count : Field := ⟨0x1515C, 0, 32, 0⟩
-- SCH_GV_STATUS (R236)
abbrev SCH_GV_STATUS_locked : Field := ⟨0x15180, 31, 1, 0⟩
abbrev SCH_GV_STATUS_freq : Field := ⟨0x15180, 0, 17, 0⟩
-- SCH_GV_AMP (R236)
abbrev SCH_GV_AMP_amp : Field := ⟨0x15190, 0, 32, 0⟩

-- BNK_STATUS (R238)
abbrev BNK_STATUS_strings : Field := ⟨0x20100, 16, 10, 0⟩
abbrev BNK_STATUS_hold_cause : Field := ⟨0x20100, 9, 3, 0⟩
abbrev BNK_STATUS_pending : Field := ⟨0x20100, 8, 1, 0⟩
abbrev BNK_STATUS_mode : Field := ⟨0x20100, 0, 3, 0⟩
-- BNK_RUNNING (R238)
abbrev BNK_RUNNING_running : Field := ⟨0x20104, 16, 10, 0⟩
abbrev BNK_RUNNING_saturated : Field := ⟨0x20104, 0, 10, 0⟩
-- BNK_TARGET (R238)
abbrev BNK_TARGET_v_b : Field := ⟨0x20108, 0, 32, 0⟩
-- BNK_PHASE (R238)
abbrev BNK_PHASE_theta : Field := ⟨0x2010C, 0, 32, 0⟩
-- BNK_PHASE_ERR (R238)
abbrev BNK_PHASE_ERR_err : Field := ⟨0x20110, 0, 16, 0⟩
-- BNK_REQ_PEAK (R238)
abbrev BNK_REQ_PEAK_peak : Field := ⟨0x20114, 0, 32, 0⟩
-- BNK_SAT_FRAMES (R238)
abbrev BNK_SAT_FRAMES_count : Field := ⟨0x20118, 0, 32, 0⟩
-- BNK_LIMIT_FRAMES (R238)
abbrev BNK_LIMIT_FRAMES_count : Field := ⟨0x2011C, 0, 32, 0⟩
-- BNK_MEAN_SOC (R238)
abbrev BNK_MEAN_SOC_valid : Field := ⟨0x20120, 16, 1, 0⟩
abbrev BNK_MEAN_SOC_soc : Field := ⟨0x20120, 0, 16, 0⟩

-- IMP_CFG (R265)
abbrev IMP_CFG_spectra_en : Field := ⟨0x16100, 8, 1, 0⟩
abbrev IMP_CFG_refresh_period : Field := ⟨0x16100, 0, 4, 1⟩
-- IMP_SPECTRA_BASE (R265)
abbrev IMP_SPECTRA_BASE_gib : Field := ⟨0x16104, 0, 11, 0⟩
-- IMP_SPECTRA_CFG (R265)
abbrev IMP_SPECTRA_CFG_cells : Field := ⟨0x16108, 0, 13, 2560⟩
-- IMP_SPECTRA_DROPS (R265)
abbrev IMP_SPECTRA_DROPS_sat : Field := ⟨0x1610C, 31, 1, 0⟩
abbrev IMP_SPECTRA_DROPS_count : Field := ⟨0x1610C, 0, 31, 0⟩
-- IMP_SEL (R265)
abbrev IMP_SEL_lane : Field := ⟨0x16110, 0, 9, 0⟩
-- IMP_L_STATUS (R265)
abbrev IMP_L_STATUS_hibernated : Field := ⟨0x16114, 31, 1, 0⟩
abbrev IMP_L_STATUS_plan_pending : Field := ⟨0x16114, 30, 1, 0⟩
abbrev IMP_L_STATUS_cells : Field := ⟨0x16114, 5, 13, 0⟩
abbrev IMP_L_STATUS_bins : Field := ⟨0x16114, 0, 5, 0⟩
-- IMP_L_REFRESH_AGE (R265)
abbrev IMP_L_REFRESH_AGE_ms : Field := ⟨0x16118, 0, 16, 0⟩
-- IMP_L_FORCED (R265)
abbrev IMP_L_FORCED_sat : Field := ⟨0x1611C, 31, 1, 0⟩
abbrev IMP_L_FORCED_count : Field := ⟨0x1611C, 0, 31, 0⟩
-- IMP_L_TWERR (R265)
abbrev IMP_L_TWERR_err : Field := ⟨0x16120, 0, 16, 0⟩
-- IMP_L_SATWIN (R265)
abbrev IMP_L_SATWIN_sat : Field := ⟨0x16124, 31, 1, 0⟩
abbrev IMP_L_SATWIN_count : Field := ⟨0x16124, 0, 31, 0⟩
-- IMP_L_OVRWIN (R265)
abbrev IMP_L_OVRWIN_sat : Field := ⟨0x16128, 31, 1, 0⟩
abbrev IMP_L_OVRWIN_count : Field := ⟨0x16128, 0, 31, 0⟩
-- IMP_L_GAPWIN (R265)
abbrev IMP_L_GAPWIN_sat : Field := ⟨0x1612C, 31, 1, 0⟩
abbrev IMP_L_GAPWIN_count : Field := ⟨0x1612C, 0, 31, 0⟩
-- IMP_L_DROPPED (R265)
abbrev IMP_L_DROPPED_sat : Field := ⟨0x16130, 31, 1, 0⟩
abbrev IMP_L_DROPPED_count : Field := ⟨0x16130, 0, 31, 0⟩
-- IMP_CELL_SEL (R265)
abbrev IMP_CELL_SEL_pos : Field := ⟨0x16140, 0, 32, 0⟩
-- IMP_CELL_INFO (R265)
abbrev IMP_CELL_INFO_served : Field := ⟨0x16144, 31, 1, 0⟩
abbrev IMP_CELL_INFO_t_valid : Field := ⟨0x16144, 30, 1, 0⟩
abbrev IMP_CELL_INFO_t_clamped : Field := ⟨0x16144, 29, 1, 0⟩
abbrev IMP_CELL_INFO_ordinal : Field := ⟨0x16144, 16, 13, 0⟩
abbrev IMP_CELL_INFO_t_int : Field := ⟨0x16144, 0, 16, 0⟩
-- IMP_CELL_TAGE (R265)
abbrev IMP_CELL_TAGE_s : Field := ⟨0x16148, 0, 16, 0⟩
-- IMP_CELL_BIN (R265)
abbrev IMP_CELL_BIN_word : Field := ⟨0x16180, 0, 32, 0⟩
-- IMP_TINF_BAD (R265)
abbrev IMP_TINF_BAD_class : Field := ⟨0x161C0, 0, 16, 0⟩

-- EST_RELOAD (R302)
abbrev EST_RELOAD_go : Field := ⟨0x17100, 0, 1, 0⟩
-- EST_STATE_BASE (R302)
abbrev EST_STATE_BASE_gib : Field := ⟨0x17104, 0, 11, 0⟩
-- EST_CKPT_BASE (R302)
abbrev EST_CKPT_BASE_gib : Field := ⟨0x17108, 0, 11, 0⟩
-- EST_HIB_CFG (R302)
abbrev EST_HIB_CFG_en : Field := ⟨0x1710C, 31, 1, 0⟩
abbrev EST_HIB_CFG_t_idle : Field := ⟨0x1710C, 16, 15, 600⟩
abbrev EST_HIB_CFG_i_idle : Field := ⟨0x1710C, 0, 16, 20⟩
-- EST_PROBE_CFG (R302)
abbrev EST_PROBE_CFG_period : Field := ⟨0x17110, 16, 16, 60⟩
abbrev EST_PROBE_CFG_length : Field := ⟨0x17110, 0, 8, 10⟩
-- EST_PART_CFG (R302)
abbrev EST_PART_CFG_headroom : Field := ⟨0x17114, 0, 8, 26⟩
-- EST_CKPT_CFG (R302)
abbrev EST_CKPT_CFG_period : Field := ⟨0x17118, 0, 16, 24⟩
-- EST_STATUS (R302)
abbrev EST_STATUS_hibernated : Field := ⟨0x1711C, 31, 1, 0⟩
abbrev EST_STATUS_probing : Field := ⟨0x1711C, 30, 1, 0⟩
abbrev EST_STATUS_clusters : Field := ⟨0x1711C, 16, 8, 0⟩
abbrev EST_STATUS_class_bad : Field := ⟨0x1711C, 0, 16, 65535⟩
-- EST_STEP_SKIPS (R302)
abbrev EST_STEP_SKIPS_sat : Field := ⟨0x17120, 31, 1, 0⟩
abbrev EST_STEP_SKIPS_count : Field := ⟨0x17120, 0, 31, 0⟩
-- EST_LEARN_REJECTS (R302)
abbrev EST_LEARN_REJECTS_sat : Field := ⟨0x17124, 31, 1, 0⟩
abbrev EST_LEARN_REJECTS_count : Field := ⟨0x17124, 0, 31, 0⟩
-- EST_REJ_COUNT (R302)
abbrev EST_REJ_COUNT_sat : Field := ⟨0x17128, 31, 1, 0⟩
abbrev EST_REJ_COUNT_count : Field := ⟨0x17128, 0, 31, 0⟩
-- EST_CKPT_GEN_LO (R302)
abbrev EST_CKPT_GEN_LO_gen_lo : Field := ⟨0x1712C, 0, 32, 0⟩
-- EST_CKPT_GEN_HI (R302)
abbrev EST_CKPT_GEN_HI_gen_hi : Field := ⟨0x17130, 0, 32, 0⟩
-- EST_CKPT_STATUS (R302)
abbrev EST_CKPT_STATUS_state : Field := ⟨0x17134, 0, 2, 0⟩
-- EST_CELL_SEL (R302)
abbrev EST_CELL_SEL_pos : Field := ⟨0x17140, 0, 32, 0⟩
-- EST_CELL_STATE (R302)
abbrev EST_CELL_STATE_soc : Field := ⟨0x17144, 16, 16, 0⟩
abbrev EST_CELL_STATE_est_valid : Field := ⟨0x17144, 15, 1, 0⟩
abbrev EST_CELL_STATE_stale : Field := ⟨0x17144, 14, 1, 0⟩
abbrev EST_CELL_STATE_full : Field := ⟨0x17144, 13, 1, 0⟩
abbrev EST_CELL_STATE_empty : Field := ⟨0x17144, 12, 1, 0⟩
abbrev EST_CELL_STATE_q_learned : Field := ⟨0x17144, 11, 1, 0⟩
abbrev EST_CELL_STATE_r_learned : Field := ⟨0x17144, 10, 1, 0⟩
abbrev EST_CELL_STATE_accum_sat : Field := ⟨0x17144, 9, 1, 0⟩
abbrev EST_CELL_STATE_resting : Field := ⟨0x17144, 8, 1, 0⟩
abbrev EST_CELL_STATE_weight : Field := ⟨0x17144, 0, 8, 128⟩
-- EST_CELL_SD (R302)
abbrev EST_CELL_SD_relearn : Field := ⟨0x17148, 24, 8, 0⟩
abbrev EST_CELL_SD_soc_sd : Field := ⟨0x17148, 0, 16, 0⟩
-- EST_CELL_Q (R302)
abbrev EST_CELL_Q_q : Field := ⟨0x1714C, 0, 32, 0⟩
-- EST_CELL_ROHM (R302)
abbrev EST_CELL_ROHM_r_ohm_25 : Field := ⟨0x17150, 0, 32, 0⟩
-- EST_CELL_RPOL (R302)
abbrev EST_CELL_RPOL_r_pol_25 : Field := ⟨0x17154, 0, 32, 0⟩
-- EST_CELL_HYST (R302)
abbrev EST_CELL_HYST_h : Field := ⟨0x17158, 16, 16, 0⟩
abbrev EST_CELL_HYST_t_used : Field := ⟨0x17158, 0, 16, 0⟩
-- EST_CELL_CTOT_LO (R302)
abbrev EST_CELL_CTOT_LO_ctot_lo : Field := ⟨0x1715C, 0, 32, 0⟩
-- EST_CELL_CTOT_HI (R302)
abbrev EST_CELL_CTOT_HI_ctot_hi : Field := ⟨0x17160, 0, 32, 0⟩
-- EST_PART_SEL (R302)
abbrev EST_PART_SEL_part : Field := ⟨0x17180, 0, 7, 0⟩
-- EST_PART_STATUS (R302)
abbrev EST_PART_STATUS_empty : Field := ⟨0x17184, 31, 1, 0⟩
abbrev EST_PART_STATUS_rescaled : Field := ⟨0x17184, 30, 1, 0⟩
abbrev EST_PART_STATUS_converging : Field := ⟨0x17184, 29, 1, 0⟩
abbrev EST_PART_STATUS_rep_soc : Field := ⟨0x17184, 0, 16, 0⟩
-- EST_PART_TRUE (R302)
abbrev EST_PART_TRUE_s_min : Field := ⟨0x17188, 16, 16, 0⟩
abbrev EST_PART_TRUE_true_soc : Field := ⟨0x17188, 0, 16, 0⟩
-- EST_PART_USABLE_LO (R302)
abbrev EST_PART_USABLE_LO_lo : Field := ⟨0x1718C, 0, 32, 0⟩
-- EST_PART_USABLE_HI (R302)
abbrev EST_PART_USABLE_HI_hi : Field := ⟨0x17190, 0, 32, 0⟩
-- EST_PART_CAP_LO (R302)
abbrev EST_PART_CAP_LO_lo : Field := ⟨0x17194, 0, 32, 0⟩
-- EST_PART_CAP_HI (R302)
abbrev EST_PART_CAP_HI_hi : Field := ⟨0x17198, 0, 32, 0⟩
-- EST_PART_SOH (R302)
abbrev EST_PART_SOH_cap_ratio : Field := ⟨0x1719C, 16, 16, 0⟩
abbrev EST_PART_SOH_r_growth : Field := ⟨0x1719C, 0, 16, 0⟩
-- EST_PART_CELLS (R302)
abbrev EST_PART_CELLS_counted : Field := ⟨0x171A0, 0, 22, 0⟩
-- EST_PART_UNCOUNTED (R302)
abbrev EST_PART_UNCOUNTED_uncounted : Field := ⟨0x171A4, 0, 22, 0⟩

-- MEM_STATUS (R325)
abbrev MEM_STATUS_map_valid : Field := ⟨0x18100, 31, 1, 0⟩
abbrev MEM_STATUS_map_lost : Field := ⟨0x18100, 30, 1, 0⟩
abbrev MEM_STATUS_channels : Field := ⟨0x18100, 16, 5, 0⟩
abbrev MEM_STATUS_qualified : Field := ⟨0x18100, 0, 16, 0⟩
-- MEM_USABLE (R325)
abbrev MEM_USABLE_mib : Field := ⟨0x18104, 0, 22, 0⟩
-- MEM_HOST_BASE (R325)
abbrev MEM_HOST_BASE_gib : Field := ⟨0x18108, 0, 11, 0⟩
-- MEM_HOST_SIZE (R325)
abbrev MEM_HOST_SIZE_gib : Field := ⟨0x1810C, 0, 12, 0⟩
-- MEM_LADLE_CFG (R325)
abbrev MEM_LADLE_CFG_age_us : Field := ⟨0x18110, 16, 16, 10⟩
abbrev MEM_LADLE_CFG_threshold : Field := ⟨0x18110, 0, 7, 48⟩
-- MEM_SCRUB_BASE (R325)
abbrev MEM_SCRUB_BASE_mib : Field := ⟨0x18114, 0, 22, 0⟩
-- MEM_SCRUB_LEN (R325)
abbrev MEM_SCRUB_LEN_mib : Field := ⟨0x18118, 0, 22, 2097152⟩
-- MEM_SCRUB_CFG (R325)
abbrev MEM_SCRUB_CFG_hours : Field := ⟨0x1811C, 8, 8, 24⟩
abbrev MEM_SCRUB_CFG_hib_pause : Field := ⟨0x1811C, 0, 1, 1⟩
-- MEM_ARB (R325)
abbrev MEM_ARB_w_e : Field := ⟨0x18120, 16, 8, 8⟩
abbrev MEM_ARB_w_f : Field := ⟨0x18120, 8, 8, 4⟩
abbrev MEM_ARB_w_h : Field := ⟨0x18120, 0, 8, 4⟩
-- MEM_OVERLAP (R325)
abbrev MEM_OVERLAP_region : Field := ⟨0x18124, 0, 5, 0⟩
-- MEM_OOR_DROPS (R325)
abbrev MEM_OOR_DROPS_sat : Field := ⟨0x18128, 31, 1, 0⟩
abbrev MEM_OOR_DROPS_count : Field := ⟨0x18128, 0, 31, 0⟩
-- MEM_ZERO_BASE (R325)
abbrev MEM_ZERO_BASE_units : Field := ⟨0x1812C, 0, 19, 0⟩
-- MEM_ZERO_LEN (R325)
abbrev MEM_ZERO_LEN_units : Field := ⟨0x18130, 0, 19, 0⟩

-- MEMC_STATUS (R327)
abbrev MEMC_STATUS_present : Field := ⟨0x30100, 31, 1, 0⟩
abbrev MEMC_STATUS_trained : Field := ⟨0x30100, 30, 1, 0⟩
abbrev MEMC_STATUS_in_map : Field := ⟨0x30100, 29, 1, 0⟩
abbrev MEMC_STATUS_contained : Field := ⟨0x30100, 28, 1, 0⟩
abbrev MEMC_STATUS_self_refresh : Field := ⟨0x30100, 27, 1, 0⟩
abbrev MEMC_STATUS_capacity : Field := ⟨0x30100, 16, 8, 0⟩
abbrev MEMC_STATUS_ranks : Field := ⟨0x30100, 13, 1, 0⟩
abbrev MEMC_STATUS_density : Field := ⟨0x30100, 12, 1, 0⟩
abbrev MEMC_STATUS_rate : Field := ⟨0x30100, 10, 2, 0⟩
-- MEMC_SERIAL (R327)
abbrev MEMC_SERIAL_serial : Field := ⟨0x30104, 0, 32, 0⟩
-- MEMC_MARK (R327)
abbrev MEMC_MARK_marked : Field := ⟨0x30108, 7, 1, 0⟩
abbrev MEMC_MARK_device : Field := ⟨0x30108, 0, 4, 0⟩
-- MEMC_MARK_CFG (R327)
abbrev MEMC_MARK_CFG_thresh : Field := ⟨0x3010C, 16, 16, 16⟩
abbrev MEMC_MARK_CFG_decay : Field := ⟨0x3010C, 8, 8, 24⟩
abbrev MEMC_MARK_CFG_second : Field := ⟨0x3010C, 0, 8, 8⟩
-- MEMC_CORR (R327)
abbrev MEMC_CORR_count : Field := ⟨0x30110, 0, 32, 0⟩
-- MEMC_ERASE (R327)
abbrev MEMC_ERASE_count : Field := ⟨0x30114, 0, 32, 0⟩
-- MEMC_UNCORR (R327)
abbrev MEMC_UNCORR_count : Field := ⟨0x30118, 0, 32, 0⟩
-- MEMC_POISON_READS (R327)
abbrev MEMC_POISON_READS_count : Field := ⟨0x3011C, 0, 32, 0⟩
-- MEMC_HEALED (R327)
abbrev MEMC_HEALED_count : Field := ⟨0x30120, 0, 32, 0⟩
-- MEMC_POISON_MERGE (R327)
abbrev MEMC_POISON_MERGE_count : Field := ⟨0x30124, 0, 32, 0⟩
-- MEMC_WR_DROPS (R327)
abbrev MEMC_WR_DROPS_count : Field := ⟨0x30128, 0, 32, 0⟩
-- MEMC_SCRUB_CORR (R327)
abbrev MEMC_SCRUB_CORR_count : Field := ⟨0x3012C, 0, 32, 0⟩
-- MEMC_REPAIRS (R327)
abbrev MEMC_REPAIRS_count : Field := ⟨0x30130, 0, 32, 0⟩
-- MEMC_SAT (R327)
abbrev MEMC_SAT_flags : Field := ⟨0x30134, 0, 9, 0⟩
-- MEMC_VALID_LINES (R327)
abbrev MEMC_VALID_LINES_count : Field := ⟨0x30138, 0, 32, 0⟩
-- MEMC_SCRUB_POS (R327)
abbrev MEMC_SCRUB_POS_line : Field := ⟨0x3013C, 0, 32, 0⟩
-- MEMC_SCRUB_PASS (R327)
abbrev MEMC_SCRUB_PASS_passes : Field := ⟨0x30140, 16, 16, 0⟩
abbrev MEMC_SCRUB_PASS_minutes : Field := ⟨0x30140, 0, 16, 0⟩
-- MEMC_LAST_ERR_LO (R327)
abbrev MEMC_LAST_ERR_LO_addr_lo : Field := ⟨0x30144, 0, 32, 0⟩
-- MEMC_LAST_ERR_HI (R327)
abbrev MEMC_LAST_ERR_HI_addr_hi : Field := ⟨0x30148, 0, 12, 0⟩
-- MEMC_LAST_ERR (R327)
abbrev MEMC_LAST_ERR_kind : Field := ⟨0x3014C, 30, 2, 0⟩
abbrev MEMC_LAST_ERR_q : Field := ⟨0x3014C, 4, 2, 0⟩
abbrev MEMC_LAST_ERR_device : Field := ⟨0x3014C, 0, 4, 0⟩
-- MEMC_BLAME (R327)
abbrev MEMC_BLAME_odd : Field := ⟨0x30180, 16, 16, 0⟩
abbrev MEMC_BLAME_even : Field := ⟨0x30180, 0, 16, 0⟩

-- FLR_CFG (R333)
abbrev FLR_CFG_en : Field := ⟨0x19100, 31, 1, 0⟩
abbrev FLR_CFG_decimate : Field := ⟨0x19100, 0, 16, 1⟩
-- FLR_BASE (R333)
abbrev FLR_BASE_gib : Field := ⟨0x19104, 0, 11, 0⟩
-- FLR_SIZE (R333)
abbrev FLR_SIZE_gib : Field := ⟨0x19108, 0, 11, 0⟩
-- FLR_LANES_N (R333)
abbrev FLR_LANES_N_count : Field := ⟨0x1910C, 0, 6, 0⟩
-- FLR_LANE (R333)
abbrev FLR_LANE_odd : Field := ⟨0x19110, 16, 9, 0⟩
abbrev FLR_LANE_even : Field := ⟨0x19110, 0, 9, 0⟩
-- FLR_TRIG_CFG (R333)
abbrev FLR_TRIG_CFG_class_en : Field := ⟨0x19150, 31, 1, 0⟩
abbrev FLR_TRIG_CFG_min_class : Field := ⟨0x19150, 28, 3, 4⟩
abbrev FLR_TRIG_CFG_source_en : Field := ⟨0x19150, 27, 1, 0⟩
abbrev FLR_TRIG_CFG_lane_en : Field := ⟨0x19150, 26, 1, 0⟩
abbrev FLR_TRIG_CFG_posture_en : Field := ⟨0x19150, 25, 1, 0⟩
abbrev FLR_TRIG_CFG_source : Field := ⟨0x19150, 0, 16, 0⟩
-- FLR_POST (R333)
abbrev FLR_POST_frames : Field := ⟨0x19154, 0, 32, 0⟩
-- FLR_STATUS (R333)
abbrev FLR_STATUS_state : Field := ⟨0x19158, 0, 2, 0⟩
-- FLR_SLOTS (R333)
abbrev FLR_SLOTS_slots : Field := ⟨0x1915C, 0, 32, 0⟩
-- FLR_WR_SLOT (R333)
abbrev FLR_WR_SLOT_slot : Field := ⟨0x19160, 0, 32, 0⟩
-- FLR_FIRST_SLOT (R333)
abbrev FLR_FIRST_SLOT_slot : Field := ⟨0x19164, 0, 32, 0⟩
-- FLR_TRIG_FRAME_LO (R333)
abbrev FLR_TRIG_FRAME_LO_lo : Field := ⟨0x19168, 0, 32, 0⟩
-- FLR_TRIG_FRAME_HI (R333)
abbrev FLR_TRIG_FRAME_HI_hi : Field := ⟨0x1916C, 0, 16, 0⟩
-- FLR_TRIG_CAUSE (R333)
abbrev FLR_TRIG_CAUSE_source : Field := ⟨0x19170, 16, 16, 0⟩
abbrev FLR_TRIG_CAUSE_cause : Field := ⟨0x19170, 0, 3, 0⟩
-- FLR_DROPS (R333)
abbrev FLR_DROPS_sat : Field := ⟨0x19174, 31, 1, 0⟩
abbrev FLR_DROPS_count : Field := ⟨0x19174, 0, 31, 0⟩

-- LDG_STATUS (R367)
abbrev LDG_STATUS_ident_ok : Field := ⟨0x12100, 31, 1, 0⟩
abbrev LDG_STATUS_cert_loaded : Field := ⟨0x12100, 30, 1, 0⟩
abbrev LDG_STATUS_coalescing : Field := ⟨0x12100, 29, 1, 0⟩
abbrev LDG_STATUS_reserve : Field := ⟨0x12100, 28, 1, 0⟩
abbrev LDG_STATUS_trng_ok : Field := ⟨0x12100, 27, 1, 0⟩
abbrev LDG_STATUS_torn : Field := ⟨0x12100, 26, 1, 0⟩
abbrev LDG_STATUS_full : Field := ⟨0x12100, 25, 1, 0⟩
abbrev LDG_STATUS_seals_pending : Field := ⟨0x12100, 0, 4, 0⟩
-- LDG_HEAD_LO (R367)
abbrev LDG_HEAD_LO_lo : Field := ⟨0x12104, 0, 32, 0⟩
-- LDG_HEAD_HI (R367)
abbrev LDG_HEAD_HI_hi : Field := ⟨0x12108, 0, 32, 0⟩
-- LDG_SEAL_LO (R367)
abbrev LDG_SEAL_LO_lo : Field := ⟨0x1210C, 0, 32, 0⟩
-- LDG_SEAL_HI (R367)
abbrev LDG_SEAL_HI_hi : Field := ⟨0x12110, 0, 32, 0⟩
-- LDG_ACK_LO (R367)
abbrev LDG_ACK_LO_lo : Field := ⟨0x12114, 0, 32, 0⟩
-- LDG_ACK_HI (R367)
abbrev LDG_ACK_HI_hi : Field := ⟨0x12118, 0, 32, 0⟩
-- LDG_UNACKED (R367)
abbrev LDG_UNACKED_count : Field := ⟨0x1211C, 0, 18, 0⟩
-- LDG_BOOT (R367)
abbrev LDG_BOOT_count : Field := ⟨0x12120, 0, 32, 0⟩
-- LDG_FULL_REFUSALS (R367)
abbrev LDG_FULL_REFUSALS_sat : Field := ⟨0x12124, 31, 1, 0⟩
abbrev LDG_FULL_REFUSALS_count : Field := ⟨0x12124, 0, 31, 0⟩
-- LDG_KEY_GEN (R367)
abbrev LDG_KEY_GEN_gen_b : Field := ⟨0x12128, 8, 8, 0⟩
abbrev LDG_KEY_GEN_gen_a : Field := ⟨0x12128, 0, 8, 0⟩
-- LDG_ACK_ARG_LO (R367)
abbrev LDG_ACK_ARG_LO_lo : Field := ⟨0x12130, 0, 32, 0⟩
-- LDG_ACK_ARG_HI (R367)
abbrev LDG_ACK_ARG_HI_hi : Field := ⟨0x12134, 0, 32, 0⟩
-- LDG_NONCE_IN (R367)
abbrev LDG_NONCE_IN_data : Field := ⟨0x12140, 0, 32, 0⟩
-- LDG_OUT_STATUS (R367)
abbrev LDG_OUT_STATUS_kind : Field := ⟨0x12180, 8, 2, 0⟩
abbrev LDG_OUT_STATUS_state : Field := ⟨0x12180, 0, 2, 0⟩
-- LDG_OUT (R367)
abbrev LDG_OUT_data : Field := ⟨0x12200, 0, 32, 0⟩
-- LDG_CERT_LEN (R367)
abbrev LDG_CERT_LEN_bytes : Field := ⟨0x12400, 0, 13, 0⟩
-- LDG_CERT_SEL (R367)
abbrev LDG_CERT_SEL_part : Field := ⟨0x12404, 0, 2, 0⟩
-- LDG_CERT_DATA (R367)
abbrev LDG_CERT_DATA_data : Field := ⟨0x12800, 0, 32, 0⟩
-- LDG_DEVKEY (R367)
abbrev LDG_DEVKEY_data : Field := ⟨0x12C00, 0, 32, 0⟩
-- LDG_DEVKEY_ID (R367)
abbrev LDG_DEVKEY_ID_data : Field := ⟨0x12C80, 0, 32, 0⟩

-- MTR_STATUS (R370)
abbrev MTR_STATUS_no_spare : Field := ⟨0x13100, 31, 1, 0⟩
abbrev MTR_STATUS_rotating : Field := ⟨0x13100, 30, 1, 0⟩
abbrev MTR_STATUS_spare : Field := ⟨0x13100, 24, 6, 40⟩
abbrev MTR_STATUS_cal_channel : Field := ⟨0x13100, 16, 6, 0⟩
abbrev MTR_STATUS_retired : Field := ⟨0x13100, 0, 8, 0⟩
-- MTR_REC_CFG (R370)
abbrev MTR_REC_CFG_summary : Field := ⟨0x13104, 24, 8, 96⟩
abbrev MTR_REC_CFG_interval : Field := ⟨0x13104, 0, 11, 15⟩
-- MTR_DISC_CFG (R370)
abbrev MTR_DISC_CFG_eff_hi : Field := ⟨0x13108, 16, 16, 32932⟩
abbrev MTR_DISC_CFG_eff_lo : Field := ⟨0x13108, 0, 16, 31785⟩
-- MTR_DISC_WIN (R370)
abbrev MTR_DISC_WIN_window : Field := ⟨0x1310C, 16, 16, 60⟩
abbrev MTR_DISC_WIN_e_min : Field := ⟨0x1310C, 0, 16, 100⟩
-- MTR_CAL_CFG (R370)
abbrev MTR_CAL_CFG_cal_tol : Field := ⟨0x13110, 16, 16, 64⟩
abbrev MTR_CAL_CFG_period : Field := ⟨0x13110, 0, 16, 15⟩
-- MTR_CAL_REJECTS (R370)
abbrev MTR_CAL_REJECTS_sat : Field := ⟨0x13114, 31, 1, 0⟩
abbrev MTR_CAL_REJECTS_count : Field := ⟨0x13114, 0, 31, 0⟩
-- MTR_CH_SEL (R370)
abbrev MTR_CH_SEL_ch : Field := ⟨0x13118, 0, 6, 0⟩
-- MTR_CH_GAIN (R370)
abbrev MTR_CH_GAIN_gain : Field := ⟨0x1311C, 0, 32, 65536⟩
-- MTR_CH_OFFSET (R370)
abbrev MTR_CH_OFFSET_offset : Field := ⟨0x13120, 0, 24, 0⟩
-- MTR_CH_CODE (R370)
abbrev MTR_CH_CODE_ovr : Field := ⟨0x13124, 31, 1, 0⟩
abbrev MTR_CH_CODE_settling : Field := ⟨0x13124, 30, 1, 0⟩
abbrev MTR_CH_CODE_code : Field := ⟨0x13124, 0, 24, 0⟩
-- MTR_CH_VALUE (R370)
abbrev MTR_CH_VALUE_value : Field := ⟨0x13128, 0, 32, 0⟩
-- MTR_CH_INFO (R370)
abbrev MTR_CH_INFO_clips : Field := ⟨0x1312C, 16, 16, 0⟩
abbrev MTR_CH_INFO_modulator : Field := ⟨0x1312C, 0, 6, 0⟩
-- MTR_BANK_SEL (R370)
abbrev MTR_BANK_SEL_bank : Field := ⟨0x13140, 0, 4, 0⟩
-- MTR_BANK_EOUT_LO (R370)
abbrev MTR_BANK_EOUT_LO_lo : Field := ⟨0x13144, 0, 32, 0⟩
-- MTR_BANK_EOUT_HI (R370)
abbrev MTR_BANK_EOUT_HI_hi : Field := ⟨0x13148, 0, 32, 0⟩
-- MTR_BANK_EIN_LO (R370)
abbrev MTR_BANK_EIN_LO_lo : Field := ⟨0x1314C, 0, 32, 0⟩
-- MTR_BANK_EIN_HI (R370)
abbrev MTR_BANK_EIN_HI_hi : Field := ⟨0x13150, 0, 32, 0⟩
-- MTR_BANK_FLAGS (R370)
abbrev MTR_BANK_FLAGS_eta_out : Field := ⟨0x13154, 16, 16, 0⟩
abbrev MTR_BANK_FLAGS_unattributed : Field := ⟨0x13154, 2, 1, 0⟩
abbrev MTR_BANK_FLAGS_discrepancy : Field := ⟨0x13154, 1, 1, 0⟩
abbrev MTR_BANK_FLAGS_clipped : Field := ⟨0x13154, 0, 1, 0⟩
-- MTR_UNIT_SEL (R370)
abbrev MTR_UNIT_SEL_unit : Field := ⟨0x13160, 0, 12, 0⟩
-- MTR_UNIT_STATUS (R370)
abbrev MTR_UNIT_STATUS_defined : Field := ⟨0x13164, 31, 1, 0⟩
abbrev MTR_UNIT_STATUS_ranges : Field := ⟨0x13164, 22, 7, 0⟩
abbrev MTR_UNIT_STATUS_cells : Field := ⟨0x13164, 0, 22, 0⟩
-- MTR_UNIT_EOUT_LO (R370)
abbrev MTR_UNIT_EOUT_LO_lo : Field := ⟨0x13168, 0, 32, 0⟩
-- MTR_UNIT_EOUT_HI (R370)
abbrev MTR_UNIT_EOUT_HI_hi : Field := ⟨0x1316C, 0, 32, 0⟩
-- MTR_UNIT_EIN_LO (R370)
abbrev MTR_UNIT_EIN_LO_lo : Field := ⟨0x13170, 0, 32, 0⟩
-- MTR_UNIT_EIN_HI (R370)
abbrev MTR_UNIT_EIN_HI_hi : Field := ⟨0x13174, 0, 32, 0⟩
-- MTR_UNIT_THRU_LO (R370)
abbrev MTR_UNIT_THRU_LO_lo : Field := ⟨0x13178, 0, 32, 0⟩
-- MTR_UNIT_THRU_HI (R370)
abbrev MTR_UNIT_THRU_HI_hi : Field := ⟨0x1317C, 0, 32, 0⟩
-- MTR_UNIT_EFC (R370)
abbrev MTR_UNIT_EFC_efc : Field := ⟨0x13180, 0, 32, 0⟩
-- MTR_UNLEASED_EOUT_LO (R370)
abbrev MTR_UNLEASED_EOUT_LO_lo : Field := ⟨0x13190, 0, 32, 0⟩
-- MTR_UNLEASED_EOUT_HI (R370)
abbrev MTR_UNLEASED_EOUT_HI_hi : Field := ⟨0x13194, 0, 32, 0⟩
-- MTR_UNLEASED_EIN_LO (R370)
abbrev MTR_UNLEASED_EIN_LO_lo : Field := ⟨0x13198, 0, 32, 0⟩
-- MTR_UNLEASED_EIN_HI (R370)
abbrev MTR_UNLEASED_EIN_HI_hi : Field := ⟨0x1319C, 0, 32, 0⟩

-- TWN_CFG (R395)
abbrev TWN_CFG_pref_role : Field := ⟨0x11100, 16, 1, 0⟩
abbrev TWN_CFG_pair_wait : Field := ⟨0x11100, 8, 8, 0⟩
abbrev TWN_CFG_en : Field := ⟨0x11100, 0, 1, 0⟩
-- TWN_STATUS (R395)
abbrev TWN_STATUS_role : Field := ⟨0x11104, 31, 1, 1⟩
abbrev TWN_STATUS_pair_state : Field := ⟨0x11104, 28, 3, 0⟩
abbrev TWN_STATUS_mismatch : Field := ⟨0x11104, 27, 1, 0⟩
abbrev TWN_STATUS_no_ident : Field := ⟨0x11104, 26, 1, 0⟩
abbrev TWN_STATUS_no_takeover : Field := ⟨0x11104, 25, 1, 0⟩
abbrev TWN_STATUS_lanes : Field := ⟨0x11104, 20, 4, 0⟩
abbrev TWN_STATUS_missed : Field := ⟨0x11104, 8, 8, 0⟩
-- TWN_PARTNER_EPOCH (R395)
abbrev TWN_PARTNER_EPOCH_epoch : Field := ⟨0x11108, 0, 16, 0⟩
-- TWN_CFG_SEQ_LO (R395)
abbrev TWN_CFG_SEQ_LO_lo : Field := ⟨0x1110C, 0, 32, 0⟩
-- TWN_CFG_SEQ_HI (R395)
abbrev TWN_CFG_SEQ_HI_hi : Field := ⟨0x11110, 0, 32, 0⟩
-- TWN_SNAP_STATUS (R395)
abbrev TWN_SNAP_STATUS_drops : Field := ⟨0x11114, 16, 16, 0⟩
abbrev TWN_SNAP_STATUS_age : Field := ⟨0x11114, 0, 16, 0⟩
-- TWN_SNAP_FRAME_LO (R395)
abbrev TWN_SNAP_FRAME_LO_lo : Field := ⟨0x11118, 0, 32, 0⟩
-- TWN_SNAP_FRAME_HI (R395)
abbrev TWN_SNAP_FRAME_HI_hi : Field := ⟨0x1111C, 0, 16, 0⟩
-- TWN_STBY_WRITES (R395)
abbrev TWN_STBY_WRITES_sat : Field := ⟨0x11120, 31, 1, 0⟩
abbrev TWN_STBY_WRITES_count : Field := ⟨0x11120, 0, 31, 0⟩
-- TWN_TAKEOVERS (R395)
abbrev TWN_TAKEOVERS_sat : Field := ⟨0x11124, 31, 1, 0⟩
abbrev TWN_TAKEOVERS_count : Field := ⟨0x11124, 0, 31, 0⟩
-- TWN_SPLIT (R395)
abbrev TWN_SPLIT_sat : Field := ⟨0x11128, 31, 1, 0⟩
abbrev TWN_SPLIT_count : Field := ⟨0x11128, 0, 31, 0⟩
-- TWN_XSIGN (R395)
abbrev TWN_XSIGN_queued : Field := ⟨0x1112C, 24, 8, 0⟩
abbrev TWN_XSIGN_dropped : Field := ⟨0x1112C, 16, 8, 0⟩
abbrev TWN_XSIGN_failures : Field := ⟨0x1112C, 0, 16, 0⟩
-- TWN_PEER_IRQ (R395)
abbrev TWN_PEER_IRQ_count : Field := ⟨0x11130, 16, 16, 0⟩
abbrev TWN_PEER_IRQ_source : Field := ⟨0x11130, 0, 10, 0⟩
-- TWN_PARTNER_ID (R395)
abbrev TWN_PARTNER_ID_data : Field := ⟨0x11140, 0, 32, 0⟩

-- RTC_STATUS (R420)
abbrev RTC_STATUS_osc_stopped : Field := ⟨0x8100, 31, 1, 1⟩
abbrev RTC_STATUS_osc_running : Field := ⟨0x8100, 30, 1, 0⟩
abbrev RTC_STATUS_set_pending : Field := ⟨0x8100, 29, 1, 0⟩
abbrev RTC_STATUS_epoch_unset : Field := ⟨0x8100, 28, 1, 1⟩
-- RTC_TICK_LO (R420)
abbrev RTC_TICK_LO_tick_lo : Field := ⟨0x8104, 0, 32, 0⟩
-- RTC_TICK_HI (R420)
abbrev RTC_TICK_HI_epoch : Field := ⟨0x8108, 16, 16, 0⟩
abbrev RTC_TICK_HI_tick_hi : Field := ⟨0x8108, 0, 16, 0⟩
-- RTC_SET_LO (R420)
abbrev RTC_SET_LO_tick_lo : Field := ⟨0x810C, 0, 32, 0⟩
-- RTC_SET_HI (R420)
abbrev RTC_SET_HI_tick_hi : Field := ⟨0x8110, 0, 16, 0⟩
-- RTC_TRIM (R420)
abbrev RTC_TRIM_ppb : Field := ⟨0x8114, 0, 32, 0⟩
-- RTC_TRIM_CFG (R420)
abbrev RTC_TRIM_CFG_auto_apply : Field := ⟨0x8118, 31, 1, 0⟩
abbrev RTC_TRIM_CFG_g : Field := ⟨0x8118, 24, 4, 14⟩
abbrev RTC_TRIM_CFG_gv : Field := ⟨0x8118, 8, 2, 0⟩
abbrev RTC_TRIM_CFG_f60 : Field := ⟨0x8118, 2, 1, 0⟩
abbrev RTC_TRIM_CFG_src : Field := ⟨0x8118, 0, 2, 0⟩
-- RTC_TRIM_MEAS (R420)
abbrev RTC_TRIM_MEAS_ppb : Field := ⟨0x811C, 0, 32, 0⟩
-- RTC_TRIM_STATUS (R420)
abbrev RTC_TRIM_STATUS_valid : Field := ⟨0x8120, 31, 1, 0⟩
abbrev RTC_TRIM_STATUS_running : Field := ⟨0x8120, 30, 1, 0⟩
abbrev RTC_TRIM_STATUS_aborts : Field := ⟨0x8120, 8, 8, 0⟩
abbrev RTC_TRIM_STATUS_completed : Field := ⟨0x8120, 0, 8, 0⟩
-- RTC_SQW (R420)
abbrev RTC_SQW_en : Field := ⟨0x8124, 2, 1, 0⟩
abbrev RTC_SQW_freq : Field := ⟨0x8124, 0, 2, 0⟩
-- RTC_TRICKLE (R420)
abbrev RTC_TRICKLE_en : Field := ⟨0x8128, 31, 1, 0⟩
abbrev RTC_TRICKLE_float : Field := ⟨0x8128, 8, 1, 0⟩
abbrev RTC_TRICKLE_current : Field := ⟨0x8128, 0, 8, 0⟩
-- RTC_ALM_LO (R420)
abbrev RTC_ALM_LO_value_lo : Field := ⟨0x8130, 0, 32, 0⟩
-- RTC_ALM_HI (R420)
abbrev RTC_ALM_HI_arm : Field := ⟨0x8134, 31, 1, 0⟩
abbrev RTC_ALM_HI_fired : Field := ⟨0x8134, 30, 1, 0⟩
abbrev RTC_ALM_HI_lost : Field := ⟨0x8134, 29, 1, 0⟩
abbrev RTC_ALM_HI_wake : Field := ⟨0x8134, 28, 1, 0⟩
abbrev RTC_ALM_HI_value_hi : Field := ⟨0x8134, 0, 16, 0⟩
-- RTC_ALM_PERIOD (R420)
abbrev RTC_ALM_PERIOD_ticks : Field := ⟨0x8138, 0, 32, 0⟩
-- RTC_ALM_EPOCH (R420)
abbrev RTC_ALM_EPOCH_epoch : Field := ⟨0x813C, 0, 16, 0⟩
-- RTC_SWITCH (R420)
abbrev RTC_SWITCH_armed : Field := ⟨0x8150, 31, 1, 0⟩
abbrev RTC_SWITCH_stamped : Field := ⟨0x8150, 30, 1, 0⟩
abbrev RTC_SWITCH_vbus_present : Field := ⟨0x8150, 29, 1, 0⟩
abbrev RTC_SWITCH_epoch : Field := ⟨0x8150, 0, 16, 0⟩
-- RTC_SWITCH_TICK_LO (R420)
abbrev RTC_SWITCH_TICK_LO_lo : Field := ⟨0x8154, 0, 32, 0⟩
-- RTC_SWITCH_TICK_HI (R420)
abbrev RTC_SWITCH_TICK_HI_hi : Field := ⟨0x8158, 0, 16, 0⟩
-- RTC_SWITCH_COUNT (R420)
abbrev RTC_SWITCH_COUNT_count : Field := ⟨0x815C, 0, 32, 0⟩
-- RTC_STOPS (R420)
abbrev RTC_STOPS_count : Field := ⟨0x8160, 0, 32, 0⟩
-- RTC_SCRATCH (R420)
abbrev RTC_SCRATCH_data : Field := ⟨0x8180, 0, 32, 0⟩

-- PWR_STATUS (R437)
abbrev PWR_STATUS_vin_ok : Field := ⟨0x9100, 31, 1, 0⟩
abbrev PWR_STATUS_vbus_ok : Field := ⟨0x9100, 30, 1, 0⟩
abbrev PWR_STATUS_batteryless : Field := ⟨0x9100, 29, 1, 0⟩
abbrev PWR_STATUS_warning : Field := ⟨0x9100, 28, 1, 0⟩
abbrev PWR_STATUS_th_ok : Field := ⟨0x9100, 27, 1, 0⟩
abbrev PWR_STATUS_restrictive : Field := ⟨0x9100, 26, 1, 0⟩
abbrev PWR_STATUS_shorted_seen : Field := ⟨0x9100, 25, 1, 0⟩
abbrev PWR_STATUS_collapse_seen : Field := ⟨0x9100, 24, 1, 0⟩
abbrev PWR_STATUS_stop_cause : Field := ⟨0x9100, 16, 4, 0⟩
abbrev PWR_STATUS_source : Field := ⟨0x9100, 8, 2, 0⟩
abbrev PWR_STATUS_chg_state : Field := ⟨0x9100, 0, 4, 0⟩
-- PWR_VIN (R437)
abbrev PWR_VIN_mv : Field := ⟨0x9104, 0, 16, 0⟩
-- PWR_NODE (R437)
abbrev PWR_NODE_i_cell : Field := ⟨0x9108, 16, 16, 0⟩
abbrev PWR_NODE_mv : Field := ⟨0x9108, 0, 16, 0⟩
-- PWR_VBUS (R437)
abbrev PWR_VBUS_i_in : Field := ⟨0x910C, 16, 16, 0⟩
abbrev PWR_VBUS_mv : Field := ⟨0x910C, 0, 16, 0⟩
-- PWR_CELL_T (R437)
abbrev PWR_CELL_T_t : Field := ⟨0x9110, 0, 16, 32768⟩
-- PWR_CHG_CFG (R437)
abbrev PWR_CHG_CFG_en : Field := ⟨0x9114, 31, 1, 0⟩
abbrev PWR_CHG_CFG_float : Field := ⟨0x9114, 30, 1, 0⟩
abbrev PWR_CHG_CFG_i_term : Field := ⟨0x9114, 16, 8, 10⟩
abbrev PWR_CHG_CFG_timer_h : Field := ⟨0x9114, 8, 8, 8⟩
abbrev PWR_CHG_CFG_i_chg : Field := ⟨0x9114, 0, 8, 50⟩
-- PWR_CHG_REG (R437)
abbrev PWR_CHG_REG_t_reg : Field := ⟨0x9118, 24, 8, 100⟩
abbrev PWR_CHG_REG_vin_reg : Field := ⟨0x9118, 16, 8, 88⟩
abbrev PWR_CHG_REG_i_in_lim : Field := ⟨0x9118, 0, 16, 2500⟩
-- PWR_CHG_TIMER (R437)
abbrev PWR_CHG_TIMER_half_speed : Field := ⟨0x911C, 31, 1, 0⟩
abbrev PWR_CHG_TIMER_running : Field := ⟨0x911C, 30, 1, 0⟩
abbrev PWR_CHG_TIMER_count : Field := ⟨0x911C, 0, 16, 0⟩
-- PWR_WARN_CFG (R437)
abbrev PWR_WARN_CFG_v_warn : Field := ⟨0x9120, 0, 16, 3200⟩
-- PWR_VIN_LOSSES (R437)
abbrev PWR_VIN_LOSSES_sat : Field := ⟨0x9124, 31, 1, 0⟩
abbrev PWR_VIN_LOSSES_count : Field := ⟨0x9124, 0, 31, 0⟩
-- PWR_COLLAPSES (R437)
abbrev PWR_COLLAPSES_sat : Field := ⟨0x9128, 31, 1, 0⟩
abbrev PWR_COLLAPSES_count : Field := ⟨0x9128, 0, 31, 0⟩
-- PWR_PULSE (R437)
abbrev PWR_PULSE_rise : Field := ⟨0x912C, 16, 16, 0⟩
abbrev PWR_PULSE_tests : Field := ⟨0x912C, 0, 16, 0⟩
-- PWR_PSTATE (R555)
abbrev PWR_PSTATE_cold_cause : Field := ⟨0x9140, 12, 4, 0⟩
abbrev PWR_PSTATE_collapse_block : Field := ⟨0x9140, 11, 1, 0⟩
abbrev PWR_PSTATE_sd_wait : Field := ⟨0x9140, 10, 1, 0⟩
abbrev PWR_PSTATE_up_pending : Field := ⟨0x9140, 9, 1, 0⟩
abbrev PWR_PSTATE_hub_up : Field := ⟨0x9140, 8, 1, 0⟩
abbrev PWR_PSTATE_state : Field := ⟨0x9140, 0, 4, 2⟩
-- PWR_PS_CFG (R555)
abbrev PWR_PS_CFG_hib_recipes : Field := ⟨0x9144, 1, 1, 0⟩
abbrev PWR_PS_CFG_auto_up : Field := ⟨0x9144, 0, 1, 0⟩
-- PWR_PS_LAST_UP (R555)
abbrev PWR_PS_LAST_UP_ms : Field := ⟨0x9148, 0, 16, 0⟩
-- PWR_PS_CHANGES (R555)
abbrev PWR_PS_CHANGES_sat : Field := ⟨0x914C, 31, 1, 0⟩
abbrev PWR_PS_CHANGES_count : Field := ⟨0x914C, 0, 31, 0⟩

-- BRN_CFG (R460)
abbrev BRN_CFG_adapt_en : Field := ⟨0xB100, 20, 1, 0⟩
abbrev BRN_CFG_shed_en : Field := ⟨0xB100, 19, 1, 1⟩
abbrev BRN_CFG_cur_eq : Field := ⟨0xB100, 18, 1, 0⟩
abbrev BRN_CFG_clk_src : Field := ⟨0xB100, 17, 1, 0⟩
abbrev BRN_CFG_fsw : Field := ⟨0xB100, 0, 16, 500⟩
-- BRN_STATUS (R460)
abbrev BRN_STATUS_state : Field := ⟨0xB104, 29, 3, 0⟩
abbrev BRN_STATUS_pg : Field := ⟨0xB104, 28, 1, 0⟩
abbrev BRN_STATUS_limiting : Field := ⟨0xB104, 27, 1, 0⟩
abbrev BRN_STATUS_truncating : Field := ⟨0xB104, 26, 1, 0⟩
abbrev BRN_STATUS_adapting : Field := ⟨0xB104, 25, 1, 0⟩
abbrev BRN_STATUS_active : Field := ⟨0xB104, 20, 5, 0⟩
abbrev BRN_STATUS_hiccups : Field := ⟨0xB104, 16, 4, 0⟩
-- BRN_VID (R460)
abbrev BRN_VID_target : Field := ⟨0xB108, 16, 9, 0⟩
abbrev BRN_VID_code_now : Field := ⟨0xB108, 0, 9, 0⟩
-- BRN_SLEW (R460)
abbrev BRN_SLEW_rate : Field := ⟨0xB10C, 0, 8, 8⟩
-- BRN_PHASES (R460)
abbrev BRN_PHASES_min_phases : Field := ⟨0xB110, 16, 4, 1⟩
abbrev BRN_PHASES_populated : Field := ⟨0xB110, 0, 16, 0⟩
-- BRN_ILIM (R460)
abbrev BRN_ILIM_i_shed : Field := ⟨0xB114, 16, 8, 30⟩
abbrev BRN_ILIM_i_lim : Field := ⟨0xB114, 0, 8, 40⟩
-- BRN_HICCUP (R460)
abbrev BRN_HICCUP_retries : Field := ⟨0xB118, 28, 4, 3⟩
abbrev BRN_HICCUP_t_hiccup : Field := ⟨0xB118, 16, 8, 20⟩
abbrev BRN_HICCUP_n_cyc : Field := ⟨0xB118, 0, 8, 32⟩
-- BRN_PROT (R460)
abbrev BRN_PROT_pg_win : Field := ⟨0xB11C, 24, 8, 30⟩
abbrev BRN_PROT_ovs : Field := ⟨0xB11C, 16, 8, 50⟩
abbrev BRN_PROT_t_phase_max : Field := ⟨0xB11C, 8, 8, 115⟩
-- BRN_COMP (R460)
abbrev BRN_COMP_kd : Field := ⟨0xB120, 16, 8, 64⟩
abbrev BRN_COMP_ki : Field := ⟨0xB120, 8, 8, 4⟩
abbrev BRN_COMP_kp : Field := ⟨0xB120, 0, 8, 32⟩
-- BRN_ADAPT (R460)
abbrev BRN_ADAPT_band : Field := ⟨0xB124, 8, 8, 10⟩
abbrev BRN_ADAPT_margin : Field := ⟨0xB124, 0, 8, 50⟩
-- BRN_ADAPT_LIM (R460)
abbrev BRN_ADAPT_LIM_ceiling : Field := ⟨0xB128, 16, 9, 320⟩
abbrev BRN_ADAPT_LIM_floor : Field := ⟨0xB128, 0, 9, 56⟩
-- BRN_OUT (R460)
abbrev BRN_OUT_i_total : Field := ⟨0xB12C, 16, 16, 0⟩
abbrev BRN_OUT_v_out : Field := ⟨0xB12C, 0, 16, 0⟩
-- BRN_TRUNC (R460)
abbrev BRN_TRUNC_sat : Field := ⟨0xB130, 31, 1, 0⟩
abbrev BRN_TRUNC_count : Field := ⟨0xB130, 0, 31, 0⟩
-- BRN_LIMCYC (R460)
abbrev BRN_LIMCYC_sat : Field := ⟨0xB134, 31, 1, 0⟩
abbrev BRN_LIMCYC_count : Field := ⟨0xB134, 0, 31, 0⟩
-- BRN_SCALE (R460)
abbrev BRN_SCALE_imon_gain : Field := ⟨0xB138, 0, 16, 5000⟩
-- BRN_HIST (R460)
abbrev BRN_HIST_phase : Field := ⟨0xB13C, 8, 5, 0⟩
abbrev BRN_HIST_last_stop : Field := ⟨0xB13C, 0, 3, 0⟩
-- BRN_SLACK (R461)
abbrev BRN_SLACK_s_min : Field := ⟨0xB200, 16, 16, 0⟩
abbrev BRN_SLACK_sensor : Field := ⟨0xB200, 0, 7, 0⟩
-- BRN_SLACK_DIES (R461)
abbrev BRN_SLACK_DIES_reporting : Field := ⟨0xB204, 0, 9, 0⟩
-- BRN_PHASE (R461)
abbrev BRN_PHASE_imon : Field := ⟨0xB300, 16, 16, 0⟩
abbrev BRN_PHASE_tmon : Field := ⟨0xB300, 8, 8, 0⟩
abbrev BRN_PHASE_hot : Field := ⟨0xB300, 7, 1, 0⟩
abbrev BRN_PHASE_shed : Field := ⟨0xB300, 6, 1, 0⟩
abbrev BRN_PHASE_limited : Field := ⟨0xB300, 5, 1, 0⟩
abbrev BRN_PHASE_shorted : Field := ⟨0xB300, 4, 1, 0⟩

-- SEQ_ENG_STATUS (R478)
abbrev SEQ_ENG_STATUS_state : Field := ⟨0xA100, 30, 2, 0⟩
abbrev SEQ_ENG_STATUS_recipe : Field := ⟨0xA100, 26, 4, 0⟩
abbrev SEQ_ENG_STATUS_last_end : Field := ⟨0xA100, 23, 3, 0⟩
abbrev SEQ_ENG_STATUS_last_result : Field := ⟨0xA100, 19, 4, 0⟩
abbrev SEQ_ENG_STATUS_pc : Field := ⟨0xA100, 0, 10, 0⟩
-- SEQ_ENG_NOTE (R478)
abbrev SEQ_ENG_NOTE_note : Field := ⟨0xA104, 0, 16, 0⟩
-- SEQ_ENG_WAIT (R478)
abbrev SEQ_ENG_WAIT_us : Field := ⟨0xA108, 0, 28, 0⟩
-- SEQ_ENG_STEP (R478)
abbrev SEQ_ENG_STEP_word : Field := ⟨0xA10C, 0, 32, 0⟩
-- SEQ_ENG_RUNS (R478)
abbrev SEQ_ENG_RUNS_sat : Field := ⟨0xA110, 31, 1, 0⟩
abbrev SEQ_ENG_RUNS_count : Field := ⟨0xA110, 0, 31, 0⟩
-- SEQ_RAIL_ON (R478)
abbrev SEQ_RAIL_ON_on : Field := ⟨0xA140, 0, 32, 0⟩
-- SEQ_RAIL_GOOD (R478)
abbrev SEQ_RAIL_GOOD_good : Field := ⟨0xA150, 0, 32, 0⟩
-- SEQ_SHED (R478)
abbrev SEQ_SHED_shed : Field := ⟨0xA160, 0, 32, 0⟩
-- SEQ_SHED_ROOT (R478)
abbrev SEQ_SHED_ROOT_busy : Field := ⟨0xA170, 16, 1, 0⟩
abbrev SEQ_SHED_ROOT_count : Field := ⟨0xA170, 8, 8, 0⟩
abbrev SEQ_SHED_ROOT_root : Field := ⟨0xA170, 0, 7, 0⟩
-- SEQ_CFG (R478)
abbrev SEQ_CFG_pg_deglitch : Field := ⟨0xA174, 0, 8, 5⟩
-- SEQ_FLAGS (R478)
abbrev SEQ_FLAGS_flags : Field := ⟨0xA178, 0, 16, 0⟩
-- SEQ_PG_LOST (R478)
abbrev SEQ_PG_LOST_sat : Field := ⟨0xA17C, 31, 1, 0⟩
abbrev SEQ_PG_LOST_count : Field := ⟨0xA17C, 0, 31, 0⟩
-- SEQ_REJ_COUNT (R478)
abbrev SEQ_REJ_COUNT_sat : Field := ⟨0xA180, 31, 1, 0⟩
abbrev SEQ_REJ_COUNT_count : Field := ⟨0xA180, 0, 31, 0⟩

-- PD_STATUS (R503)
abbrev PD_STATUS_tc_state : Field := ⟨0x10100, 29, 3, 1⟩
abbrev PD_STATUS_orientation : Field := ⟨0x10100, 28, 1, 0⟩
abbrev PD_STATUS_power_role : Field := ⟨0x10100, 27, 1, 0⟩
abbrev PD_STATUS_contract : Field := ⟨0x10100, 25, 2, 0⟩
abbrev PD_STATUS_rp_adv : Field := ⟨0x10100, 23, 2, 0⟩
abbrev PD_STATUS_dead_battery : Field := ⟨0x10100, 22, 1, 0⟩
abbrev PD_STATUS_alt_entered : Field := ⟨0x10100, 21, 1, 0⟩
abbrev PD_STATUS_sl_state : Field := ⟨0x10100, 19, 2, 0⟩
abbrev PD_STATUS_waiting : Field := ⟨0x10100, 18, 1, 0⟩
-- PD_CFG (R503)
abbrev PD_CFG_alt_en : Field := ⟨0x10104, 2, 1, 1⟩
abbrev PD_CFG_src_en : Field := ⟨0x10104, 1, 1, 0⟩
abbrev PD_CFG_drp_en : Field := ⟨0x10104, 0, 1, 0⟩
-- PD_POLICY (R503)
abbrev PD_POLICY_host : Field := ⟨0x10108, 0, 1, 0⟩
-- PD_CONTRACT (R503)
abbrev PD_CONTRACT_mv : Field := ⟨0x1010C, 16, 16, 0⟩
abbrev PD_CONTRACT_ma : Field := ⟨0x1010C, 0, 16, 0⟩
-- PD_ILIM (R503)
abbrev PD_ILIM_ma : Field := ⟨0x10110, 0, 16, 500⟩
-- PD_TIMERS (R503)
abbrev PD_TIMERS_wait_retry : Field := ⟨0x10114, 0, 16, 100⟩
-- PD_COUNTS (R503)
abbrev PD_COUNTS_hard_resets : Field := ⟨0x10118, 24, 8, 0⟩
abbrev PD_COUNTS_waits : Field := ⟨0x10118, 16, 8, 0⟩
abbrev PD_COUNTS_tx_failed : Field := ⟨0x10118, 8, 8, 0⟩
abbrev PD_COUNTS_keepalives : Field := ⟨0x10118, 0, 8, 0⟩
-- PD_SVID (R503)
abbrev PD_SVID_vid : Field := ⟨0x1011C, 0, 16, 0⟩
-- PD_TX_HDR (R503)
abbrev PD_TX_HDR_header : Field := ⟨0x10120, 0, 16, 0⟩
-- PD_TX_OBJ (R503)
abbrev PD_TX_OBJ_obj : Field := ⟨0x10124, 0, 32, 0⟩
-- PD_TX_STATUS (R503)
abbrev PD_TX_STATUS_result : Field := ⟨0x10144, 0, 2, 0⟩
-- PD_RX_STATUS (R503)
abbrev PD_RX_STATUS_valid : Field := ⟨0x10160, 31, 1, 0⟩
abbrev PD_RX_STATUS_count : Field := ⟨0x10160, 16, 3, 0⟩
abbrev PD_RX_STATUS_header : Field := ⟨0x10160, 0, 16, 0⟩
-- PD_RX_OBJ (R503)
abbrev PD_RX_OBJ_obj : Field := ⟨0x10164, 0, 32, 0⟩
-- PD_SL_STATUS (R503)
abbrev PD_SL_STATUS_unsigned : Field := ⟨0x10184, 31, 1, 0⟩
abbrev PD_SL_STATUS_bad : Field := ⟨0x10184, 0, 16, 0⟩

-- THM_STATUS (R515)
abbrev THM_STATUS_sd_latched : Field := ⟨0xC100, 31, 1, 0⟩
abbrev THM_STATUS_cooled : Field := ⟨0xC100, 30, 1, 0⟩
abbrev THM_STATUS_warm : Field := ⟨0xC100, 29, 1, 0⟩
abbrev THM_STATUS_hottest : Field := ⟨0xC100, 16, 7, 0⟩
abbrev THM_STATUS_hottest_t : Field := ⟨0xC100, 0, 16, 32768⟩
-- THM_LIMITS (R515)
abbrev THM_LIMITS_sd_c : Field := ⟨0xC104, 24, 8, 0⟩
abbrev THM_LIMITS_warn_c : Field := ⟨0xC104, 16, 8, 105⟩
abbrev THM_LIMITS_die_tol : Field := ⟨0xC104, 8, 8, 15⟩
abbrev THM_LIMITS_th_tol : Field := ⟨0xC104, 0, 8, 5⟩
-- THM_BROKEN_DIE0 (R515)
abbrev THM_BROKEN_DIE0_broken : Field := ⟨0xC108, 0, 32, 0⟩
-- THM_BROKEN_DIE1 (R515)
abbrev THM_BROKEN_DIE1_broken : Field := ⟨0xC10C, 0, 16, 0⟩
-- THM_BROKEN_TH (R515)
abbrev THM_BROKEN_TH_nosig : Field := ⟨0xC110, 16, 16, 0⟩
abbrev THM_BROKEN_TH_broken : Field := ⟨0xC110, 0, 16, 0⟩
-- THM_SEL (R515)
abbrev THM_SEL_input : Field := ⟨0xC114, 0, 7, 0⟩
-- THM_IN (R515)
abbrev THM_IN_raw : Field := ⟨0xC118, 16, 16, 32768⟩
abbrev THM_IN_used : Field := ⟨0xC118, 0, 16, 32768⟩
-- THM_IN_FLAGS (R515)
abbrev THM_IN_FLAGS_comp_masked : Field := ⟨0xC11C, 4, 1, 0⟩
abbrev THM_IN_FLAGS_shorted : Field := ⟨0xC11C, 3, 1, 0⟩
abbrev THM_IN_FLAGS_open : Field := ⟨0xC11C, 2, 1, 0⟩
abbrev THM_IN_FLAGS_subst : Field := ⟨0xC11C, 1, 1, 0⟩
abbrev THM_IN_FLAGS_broken : Field := ⟨0xC11C, 0, 1, 0⟩
-- THM_TH_CFG (R515)
abbrev THM_TH_CFG_en : Field := ⟨0xC120, 31, 1, 0⟩
abbrev THM_TH_CFG_nbr : Field := ⟨0xC120, 0, 16, 0⟩
-- THM_SHUTDOWNS (R515)
abbrev THM_SHUTDOWNS_count : Field := ⟨0xC160, 0, 32, 0⟩
-- THM_SD_SEL (R515)
abbrev THM_SD_SEL_back : Field := ⟨0xC164, 0, 3, 0⟩
-- THM_WARM_EVENTS (R515)
abbrev THM_WARM_EVENTS_sat : Field := ⟨0xC168, 31, 1, 0⟩
abbrev THM_WARM_EVENTS_count : Field := ⟨0xC168, 0, 31, 0⟩
-- THM_SD_REC (R515)
abbrev THM_SD_REC_data : Field := ⟨0xC400, 0, 32, 0⟩

-- WDT_CFG (R522)
abbrev WDT_CFG_hw_start : Field := ⟨0xD100, 31, 1, 0⟩
abbrev WDT_CFG_running : Field := ⟨0xD100, 30, 1, 0⟩
abbrev WDT_CFG_window : Field := ⟨0xD100, 16, 4, 0⟩
abbrev WDT_CFG_period_ms : Field := ⟨0xD100, 0, 16, 0⟩
-- WDT_SLOT_EN (R522)
abbrev WDT_SLOT_EN_en : Field := ⟨0xD104, 0, 32, 0⟩
-- WDT_KICK (R522)
abbrev WDT_KICK_kick : Field := ⟨0xD108, 0, 32, 0⟩
-- WDT_DONE (R522)
abbrev WDT_DONE_done : Field := ⟨0xD10C, 0, 32, 0⟩
-- WDT_EARLY (R522)
abbrev WDT_EARLY_early : Field := ⟨0xD110, 0, 32, 0⟩
-- WDT_LEFT (R522)
abbrev WDT_LEFT_us : Field := ⟨0xD114, 0, 32, 0⟩
-- WDT_EXPIRIES (R522)
abbrev WDT_EXPIRIES_sat : Field := ⟨0xD118, 31, 1, 0⟩
abbrev WDT_EXPIRIES_count : Field := ⟨0xD118, 0, 31, 0⟩
-- WDT_BAD_KICKS (R522)
abbrev WDT_BAD_KICKS_sat : Field := ⟨0xD11C, 31, 1, 0⟩
abbrev WDT_BAD_KICKS_count : Field := ⟨0xD11C, 0, 31, 0⟩
-- WDT_CAP_SEL (R522)
abbrev WDT_CAP_SEL_back : Field := ⟨0xD120, 0, 3, 0⟩
-- WDT_CAPTURES (R522)
abbrev WDT_CAPTURES_count : Field := ⟨0xD124, 0, 32, 0⟩
-- WDT_CAP (R522)
abbrev WDT_CAP_data : Field := ⟨0xD200, 0, 32, 0⟩

-- OTP_STATUS (R539)
abbrev OTP_STATUS_restrictive : Field := ⟨0xE100, 31, 1, 0⟩
abbrev OTP_STATUS_unclaimed : Field := ⟨0xE100, 30, 1, 0⟩
abbrev OTP_STATUS_sensing : Field := ⟨0xE100, 29, 1, 0⟩
abbrev OTP_STATUS_busy : Field := ⟨0xE100, 28, 1, 0⟩
abbrev OTP_STATUS_attempts_last : Field := ⟨0xE100, 8, 8, 0⟩
abbrev OTP_STATUS_spares_used : Field := ⟨0xE100, 0, 5, 0⟩
-- OTP_SEALED (R539)
abbrev OTP_SEALED_sealed : Field := ⟨0xE104, 0, 20, 0⟩
-- OTP_FAILED (R539)
abbrev OTP_FAILED_failed : Field := ⟨0xE108, 0, 20, 0⟩
-- OTP_ADDR (R539)
abbrev OTP_ADDR_word : Field := ⟨0xE10C, 0, 11, 0⟩
-- OTP_DATA (R539)
abbrev OTP_DATA_data : Field := ⟨0xE110, 0, 32, 0⟩
-- OTP_READ (R539)
abbrev OTP_READ_data : Field := ⟨0xE114, 0, 32, 0⟩
-- OTP_DISAGREE (R539)
abbrev OTP_DISAGREE_redir : Field := ⟨0xE118, 16, 16, 0⟩
abbrev OTP_DISAGREE_counter : Field := ⟨0xE118, 0, 8, 0⟩
-- OTP_SENSES (R539)
abbrev OTP_SENSES_sat : Field := ⟨0xE11C, 31, 1, 0⟩
abbrev OTP_SENSES_count : Field := ⟨0xE11C, 0, 31, 0⟩
-- OTP_REDIR (R539)
abbrev OTP_REDIR_used : Field := ⟨0xE140, 31, 1, 0⟩
abbrev OTP_REDIR_row : Field := ⟨0xE140, 0, 8, 0⟩
-- OTP_COUNTER (R539)
abbrev OTP_COUNTER_value : Field := ⟨0xE180, 0, 6, 0⟩

/-- Register rows of the `GEN` page. -/
def rowsGEN : List RegField := [
  rf GEN_HATCH_HW_AGE_sat 4 1 .ro .ro,
  rf GEN_HATCH_HW_AGE_frames 4 1 .ro .ro,
  rf GEN_HATCH_HW_LANE_lane 4 1 .ro .ro,
  rf GEN_HATCH_HW_SKIPS_count 4 1 .ro .ro,
  rf GEN_HATCH_LT_AGE_sat 4 1 .ro .ro,
  rf GEN_HATCH_LT_AGE_frames 4 1 .ro .ro,
  rf GEN_HATCH_LT_FRAME_LO_frame_lo 4 1 .snap .snap,
  rf GEN_HATCH_LT_FRAME_HI_frame_hi 4 1 .snap .snap,
  rf GEN_HATCH_MT_AGE_sat 4 1 .ro .ro,
  rf GEN_HATCH_MT_AGE_frames 4 1 .ro .ro,
  rf GEN_HATCH_STATUS_skips_sat 4 1 .ro .ro,
  rf GEN_HATCH_STATUS_mt_sat 4 1 .ro .ro,
  rf GEN_HATCH_STATUS_mt_folding 4 1 .ro .ro,
  rf GEN_HATCH_STATUS_lt_pending 4 1 .ro .ro,
  rf GEN_HATCH_STATUS_hw_blind 4 1 .ro .ro,
  rf GEN_DEADLINE_MISS_count 4 1 .ro .ro,
  rf GEN_SIDE_IRQ_LAST_source 4 1 .ro .ro,
  rf GEN_SIDE_IRQ_COUNT_count 4 1 .ro .ro]

/-- Register rows of the `PAGE` page. -/
def rowsPAGE : List RegField := [
  rf PAGE_ID_block 4 1 .ro .ro,
  rf PAGE_ID_instance 4 1 .ro .ro,
  rf PAGE_VER_major 4 1 .ro .ro,
  rf PAGE_VER_minor 4 1 .ro .ro,
  rf PAGE_CAPS_block_caps 4 1 .ro .ro,
  rf PAGE_CAPS_hib 4 1 .ro .ro,
  rf PAGE_CAPS_irq 4 1 .ro .ro,
  rf PAGE_CAPS_cmd 4 1 .ro .ro,
  rf PAGE_CAPS_priv 4 1 .ro .ro,
  rf PAGE_STATE_priv_open 4 1 .ro .ro,
  rf PAGE_STATE_block_state 4 1 .ro .ro,
  rf PAGE_STATE_state 4 1 .ro .ro,
  rf PAGE_CTRL_hibernate 4 1 .rw .rw,
  rf PAGE_CTRL_block_reset 4 1 .hidden .wo,
  rf PAGE_CTRL_enable 4 1 .rw .rw,
  rf PAGE_CMD_arg 4 1 .wo .wo,
  rf PAGE_CMD_opcode 4 1 .wo .wo,
  rf PAGE_CMD_STATUS_ticket_lo 4 1 .snap .snap,
  rf PAGE_CMD_STATUS_result 4 1 .ro .ro,
  rf PAGE_TICKET_HI_ticket_hi 4 1 .snap .snap,
  rf PAGE_IRQ_RAW_raw 4 1 .w1c .w1c,
  rf PAGE_IRQ_EN_en 4 1 .rw .rw,
  rf PAGE_IRQ_PEND_pend 4 1 .ro .ro,
  rf PAGE_FAULT_FIRST_valid 4 1 .ro .ro,
  rf PAGE_FAULT_FIRST_class 4 1 .ro .ro,
  rf PAGE_FAULT_FIRST_source 4 1 .ro .ro,
  rf PAGE_FAULT_COUNT_sat 4 1 .ro .ro,
  rf PAGE_FAULT_COUNT_count 4 1 .ro .ro]

/-- Register rows of the `HIF` page. -/
def rowsHIF : List RegField := [
  rf HIF_LINK_up 4 1 .ro .ro,
  rf HIF_LINK_width 4 1 .ro .ro,
  rf HIF_LINK_speed 4 1 .ro .ro,
  rf HIF_BAR2_BASE_gib 4 1 .rw .rw,
  rf HIF_BAR2_DROPS_count 4 1 .ro .ro,
  rf HIF_BAD_ACCESS_count 4 1 .ro .ro,
  rf HIF_LINK_RESETS_count 4 1 .ro .ro,
  rf HIF_WIN_BASE_mib 4 16 .rw .rw]

/-- Register rows of the `CUS` page. -/
def rowsCUS : List RegField := [
  rf CUS_STATUS_last_error 4 1 .ro .ro,
  rf CUS_STATUS_lockout 4 1 .ro .ro,
  rf CUS_STATUS_verify_busy 4 1 .ro .ro,
  rf CUS_STATUS_both_required 4 1 .ro .ro,
  rf CUS_STATUS_holder_b_ok 4 1 .ro .ro,
  rf CUS_STATUS_holder_a_ok 4 1 .ro .ro,
  rf CUS_STATUS_phase 4 1 .ro .ro,
  rf CUS_SCOPE_scope 4 1 .ro .ro,
  rf CUS_REMAIN_seconds 4 1 .ro .ro,
  rf CUS_SESSION_ID_id 4 1 .ro .ro,
  rf CUS_DENIED_WRITES_count 4 1 .ro .ro,
  rf CUS_KEY_SLOTS_programmed 4 1 .ro .ro,
  rf CUS_NONCE_nonce 4 8 .ro .ro,
  rf CUS_MAILBOX_REQ_data 4 24 .rw .rw,
  rf CUS_MAILBOX_KEY_data 4 25 .rw .rw,
  rf CUS_MAILBOX_SIG_data 4 24 .rw .rw]

/-- Register rows of the `DMA` page. -/
def rowsDMA : List RegField := [
  rf DMA_RING_BASE_LO_addr 32 16 .rw .rw,
  rf DMA_RING_BASE_HI_addr 32 16 .rw .rw,
  rf DMA_RING_SIZE_log2 32 16 .rw .rw,
  rf DMA_RING_TAIL_tail 32 16 .rw .rw,
  rf DMA_RING_HEAD_head 32 16 .ro .ro,
  rf DMA_RING_CTRL_enable 32 16 .rw .rw,
  rf DMA_RING_STATUS_state 32 16 .ro .ro]

/-- Register rows of the `IRQ` page. -/
def rowsIRQ : List RegField := [
  rf IRQ_PEND_pend 4 32 .w1c .w1c,
  rf IRQ_EN_en 4 32 .rw .rw,
  rfm IRQ_TARGET_target 128 0 8 0 .rw .rw,
  rfm IRQ_TARGET_target 128 4 8 1 .rw .rw,
  rfm IRQ_TARGET_target 128 8 8 2 .rw .rw,
  rfm IRQ_TARGET_target 128 12 8 3 .rw .rw,
  rfm IRQ_TARGET_target 128 16 8 4 .rw .rw,
  rfm IRQ_TARGET_target 128 20 8 5 .rw .rw,
  rfm IRQ_TARGET_target 128 24 8 6 .rw .rw,
  rfm IRQ_TARGET_target 128 28 8 7 .rw .rw,
  rf IRQ_TGT_PEND_pend 4 1 .ro .ro,
  rf IRQ_LOST_count 4 1 .ro .ro,
  rf IRQ_TARGET_REJECT_reject 4 1 .w1c .w1c,
  rf IRQ_NEXT_valid 4 8 .ro .ro,
  rf IRQ_NEXT_source 4 8 .ro .ro]

/-- Register rows of the `FLT` page. -/
def rowsFLT : List RegField := [
  rf FLT_STATUS_estop 4 1 .ro .ro,
  rf FLT_STATUS_trip_n 4 1 .ro .ro,
  rf FLT_STATUS_overflow 4 1 .ro .ro,
  rf FLT_STATUS_latched 4 1 .ro .ro,
  rf FLT_TRIP_CFG_open 4 1 .ro .rw,
  rf FLT_NEXT_SEQ_LO_seq_lo 4 1 .snap .snap,
  rf FLT_NEXT_SEQ_HI_seq_hi 4 1 .snap .snap,
  rf FLT_PINS_latch_pins 4 1 .ro .ro,
  rf FLT_PINS_ack_pins 4 1 .ro .ro,
  rf FLT_OVERWRITTEN_sat 4 1 .ro .ro,
  rf FLT_OVERWRITTEN_count 4 1 .ro .ro,
  rf FLT_ESCALATIONS_sat 4 1 .ro .ro,
  rf FLT_ESCALATIONS_count 4 1 .ro .ro,
  rf FLT_DROPPED_sat 4 1 .ro .ro,
  rf FLT_DROPPED_count 4 1 .ro .ro,
  rf FLT_FIRST_SRC_valid 16 5 .ro .ro,
  rf FLT_FIRST_SRC_escalated 16 5 .ro .ro,
  rf FLT_FIRST_SRC_raised 16 5 .ro .ro,
  rf FLT_FIRST_SRC_page 16 5 .ro .ro,
  rf FLT_FIRST_SRC_source 16 5 .ro .ro,
  rf FLT_FIRST_SEQ_LO_seq_lo 16 5 .snap .snap,
  rf FLT_FIRST_SEQ_HI_seq_hi 16 5 .snap .snap,
  rf FLT_FIRST_WHERE_location 16 5 .ro .ro]

/-- Register rows of the `TKT` page. -/
def rowsTKT : List RegField := [
  rf TKT_NEXT_LO_next_lo 4 1 .snap .snap,
  rf TKT_NEXT_HI_next_hi 4 1 .snap .snap,
  rf TKT_OPEN_count 4 1 .ro .ro,
  rf TKT_BUSY_REFUSALS_sat 4 1 .ro .ro,
  rf TKT_BUSY_REFUSALS_count 4 1 .ro .ro,
  rf TKT_ALLOC_index 4 1 .ro .ro,
  rf TKT_LOOKUP_LO_ticket_lo 4 1 .rw .rw,
  rf TKT_LOOKUP_HI_ticket_hi 4 1 .rw .rw,
  rf TKT_LOOKUP_RESULT_found 4 1 .ro .ro,
  rf TKT_LOOKUP_RESULT_state 4 1 .ro .ro,
  rf TKT_LOOKUP_RESULT_index 4 1 .ro .ro]

/-- Register rows of the `CLK` page. -/
def rowsCLK : List RegField := [
  rf CLK_TIME_SRC_valid 4 1 .ro .rw,
  rf CLK_TIME_SRC_twin 4 1 .ro .rw,
  rf CLK_TIME_SRC_lane 4 1 .ro .rw,
  rf CLK_STATUS_twin_ref 4 1 .ro .ro,
  rf CLK_STATUS_rec_qualified 4 1 .ro .ro,
  rf CLK_STATUS_rec_offered 4 1 .ro .ro,
  rf CLK_STATUS_osc_ok 4 1 .ro .ro,
  rf CLK_STATUS_state 4 1 .ro .ro,
  rf CLK_OSC_DEV_dev 4 1 .ro .ro,
  rf CLK_REC_DEV_dev 4 1 .ro .ro,
  rf CLK_CORR_corr 4 1 .ro .ro,
  rf CLK_CFG_slew 4 1 .ro .rw,
  rf CLK_CFG_auto_adopt 4 1 .ro .rw,
  rf CLK_REF_OUTS_sat 4 1 .ro .ro,
  rf CLK_REF_OUTS_count 4 1 .ro .ro,
  rf CLK_HOLD_S_s 4 1 .ro .ro,
  rf CLK_FRAME_LO_frame_lo 4 1 .snap .snap,
  rf CLK_FRAME_HI_frame_hi 4 1 .snap .snap,
  rf CLK_LOSSES_sat 4 1 .ro .ro,
  rf CLK_LOSSES_count 4 1 .ro .ro]

/-- Register rows of the `LNK` page. -/
def rowsLNK0 : List RegField := [
  rf LNK_STATUS_far_loop_capable 64 16 .ro .ro,
  rf LNK_STATUS_far_ref_src 64 16 .ro .ro,
  rf LNK_STATUS_advanced 64 16 .ro .ro,
  rf LNK_STATUS_los 64 16 .ro .ro,
  rf LNK_STATUS_far_ready 64 16 .ro .ro,
  rf LNK_STATUS_rx_ready 64 16 .ro .ro,
  rf LNK_STATUS_frame_lock 64 16 .ro .ro,
  rf LNK_STATUS_cw_lock 64 16 .ro .ro,
  rf LNK_STATUS_loop_mode 64 16 .ro .ro,
  rf LNK_STATUS_state 64 16 .ro .ro,
  rf LNK_CFG_rx_invert 64 16 .ro .rw,
  rf LNK_CFG_tx_invert 64 16 .ro .rw,
  rf LNK_CFG_posture_count 64 16 .ro .rw,
  rf LNK_CFG_posture_open 64 16 .ro .rw,
  rf LNK_TXFIR_pre 64 16 .ro .ro,
  rf LNK_TXFIR_main 64 16 .ro .ro,
  rf LNK_TXFIR_post 64 16 .ro .ro,
  rf LNK_FAR_FIR_taps 64 16 .ro .ro,
  rf LNK_TRAIN_duration 64 16 .ro .ro,
  rf LNK_TRAIN_attempts 64 16 .ro .ro,
  rf LNK_TRAIN_fail_reason 64 16 .ro .ro,
  rf LNK_DELAY_one_way 64 16 .ro .ro,
  rf LNK_DELAY_turnaround 64 16 .ro .ro,
  rf LNK_CORR_LO_count_lo 64 16 .snap .snap,
  rf LNK_CORR_HI_count_hi 64 16 .snap .snap,
  rf LNK_UNCORR_count 64 16 .ro .ro,
  rf LNK_HDR_CRC_count 64 16 .ro .ro,
  rf LNK_LOL_count 64 16 .ro .ro,
  rf LNK_SLIPS_count 64 16 .ro .ro,
  rf LNK_SAT_flags 64 16 .ro .ro,
  rf LNK_EYE_upper 64 16 .ro .ro,
  rf LNK_EYE_middle 64 16 .ro .ro,
  rf LNK_EYE_lower 64 16 .ro .ro,
  rf LNK_PRBS_ERR_count 64 16 .ro .ro,
  rf LNK_HISTORY_reason 64 16 .ro .ro,
  rf LNK_HISTORY_prev_state 64 16 .ro .ro,
  rf LNK_HISTORY_frame 64 16 .ro .ro,
  rf LNK_GRP_STATUS_otp_enabled 4 1 .ro .ro,
  rf LNK_GRP_STATUS_pll_lock 4 1 .ro .ro,
  rf LNK_GRP_STATUS_run 4 1 .ro .ro]

/-- Register rows of the `LNK` page, continued. -/
def rowsLNK1 : List RegField := [
  rf LNK_GRP_AUTO_auto 4 1 .rw .rw,
  rf LNK_GRP_LOS_los 4 1 .ro .ro]

/-- Every register row of the `LNK` page. -/
def rowsLNK : List RegField := rowsLNK0 ++ rowsLNK1

/-- Register rows of the `FRM` page. -/
def rowsFRM0 : List RegField := [
  rf FRM_SEL_lane 4 1 .rw .rw,
  rf FRM_L_MAP_built 4 1 .ro .ro,
  rf FRM_L_MAP_in_force 4 1 .ro .ro,
  rf FRM_L_INV_inv_gen 4 1 .ro .ro,
  rf FRM_L_INV_phase 4 1 .ro .ro,
  rf FRM_L_INV_node_count 4 1 .ro .ro,
  rf FRM_L_UP_USED_bits 4 1 .ro .ro,
  rf FRM_L_DOWN_USED_bits 4 1 .ro .ro,
  rf FRM_L_HEAD_emax 4 1 .ro .ro,
  rf FRM_L_HEAD_obeyed 4 1 .ro .ro,
  rf FRM_L_HEAD_posture_state 4 1 .ro .ro,
  rf FRM_L_HEAD_posture_cause 4 1 .ro .ro,
  rf FRM_L_HEAD_bad_count 4 1 .ro .ro,
  rf FRM_L_HEAD_wake 4 1 .ro .ro,
  rf FRM_L_HEAD_oc 4 1 .ro .ro,
  rf FRM_L_HEAD_chain_changed 4 1 .ro .ro,
  rf FRM_L_HEAD_repeated 4 1 .ro .ro,
  rf FRM_L_HEAD_emax_valid 4 1 .ro .ro,
  rf FRM_L_MISSING_count 4 1 .ro .ro,
  rf FRM_L_OVR_count 4 1 .ro .ro,
  rf FRM_L_ADJ_count 4 1 .ro .ro,
  rf FRM_L_MGMT_retx 4 1 .ro .ro,
  rf FRM_L_MGMT_discards 4 1 .ro .ro,
  rf FRM_L_ENUM_RETRY_count 4 1 .ro .ro,
  rf FRM_L_SAT_flags 4 1 .ro .ro,
  rf FRM_L_CUR_TOL_tol 4 1 .ro .rw,
  rf FRM_ENUM_HOLD_hold 4 16 .ro .rw,
  rf FRM_POSTURE_posture 4 16 .ro .ro,
  rf FRM_CHAIN_changed 4 16 .w1c .w1c,
  rf FRM_EPOCH_role 4 1 .ro .ro,
  rf FRM_EPOCH_epoch 4 1 .ro .ro,
  rf FRM_WAKE_CFG_threshold 4 1 .ro .rw,
  rf FRM_B_ADDR_addr 4 1 .rw .rw,
  rf FRM_B_DATA_up 4 1 .ro .ro,
  rf FRM_B_DATA_down 4 1 .ro .ro,
  rf FRM_MBX_TX_data 4 32 .ro .rw,
  rf FRM_MBX_TX_STATUS_state 4 1 .ro .ro,
  rf FRM_MBX_RX_data 4 32 .ro .ro,
  rf FRM_MBX_RX_STATUS_full 4 1 .w1c .w1c,
  rf FRM_MBX_RX_STATUS_lane 4 1 .ro .ro]

/-- Register rows of the `FRM` page, continued. -/
def rowsFRM1 : List RegField := [
  rf FRM_MBX_RX_STATUS_dropped 4 1 .ro .ro]

/-- Every register row of the `FRM` page. -/
def rowsFRM : List RegField := rowsFRM0 ++ rowsFRM1

/-- Register rows of the `SCH` page. -/
def rowsSCH0 : List RegField := [
  rf SCH_COMMIT_go 4 1 .wo .wo,
  rf SCH_REJ_OFFSET_window 4 1 .ro .ro,
  rf SCH_REJ_OFFSET_offset 4 1 .ro .ro,
  rf SCH_REJ_COUNT_sat 4 1 .ro .ro,
  rf SCH_REJ_COUNT_count 4 1 .ro .ro,
  rf SCH_AGE_CFG_t_age_max 4 1 .rw .rw,
  rf SCH_AGE_CFG_i_age_max 4 1 .rw .rw,
  rf SCH_AGE_CFG_v_age_max 4 1 .rw .rw,
  rf SCH_BLIND_blind_gain 4 1 .rw .rw,
  rf SCH_GV_CFG_gv_min 4 1 .rw .rw,
  rf SCH_CELL_SEL_pos 4 1 .rw .rw,
  rf SCH_CELL_INFO_present 4 1 .ro .ro,
  rf SCH_CELL_INFO_status 4 1 .ro .ro,
  rf SCH_CELL_INFO_stale 4 1 .ro .ro,
  rf SCH_CELL_INFO_t_subst 4 1 .ro .ro,
  rf SCH_CELL_INFO_class 4 1 .ro .ro,
  rf SCH_CELL_INFO_withdrawn 4 1 .ro .ro,
  rf SCH_CELL_INFO_stir 4 1 .ro .ro,
  rf SCH_CELL_INFO_role 4 1 .ro .ro,
  rf SCH_CELL_INFO_inh_chg 4 1 .ro .ro,
  rf SCH_CELL_INFO_inh_dis 4 1 .ro .ro,
  rf SCH_CELL_INFO_cur_inh 4 1 .ro .ro,
  rf SCH_CELL_RANK_rank_chg 4 1 .ro .ro,
  rf SCH_CELL_RANK_rank_dis 4 1 .ro .ro,
  rf SCH_CELL_SWITCHES_count 4 1 .ro .ro,
  rf SCH_STR_SEL_lane 4 1 .rw .rw,
  rf SCH_STR_STATUS_n 4 1 .ro .ro,
  rf SCH_STR_STATUS_o 4 1 .ro .ro,
  rf SCH_STR_STATUS_sat 4 1 .ro .ro,
  rf SCH_STR_STATUS_limited 4 1 .ro .ro,
  rf SCH_STR_STATUS_blind_current 4 1 .ro .ro,
  rf SCH_STR_STATUS_polarity 4 1 .ro .ro,
  rf SCH_STR_STATUS_stirring 4 1 .ro .ro,
  rf SCH_STR_VCMD_v_s 4 1 .ro .ro,
  rf SCH_STR_BACKOFF_b_s 4 1 .ro .ro,
  rf SCH_STR_ELIG_chg 4 1 .ro .ro,
  rf SCH_STR_ELIG_dis 4 1 .ro .ro,
  rf SCH_STR_LIMIT_FRAMES_count 4 1 .ro .ro,
  rf SCH_STR_BLIND_FRAMES_count 4 1 .ro .ro,
  rf SCH_STR_SAT_FRAMES_count 4 1 .ro .ro]

/-- Register rows of the `SCH` page, continued. -/
def rowsSCH1 : List RegField := [
  rf SCH_GV_STATUS_locked 4 4 .ro .ro,
  rf SCH_GV_STATUS_freq 4 4 .ro .ro,
  rf SCH_GV_AMP_amp 4 4 .ro .ro]

/-- Every register row of the `SCH` page. -/
def rowsSCH : List RegField := rowsSCH0 ++ rowsSCH1

/-- Register rows of the `BNK` page. -/
def rowsBNK : List RegField := [
  rf BNK_STATUS_strings 4 1 .ro .ro,
  rf BNK_STATUS_hold_cause 4 1 .ro .ro,
  rf BNK_STATUS_pending 4 1 .ro .ro,
  rf BNK_STATUS_mode 4 1 .ro .ro,
  rf BNK_RUNNING_running 4 1 .ro .ro,
  rf BNK_RUNNING_saturated 4 1 .ro .ro,
  rf BNK_TARGET_v_b 4 1 .ro .ro,
  rf BNK_PHASE_theta 4 1 .ro .ro,
  rf BNK_PHASE_ERR_err 4 1 .ro .ro,
  rf BNK_REQ_PEAK_peak 4 1 .ro .ro,
  rf BNK_SAT_FRAMES_count 4 1 .ro .ro,
  rf BNK_LIMIT_FRAMES_count 4 1 .ro .ro,
  rf BNK_MEAN_SOC_valid 4 1 .ro .ro,
  rf BNK_MEAN_SOC_soc 4 1 .ro .ro]

/-- Register rows of the `IMP` page. -/
def rowsIMP : List RegField := [
  rf IMP_CFG_spectra_en 4 1 .rw .rw,
  rf IMP_CFG_refresh_period 4 1 .rw .rw,
  rf IMP_SPECTRA_BASE_gib 4 1 .rw .rw,
  rf IMP_SPECTRA_CFG_cells 4 1 .rw .rw,
  rf IMP_SPECTRA_DROPS_sat 4 1 .ro .ro,
  rf IMP_SPECTRA_DROPS_count 4 1 .ro .ro,
  rf IMP_SEL_lane 4 1 .rw .rw,
  rf IMP_L_STATUS_hibernated 4 1 .ro .ro,
  rf IMP_L_STATUS_plan_pending 4 1 .ro .ro,
  rf IMP_L_STATUS_cells 4 1 .ro .ro,
  rf IMP_L_STATUS_bins 4 1 .ro .ro,
  rf IMP_L_REFRESH_AGE_ms 4 1 .ro .ro,
  rf IMP_L_FORCED_sat 4 1 .ro .ro,
  rf IMP_L_FORCED_count 4 1 .ro .ro,
  rf IMP_L_TWERR_err 4 1 .ro .ro,
  rf IMP_L_SATWIN_sat 4 1 .ro .ro,
  rf IMP_L_SATWIN_count 4 1 .ro .ro,
  rf IMP_L_OVRWIN_sat 4 1 .ro .ro,
  rf IMP_L_OVRWIN_count 4 1 .ro .ro,
  rf IMP_L_GAPWIN_sat 4 1 .ro .ro,
  rf IMP_L_GAPWIN_count 4 1 .ro .ro,
  rf IMP_L_DROPPED_sat 4 1 .ro .ro,
  rf IMP_L_DROPPED_count 4 1 .ro .ro,
  rf IMP_CELL_SEL_pos 4 1 .rw .rw,
  rf IMP_CELL_INFO_served 4 1 .ro .ro,
  rf IMP_CELL_INFO_t_valid 4 1 .ro .ro,
  rf IMP_CELL_INFO_t_clamped 4 1 .ro .ro,
  rf IMP_CELL_INFO_ordinal 4 1 .ro .ro,
  rf IMP_CELL_INFO_t_int 4 1 .ro .ro,
  rf IMP_CELL_TAGE_s 4 1 .ro .ro,
  rf IMP_CELL_BIN_word 4 16 .ro .ro,
  rf IMP_TINF_BAD_class 4 1 .ro .ro]

/-- Register rows of the `EST` page. -/
def rowsEST0 : List RegField := [
  rf EST_RELOAD_go 4 1 .wo .wo,
  rf EST_STATE_BASE_gib 4 1 .rw .rw,
  rf EST_CKPT_BASE_gib 4 1 .rw .rw,
  rf EST_HIB_CFG_en 4 1 .rw .rw,
  rf EST_HIB_CFG_t_idle 4 1 .rw .rw,
  rf EST_HIB_CFG_i_idle 4 1 .rw .rw,
  rf EST_PROBE_CFG_period 4 1 .rw .rw,
  rf EST_PROBE_CFG_length 4 1 .rw .rw,
  rf EST_PART_CFG_headroom 4 1 .rw .rw,
  rf EST_CKPT_CFG_period 4 1 .rw .rw,
  rf EST_STATUS_hibernated 4 1 .ro .ro,
  rf EST_STATUS_probing 4 1 .ro .ro,
  rf EST_STATUS_clusters 4 1 .ro .ro,
  rf EST_STATUS_class_bad 4 1 .ro .ro,
  rf EST_STEP_SKIPS_sat 4 1 .ro .ro,
  rf EST_STEP_SKIPS_count 4 1 .ro .ro,
  rf EST_LEARN_REJECTS_sat 4 1 .ro .ro,
  rf EST_LEARN_REJECTS_count 4 1 .ro .ro,
  rf EST_REJ_COUNT_sat 4 1 .ro .ro,
  rf EST_REJ_COUNT_count 4 1 .ro .ro,
  rf EST_CKPT_GEN_LO_gen_lo 4 1 .snap .snap,
  rf EST_CKPT_GEN_HI_gen_hi 4 1 .snap .snap,
  rf EST_CKPT_STATUS_state 4 1 .ro .ro,
  rf EST_CELL_SEL_pos 4 1 .rw .rw,
  rf EST_CELL_STATE_soc 4 1 .ro .ro,
  rf EST_CELL_STATE_est_valid 4 1 .ro .ro,
  rf EST_CELL_STATE_stale 4 1 .ro .ro,
  rf EST_CELL_STATE_full 4 1 .ro .ro,
  rf EST_CELL_STATE_empty 4 1 .ro .ro,
  rf EST_CELL_STATE_q_learned 4 1 .ro .ro,
  rf EST_CELL_STATE_r_learned 4 1 .ro .ro,
  rf EST_CELL_STATE_accum_sat 4 1 .ro .ro,
  rf EST_CELL_STATE_resting 4 1 .ro .ro,
  rf EST_CELL_STATE_weight 4 1 .ro .ro,
  rf EST_CELL_SD_relearn 4 1 .ro .ro,
  rf EST_CELL_SD_soc_sd 4 1 .ro .ro,
  rf EST_CELL_Q_q 4 1 .ro .ro,
  rf EST_CELL_ROHM_r_ohm_25 4 1 .ro .ro,
  rf EST_CELL_RPOL_r_pol_25 4 1 .ro .ro,
  rf EST_CELL_HYST_h 4 1 .ro .ro]

/-- Register rows of the `EST` page, continued. -/
def rowsEST1 : List RegField := [
  rf EST_CELL_HYST_t_used 4 1 .ro .ro,
  rf EST_CELL_CTOT_LO_ctot_lo 4 1 .snap .snap,
  rf EST_CELL_CTOT_HI_ctot_hi 4 1 .snap .snap,
  rf EST_PART_SEL_part 4 1 .rw .rw,
  rf EST_PART_STATUS_empty 4 1 .ro .ro,
  rf EST_PART_STATUS_rescaled 4 1 .ro .ro,
  rf EST_PART_STATUS_converging 4 1 .ro .ro,
  rf EST_PART_STATUS_rep_soc 4 1 .ro .ro,
  rf EST_PART_TRUE_s_min 4 1 .ro .ro,
  rf EST_PART_TRUE_true_soc 4 1 .ro .ro,
  rf EST_PART_USABLE_LO_lo 4 1 .snap .snap,
  rf EST_PART_USABLE_HI_hi 4 1 .snap .snap,
  rf EST_PART_CAP_LO_lo 4 1 .snap .snap,
  rf EST_PART_CAP_HI_hi 4 1 .snap .snap,
  rf EST_PART_SOH_cap_ratio 4 1 .ro .ro,
  rf EST_PART_SOH_r_growth 4 1 .ro .ro,
  rf EST_PART_CELLS_counted 4 1 .ro .ro,
  rf EST_PART_UNCOUNTED_uncounted 4 1 .ro .ro]

/-- Every register row of the `EST` page. -/
def rowsEST : List RegField := rowsEST0 ++ rowsEST1

/-- Register rows of the `MEM` page. -/
def rowsMEM : List RegField := [
  rf MEM_STATUS_map_valid 4 1 .ro .ro,
  rf MEM_STATUS_map_lost 4 1 .ro .ro,
  rf MEM_STATUS_channels 4 1 .ro .ro,
  rf MEM_STATUS_qualified 4 1 .ro .ro,
  rf MEM_USABLE_mib 4 1 .ro .ro,
  rf MEM_HOST_BASE_gib 4 1 .ro .rw,
  rf MEM_HOST_SIZE_gib 4 1 .ro .rw,
  rf MEM_LADLE_CFG_age_us 4 1 .rw .rw,
  rf MEM_LADLE_CFG_threshold 4 1 .rw .rw,
  rf MEM_SCRUB_BASE_mib 4 1 .rw .rw,
  rf MEM_SCRUB_LEN_mib 4 1 .rw .rw,
  rf MEM_SCRUB_CFG_hours 4 1 .rw .rw,
  rf MEM_SCRUB_CFG_hib_pause 4 1 .rw .rw,
  rf MEM_ARB_w_e 4 1 .rw .rw,
  rf MEM_ARB_w_f 4 1 .rw .rw,
  rf MEM_ARB_w_h 4 1 .rw .rw,
  rf MEM_OVERLAP_region 4 1 .ro .ro,
  rf MEM_OOR_DROPS_sat 4 1 .ro .ro,
  rf MEM_OOR_DROPS_count 4 1 .ro .ro,
  rf MEM_ZERO_BASE_units 4 1 .rw .rw,
  rf MEM_ZERO_LEN_units 4 1 .rw .rw]

/-- Register rows of the `MEMC` page. -/
def rowsMEMC0 : List RegField := [
  rf MEMC_STATUS_present 4 1 .ro .ro,
  rf MEMC_STATUS_trained 4 1 .ro .ro,
  rf MEMC_STATUS_in_map 4 1 .ro .ro,
  rf MEMC_STATUS_contained 4 1 .ro .ro,
  rf MEMC_STATUS_self_refresh 4 1 .ro .ro,
  rf MEMC_STATUS_capacity 4 1 .ro .ro,
  rf MEMC_STATUS_ranks 4 1 .ro .ro,
  rf MEMC_STATUS_density 4 1 .ro .ro,
  rf MEMC_STATUS_rate 4 1 .ro .ro,
  rf MEMC_SERIAL_serial 4 1 .ro .ro,
  rfm MEMC_MARK_marked 1 7 4 0 .ro .ro,
  rfm MEMC_MARK_marked 1 15 4 1 .ro .ro,
  rfm MEMC_MARK_marked 1 23 4 2 .ro .ro,
  rfm MEMC_MARK_marked 1 31 4 3 .ro .ro,
  rfm MEMC_MARK_device 1 0 4 0 .ro .ro,
  rfm MEMC_MARK_device 1 8 4 1 .ro .ro,
  rfm MEMC_MARK_device 1 16 4 2 .ro .ro,
  rfm MEMC_MARK_device 1 24 4 3 .ro .ro,
  rf MEMC_MARK_CFG_thresh 4 1 .ro .rw,
  rf MEMC_MARK_CFG_decay 4 1 .ro .rw,
  rf MEMC_MARK_CFG_second 4 1 .ro .rw,
  rf MEMC_CORR_count 4 1 .ro .ro,
  rf MEMC_ERASE_count 4 1 .ro .ro,
  rf MEMC_UNCORR_count 4 1 .ro .ro,
  rf MEMC_POISON_READS_count 4 1 .ro .ro,
  rf MEMC_HEALED_count 4 1 .ro .ro,
  rf MEMC_POISON_MERGE_count 4 1 .ro .ro,
  rf MEMC_WR_DROPS_count 4 1 .ro .ro,
  rf MEMC_SCRUB_CORR_count 4 1 .ro .ro,
  rf MEMC_REPAIRS_count 4 1 .ro .ro,
  rf MEMC_SAT_flags 4 1 .ro .ro,
  rf MEMC_VALID_LINES_count 4 1 .ro .ro,
  rf MEMC_SCRUB_POS_line 4 1 .ro .ro,
  rf MEMC_SCRUB_PASS_passes 4 1 .ro .ro,
  rf MEMC_SCRUB_PASS_minutes 4 1 .ro .ro,
  rf MEMC_LAST_ERR_LO_addr_lo 4 1 .snap .snap,
  rf MEMC_LAST_ERR_HI_addr_hi 4 1 .snap .snap,
  rf MEMC_LAST_ERR_kind 4 1 .ro .ro,
  rf MEMC_LAST_ERR_q 4 1 .ro .ro,
  rf MEMC_LAST_ERR_device 4 1 .ro .ro]

/-- Register rows of the `MEMC` page, continued. -/
def rowsMEMC1 : List RegField := [
  rf MEMC_BLAME_odd 4 20 .ro .ro,
  rf MEMC_BLAME_even 4 20 .ro .ro]

/-- Every register row of the `MEMC` page. -/
def rowsMEMC : List RegField := rowsMEMC0 ++ rowsMEMC1

/-- Register rows of the `FLR` page. -/
def rowsFLR : List RegField := [
  rf FLR_CFG_en 4 1 .rw .rw,
  rf FLR_CFG_decimate 4 1 .rw .rw,
  rf FLR_BASE_gib 4 1 .rw .rw,
  rf FLR_SIZE_gib 4 1 .rw .rw,
  rf FLR_LANES_N_count 4 1 .rw .rw,
  rf FLR_LANE_odd 4 16 .rw .rw,
  rf FLR_LANE_even 4 16 .rw .rw,
  rf FLR_TRIG_CFG_class_en 4 1 .rw .rw,
  rf FLR_TRIG_CFG_min_class 4 1 .rw .rw,
  rf FLR_TRIG_CFG_source_en 4 1 .rw .rw,
  rf FLR_TRIG_CFG_lane_en 4 1 .rw .rw,
  rf FLR_TRIG_CFG_posture_en 4 1 .rw .rw,
  rf FLR_TRIG_CFG_source 4 1 .rw .rw,
  rf FLR_POST_frames 4 1 .rw .rw,
  rf FLR_STATUS_state 4 1 .ro .ro,
  rf FLR_SLOTS_slots 4 1 .ro .ro,
  rf FLR_WR_SLOT_slot 4 1 .ro .ro,
  rf FLR_FIRST_SLOT_slot 4 1 .ro .ro,
  rf FLR_TRIG_FRAME_LO_lo 4 1 .snap .snap,
  rf FLR_TRIG_FRAME_HI_hi 4 1 .snap .snap,
  rf FLR_TRIG_CAUSE_source 4 1 .ro .ro,
  rf FLR_TRIG_CAUSE_cause 4 1 .ro .ro,
  rf FLR_DROPS_sat 4 1 .ro .ro,
  rf FLR_DROPS_count 4 1 .ro .ro]

/-- Register rows of the `LDG` page. -/
def rowsLDG : List RegField := [
  rf LDG_STATUS_ident_ok 4 1 .ro .ro,
  rf LDG_STATUS_cert_loaded 4 1 .ro .ro,
  rf LDG_STATUS_coalescing 4 1 .ro .ro,
  rf LDG_STATUS_reserve 4 1 .ro .ro,
  rf LDG_STATUS_trng_ok 4 1 .ro .ro,
  rf LDG_STATUS_torn 4 1 .w1c .w1c,
  rf LDG_STATUS_full 4 1 .ro .ro,
  rf LDG_STATUS_seals_pending 4 1 .ro .ro,
  rf LDG_HEAD_LO_lo 4 1 .snap .snap,
  rf LDG_HEAD_HI_hi 4 1 .snap .snap,
  rf LDG_SEAL_LO_lo 4 1 .snap .snap,
  rf LDG_SEAL_HI_hi 4 1 .snap .snap,
  rf LDG_ACK_LO_lo 4 1 .snap .snap,
  rf LDG_ACK_HI_hi 4 1 .snap .snap,
  rf LDG_UNACKED_count 4 1 .ro .ro,
  rf LDG_BOOT_count 4 1 .ro .ro,
  rf LDG_FULL_REFUSALS_sat 4 1 .ro .ro,
  rf LDG_FULL_REFUSALS_count 4 1 .ro .ro,
  rf LDG_KEY_GEN_gen_b 4 1 .ro .ro,
  rf LDG_KEY_GEN_gen_a 4 1 .ro .ro,
  rf LDG_ACK_ARG_LO_lo 4 1 .rw .rw,
  rf LDG_ACK_ARG_HI_hi 4 1 .rw .rw,
  rf LDG_NONCE_IN_data 4 8 .rw .rw,
  rf LDG_OUT_STATUS_kind 4 1 .ro .ro,
  rf LDG_OUT_STATUS_state 4 1 .ro .ro,
  rf LDG_OUT_data 4 128 .ro .ro,
  rf LDG_CERT_LEN_bytes 4 1 .rw .rw,
  rf LDG_CERT_SEL_part 4 1 .rw .rw,
  rf LDG_CERT_DATA_data 4 256 .rw .rw,
  rf LDG_DEVKEY_data 4 25 .ro .ro,
  rf LDG_DEVKEY_ID_data 4 12 .ro .ro]

/-- Register rows of the `MTR` page. -/
def rowsMTR0 : List RegField := [
  rf MTR_STATUS_no_spare 4 1 .ro .ro,
  rf MTR_STATUS_rotating 4 1 .ro .ro,
  rf MTR_STATUS_spare 4 1 .ro .ro,
  rf MTR_STATUS_cal_channel 4 1 .ro .ro,
  rf MTR_STATUS_retired 4 1 .ro .ro,
  rf MTR_REC_CFG_summary 4 1 .ro .rw,
  rf MTR_REC_CFG_interval 4 1 .ro .rw,
  rf MTR_DISC_CFG_eff_hi 4 1 .ro .rw,
  rf MTR_DISC_CFG_eff_lo 4 1 .ro .rw,
  rf MTR_DISC_WIN_window 4 1 .ro .rw,
  rf MTR_DISC_WIN_e_min 4 1 .ro .rw,
  rf MTR_CAL_CFG_cal_tol 4 1 .ro .rw,
  rf MTR_CAL_CFG_period 4 1 .ro .rw,
  rf MTR_CAL_REJECTS_sat 4 1 .ro .ro,
  rf MTR_CAL_REJECTS_count 4 1 .ro .ro,
  rf MTR_CH_SEL_ch 4 1 .rw .rw,
  rf MTR_CH_GAIN_gain 4 1 .ro .rw,
  rf MTR_CH_OFFSET_offset 4 1 .ro .rw,
  rf MTR_CH_CODE_ovr 4 1 .ro .ro,
  rf MTR_CH_CODE_settling 4 1 .ro .ro,
  rf MTR_CH_CODE_code 4 1 .ro .ro,
  rf MTR_CH_VALUE_value 4 1 .ro .ro,
  rf MTR_CH_INFO_clips 4 1 .ro .ro,
  rf MTR_CH_INFO_modulator 4 1 .ro .ro,
  rf MTR_BANK_SEL_bank 4 1 .rw .rw,
  rf MTR_BANK_EOUT_LO_lo 4 1 .snap .snap,
  rf MTR_BANK_EOUT_HI_hi 4 1 .snap .snap,
  rf MTR_BANK_EIN_LO_lo 4 1 .snap .snap,
  rf MTR_BANK_EIN_HI_hi 4 1 .snap .snap,
  rf MTR_BANK_FLAGS_eta_out 4 1 .ro .ro,
  rf MTR_BANK_FLAGS_unattributed 4 1 .ro .ro,
  rf MTR_BANK_FLAGS_discrepancy 4 1 .ro .ro,
  rf MTR_BANK_FLAGS_clipped 4 1 .ro .ro,
  rf MTR_UNIT_SEL_unit 4 1 .rw .rw,
  rf MTR_UNIT_STATUS_defined 4 1 .ro .ro,
  rf MTR_UNIT_STATUS_ranges 4 1 .ro .ro,
  rf MTR_UNIT_STATUS_cells 4 1 .ro .ro,
  rf MTR_UNIT_EOUT_LO_lo 4 1 .snap .snap,
  rf MTR_UNIT_EOUT_HI_hi 4 1 .snap .snap,
  rf MTR_UNIT_EIN_LO_lo 4 1 .snap .snap]

/-- Register rows of the `MTR` page, continued. -/
def rowsMTR1 : List RegField := [
  rf MTR_UNIT_EIN_HI_hi 4 1 .snap .snap,
  rf MTR_UNIT_THRU_LO_lo 4 1 .snap .snap,
  rf MTR_UNIT_THRU_HI_hi 4 1 .snap .snap,
  rf MTR_UNIT_EFC_efc 4 1 .ro .ro,
  rf MTR_UNLEASED_EOUT_LO_lo 4 1 .snap .snap,
  rf MTR_UNLEASED_EOUT_HI_hi 4 1 .snap .snap,
  rf MTR_UNLEASED_EIN_LO_lo 4 1 .snap .snap,
  rf MTR_UNLEASED_EIN_HI_hi 4 1 .snap .snap]

/-- Every register row of the `MTR` page. -/
def rowsMTR : List RegField := rowsMTR0 ++ rowsMTR1

/-- Register rows of the `TWN` page. -/
def rowsTWN : List RegField := [
  rf TWN_CFG_pref_role 4 1 .ro .rw,
  rf TWN_CFG_pair_wait 4 1 .ro .rw,
  rf TWN_CFG_en 4 1 .ro .rw,
  rf TWN_STATUS_role 4 1 .ro .ro,
  rf TWN_STATUS_pair_state 4 1 .ro .ro,
  rf TWN_STATUS_mismatch 4 1 .ro .ro,
  rf TWN_STATUS_no_ident 4 1 .ro .ro,
  rf TWN_STATUS_no_takeover 4 1 .ro .ro,
  rf TWN_STATUS_lanes 4 1 .ro .ro,
  rf TWN_STATUS_missed 4 1 .ro .ro,
  rf TWN_PARTNER_EPOCH_epoch 4 1 .ro .ro,
  rf TWN_CFG_SEQ_LO_lo 4 1 .snap .snap,
  rf TWN_CFG_SEQ_HI_hi 4 1 .snap .snap,
  rf TWN_SNAP_STATUS_drops 4 1 .ro .ro,
  rf TWN_SNAP_STATUS_age 4 1 .ro .ro,
  rf TWN_SNAP_FRAME_LO_lo 4 1 .snap .snap,
  rf TWN_SNAP_FRAME_HI_hi 4 1 .snap .snap,
  rf TWN_STBY_WRITES_sat 4 1 .ro .ro,
  rf TWN_STBY_WRITES_count 4 1 .ro .ro,
  rf TWN_TAKEOVERS_sat 4 1 .ro .ro,
  rf TWN_TAKEOVERS_count 4 1 .ro .ro,
  rf TWN_SPLIT_sat 4 1 .ro .ro,
  rf TWN_SPLIT_count 4 1 .ro .ro,
  rf TWN_XSIGN_queued 4 1 .ro .ro,
  rf TWN_XSIGN_dropped 4 1 .ro .ro,
  rf TWN_XSIGN_failures 4 1 .ro .ro,
  rf TWN_PEER_IRQ_count 4 1 .ro .ro,
  rf TWN_PEER_IRQ_source 4 1 .ro .ro,
  rf TWN_PARTNER_ID_data 4 12 .ro .rw]

/-- Register rows of the `RTC` page. -/
def rowsRTC0 : List RegField := [
  rf RTC_STATUS_osc_stopped 4 1 .ro .w1c,
  rf RTC_STATUS_osc_running 4 1 .ro .ro,
  rf RTC_STATUS_set_pending 4 1 .ro .ro,
  rf RTC_STATUS_epoch_unset 4 1 .ro .ro,
  rf RTC_TICK_LO_tick_lo 4 1 .snap .snap,
  rf RTC_TICK_HI_epoch 4 1 .snap .snap,
  rf RTC_TICK_HI_tick_hi 4 1 .snap .snap,
  rf RTC_SET_LO_tick_lo 4 1 .ro .rw,
  rf RTC_SET_HI_tick_hi 4 1 .ro .rw,
  rf RTC_TRIM_ppb 4 1 .ro .rw,
  rf RTC_TRIM_CFG_auto_apply 4 1 .ro .rw,
  rf RTC_TRIM_CFG_g 4 1 .ro .rw,
  rf RTC_TRIM_CFG_gv 4 1 .ro .rw,
  rf RTC_TRIM_CFG_f60 4 1 .ro .rw,
  rf RTC_TRIM_CFG_src 4 1 .ro .rw,
  rf RTC_TRIM_MEAS_ppb 4 1 .ro .ro,
  rf RTC_TRIM_STATUS_valid 4 1 .ro .ro,
  rf RTC_TRIM_STATUS_running 4 1 .ro .ro,
  rf RTC_TRIM_STATUS_aborts 4 1 .ro .ro,
  rf RTC_TRIM_STATUS_completed 4 1 .ro .ro,
  rf RTC_SQW_en 4 1 .rw .rw,
  rf RTC_SQW_freq 4 1 .rw .rw,
  rf RTC_TRICKLE_en 4 1 .ro .rw,
  rf RTC_TRICKLE_float 4 1 .ro .rw,
  rf RTC_TRICKLE_current 4 1 .ro .rw,
  rf RTC_ALM_LO_value_lo 16 2 .rw .rw,
  rf RTC_ALM_HI_arm 16 2 .rw .rw,
  rf RTC_ALM_HI_fired 16 2 .w1c .w1c,
  rf RTC_ALM_HI_lost 16 2 .w1c .w1c,
  rf RTC_ALM_HI_wake 16 2 .rw .rw,
  rf RTC_ALM_HI_value_hi 16 2 .rw .rw,
  rf RTC_ALM_PERIOD_ticks 16 2 .rw .rw,
  rf RTC_ALM_EPOCH_epoch 16 2 .ro .ro,
  rf RTC_SWITCH_armed 4 1 .ro .ro,
  rf RTC_SWITCH_stamped 4 1 .ro .ro,
  rf RTC_SWITCH_vbus_present 4 1 .ro .ro,
  rf RTC_SWITCH_epoch 4 1 .ro .ro,
  rf RTC_SWITCH_TICK_LO_lo 4 1 .snap .snap,
  rf RTC_SWITCH_TICK_HI_hi 4 1 .snap .snap,
  rf RTC_SWITCH_COUNT_count 4 1 .ro .ro]

/-- Register rows of the `RTC` page, continued. -/
def rowsRTC1 : List RegField := [
  rf RTC_STOPS_count 4 1 .ro .ro,
  rf RTC_SCRATCH_data 4 8 .ro .rw]

/-- Every register row of the `RTC` page. -/
def rowsRTC : List RegField := rowsRTC0 ++ rowsRTC1

/-- Register rows of the `PWR` page. -/
def rowsPWR0 : List RegField := [
  rf PWR_STATUS_vin_ok 4 1 .ro .ro,
  rf PWR_STATUS_vbus_ok 4 1 .ro .ro,
  rf PWR_STATUS_batteryless 4 1 .ro .ro,
  rf PWR_STATUS_warning 4 1 .ro .ro,
  rf PWR_STATUS_th_ok 4 1 .ro .ro,
  rf PWR_STATUS_restrictive 4 1 .ro .ro,
  rf PWR_STATUS_shorted_seen 4 1 .ro .w1c,
  rf PWR_STATUS_collapse_seen 4 1 .ro .w1c,
  rf PWR_STATUS_stop_cause 4 1 .ro .ro,
  rf PWR_STATUS_source 4 1 .ro .ro,
  rf PWR_STATUS_chg_state 4 1 .ro .ro,
  rf PWR_VIN_mv 4 1 .ro .ro,
  rf PWR_NODE_i_cell 4 1 .ro .ro,
  rf PWR_NODE_mv 4 1 .ro .ro,
  rf PWR_VBUS_i_in 4 1 .ro .ro,
  rf PWR_VBUS_mv 4 1 .ro .ro,
  rf PWR_CELL_T_t 4 1 .ro .ro,
  rf PWR_CHG_CFG_en 4 1 .ro .rw,
  rf PWR_CHG_CFG_float 4 1 .ro .rw,
  rf PWR_CHG_CFG_i_term 4 1 .ro .rw,
  rf PWR_CHG_CFG_timer_h 4 1 .ro .rw,
  rf PWR_CHG_CFG_i_chg 4 1 .ro .rw,
  rf PWR_CHG_REG_t_reg 4 1 .ro .rw,
  rf PWR_CHG_REG_vin_reg 4 1 .ro .rw,
  rf PWR_CHG_REG_i_in_lim 4 1 .ro .rw,
  rf PWR_CHG_TIMER_half_speed 4 1 .ro .ro,
  rf PWR_CHG_TIMER_running 4 1 .ro .ro,
  rf PWR_CHG_TIMER_count 4 1 .ro .ro,
  rf PWR_WARN_CFG_v_warn 4 1 .ro .rw,
  rf PWR_VIN_LOSSES_sat 4 1 .ro .ro,
  rf PWR_VIN_LOSSES_count 4 1 .ro .ro,
  rf PWR_COLLAPSES_sat 4 1 .ro .ro,
  rf PWR_COLLAPSES_count 4 1 .ro .ro,
  rf PWR_PULSE_rise 4 1 .ro .ro,
  rf PWR_PULSE_tests 4 1 .ro .ro,
  rf PWR_PSTATE_cold_cause 4 1 .ro .ro,
  rf PWR_PSTATE_collapse_block 4 1 .ro .ro,
  rf PWR_PSTATE_sd_wait 4 1 .ro .ro,
  rf PWR_PSTATE_up_pending 4 1 .ro .ro,
  rf PWR_PSTATE_hub_up 4 1 .ro .ro]

/-- Register rows of the `PWR` page, continued. -/
def rowsPWR1 : List RegField := [
  rf PWR_PSTATE_state 4 1 .ro .ro,
  rf PWR_PS_CFG_hib_recipes 4 1 .ro .rw,
  rf PWR_PS_CFG_auto_up 4 1 .ro .rw,
  rf PWR_PS_LAST_UP_ms 4 1 .ro .ro,
  rf PWR_PS_CHANGES_sat 4 1 .ro .ro,
  rf PWR_PS_CHANGES_count 4 1 .ro .ro]

/-- Every register row of the `PWR` page. -/
def rowsPWR : List RegField := rowsPWR0 ++ rowsPWR1

/-- Register rows of the `BRN` page. -/
def rowsBRN0 : List RegField := [
  rf BRN_CFG_adapt_en 64 4 .ro .rw,
  rf BRN_CFG_shed_en 64 4 .ro .rw,
  rf BRN_CFG_cur_eq 64 4 .ro .rw,
  rf BRN_CFG_clk_src 64 4 .ro .rw,
  rf BRN_CFG_fsw 64 4 .ro .rw,
  rf BRN_STATUS_state 64 4 .ro .ro,
  rf BRN_STATUS_pg 64 4 .ro .ro,
  rf BRN_STATUS_limiting 64 4 .ro .ro,
  rf BRN_STATUS_truncating 64 4 .ro .ro,
  rf BRN_STATUS_adapting 64 4 .ro .ro,
  rf BRN_STATUS_active 64 4 .ro .ro,
  rf BRN_STATUS_hiccups 64 4 .ro .ro,
  rf BRN_VID_target 64 4 .ro .ro,
  rf BRN_VID_code_now 64 4 .ro .ro,
  rf BRN_SLEW_rate 64 4 .ro .rw,
  rf BRN_PHASES_min_phases 64 4 .ro .rw,
  rf BRN_PHASES_populated 64 4 .ro .rw,
  rf BRN_ILIM_i_shed 64 4 .ro .rw,
  rf BRN_ILIM_i_lim 64 4 .ro .rw,
  rf BRN_HICCUP_retries 64 4 .ro .rw,
  rf BRN_HICCUP_t_hiccup 64 4 .ro .rw,
  rf BRN_HICCUP_n_cyc 64 4 .ro .rw,
  rf BRN_PROT_pg_win 64 4 .ro .rw,
  rf BRN_PROT_ovs 64 4 .ro .rw,
  rf BRN_PROT_t_phase_max 64 4 .ro .rw,
  rf BRN_COMP_kd 64 4 .ro .rw,
  rf BRN_COMP_ki 64 4 .ro .rw,
  rf BRN_COMP_kp 64 4 .ro .rw,
  rf BRN_ADAPT_band 64 4 .ro .rw,
  rf BRN_ADAPT_margin 64 4 .ro .rw,
  rf BRN_ADAPT_LIM_ceiling 64 4 .ro .rw,
  rf BRN_ADAPT_LIM_floor 64 4 .ro .rw,
  rf BRN_OUT_i_total 64 4 .ro .ro,
  rf BRN_OUT_v_out 64 4 .ro .ro,
  rf BRN_TRUNC_sat 64 4 .ro .ro,
  rf BRN_TRUNC_count 64 4 .ro .ro,
  rf BRN_LIMCYC_sat 64 4 .ro .ro,
  rf BRN_LIMCYC_count 64 4 .ro .ro,
  rf BRN_SCALE_imon_gain 64 4 .ro .rw,
  rf BRN_HIST_phase 64 4 .ro .ro]

/-- Register rows of the `BRN` page, continued. -/
def rowsBRN1 : List RegField := [
  rf BRN_HIST_last_stop 64 4 .ro .ro,
  rf BRN_SLACK_s_min 4 1 .ro .ro,
  rf BRN_SLACK_sensor 4 1 .ro .ro,
  rf BRN_SLACK_DIES_reporting 4 1 .ro .ro,
  rf BRN_PHASE_imon 4 32 .ro .ro,
  rf BRN_PHASE_tmon 4 32 .ro .ro,
  rf BRN_PHASE_hot 4 32 .ro .ro,
  rf BRN_PHASE_shed 4 32 .ro .ro,
  rf BRN_PHASE_limited 4 32 .ro .ro,
  rf BRN_PHASE_shorted 4 32 .ro .ro]

/-- Every register row of the `BRN` page. -/
def rowsBRN : List RegField := rowsBRN0 ++ rowsBRN1

/-- Register rows of the `SEQ` page. -/
def rowsSEQ : List RegField := [
  rf SEQ_ENG_STATUS_state 32 2 .ro .ro,
  rf SEQ_ENG_STATUS_recipe 32 2 .ro .ro,
  rf SEQ_ENG_STATUS_last_end 32 2 .ro .ro,
  rf SEQ_ENG_STATUS_last_result 32 2 .ro .ro,
  rf SEQ_ENG_STATUS_pc 32 2 .ro .ro,
  rf SEQ_ENG_NOTE_note 32 2 .ro .ro,
  rf SEQ_ENG_WAIT_us 32 2 .ro .ro,
  rf SEQ_ENG_STEP_word 32 2 .ro .ro,
  rf SEQ_ENG_RUNS_sat 32 2 .ro .ro,
  rf SEQ_ENG_RUNS_count 32 2 .ro .ro,
  rf SEQ_RAIL_ON_on 4 3 .ro .ro,
  rf SEQ_RAIL_GOOD_good 4 3 .ro .ro,
  rf SEQ_SHED_shed 4 3 .w1c .w1c,
  rf SEQ_SHED_ROOT_busy 4 1 .ro .ro,
  rf SEQ_SHED_ROOT_count 4 1 .ro .ro,
  rf SEQ_SHED_ROOT_root 4 1 .ro .ro,
  rf SEQ_CFG_pg_deglitch 4 1 .ro .rw,
  rf SEQ_FLAGS_flags 4 1 .ro .rw,
  rf SEQ_PG_LOST_sat 4 1 .ro .ro,
  rf SEQ_PG_LOST_count 4 1 .ro .ro,
  rf SEQ_REJ_COUNT_sat 4 1 .ro .ro,
  rf SEQ_REJ_COUNT_count 4 1 .ro .ro]

/-- Register rows of the `PD` page. -/
def rowsPD : List RegField := [
  rf PD_STATUS_tc_state 4 1 .ro .ro,
  rf PD_STATUS_orientation 4 1 .ro .ro,
  rf PD_STATUS_power_role 4 1 .ro .ro,
  rf PD_STATUS_contract 4 1 .ro .ro,
  rf PD_STATUS_rp_adv 4 1 .ro .ro,
  rf PD_STATUS_dead_battery 4 1 .ro .ro,
  rf PD_STATUS_alt_entered 4 1 .ro .ro,
  rf PD_STATUS_sl_state 4 1 .ro .ro,
  rf PD_STATUS_waiting 4 1 .ro .ro,
  rf PD_CFG_alt_en 4 1 .ro .rw,
  rf PD_CFG_src_en 4 1 .ro .rw,
  rf PD_CFG_drp_en 4 1 .ro .rw,
  rf PD_POLICY_host 4 1 .rw .rw,
  rf PD_CONTRACT_mv 4 1 .ro .ro,
  rf PD_CONTRACT_ma 4 1 .ro .ro,
  rf PD_ILIM_ma 4 1 .ro .ro,
  rf PD_TIMERS_wait_retry 4 1 .rw .rw,
  rf PD_COUNTS_hard_resets 4 1 .ro .ro,
  rf PD_COUNTS_waits 4 1 .ro .ro,
  rf PD_COUNTS_tx_failed 4 1 .ro .ro,
  rf PD_COUNTS_keepalives 4 1 .ro .ro,
  rf PD_SVID_vid 4 1 .ro .ro,
  rf PD_TX_HDR_header 4 1 .rw .rw,
  rf PD_TX_OBJ_obj 4 8 .rw .rw,
  rf PD_TX_STATUS_result 4 1 .ro .ro,
  rf PD_RX_STATUS_valid 4 1 .w1c .w1c,
  rf PD_RX_STATUS_count 4 1 .ro .ro,
  rf PD_RX_STATUS_header 4 1 .ro .ro,
  rf PD_RX_OBJ_obj 4 8 .ro .ro,
  rf PD_SL_STATUS_unsigned 4 1 .ro .ro,
  rf PD_SL_STATUS_bad 4 1 .ro .ro]

/-- Register rows of the `THM` page. -/
def rowsTHM : List RegField := [
  rf THM_STATUS_sd_latched 4 1 .ro .ro,
  rf THM_STATUS_cooled 4 1 .ro .ro,
  rf THM_STATUS_warm 4 1 .ro .ro,
  rf THM_STATUS_hottest 4 1 .ro .ro,
  rf THM_STATUS_hottest_t 4 1 .ro .ro,
  rf THM_LIMITS_sd_c 4 1 .ro .ro,
  rf THM_LIMITS_warn_c 4 1 .ro .rw,
  rf THM_LIMITS_die_tol 4 1 .ro .rw,
  rf THM_LIMITS_th_tol 4 1 .ro .rw,
  rf THM_BROKEN_DIE0_broken 4 1 .ro .ro,
  rf THM_BROKEN_DIE1_broken 4 1 .ro .ro,
  rf THM_BROKEN_TH_nosig 4 1 .ro .ro,
  rf THM_BROKEN_TH_broken 4 1 .ro .ro,
  rf THM_SEL_input 4 1 .rw .rw,
  rf THM_IN_raw 4 1 .ro .ro,
  rf THM_IN_used 4 1 .ro .ro,
  rf THM_IN_FLAGS_comp_masked 4 1 .ro .ro,
  rf THM_IN_FLAGS_shorted 4 1 .ro .ro,
  rf THM_IN_FLAGS_open 4 1 .ro .ro,
  rf THM_IN_FLAGS_subst 4 1 .ro .ro,
  rf THM_IN_FLAGS_broken 4 1 .ro .ro,
  rf THM_TH_CFG_en 4 16 .ro .rw,
  rf THM_TH_CFG_nbr 4 16 .ro .rw,
  rf THM_SHUTDOWNS_count 4 1 .ro .ro,
  rf THM_SD_SEL_back 4 1 .rw .rw,
  rf THM_WARM_EVENTS_sat 4 1 .ro .ro,
  rf THM_WARM_EVENTS_count 4 1 .ro .ro,
  rf THM_SD_REC_data 4 16 .ro .ro]

/-- Register rows of the `WDT` page. -/
def rowsWDT : List RegField := [
  rf WDT_CFG_hw_start 4 1 .ro .ro,
  rf WDT_CFG_running 4 1 .ro .ro,
  rf WDT_CFG_window 4 1 .ro .rw,
  rf WDT_CFG_period_ms 4 1 .ro .rw,
  rf WDT_SLOT_EN_en 4 1 .ro .rw,
  rf WDT_KICK_kick 4 1 .wo .wo,
  rf WDT_DONE_done 4 1 .ro .ro,
  rf WDT_EARLY_early 4 1 .ro .ro,
  rf WDT_LEFT_us 4 1 .ro .ro,
  rf WDT_EXPIRIES_sat 4 1 .ro .ro,
  rf WDT_EXPIRIES_count 4 1 .ro .ro,
  rf WDT_BAD_KICKS_sat 4 1 .ro .ro,
  rf WDT_BAD_KICKS_count 4 1 .ro .ro,
  rf WDT_CAP_SEL_back 4 1 .rw .rw,
  rf WDT_CAPTURES_count 4 1 .ro .ro,
  rf WDT_CAP_data 4 128 .ro .ro]

/-- Register rows of the `OTP` page. -/
def rowsOTP : List RegField := [
  rf OTP_STATUS_restrictive 4 1 .ro .ro,
  rf OTP_STATUS_unclaimed 4 1 .ro .ro,
  rf OTP_STATUS_sensing 4 1 .ro .ro,
  rf OTP_STATUS_busy 4 1 .ro .ro,
  rf OTP_STATUS_attempts_last 4 1 .ro .ro,
  rf OTP_STATUS_spares_used 4 1 .ro .ro,
  rf OTP_SEALED_sealed 4 1 .ro .ro,
  rf OTP_FAILED_failed 4 1 .ro .ro,
  rf OTP_ADDR_word 4 1 .rw .rw,
  rf OTP_DATA_data 4 1 .rw .rw,
  rf OTP_READ_data 4 1 .ro .ro,
  rf OTP_DISAGREE_redir 4 1 .ro .ro,
  rf OTP_DISAGREE_counter 4 1 .ro .ro,
  rf OTP_SENSES_sat 4 1 .ro .ro,
  rf OTP_SENSES_count 4 1 .ro .ro,
  rf OTP_REDIR_used 4 16 .ro .ro,
  rf OTP_REDIR_row 4 16 .ro .ro,
  rf OTP_COUNTER_value 4 8 .ro .ro]

/-- The register rows of a block, by its first page number (R75); every page also has the common header. -/
def blockRows (block : Nat) : List RegField :=
  if block = 0x00 then rowsGEN else if block = 0x01 then rowsHIF else if block = 0x02 then rowsCUS
  else if block = 0x06 then rowsDMA
  else if block = 0x03 then rowsIRQ
  else if block = 0x04 then rowsFLT
  else if block = 0x05 then rowsTKT
  else if block = 0x07 then rowsCLK
  else if block = 0x40 then rowsLNK
  else if block = 0x14 then rowsFRM
  else if block = 0x15 then rowsSCH
  else if block = 0x20 then rowsBNK
  else if block = 0x16 then rowsIMP
  else if block = 0x17 then rowsEST
  else if block = 0x18 then rowsMEM
  else if block = 0x30 then rowsMEMC
  else if block = 0x19 then rowsFLR
  else if block = 0x12 then rowsLDG
  else if block = 0x13 then rowsMTR
  else if block = 0x11 then rowsTWN
  else if block = 0x08 then rowsRTC
  else if block = 0x09 then rowsPWR
  else if block = 0x0B then rowsBRN
  else if block = 0x0A then rowsSEQ
  else if block = 0x10 then rowsPD
  else if block = 0x0C then rowsTHM
  else if block = 0x0D then rowsWDT
  else if block = 0x0E then rowsOTP
  else []

end Sys2Proof.Machine
end

