-- ==== Sys2Proof/Machine/State.lean ====
section
/-!
DEFINITION. Machine/State.lean: everything the spec gives the block, as plain data.

A register field has ONE home: the field store `Dev.regs`. What the registers do not show (the ticket rail, the
drip tray, the ledger, the lanes' training, the cells' filters, the recipes, the OTP array) stands in the typed
structures beside it. Sparse tables are `SMap`s with a stated default.
-/
namespace Sys2Proof.Machine

/-- Why a command stops the machine. No command of this block does: every row of the table has an effect. -/
inductive Fault where
  /-- Kept for the interface: no meaning raises it (safe). -/
  | none
  deriving DecidableEq, Repr

/-- Why a command has no meaning. -/
inductive Refusal where
  /-- Raised by the dispatcher for a command that is not modelled (safe). -/
  | notModelled (mnemonic : String)
  deriving DecidableEq, Repr

/-- The field store: by field code, then by instance. -/
abbrev Store := SMap (SMap Nat)

/-! ## Faults and the drip tray (chapter 04) -/

/-- One drip-tray record (R115). `kind`: 0 `FAULT`, 1 `ACK`, 2 `RELEASE`, 3 `RESTORE`. -/
structure DripRec where
  seq : Nat
  kind : Nat
  raised : Nat
  effective : Nat
  escalated : Bool
  source : Nat
  page : Nat
  suppressed : Nat
  location : Nat
  epoch : Nat
  tick : Nat
  frame : Nat
  ticket : Nat
  detail : Nat
  latched : Nat
  overflow : Nat
  deriving DecidableEq, Repr

/-- The hold-off of one (source, location) pair (R106): when its last fault was taken, and how many occurrences
have been suppressed since. -/
structure HoldOff where
  taken : Nat
  suppressed : Nat
  deriving DecidableEq, Repr

/-- A class latch as the pantry mirrors it (R113). -/
structure Latch where
  cls : Nat
  escalated : Bool
  raised : Nat
  page : Nat
  source : Nat
  seq : Nat
  location : Nat
  deriving DecidableEq, Repr

/-- The fault collector's state beside the `FLT` registers. -/
structure Flt where
  /-- hold-off per source and location, keyed by source × 2^32 + location -/
  holdOff : SMap HoldOff
  /-- records waiting for the pantry, oldest first (R117) -/
  queue : List DripRec
  /-- the pantry ring: slot to record -/
  tray : SMap DripRec
  /-- the slot after the one last written -/
  nextSlot : Nat
  /-- sequence numbers of acknowledgement pins, oldest first (R116) -/
  ackPins : List Nat
  /-- pins due: the first `FAULT` record of at least this sequence number is pinned (R116) -/
  pinFrom : List Nat
  /-- a drop spell is in progress (R117) -/
  dropSpell : Bool
  /-- a fault other than ESTOP has taken effective class 4 since latch 4 last filled (R111) -/
  otherTrip : Bool
  /-- pages whose blocks are contained, with the class whose acknowledgement lifts it (R103) -/
  contained : List (Nat × Nat)
  /-- by contained unit: sequence number of the fault that contained it (R120) -/
  containedBy : SMap Nat
  /-- pantry offsets of words whose write failed and that D00 shadows until power is lost (R105) -/
  shadowed : List Nat
  /-- the pantry mirror of latches 3 and 4 (R113) -/
  mirror : List Latch
  /-- the frame boundary index from which lanes transmit the trip posture: frames begun since the latch (R111) -/
  tripFresh : Nat
  deriving DecidableEq, Repr

/-! ## Tickets (chapter 04) -/

/-- One ticket entry (R121). -/
structure Ticket where
  ticket : Nat
  state : Nat
  open_ : Bool
  powerLost : Bool
  result : Nat
  channel : Nat
  opcode : Nat
  page : Nat
  arg : Nat
  done : Nat
  total : Nat
  issueEpoch : Nat
  issueTick : Nat
  endEpoch : Nat
  endTick : Nat
  issueFrame : Nat
  endFrame : Nat
  faultSeq : Nat
  detail : Nat
  deriving DecidableEq, Repr

/-- A command that waits for its ticket (R118). -/
structure HeldCmd where
  page : Nat
  op : Nat
  cmd : Cmd
  /-- it came as a privileged write, or is one by its chapter (R84) -/
  priv : Bool
  deriving DecidableEq, Repr

/-- The ticket rail's state beside the `TKT` registers. -/
structure Tkt where
  /-- entry index to entry -/
  rail : SMap Ticket
  /-- commands waiting for the 5 µs spacing, oldest first (R118) -/
  held : List HeldCmd
  /-- a lookup is in progress, per channel (R124) -/
  lookups : List Nat
  /-- `Dev.time` + 1 of the last ticket; 0 for none since the cold start (R118) -/
  issued : Nat
  deriving DecidableEq, Repr

/-! ## What leaves the device -/

/-- Kinds of message that leave the device at its balls. -/
inductive SentKind where
  | msix | intPulse | twinIrq | attention | frame | line | training | prbs | sl | pd | hardReset | twin | ben | pwm | hostWrite | hostRead | spi | readData | ep
  deriving DecidableEq, Repr

/-- One message that left the device: its kind, the lane, ring or vector it concerns, and its content. -/
structure Sent where
  kind : SentKind
  dest : Nat
  words : List Nat
  deriving DecidableEq, Repr

/-! ## The ledger (chapter 11) -/

/-- A field of a record's body: byte offset, length in bytes, value. -/
structure Part where
  off : Nat
  len : Nat
  val : Nat
  deriving DecidableEq, Repr

/-- A write that waits at its link (R84). `kind`: 0 a 32-bit write of BAR0, 1 a write of BAR2 (its enabled bytes by offset and the errors
that the DRAM shows), 2 a write of a size or alignment that BAR0 refuses. -/
structure LinkWrite where
  kind : Nat
  addr : Nat
  val : Nat
  ch : Nat
  bytes : List (Nat × Nat)
  errs : List MemErr
  deriving DecidableEq, Repr

/-- A read that waits (R79, R84, R124): of BAR0 through a channel, of BAR2, or a request of the service link, whose header and
payload are kept. -/
structure LinkRead where
  bar2 : Bool
  /-- a `WRITE` of the service link whose words have gone to their pages: its answer alone waits -/
  done : Bool
  ch : Nat
  addr : Nat
  size : Nat
  packet : List Nat
  errs : List MemErr
  deriving DecidableEq, Repr

/-- A record waiting for the ledger engine: type, flags, body, and what its append completes: a ticket to close, an
interrupt source to clear (1024 for none). -/
structure LdgPend where
  kind : Nat
  flags : Nat
  body : List Part
  ticket : Nat
  source : Nat
  deriving DecidableEq, Repr

/-- A ledger record in its slot (R350). `hash` is the chain hash h_n; `sig` a seal's signature. -/
structure LdgRec where
  seq : Nat
  epoch : Nat
  tick : Nat
  frame : Nat
  kind : Nat
  flags : Nat
  body : List Part
  hash : Nat
  sig : Nat
  deriving DecidableEq, Repr

/-- The ledger beside the `LDG` registers. -/
structure Ldg where
  /-- records waiting for the engine, oldest first; those of privileged writes are counted by R84 -/
  queue : List LdgPend
  /-- writes that wait at their links, oldest first: a privileged one for room in the queue of 64, the others behind it (R84) -/
  privWait : List LinkWrite
  /-- the ring: slot to record (R349) -/
  ring : SMap LdgRec
  /-- chain hash of the last record, and records since the last seal (R351, R352) -/
  hash : Nat
  sinceSeal : Nat
  /-- first sequence number the next seal covers -/
  sealFirst : Nat
  /-- seals waiting for their signatures, oldest first: sequence number and the `SEAL` ticket (R352) -/
  seals : List (Nat × Nat)
  /-- last sequence number appended + 1 -/
  next : Nat
  /-- the last `SHUTDOWN` appended in this boot + 1, 0 for none -/
  lastShutdown : Nat
  /-- records suppressed while the ring is full, by class of R361: all, seals, SHUTDOWN, SESSION closes, TORN, START -/
  suppressed : List Nat
  firstSupp : Nat × Nat
  lastSupp : Nat × Nat
  /-- seals whose condition arose while the ring was full, by their flags -/
  sealsOwed : List Nat
  /-- coalescing: record boundaries skipped and the first one's frame (R359) -/
  skipped : Nat
  skippedFrame : Nat
  /-- by lease unit: sequence number of its last `UNIT_DEF` record, plus 1 (R366) -/
  unitDef : SMap Nat
  /-- epoch, tick and frame at which power last cut the engine off, as a journal entry of that instant carries them (R357) -/
  cutAt : Nat × Nat × Nat
  deriving DecidableEq, Repr

/-! ## String lanes and twin lanes (chapter 05) -/

/-- A codeword as decoded: its payload bits after descrambling, first bit most significant, whether it was uncorrectable, and how many
symbols were corrected (R126, R127, R151). -/
structure RxWord where
  payload : Nat
  bad : Bool
  corr : Nat
  deriving DecidableEq, Repr

/-- What a lane holds beside its registers. Lanes 0–511 are string lanes, 512–515 the twin lanes (R157). -/
structure Lane where
  /-- tickets of an ENABLE, a DISABLE and a SAFE in progress; 0 for none -/
  enTkt : Nat
  disTkt : Nat
  safeTkt : Nat
  /-- posture frames still to send before a DISABLE squelches (R149) -/
  postureLeft : Nat
  /-- the 1 s squelch of R140 is running, or the clock unit holds the transmitter (R406) -/
  squelched : Bool
  heldByClock : Bool
  /-- the control word seen last per type, and how many blocks in a row carried it (R136) -/
  coeffWord : Nat
  coeffSeen : Nat
  infoWord : Nat
  infoSeen : Nat
  infoValid : Bool
  /-- tap status this end reports: pre, main, post (R138) -/
  stPre : Nat
  stMain : Nat
  stPost : Nat
  /-- taps this end is asking the far end to move: 0 hold, 1 increment, 2 decrement; and its preset request -/
  rqPreset : Nat
  rqPre : Nat
  rqMain : Nat
  rqPost : Nat
  /-- this end has sent ready (R139) -/
  sentReady : Bool
  /-- codeword lock: good codewords in a row, and which of the last 64 were uncorrectable, newest first (R141, R152) -/
  cwGood : Nat
  cwBad : List Bool
  /-- frame alignment: good headers in a row, the last header's frame number, bad frames in a row (R142, R152) -/
  hdrGood : Nat
  hdrLast : Nat
  hdrBad : Nat
  /-- delay measurement: disagreements so far, a first value is held, and the double of that value in 0.125 ns (R143) -/
  disagree : Nat
  measured : Bool
  lastOneWay : Nat
  /-- launch advance in symbols (R143) -/
  advance : Nat
  /-- the lane came to ALIGN by lock loss and keeps its advance through the first measurement (R152) -/
  keepAdv : Bool
  /-- the 31 bits of the transmit scrambler (R127) -/
  scrambler : Nat
  /-- training restarts from P1 (otherwise from the last coefficients) -/
  fromP1 : Bool
  /-- the engine takes no plans until the lane is re-enumerated (R103) -/
  contained : Bool
  /-- tickets of further DISABLEs and SAFEs that end with the same transition (R148) -/
  disMore : List Nat
  safeMore : List Nat
  /-- polarities as they applied at the last entry to TRAIN (R158) -/
  txInv : Bool
  rxInv : Bool
  /-- a training block's marker has been found; the 64 further ready blocks have been sent; the state of the PRBS13 generator (R135,
  R139, R140) -/
  marker : Bool
  further : Bool
  prbs : Nat
  /-- the symbol offset that the search for codeword lock tests (R141) -/
  rxOffset : Nat
  /-- the last 31 payload bits as received, for the descrambler (R127) -/
  rxScr : Nat
  /-- codewords received with codeword lock, newest first, at most 800, and how many since the last frame, at most 801 -/
  rx : List RxWord
  rxCount : Nat
  /-- the PRBS31 checker: its generator, good bits in a row, locked (R155) -/
  chkReg : Nat
  chkGood : Nat
  chkLock : Bool
  /-- the PRBS31 generator of a near loopback, whose serialiser feeds the deserialiser (R155) -/
  loopGen : Nat
  deriving DecidableEq, Repr

/-- A lane nothing has happened on. -/
def Lane.init : Lane :=
  { enTkt := 0, disTkt := 0, safeTkt := 0, postureLeft := 0, squelched := false, heldByClock := false, coeffWord := 0,
    coeffSeen := 0, infoWord := 0, infoSeen := 0, infoValid := false, stPre := 0, stMain := 0, stPost := 0, rqPreset := 0,
    rqPre := 0, rqMain := 0, rqPost := 0, sentReady := false, cwGood := 0, cwBad := [], hdrGood := 0, hdrLast := 0,
    hdrBad := 0, disagree := 0, measured := false, lastOneWay := 0, advance := 0, keepAdv := false,
    scrambler := 2 ^ 31 - 1, fromP1 := true, contained := false, disMore := [], safeMore := [],
    txInv := false, rxInv := false, marker := false, further := false, prbs := 0, rxOffset := 0, rxScr := 0, rx := [],
    rxCount := 0, chkReg := 0, chkGood := 0, chkLock := false, loopGen := 1 }

/-! ## Banks (chapter 07), what the scheduler keeps of each beside its registers -/

/-- A `MODE` command accepted and waiting for its boundary. -/
structure PendMode where
  mode : Nat
  ticket : Nat
  deriving DecidableEq, Repr

/-- A bank's waiting changes and its target generator. -/
structure Bank where
  /-- accepted `MODE` commands, in order (R201) -/
  pend : List PendMode
  /-- a forced change to HOLD is due, with its hold_cause (0: none) (R200) -/
  forceHold : Nat
  /-- a forced change to TRIPPED is due (R102) -/
  forceTrip : Bool
  /-- slewed DC level and AC amplitude, mV (R204, R205) -/
  level : Int
  amp : Int
  deriving DecidableEq, Repr

/-- A bank with nothing waiting. -/
def Bank.init : Bank := { pend := [], forceHold := 0, forceTrip := false, level := 0, amp := 0 }

/-! ## The sequencer (chapter 16) -/

/-- A dependants-only shutdown in progress (R468): the rails still to disable, each with its depth, and the depth
whose rails were disabled last. -/
structure Shutdown where
  root : Nat
  left : List (Nat × Nat)
  depth : Nat
  deriving DecidableEq, Repr

/-- One recipe engine's hidden state (R470). -/
structure Engine where
  steps : List Nat
  masks : List Nat
  tkt : Nat
  /-- what the run is for: 0 a `RUN` command, 1 POWER_UP, 2 POWER_DOWN, 3 HIBERNATE, 4 WAKE, 5 REBOOT -/
  purpose : Nat
  /-- the command ticket (POWER_UP, POWER_DOWN, REBOOT) that closes with the run -/
  cmdTkt : Nat
  /-- why it waits: 0 not, 1 `WAIT`, 2 `WAITPG`, 3 `SETVID` -/
  waiting : Nat
  waitMask : Nat
  target : Nat
  /-- the loop command's ticket and loop of a waiting `SETVID` -/
  loopTkt : Nat
  loop : Nat
  /-- when the wait in progress ends, in `Dev.time` (`SEQ_ENG_WAIT`) -/
  waitEnd : Nat
  deriving DecidableEq, Repr

/-- An engine with no run. -/
def Engine.init : Engine :=
  { steps := [], masks := [], tkt := 0, purpose := 0, cmdTkt := 0, waiting := 0, waitMask := 0, target := 0, loopTkt := 0,
    loop := 0, waitEnd := 0 }

/-- The sequencer beside the `SEQ` registers. -/
structure Seq where
  /-- bit r: rail r is running (R464) -/
  running : Nat
  /-- dependency masks that differ from R467's -/
  deps : SMap Nat
  shutdowns : List Shutdown
  eng0 : Engine
  eng1 : Engine
  /-- the recipe book: byte offset in window 12 (a multiple of 4) to word -/
  book : SMap Nat
  /-- recipes waiting for engine 0: 2 HIBERNATE, 3 WAKE (R551) -/
  waitingSlots : List Nat
  deriving DecidableEq, Repr

/-! ## Frames, inventory and the management channel (chapter 06) -/

/-- One node of a lane's inventory (R188). `classes`: for `PX`, byte e of the record; empty otherwise. -/
structure Node where
  identity : Nat
  profile : Nat
  iLsb : Nat
  classes : List Nat
  deriving DecidableEq, Repr

/-- A message queued on a lane's management channel (R186). -/
structure Msg where
  seq : Nat
  addr : Nat
  kind : Nat
  body : List Nat
  deriving DecidableEq, Repr

/-- A lane's framing beside the `FRM` registers. -/
structure Frm where
  /-- the inventory in use, by node number -/
  nodes : SMap Node
  /-- the inventory being received, and the head's own record -/
  inv : SMap Node
  headId : Nat
  iLsb : Nat
  dualHomed : Bool
  headNodes : Nat
  /-- slot map: node to first bit, upstream and downstream (R193) -/
  upBase : SMap Nat
  downBase : SMap Nat
  /-- a `MAP_ACK` has rejected the map once (R190) -/
  rejected : Bool
  /-- `RUN` is entered at the next frame boundary (R190) -/
  runNext : Bool
  /-- sender: next sequence number, messages not yet acknowledged (oldest first), frames since ack advanced -/
  txNext : Nat
  txQueue : List Msg
  /-- of the queue: the next message to send, and how many have been sent at least once (R187) -/
  mgmtNext : Nat
  mgmtHigh : Nat
  stall : Nat
  /-- receiver: last sequence number received in order (0xFFFF after a restart) -/
  rxAck : Nat
  mgmtOpen : Bool
  /-- tickets: `MAP_RELEASE`, `MBX_SEND` and the sequence number its message took -/
  relTkt : Nat
  mbxTkt : Nat
  mbxSeq : Nat
  /-- B endpoints: downstream byte and latest upstream byte, by node × 32 + endpoint (R184) -/
  bDown : SMap Nat
  bUp : SMap Nat
  /-- samples still to discard for adj: by node × 32 + endpoint, V samples of the next frame (R185) -/
  adjNext : SMap Nat
  /-- upstream frame number expected next (low 32 bits), and the last one placed -/
  expect : Nat
  placed : Bool
  deriving DecidableEq, Repr

/-- A lane whose framing has done nothing. -/
def Frm.init : Frm :=
  { nodes := [], inv := [], headId := 0, iLsb := 0, dualHomed := false, headNodes := 0, upBase := [], downBase := [],
    rejected := false, runNext := false, txNext := 0, txQueue := [], mgmtNext := 0, mgmtHigh := 0, stall := 0, rxAck := 0xFFFF, mgmtOpen := false,
    relTkt := 0, mbxTkt := 0, mbxSeq := 0, bDown := [], bUp := [], adjNext := [], expect := 0, placed := false }

/-! ## Scheduling (chapter 07) -/

/-- What the control tap and the selector hold of one cell position. -/
structure Cell where
  /-- latest valid V code and its age in frames -/
  v : Int
  vHas : Bool
  vAge : Nat
  /-- T_eff in 1/64 °C and whether the cell's reading is replaced (R211) -/
  tEff : Int
  tSubst : Bool
  /-- the frame in use is marked overrange (R185) -/
  ovr : Bool
  /-- a valid echo has been seen since enumeration (R40), the last echo byte, and the fault bits of 16 frames -/
  echoSeen : Bool
  echo : Nat
  /-- the string-head frame after the one that the last valid echo describes -/
  echoNext : Nat
  faultBits : Nat
  /-- BENCH_FAILED (R213, R287) -/
  failed : Bool
  /-- current-inhibited until the next rank refresh (R212) -/
  curInh : Bool
  /-- polarity of its insertion in the last plan: 0 none, 1 positive, 2 negative (R214) -/
  lastPol : Nat
  /-- role in the last plan (`SCH_CELL_INFO.role`), last S command, transitions commanded -/
  role : Nat
  cmd : Nat
  switches : Nat
  deriving DecidableEq, Repr

/-- A position nothing has reported from. -/
def Cell.init : Cell :=
  { v := 0, vHas := false, vAge := 0, tEff := 0, tSubst := false, ovr := false, echoSeen := false, echo := 0, echoNext := 0, faultBits := 0,
    failed := false, curInh := false, lastPol := 0, role := 0, cmd := 0, switches := 0 }

/-- A T endpoint's latest valid reading in 1/64 °C and its age in frames (R180). -/
structure Temp where
  val : Int
  age : Nat
  deriving DecidableEq, Repr

/-- A stir slot (R225): its member and partner as position indices + 1, 0 for none. -/
structure StirSlot where
  member : Nat
  partner : Nat
  deriving DecidableEq, Repr

/-- What the scheduler and selector hold of one string. -/
structure Str where
  /-- string-current samples of the frame in use (LSBs), overrange marks, age in frames -/
  cur : List Int
  curOvrHi : Bool
  curOvrLo : Bool
  curHas : Bool
  curAge : Nat
  /-- peak magnitude of the frames' mean string current since the last refresh, µA (R212) -/
  peak : Nat
  /-- rank orders: position indices node × 16 + cell, best first (R217) -/
  orderDis : List Nat
  orderChg : List Nat
  /-- stirring (R224–R227) -/
  slots : List StirSlot
  stirActive : Bool
  rot : Nat
  phases : List Nat
  prbs : Nat
  prbsAge : Nat
  /-- plans made: (frame, S commands by position index), newest first; a plan not yet assembled waits -/
  plans : List (Nat × SMap Nat)
  assembled : Bool
  /-- S commands of the downstream frames transmitted with plan_valid = 1: (frame applied in, commands), newest first (R51) -/
  edge : List (Nat × SMap Nat)
  /-- consecutive deadline misses (R45) -/
  misses : Nat
  /-- the plan for the next frame was not assembled when this frame began (R45), and the miss is not yet recorded -/
  missed : Bool
  missDue : Bool
  /-- sum and number of the soc of the string's cells at the last health boundary (R207) -/
  meanSum : Nat
  meanCnt : Nat
  deriving DecidableEq, Repr

/-- A string nothing has been heard of. -/
def Str.init : Str :=
  { cur := [], curOvrHi := false, curOvrLo := false, curHas := false, curAge := 0, peak := 0, orderDis := [], orderChg := [],
    slots := [], stirActive := false, rot := 0, phases := [0, 0, 0, 0], prbs := 0, prbsAge := 0, plans := [], edge := [],
    assembled := false, misses := 0, missed := false, missDue := false, meanSum := 0, meanCnt := 0 }

/-- A both-copies command waiting for its boundary (R59): 1 `WITHDRAW`, 2 `RETURN`, 3 `ASSIGN`; position or lane,
bank, ticket. -/
structure PendEntry where
  op : Nat
  pos : Nat
  bank : Nat
  ticket : Nat
  deriving DecidableEq, Repr

/-- The scheduler beside the `SCH` and `BNK` registers. -/
structure Sch where
  /-- the two copies of the limit and target tables: byte offset (a multiple of 4) to word (R229) -/
  shadow : SMap Nat
  active : SMap Nat
  banks : SMap Bank
  /-- tickets of commits waiting for their exchange (R58) -/
  commits : List Nat
  entries : List PendEntry
  strs : SMap Str
  cells : SMap Cell
  /-- valid temperature readings by lane × 10240 + node × 32 + endpoint -/
  temps : SMap Temp
  /-- grid-sense trackers, by input: the phase at the midpoint of the frame that plans are being computed for (R203) -/
  gvPhase : SMap Nat
  /-- by input: phase advance per frame, 2^32 per cycle -/
  gvDelta : SMap Nat
  /-- grid-sense trackers, by input: cycles in a row fit for lock, cycles in a row with too large a phase error, frames in a row with
  too small an amplitude (R203) -/
  gvGood : SMap Nat
  gvBad : SMap Nat
  gvLow : SMap Nat
  /-- by bank: the last ten `MV` values, newest first (R204) -/
  mvRecent : SMap (List Int)
  /-- out-of-range meter samples in a row: by bank for current, by 16 + bank for voltage (R223) -/
  meterRun : SMap Nat
  /-- an ignored table write has been counted since the count was read (R236) -/
  rejSince : Bool
  deriving DecidableEq, Repr

/-! ## Regulator loops (chapter 15) -/

/-- A loop's hidden state beside its `BRN` registers. -/
structure Loop where
  /-- ticket of a START or SETVID in progress, and which (1 START, 2 SETVID) -/
  tkt : Nat
  kind : Nat
  /-- compensator accumulator and last error, in 0.125 mV (R449) -/
  acc : Int
  /-- the last error, in 0.125 mV -/
  ePrev : Int
  /-- the reference, in 1/800 mV (R447, R448) -/
  ref : Int
  /-- code in force when the SETVID in progress was accepted (R448) -/
  start : Nat
  /-- current-limited cycles in a row (R450) -/
  cyc : Nat
  /-- frames in a row with slack of margin + band or more (R455) -/
  low : Nat
  /-- evaluations in a row that wished fewer phases (R452) -/
  shedMs : Nat
  /-- timebase in use: the main synthesiser (R443) -/
  clkSrc : Bool
  /-- switching frequency in use, kHz (R443) -/
  fsw : Nat
  /-- balancing in use: current equalisation (R453) -/
  curEq : Bool
  /-- last active phases that are hot and not shed: i_lim acts as 75 % (R454) -/
  reduced : List Nat
  /-- duty trims by phase of the loop (R453) -/
  trims : SMap Int
  /-- duty of each active phase in the last switching cycle, in 2^-16 (R449) -/
  duties : SMap Nat
  /-- classes that the faults containing the loop took (R458, R462) -/
  took : List Nat
  /-- the pre-bias of the last ramp, µV (R447) -/
  pre : Nat
  /-- phases may sink current: the reference has reached the pre-bias (R447) -/
  sink : Bool
  /-- the output as last sensed, µV (R447) -/
  sense : Nat
  /-- codes that the SETVID in progress has moved (R448) -/
  moved : Nat
  /-- IMON of all phases summed over the 100 µs in progress, µV × 5 ns, and its length in 5 ns (R460) -/
  outI : Int
  /-- length of that 100 µs so far, 5 ns -/
  outN : Nat
  deriving DecidableEq, Repr

/-! ## The secure island's signature engine and identity (chapter 11) -/

/-- A job of the signature engine beside seals: 1 a `SIGN_IN` verification, 2 `ATTEST`, 3 `CERTIFY`, 4 a checkpoint
(R339), 5 and 6 verification of a partner's `KEY` and seal, 7 of a side-port slot, 8 signing of the own `KEY`, 9 the ECDH of a pairing
(R378, R394); `data` is the mailbox or the nonce as it stood at the command, `unit` the lease unit of a certificate or the key hash that a
`SIGN_IN` is checked against (R371). -/
structure SigJob where
  kind : Nat
  ch : Nat
  unit : Nat
  ticket : Nat
  data : List Nat
  deriving DecidableEq, Repr

/-- The secure island: what the signature engine serves (0 nothing, 1 a seal, 2 a `SIGN_IN`, 3 a document or
checkpoint), what waits for it, and the identity (R335–R339). -/
structure Island where
  current : Nat
  signIns : List SigJob
  docs : List SigJob
  /-- the identity private key as unwrapped in this boot -/
  priv : Nat
  /-- the wrapped private key in the pantry, and whether one stands there -/
  wrapped : Nat
  hasWrapped : Bool
  /-- operations that wait for entropy: `NONCE` by channel and ticket (R335) -/
  entropyWait : List (Nat × Nat)
  /-- channels whose nonce has expired (R86) -/
  nonceDead : List Nat
  /-- per channel: the ID of its open session; 0 for none (R89) -/
  sessions : SMap Nat
  /-- per channel: tick count at its `OPEN` (R88, R89) -/
  opened : SMap Nat
  deriving DecidableEq, Repr

/-- The island before any boot. -/
def Island.init : Island :=
  { current := 0, signIns := [], docs := [], priv := 0, wrapped := 0, hasWrapped := false, entropyWait := [], nonceDead := [],
    sessions := [], opened := [] }

/-! ## OTP (chapter 19) -/

/-- Work of the OTP block: 1 `PROGRAM` (word, data), 2 `SEAL` (region), 3 `INCREMENT` (counter), 4 `SENSE`,
5 `ROTATE` (holder; data: session ID), 6 the identity programming (data: device key ID). -/
structure OtpWork where
  kind : Nat
  arg : Nat
  data : Nat
  ticket : Nat
  deriving DecidableEq, Repr

/-- One word to program: its place in the array (word w; 0x10000 + 8e + p in spare row e; 0x20000 + 3e + k for copy k
of entry e), the value, the word address whose shadow takes it (4096 for none), and, for a step of a redirection, its
row plus 1. -/
structure OtpStep where
  place : Nat
  value : Nat
  word : Nat
  redir : Nat
  deriving DecidableEq, Repr

/-- The work in progress: steps left (the first one is being attempted), attempts made on it, attempts counted for the
commanded word, and the redirection entry in use plus 1. -/
structure OtpJob where
  work : OtpWork
  todo : List OtpStep
  tries : Nat
  counted : Nat
  entry : Nat
  /-- the word and value for which a redirection runs -/
  target : Nat × Nat
  deriving DecidableEq, Repr

/-- The array, its shadows and the block's work. -/
structure Otp where
  cells : SMap Nat
  shadow : SMap Nat
  /-- `FACTORY` and `OPTIONS` words as the cold-start sense took them into use (R530) -/
  inUse : SMap Nat
  work : List OtpWork
  job : Option OtpJob
  /-- the block holds D04 on, and its work has ended -/
  d04 : Bool
  ended : Bool
  deriving DecidableEq, Repr

/-- A blank array. -/
def Otp.init : Otp := { cells := [], shadow := [], inUse := [], work := [], job := none, d04 := false, ended := false }

/-! ## The serving hatch's health-weight tables (R55–R57) -/

/-- The health-weight tables: front and back copies by lane × 5120 + index (reset 0x8000_8000), lanes whose back copy
is complete, frames counted since reset, and the count at which each lane last exchanged. -/
structure Hatch where
  front : SMap Nat
  back : SMap Nat
  complete : List Nat
  clock : Nat
  last : SMap Nat
  deriving DecidableEq, Repr

/-- Tables at reset. -/
def Hatch.init : Hatch := { front := [], back := [], complete := [], clock := 0, last := [] }

/-! ## Clocks and device time (chapter 13) -/

/-- The clock unit beside the `CLK` registers. -/
structure Clk where
  /-- passing and failing oscillator gates in a row (R400) -/
  oscRun : Nat
  oscFail : Nat
  /-- gates in a row whose deviation lay in the window (R401), and the last 1,000 deviations, 0.001 ppm, newest first -/
  recRun : Nat
  devs : List Int
  /-- the correction in 0.0001 ppm, and its values in 0.001 ppm at the last 1,000 gates, newest first (R404, R405) -/
  fine : Int
  corrs : List Int
  /-- the held correction, 0.001 ppm (R405) -/
  held : Int
  /-- tickets of an `ADOPT` and a `REARM` in progress -/
  adoptTkt : Nat
  rearmTkt : Nat
  /-- F_r of the `REARM` in progress, plus 1; 0 for none (R407) -/
  fr : Nat
  /-- K03 has started since the cold start, and the last frame begun (R546) -/
  started : Bool
  last : Nat
  /-- gates in the present HOLDOVER -/
  holdMs : Nat
  /-- the intervals in progress begin afresh (R407, R546); the frame at which the numbering stepped, plus 1 (R382) -/
  fresh : Bool
  stepAt : Nat
  /-- the metering interval in progress is a gap interval (R346) -/
  gap : Bool
  deriving DecidableEq, Repr

/-- The clock unit before D10 is first on. -/
def Clk.init : Clk :=
  { oscRun := 0, oscFail := 0, recRun := 0, devs := [], fine := 0, corrs := [], held := 0, adoptTkt := 0, rearmTkt := 0, fr := 0,
    started := false, last := 0, holdMs := 0, fresh := false, stepAt := 0, gap := false }

/-- The RTC beside its registers: the trim accumulator (R414), the ticket of a `SET` in progress, the epoch's pantry mirror
(R410), the settings' mirrors (trim; SQW en, freq; trickle en, float, current), the faults D02 keeps for the next cold start
(bit 0 CELL_SHORTED, 1 INPUT_COLLAPSE, 2 OSC_STOPPED), and whether D02 is held in power-on reset (R418). -/
structure Rtc where
  acc : Int
  setTkt : Nat
  epochMirror : Nat
  mirror : List Nat
  flags : Nat
  d02Held : Bool
  deriving DecidableEq, Repr

/-- The RTC at first start. -/
def Rtc.init : Rtc := { acc := 0, setTkt := 0, epochMirror := 0, mirror := [0, 0, 0, 0, 0, 0], flags := 4, d02Held := false }

/-! ## Supply inputs and power states (chapters 14 and 20) -/

/-- The charger and the power-state logic beside the `PWR` registers. -/
structure Pwr where
  /-- a cold start has run -/
  booted : Bool
  /-- `Dev.time` when D00 left reset (R545) -/
  d00At : Nat
  /-- ticket of a `RESTART` or `PULSE_TEST` in progress -/
  chgTkt : Nat
  /-- the charger's state before `TEMP_HOLD`; 0 when `DETECT` was entered otherwise (R428) -/
  heldFrom : Nat
  /-- the safety timer's limit in the cycle in progress, hours, and the 1/32768 s counted toward its next count (R429) -/
  timerH : Nat
  sub : Nat
  /-- the counter that K04 steps, and its time toward its next count; `Dev.time` plus 1 at which the timer last expired (R429, R439) -/
  count4 : Nat
  sub4 : Nat
  expired : Nat
  /-- `Dev.time` plus 1 since which the raw `TH00` reading has stayed within 2–43 °C; 0 while it has not (R431) -/
  innerFrom : Nat
  /-- the analog precharge stage has latched shorted; it holds the node as the start regulator (R425) -/
  shorted : Bool
  starter : Bool
  /-- `Dev.time` at which an input was last declared lost (R425) -/
  inputAt : Nat
  /-- a `POWER_UP` command asks for its run, with its ticket (R545, R555) -/
  upCmd : Bool
  upTkt : Nat
  /-- a `POWER_UP` run has started since the hub was last up, the last cold start and `VIN_AUX` last declared valid -/
  upStarted : Bool
  /-- a run failed: no further automatic run (R545) -/
  upFailed : Bool
  /-- 1 plus `Dev.time` of the entry into hibernation whose `HIBERNATE` recipe has been started; 0 none (R551) -/
  hibRun : Nat
  /-- a write has set the pantry's `PWR_CHG_CFG.en`, which OTP seeds until then (R437) -/
  chgSet : Bool
  /-- `REBOOT`: 0 none, 1 slot 1 runs, 2 the seal is awaited; and its ticket -/
  reboot : Nat
  rebootTkt : Nat
  deriving DecidableEq, Repr

/-- Power states before the first cold start. -/
def Pwr.init : Pwr :=
  { booted := false, d00At := 0, chgTkt := 0, heldFrom := 0, timerH := 8, sub := 0, count4 := 0, sub4 := 0, expired := 0,
    innerFrom := 0, shorted := false, starter := false, inputAt := 0, upCmd := false, upTkt := 0,
    upStarted := false, upFailed := false, hibRun := 0, chgSet := false, reboot := 0, rebootTkt := 0 }

/-! ## Attached memory and the flight recorder (chapter 10) -/

/-- A ladle entry (R316): the channel's line, its enabled bytes by offset, and the dumbwaiter tickets that wrote them. -/
structure LadleEntry where
  line : Nat
  bytes : SMap Nat
  writers : List Nat
  deriving DecidableEq, Repr

/-- A memory channel beside its `MEMC` registers. -/
structure MemChan where
  /-- DRAM bytes, data and line-valid bitmaps, by channel address; a byte not listed is 0 (R306, R314) -/
  cells : List Host.Cell
  /-- lines that stand written with poison (R311), each 1 -/
  poison : SMap Nat
  /-- chunks whose super-valid bit is set (R314), each 1 -/
  supers : SMap Nat
  /-- bitmap lines found uncorrectable or poisoned and not yet repaired (R315), by line of 512 lines, each 1 -/
  damaged : SMap Nat
  /-- the ladle, oldest entry first (R316) -/
  ladle : List LadleEntry
  /-- bitmap lines in the channel's cache of 256, by line of 512 lines, last used first (R314) -/
  cache : List Nat
  /-- `Dev.time` at the start of the scourer's pass in progress (R321) -/
  passStart : Nat
  deriving DecidableEq, Repr

/-- A channel that holds nothing. -/
def MemChan.init : MemChan := { cells := [], poison := [], supers := [], damaged := [], ladle := [], cache := [], passStart := 0 }

/-- Attached memory. -/
structure Mem where
  chans : SMap MemChan
  /-- the map has been built, be it with N = 0 (R305) -/
  built : Bool
  /-- bit nn: channel nn has trained or failed since its pair domain came on -/
  tried : Nat
  /-- the highest rate of each supported DIMM found since its pair domain came on, by channel (R304) -/
  rates : SMap Nat
  /-- what the DRAM adds to the symbols it is read for, as the last memory event said -/
  errs : List MemErr
  /-- uncorrectable lines since the mark, by channel × 4 + q; those for which `SECOND_CHIP` has been raised, each 1 (R313) -/
  seconds : SMap Nat
  seconded : SMap Nat
  /-- pantry: serial number stored with the mark, by channel × 4 + q (R312) -/
  serials : SMap Nat
  /-- `ZERO` tickets in progress; the `REMAP` ticket -/
  zeros : List Nat
  remapTkts : List Nat
  /-- dumbwaiter tickets whose partial write met an uncorrectable line (R93, R318) -/
  merged : List Nat
  /-- the line last delivered to a reader, and whether it came without a poison error -/
  delivered : List Nat × Bool
  deriving DecidableEq, Repr

/-- Attached memory before any training. -/
def Mem.init : Mem :=
  { chans := [], built := false, tried := 0, rates := [], errs := [], seconds := [], seconded := [], serials := [], zeros := [], remapTkts := [], merged := [],
    delivered := ([], true) }

/-- The flight recorder beside its registers: frames still to record in `POST`, slots filled since `ARM`, and the slots of
the latest recorded frames, newest first (R330, R332). -/
structure Flr where
  left : Nat
  filled : Nat
  recent : List (Nat × Nat)
  deriving DecidableEq, Repr

/-- A recorder that has recorded nothing. -/
def Flr.init : Flr := { left := 0, filled := 0, recent := [] }

/-! ## Impedance (chapter 08) -/

/-- One bin's accumulators for one cell (R250): real and imaginary parts of A_V and A_I, v_ref, gap samples, and the
saturation and discard marks. -/
structure ImpAcc where
  vr : Int
  vi : Int
  ir : Int
  ii : Int
  vRef : Option Int
  gaps : Nat
  sat : Bool
  ovr : Bool
  deriving DecidableEq, Repr

/-- Accumulators at a window's start. -/
def ImpAcc.init : ImpAcc := { vr := 0, vi := 0, ir := 0, ii := 0, vRef := none, gaps := 0, sat := false, ovr := false }

/-- A result (R255–R257): Z and |Z| in 10 nΩ, phase in 2^16 per cycle, coherence, excitation word, quality, `no_prev`, and
the frame at which its window closed. -/
structure ImpRes where
  re : Int
  im : Int
  mag : Nat
  phase : Int
  coh : Nat
  exc : Nat
  quality : Nat
  noPrev : Bool
  close : Nat
  /-- round(256 × log2(|Z| / 10 nΩ)) of the exact |Z|, for the previous-result word (R258); the cell's T_m at the close (R280) -/
  log : Nat
  tM : Int
  deriving DecidableEq, Repr

/-- An inferred temperature (R261): T code, clamped, and the frame of its inference. -/
structure ImpTemp where
  t : Nat
  clamped : Bool
  at_ : Nat
  deriving DecidableEq, Repr

/-- A lane's impedance engine. Accumulators, results and previous-result words are keyed by ordinal × 16 + bin. -/
structure ImpLane where
  /-- position index of each ordinal, and b (R245) -/
  cells : List Nat
  bins : Nat
  /-- by bin: first frame of the window in progress, or of the first window to come; frames accumulated in it -/
  start : SMap Nat
  seen : SMap Nat
  acc : SMap ImpAcc
  /-- windows that have ended and whose results are being computed: by bin, the frame after the window and the entry it ran under;
  and what they hold -/
  ended : SMap Nat
  endedPlan : SMap (List Nat)
  closed : SMap ImpAcc
  prev : SMap Nat
  res : SMap ImpRes
  /-- by position index -/
  temps : SMap ImpTemp
  /-- bins whose GOOD results are not yet delivered (R259) -/
  deliver : List Nat
  /-- frame of the last refresh; whether the last frame processed was free of stirring; a forced refresh takes the next one -/
  refreshed : Nat
  stirFree : Bool
  forceGap : Bool
  /-- by bin: the four words of a changed entry not yet taken; the `PLAN_APPLY` ticket and the frame it was accepted in -/
  pend : SMap (List Nat)
  tkt : Nat
  pendAt : Nat
  deriving DecidableEq, Repr

/-- An engine whose lane has not been in RUN. -/
def ImpLane.init : ImpLane :=
  { cells := [], bins := 0, start := [], seen := [], acc := [], ended := [], endedPlan := [], closed := [], prev := [], res := [], temps := [],
    deliver := [], refreshed := 0, stirFree := false, forceGap := false, pend := [], tkt := 0, pendAt := 0 }

/-- The impedance engine: the two copies of the bin plans (window 6, by lane × 0x100 + offset), bins taken by ticket, and the
minute boundary whose entries are not yet written: frame, epoch and tick (R263). -/
structure Imp where
  staged : SMap Nat
  force : SMap Nat
  lanes : SMap ImpLane
  taken : SMap Nat
  minute : Option (Nat × Nat × Nat)
  deriving DecidableEq, Repr

/-- The engine at reset. -/
def Imp.init : Imp := { staged := [], force := [], lanes := [], taken := [], minute := none }

/-! ## The estimator (chapter 09) -/

/-- A step's sums for a cell (R270–R272): charge and uncertain charge in code × i_lsb pC, V codes and cell-current codes over
the valid V instants, |I_s| codes and cell-current codes over the inserted I instants. -/
structure StepAcc where
  q : Int
  qUnc : Int
  vSum : Int
  nv : Nat
  iSum : Int
  insSum : Nat
  insN : Nat
  insDir : Int
  deriving DecidableEq, Repr

/-- A step's sums at its start. -/
def StepAcc.init : StepAcc := { q := 0, qUnc := 0, vSum := 0, nv := 0, iSum := 0, insSum := 0, insN := 0, insDir := 0 }

/-- A cell's estimation: the charge accumulator with its remainder, the step in progress and the step delivered, the filter
state x = (s, v_fast, v_slow, h) with its covariance by rows, timers in 10 ms, the last anchor, and the totals. Numbers are
exact; what the device's own number format makes of them is `Config.filterRound` (assumption 13). -/
structure EstCell where
  acc : Int
  rem : Int
  accSat : Bool
  step : StepAcc
  rec_ : Option StepAcc
  started : Bool
  s : Rat
  vFast : Rat
  vSlow : Rat
  h : Rat
  cov : List Rat
  updates : Nat
  valid : Bool
  /-- step charges used since the last drain, µC -/
  used : Rat
  /-- charges of every step delivered since the last drain, µC (R281) -/
  stepQ : Rat
  ctot : Int
  /-- equivalent full cycles -/
  efc : Rat
  rest : Nat
  restTaken : Bool
  /-- the last step rested (R281) -/
  resting : Bool
  /-- an anchor that is due: its s and whether its segment's slope suffices -/
  restDue : Option (Rat × Bool)
  fullT : Nat
  emptyT : Nat
  /-- a declaration that is due: 1 FULL, 2 EMPTY -/
  declDue : Nat
  full : Bool
  empty : Bool
  /-- charge since the declaration, µC, discharge positive -/
  moved : Rat
  /-- last accepted anchor: s and C, with q_unc and saturation since -/
  anchor : Option (Rat × Rat)
  aUnc : Rat
  aSat : Bool
  weight : Nat
  /-- temperature in use, T code (R277) -/
  tUsed : Int
  /-- latest accepted measured ohmic resistance, 10 nΩ, for r_pol (R280) -/
  rLast : Option Rat
  /-- marked STALE, and no capacity sample, ohmic or polarisation value taken since (R280, R282) -/
  freshQ : Bool
  freshR : Bool
  freshP : Bool
  deriving DecidableEq, Repr

/-- A cell no filter has run for. -/
def EstCell.init : EstCell :=
  { acc := 0, rem := 0, accSat := false, step := StepAcc.init, rec_ := none, started := false, s := 0, vFast := 0, vSlow := 0,
    h := 0, cov := [], updates := 0, valid := false, used := 0, stepQ := 0, ctot := 0, efc := 0, rest := 0, restTaken := false, resting := false, restDue := none,
    fullT := 0, emptyT := 0, declDue := 0, full := false, empty := false, moved := 0, anchor := none, aUnc := 0, aSat := false,
    weight := 128, tUsed := 0, rLast := none, freshQ := false, freshR := false,
    freshP := false }

/-- A lane's estimation: frames of it processed up to, the step boundary whose filter step is due, last valid string-current
code, a health boundary whose drain and back copy are due. -/
structure EstLane where
  last : Nat
  stepNo : Nat
  due : Bool
  lastI : Option Int
  health : Bool
  deriving DecidableEq, Repr

/-- A lane not yet processed. -/
def EstLane.init : EstLane := { last := 0, stepNo := 0, due := false, lastI := none, health := false }

/-- An accepted `IMPORT`, `CLEAR_STALE`, `RESET_LEARNED` (1–3) or `CKPT_LOAD` (5) waiting for its health boundary: lane, node,
cell or 0x1F, and the frame of its acceptance. -/
structure EstCmd where
  op : Nat
  lane : Nat
  node : Nat
  cell : Nat
  ticket : Nat
  at_ : Nat
  deriving DecidableEq, Repr

/-- A partition (R29–R31, R294–R297): its mask written and in force as 512-bit numbers, its rate, and the reported SoC in
1/65,536 with 32 bits of fraction. -/
structure EstPart where
  mask : Nat
  inForce : Nat
  rate : Nat
  rescaled : Bool
  converging : Bool
  started : Bool
  rep : Nat
  trueSoc : Nat
  sMin : Nat
  usable : Nat
  cap : Nat
  ratio : Nat
  growth : Nat
  counted : Nat
  uncounted : Nat
  deriving DecidableEq, Repr

/-- A partition with no strings. -/
def EstPart.init : EstPart :=
  { mask := 0, inForce := 0, rate := 50, rescaled := false, converging := false, started := false, rep := 0, trueSoc := 0,
    sMin := 0, usable := 0, cap := 0, ratio := 0, growth := 0, counted := 0, uncounted := 0 }

/-- The estimator beside its registers. -/
structure Est where
  /-- class tables of window 3: as written, and in use (R54); bit c: class c's model is valid -/
  host : SMap Nat
  inUse : SMap Nat
  valid : Nat
  /-- `EST_RELOAD` tickets waiting for a filter step, and those whose tables a health boundary has reloaded since -/
  reload : List Nat
  reloaded : List Nat
  lanes : SMap EstLane
  cells : SMap EstCell
  cmds : List EstCmd
  /-- a checkpoint: 0 none, 1 requested, 2 awaiting its signature, 3 a load is scheduled; its ticket and header bytes 0–127 -/
  ckpt : Nat
  ckptTkt : Nat
  ckptHead : List Nat
  /-- tick count of the last checkpoint -/
  ckptTick : Nat
  parts : SMap EstPart
  /-- `Dev.time` from which every R298 condition on time has held; the hibernation's first frame and its time; end of a probe -/
  idleFrom : Nat
  hibFrame : Nat
  hibTime : Nat
  probeEnd : Nat
  /-- a wake cause other than the probe has come since it began -/
  probeWoken : Bool
  deriving DecidableEq, Repr

/-- The estimator at reset. -/
def Est.init : Est :=
  { host := [], inUse := [], valid := 0, reload := [], reloaded := [], lanes := [], cells := [], cmds := [], ckpt := 0, ckptTkt := 0, ckptHead := [],
    ckptTick := 0, parts := [], idleFrom := 0, hibFrame := 0, hibTime := 0, probeEnd := 0, probeWoken := false }

/-! ## Metering (chapter 11) -/

/-- A cell's metering accumulators (R344): discharge and charge energy in 10^-18 J, |q| in pC, with the remainders of closed
intervals, and its last valid V code. -/
structure MtrCell where
  dis : Nat
  chg : Nat
  q : Nat
  lastV : Int
  deriving DecidableEq, Repr

/-- A cell that has metered nothing. -/
def MtrCell.init : MtrCell := { dis := 0, chg := 0, q := 0, lastV := 0 }

/-- A cell's closed sums in the tap: d and g in mJ, |q| in µC (R344). -/
structure TapCell where
  dis : Nat
  chg : Nat
  q : Nat
  deriving DecidableEq, Repr

/-- Nothing. -/
def TapCell.init : TapCell := { dis := 0, chg := 0, q := 0 }

/-- The metering taps (R62): intervals held, of which gap intervals; cell sums of metered and of gap intervals by
(unit × 32 + bank) × 2^22 + position; the banks' E⁺ and E⁻ in 0.1 nJ; per bank the clipped intervals and the energy that
saturation kept out: of the cells in mJ, of the bank's meter in 0.1 nJ; and by unit × 13 + bin the cells found in a temperature bin at
each boundary (R348). -/
structure Tap where
  count : Nat
  gaps : Nat
  cells : SMap TapCell
  gapCells : SMap TapCell
  banks : SMap (Nat × Nat)
  clipped : SMap Nat
  lost : SMap (Nat × Nat)
  histo : SMap Nat
  deriving DecidableEq, Repr

/-- An empty tap. -/
def Tap.init : Tap := { count := 0, gaps := 0, cells := [], gapCells := [], banks := [], clipped := [], lost := [], histo := [] }

/-- A lease unit's counters in the pantry (R345, R348): totals in 0.1 nJ, throughput in µC and equivalent full cycles, the
histogram in 0.1 s; what its last records showed; and what it has met since: intervals, gaps, clipped ones, measured energy. -/
structure UnitAcc where
  eOut : Nat
  eIn : Nat
  thru : Rat
  efc : Rat
  histo : List Nat
  lastOut : Nat
  lastIn : Nat
  lastHisto : List Nat
  intervals : Nat
  gaps : Nat
  clipped : Nat
  measured : Bool
  deriving DecidableEq, Repr

/-- A unit that has recorded nothing. -/
def UnitAcc.init : UnitAcc :=
  { eOut := 0, eIn := 0, thru := 0, efc := 0, histo := List.replicate 13 0, lastOut := 0, lastIn := 0,
    lastHisto := List.replicate 13 0, intervals := 0, gaps := 0, clipped := 0, measured := false }

/-- A bank's metering (R345, R347, R355): totals and the record interval's sums in 0.1 nJ and mJ, its clipped and gap intervals,
and the discrepancy window's sums. -/
structure BankAcc where
  ePos : Nat
  eNeg : Nat
  rPos : Nat
  rNeg : Nat
  rDis : Nat
  rChg : Nat
  clipped : Nat
  gaps : Nat
  measured : Bool
  wPos : Nat
  wNeg : Nat
  wDis : Nat
  wChg : Nat
  wBad : Bool
  deriving DecidableEq, Repr

/-- A bank that has recorded nothing. -/
def BankAcc.init : BankAcc :=
  { ePos := 0, eNeg := 0, rPos := 0, rNeg := 0, rDis := 0, rChg := 0, clipped := 0, gaps := 0, measured := false, wPos := 0,
    wNeg := 0, wDis := 0, wChg := 0, wBad := false }

/-- An accepted `DEFINE` waiting for its metering boundary (R369): unit, its words by byte offset, session ID, ticket. -/
structure UnitDef where
  unit : Nat
  words : SMap Nat
  session : Nat
  ticket : Nat
  deriving DecidableEq, Repr

/-- Metering beside its registers. -/
structure Mtr where
  cells : SMap MtrCell
  /-- by lane: metering interval in progress -/
  lanes : SMap Nat
  tap : Tap
  /-- the interval closed last was a gap interval; the D09 part of the interval in progress has been interrupted -/
  lastGap : Bool
  /-- the interval in progress: E⁺ and E⁻ by bank in 0.1 nJ, banks and channels that have clipped -/
  sums : SMap (Nat × Nat)
  bankClip : List Nat
  chanClip : List Nat
  /-- by channel: settling periods left, last clean code (R342) -/
  settle : SMap Nat
  clean : SMap Int
  /-- gain and offset in use, where they differ from 65,536 and 0 (R341) -/
  gains : SMap Int
  offsets : SMap Int
  /-- lease-unit definitions (window 9) by unit × 0x400 + offset: in force, as at the last close, staged -/
  units : SMap Nat
  unitsClose : SMap Nat
  staged : SMap Nat
  defs : List UnitDef
  /-- by unit; 4096 is the unleased total -/
  accs : SMap UnitAcc
  banks : SMap BankAcc
  /-- by position: equivalent full cycles already counted -/
  efcSeen : SMap Rat
  /-- calibration (R343): 0 idle, 1 internal trim, 2 overlap; next channel; something clipped; rejections in a row by modulator; the time at
  which the latest step began plus 1, the frame of its overlap, and the modulators retired -/
  calPhase : Nat
  calNext : Nat
  calClip : Bool
  rejects : SMap Nat
  calTime : Nat
  calFrame : Nat
  retired : List Nat
  /-- the output period taken last, plus 1 (R341) -/
  period : Nat
  /-- the record boundary whose records are still to be made (R356) -/
  recDue : Option Nat
  /-- frame at which the discrepancy window in progress began (R347) -/
  winStart : Nat
  deriving DecidableEq, Repr

/-- Metering before the first interval. -/
def Mtr.init : Mtr :=
  { cells := [], lanes := [], tap := Tap.init, lastGap := true, sums := [], bankClip := [], chanClip := [], settle := [], clean := [],
    gains := [], offsets := [], units := [], unitsClose := [], staged := [], defs := [], accs := [], banks := [], efcSeen := [],
    calPhase := 0, calNext := 0, calClip := false, rejects := [], calTime := 0, calFrame := 0, retired := [], period := 0,
    recDue := none, winStart := 0 }

/-! ## Twin operation (chapter 12) -/

/-- A block of a twin frame waiting to be sent (R376). -/
structure TwnBlock where
  kind : Nat
  part : Nat
  content : List Nat
  deriving DecidableEq, Repr

/-- A role change that waits for its frame boundary (R385): its frame, whether to active, its cause, its ticket. -/
structure RoleDue where
  frame : Nat
  active : Bool
  cause : Nat
  ticket : Nat
  deriving DecidableEq, Repr

/-- A snapshot's seal (R390). -/
structure SnapSeal where
  seq : Nat
  frame : Nat
  ticket : Nat
  /-- frame in progress when the seal arrived -/
  at_ : Nat
  deriving DecidableEq, Repr

/-- Twin operation beside the `TWN` registers. -/
structure Twn where
  /-- own nonce of this pairing plus 1 (0: none drawn), the partner's, its device key ID, and its last heard frame number -/
  nonce : Nat
  pNonce : Nat
  pId : Nat
  pFrame : Nat
  /-- own ephemeral private key; parts of the partner's `KEY` and `XSEAL` messages received -/
  ephPriv : Nat
  keyParts : SMap (List Nat)
  xsealParts : SMap (List Nat)
  /-- the partner's verified identity key, the session key, and the first encrypted frame plus 1 (0: none) -/
  pKey : Nat
  key : Nat
  encFrom : Nat
  /-- parts of the heartbeat arriving, by part, and their frame -/
  hbParts : SMap (List Nat)
  hbFrame : Nat
  /-- last heartbeat received: its frame plus 1, its content; boundaries judged for a miss, plus 1 -/
  heard : Nat
  hb : List Nat
  judged : Nat
  /-- the standby steps to the active's timing at its next frame boundary (R378) -/
  adopt : Bool
  /-- role changes that wait for their frame, in the order in which they were set (R385, R397) -/
  due : List RoleDue
  /-- blocks waiting to be sent, oldest first -/
  out : List TwnBlock
  /-- last snapshot's image (active), image bytes received (standby), the sealed image that awaits its boundary -/
  image : List Nat
  bytes : SMap Nat
  sealed_ : Option SnapSeal
  sealedImage : List Nat
  /-- last ticket of the snapshot in force -/
  lastTicket : Nat
  /-- own seals awaiting acknowledgement: sequence number, h, signature; verified partner seals awaiting their record -/
  xq : List (Nat × Nat × Nat)
  sealWait : List (Nat × Nat)
  /-- of own seals, the first not yet sent in this pairing; of the partner's, its device key ID and the first not yet recorded (R394) -/
  xsent : Nat
  xgotId : Nat
  xgot : Nat
  /-- the partner's epoch has been heard since D07 came up (R384) -/
  epochHeard : Bool
  /-- the partner's last signed seal heard -/
  pSeal : Nat
  /-- `Dev.time` since which the device may judge itself an orphan; unobeyed frames in a row (R387) -/
  since : Nat
  orphan : Nat
  /-- plans still to be computed from echoes after becoming active (R388) -/
  echoPlans : Nat
  deriving DecidableEq, Repr

/-- No pairing. -/
def Twn.init : Twn :=
  { nonce := 0, pNonce := 0, pId := 0, pFrame := 0, ephPriv := 0, keyParts := [], xsealParts := [], pKey := 0, key := 0, encFrom := 0,
    hbParts := [], hbFrame := 0, heard := 0, hb := [], judged := 0, adopt := false, due := [], out := [], image := [], bytes := [],
    sealed_ := none, sealedImage := [], lastTicket := 0, xq := [], sealWait := [],
    xsent := 0, xgotId := 0, xgot := 0, epochHeard := false, pSeal := 0, since := 0, orphan := 0, echoPlans := 0 }

/-! ## The service port (chapter 17) -/

/-- A PD message: its header and its objects. -/
structure PdMsg where
  header : Nat
  objs : List Nat
  deriving DecidableEq, Repr

/-- A PD message being sent or waiting for it: header as written, objects, the `TX` ticket (0 for a message of the chip's own)
and how often it has been sent again. -/
structure PdTx where
  header : Nat
  objs : List Nat
  ticket : Nat
  tries : Nat
  deriving DecidableEq, Repr

/-- An answered request of the service link: its header, and the answer's header and payload (R501). -/
structure SlAnswer where
  request : List Nat
  header : List Nat
  payload : List Nat
  deriving DecidableEq, Repr

/-- The service port beside the `PD` registers (R483–R502). -/
structure Pd where
  /-- MessageID last received, plus 1; MessageID to send next (R491) -/
  rxId : Nat
  txId : Nat
  /-- the receive FIFO of 4, oldest first (R494) -/
  fifo : List PdMsg
  /-- messages to send, the one being sent first -/
  tx : List PdTx
  /-- last Source_Capabilities received; the Request last sent -/
  caps : List Nat
  req : Nat
  /-- a Request has been sent and not answered; it has been accepted and waits for PS_RDY (R485) -/
  reqWait : Bool
  accepted : Bool
  /-- a keep-alive waits for its response (R487) -/
  keep : Bool
  /-- the 1 s wait for `VBUS` after a hard reset (R489) -/
  hardWait : Bool
  /-- a write of 1 to `PD_POLICY.host` waits for the end of an atomic sequence (R492) -/
  policyReq : Bool
  /-- data role DFP (R482) -/
  dfp : Bool
  /-- the `VBUS_EN` output (R481, R484) -/
  vbusEn : Bool
  /-- last Enter Mode as the Billboard reports it: 0 none, 1 acknowledged, 2 not (R497) -/
  entered : Nat
  /-- service link: session key, packets received and sent since keying, the ephemeral key and the nonce (plus 1) drawn, the last answers,
  newest first, 32 at most (R501, R502) -/
  slKey : Nat
  slRx : Nat
  slTx : Nat
  ephPriv : Nat
  nonce : Nat
  answers : List SlAnswer
  deriving DecidableEq, Repr

/-- The port at reset: nothing attached. -/
def Pd.init : Pd :=
  { rxId := 0, txId := 0, fifo := [], tx := [], caps := [], req := 0, reqWait := false, accepted := false, keep := false,
    hardWait := false, policyReq := false, dfp := false, vbusEn := false, entered := 0, slKey := 0, slRx := 0, slTx := 0,
    ephPriv := 0, nonce := 0, answers := [] }

/-! ## Thermal supervision and the kitchen timer (chapter 18) -/

/-- One temperature input (R506–R511): its latest reading and value in use as T codes, whether that is a substitute, why there is
no reading (0 there is one, 1 open, 2 shorted), whether it is declared broken, and the scans it has disagreed or stood at the
shutdown threshold in a row. -/
structure ThmIn where
  raw : Nat
  used : Nat
  subst : Bool
  kind : Nat
  broken : Bool
  dis : Nat
  hot : Nat
  /-- `Dev.time` plus 1 since when a broken input's reading has stayed within the tolerance (R509); 0 while it does not -/
  near : Nat
  deriving DecidableEq, Repr

/-- An input before its first scan: no reading. -/
def ThmIn.init : ThmIn := { raw := 0x8000, used := 0x8000, subst := false, kind := 0, broken := false, dis := 0, hot := 0, near := 0 }

/-- The thermal supervisor: its inputs; in the pantry, the last 8 shutdown records by count mod 8 (R513). -/
structure Thm where
  ins : SMap ThmIn
  recs : SMap (List Part)
  /-- `Dev.time` of the last detection, and the sequence number of its `THERMAL_SHUTDOWN` -/
  sdAt : Nat
  sdSeq : Nat
  /-- `Dev.time` plus 1 since when every raw die reading has stayed below sd_c − 15 °C (R514); 0 while it does not -/
  coolFrom : Nat
  deriving DecidableEq, Repr

/-- The supervisor at reset. -/
def Thm.init : Thm := { ins := [], recs := [], sdAt := 0, sdSeq := 0, coolFrom := 0 }

/-- The kitchen timer (R516–R521): what is in force in the period in progress, its start, the last check-ins by slot, and in the
pantry the last 8 captures by count mod 8. -/
structure Wdt where
  start : Nat
  period : Nat
  window : Nat
  en : Nat
  last : SMap (Nat × Nat)
  caps : SMap (List Part)
  /-- the two counters have disagreed (R521) -/
  mismatch : Bool
  deriving DecidableEq, Repr

/-- The timer as it runs from D00 reset (R519). -/
def Wdt.init : Wdt := { start := 0, period := 2_000, window := 0, en := 1, last := [], caps := [], mismatch := false }

/-! ## The dumbwaiter (R90–R93) -/

/-- A descriptor that has been fetched (R91), its ticket, and whether its data has moved and it only waits for the ladle. -/
structure Desc where
  host : Nat
  dev : Nat
  len : Nat
  dir : Nat
  space : Nat
  flags : Nat
  slot : Nat
  ticket : Nat
  moved : Bool
  dropped : Bool
  poisoned : Bool
  /-- bytes moved so far (R92) -/
  pos : Nat
  deriving DecidableEq, Repr

/-- The dumbwaiter beside the `DMA` registers: per ring, the fetched descriptors, oldest first; and the ring that moved last (R92). -/
structure Dma where
  rings : SMap (List Desc)
  last : Nat
  deriving DecidableEq, Repr

/-- No descriptor has been fetched. -/
def Dma.init : Dma := { rings := [], last := 15 }

/-! ## The whole device -/

/-- Everything the block holds beside the queue of waiting commands. -/
structure Dev where
  /-- elapsed time in units of 1/3,276,800,000 s: a frame is 65,536 units, an RTC tick 100,000 (assumption 2) -/
  time : Nat
  /-- how many free values the run has drawn (the model's own field, assumption 4) -/
  freeCtr : Nat
  /-- the field store: every register field -/
  regs : Store
  /-- `SNAP` latches, by (register address of the high word) × 8 + channel (R7, R68) -/
  snap : SMap Nat
  /-- messages that have left the device, newest first (the model's own record, assumption 6) -/
  sent : List Sent
  flt : Flt
  tkt : Tkt
  /-- MSI-X: vectors held as pending bits; table words, by word index (R70, R96) -/
  msixPend : List Nat
  msixTable : SMap Nat
  /-- the PCIe function is in D3hot (R71) -/
  d3hot : Bool
  ldg : Ldg
  lanes : SMap Lane
  frms : SMap Frm
  sch : Sch
  seq : Seq
  /-- loops A–D (0–3) -/
  loops : SMap Loop
  /-- bit m: lane die Lm is behind a lost link (R43) -/
  dieLost : Nat
  /-- per channel: key slots of the verified signatures, bit 0 of holder A, bit 1 of holder B (R85) -/
  cusSlots : SMap Nat
  /-- per channel: duration of the verified or open request, s (R85) -/
  cusDuration : SMap Nat
  /-- bit m: a retraining of lane die Lm's link is under way (R43) -/
  dieTraining : Nat
  /-- command epoch to be raised to at the next frame boundary, plus 1; 0 for none (R170) -/
  epochPend : Nat
  /-- pantry: node identity last recorded at lane × 320 + node (R191) -/
  identities : SMap Nat
  /-- positions (lane × 5120 + node × 16 + cell) whose learned data is STALE: 1 (R23, R191) -/
  stale : SMap Nat
  /-- the source whose `INT_N` pulse is in progress, plus 1; 0 for none (R96) -/
  intN : Nat
  /-- the secure island (R335–R339) -/
  isl : Island
  /-- the OTP array and its block (chapter 19) -/
  otp : Otp
  /-- health-weight tables (R55) -/
  hatch : Hatch
  /-- the clock unit (chapter 13) -/
  ck : Clk
  /-- the RTC and D02 (R410–R421) -/
  rtc : Rtc
  /-- what holds D00 off: 0 nothing, 1 `RESET_N`, 2 the reset of `REBOOT`, 3 no always-on rail (R425, R543) -/
  down : Nat
  /-- a wake cause is at work: 0 none, 1 it waits for readiness, 2 the `WAKE` recipe waits or runs, 3 that run has ended (R300, R301, R551) -/
  wake : Nat
  /-- charger and power-state logic (chapters 14 and 20) -/
  pwr : Pwr
  /-- attached memory (chapter 10) -/
  mem : Mem
  /-- the flight recorder (chapter 10) -/
  flr : Flr
  /-- the impedance engine (chapter 08) -/
  imp : Imp
  /-- the estimator (chapter 09) -/
  est : Est
  /-- metering (chapter 11) -/
  mtr : Mtr
  /-- twin operation (chapter 12) -/
  twn : Twn
  /-- the service port (chapter 17) -/
  pd : Pd
  /-- the thermal supervisor (chapter 18) -/
  thm : Thm
  /-- the kitchen timer (chapter 18) -/
  wdt : Wdt
  /-- the dumbwaiter (chapter 03) -/
  dma : Dma
  /-- the previous side-port transaction was refused (R99) -/
  spRefused : Bool
  /-- reads that wait, oldest first: for a judgement, a lookup, or behind writes that wait at their link (R79, R84, R124) -/
  readWait : List LinkRead
  deriving DecidableEq, Repr

/-- A loop that has never started. -/
def Loop.init : Loop :=
  { tkt := 0, kind := 0, acc := 0, ePrev := 0, ref := 0, start := 0, cyc := 0, low := 0, shedMs := 0, clkSrc := false, fsw := 500, curEq := false, reduced := [], trims := [], duties := [], took := [], pre := 0, sink := false, sense := 0, moved := 0, outI := 0, outN := 0
  }

/-- The collector at reset: nothing latched, queued or written. -/
def Flt.init : Flt :=
  { holdOff := [], queue := [], tray := [], nextSlot := 0, ackPins := [], pinFrom := [0], dropSpell := false,
    otherTrip := false, contained := [], containedBy := [], shadowed := [], mirror := [], tripFresh := 0 }

/-- A record of zeros. -/
def LdgRec.zero : LdgRec :=
  { seq := 0, epoch := 0, tick := 0, frame := 0, kind := 0, flags := 0, body := [], hash := 0, sig := 0 }

/-- An empty ledger. -/
def Ldg.init : Ldg :=
  { queue := [], privWait := [], ring := [], hash := 0, sinceSeal := 0, sealFirst := 0, seals := [], next := 0,
    lastShutdown := 0, suppressed := [0, 0, 0, 0, 0, 0], firstSupp := (0, 0),
    lastSupp := (0, 0), sealsOwed := [], skipped := 0, skippedFrame := 0, unitDef := [], cutAt := (0, 0, 0) }

/-- The scheduler at reset: both table copies at their reset values. -/
def Sch.init : Sch :=
  { shadow := [], active := [], banks := [], commits := [], entries := [], strs := [], cells := [], temps := [], gvPhase := [], gvDelta := [], gvGood := [], gvBad := [], gvLow := [], mvRecent := [],
    meterRun := [], rejSince := false }

/-- The sequencer at first start: the factory recipes in slots 0 and 1 (R472, R480, R550). -/
def Seq.init : Seq :=
  { running := 0x5, deps := [], shutdowns := [], eng0 := Engine.init, eng1 := Engine.init, book := factoryBook,
    waitingSlots := [] }

/-- Fields whose reset value differs between instances, or is that of a blank pantry: rails D00 and D02 on and good
(R478), thermistor 0 converted (R515), channel c on modulator c (R370), tickets and drip-tray numbers from 1
(R115, R118), no ledger record yet (R358), the shutdown threshold of an unprogrammed field (R511), the timer in hardware
start (R519). -/
def resetRegs : Store :=
  let put (f : Field) (i v : Nat) (r : Store) : Store := r.put f.code ((r.get f.code []).put i v)
  let r0 := put SEQ_RAIL_ON_on 0 5 (put SEQ_RAIL_GOOD_good 0 5 (put THM_TH_CFG_en 0 1
    (put TKT_NEXT_LO_next_lo 0 1 (put FLT_NEXT_SEQ_LO_seq_lo 0 1 []))))
  let ones : Nat := 0xFFFF_FFFF
  let r1 := put LDG_HEAD_LO_lo 0 ones (put LDG_HEAD_HI_hi 0 ones (put LDG_SEAL_LO_lo 0 ones (put LDG_SEAL_HI_hi 0 ones
    (put LDG_ACK_LO_lo 0 ones (put LDG_ACK_HI_hi 0 ones r0)))))
  let r2 := (List.range 40).foldl (fun r c => put MTR_CH_INFO_modulator c c r) r1
  let r3 := (List.range 4).foldl (fun r l => put BRN_PHASES_populated l 1 r) r2
  let r4 := put PWR_PS_CFG_auto_up 0 1 (put TWN_CFG_pair_wait 0 10 (put PAGE_CTRL_enable 0x17 0 r3))
  put THM_LIMITS_sd_c 0 125 (put WDT_CFG_hw_start 0 1 (put WDT_CFG_running 0 1 (put WDT_CFG_period_ms 0 2_000
    (put WDT_SLOT_EN_en 0 1 r4))))

/-- The device right after reset (assumption 3 names every value the spec does not give). -/
def Dev.reset : Dev :=
  {
    time := 0
    freeCtr := 0
    regs := resetRegs
    snap := []
    sent := []
    flt := Flt.init
    tkt := { rail := [], held := [], lookups := [], issued := 0 }
    msixPend := []
    msixTable := []
    d3hot := false
    ldg := Ldg.init
    lanes := []
    frms := []
    sch := Sch.init
    seq := Seq.init
    loops := []
    dieLost := 0
    cusSlots := []
    cusDuration := []
    dieTraining := 0
    epochPend := 0
    identities := []
    stale := []
    intN := 0
    isl := Island.init
    otp := Otp.init
    hatch := Hatch.init
    ck := Clk.init
    rtc := Rtc.init
    down := 0
    wake := 0
    pwr := Pwr.init
    mem := Mem.init
    flr := Flr.init
    imp := Imp.init
    est := Est.init
    mtr := Mtr.init
    twn := Twn.init
    pd := Pd.init
    thm := Thm.init
    wdt := Wdt.init
    dma := Dma.init
    spRefused := false
    readWait := []
  }

/-- The machine: the commands that wait, first in first out, and the device. -/
structure State where
  pending : List Instr
  dev : Dev
  deriving DecidableEq, Repr

/-- The machine right after reset: no command waits. -/
def State.reset : State := { pending := [], dev := Dev.reset }

end Sys2Proof.Machine
end

