-- ==== Sys2Proof/Machine/Ops.lean ====
section
/-!
DEFINITION. Machine/Ops.lean: the operations every command shares: the field store, time, messages that leave the
device, tickets (chapter 04), interrupts (R94–R96), ledger records, rails and the power state, banks' forced changes,
lane states, and the fault collector (R102–R117).
-/
namespace Sys2Proof.Machine

/-! ## The field store -/

/-- The value of field `f`, instance `i`. -/
def Dev.get (d : Dev) (f : Field) (i : Nat := 0) : Nat := (d.regs.get f.code []).get i f.reset

/-- Write field `f`, instance `i`; the value is cut to the field's width. -/
def Dev.put (d : Dev) (f : Field) (v : Nat) (i : Nat := 0) : Dev :=
  { d with regs := d.regs.put f.code ((d.regs.get f.code []).put i (v % 2 ^ f.width)) }

/-- A one-bit field as a Boolean. -/
def Dev.flag (d : Dev) (f : Field) (i : Nat := 0) : Bool := d.get f i != 0

/-- Write a one-bit field. -/
def Dev.putB (d : Dev) (f : Field) (b : Bool) (i : Nat := 0) : Dev := d.put f (b2n b) i

/-- Count in a saturating field. -/
def Dev.bump (d : Dev) (f : Field) (i : Nat := 0) (by_ : Nat := 1) : Dev :=
  d.put f (satAdd f.width (d.get f i) by_) i

/-- Count in a field with a sticky saturation flag: the increment that finds it full sets the flag. -/
def Dev.bumpS (d : Dev) (f sat : Field) (i : Nat := 0) (by_ : Nat := 1) : Dev :=
  let n := d.get f i + by_
  if n < 2 ^ f.width then d.put f n i else (d.put f (2 ^ f.width - 1) i).put sat 1 i

/-- A number held in two fields, low and high. -/
def Dev.get2 (d : Dev) (lo hi : Field) (i : Nat := 0) : Nat := d.get lo i + 2 ^ lo.width * d.get hi i

/-- Write a number held in two fields. -/
def Dev.put2 (d : Dev) (lo hi : Field) (v : Nat) (i : Nat := 0) : Dev :=
  (d.put lo v i).put hi (v / 2 ^ lo.width) i

/-- Bit `b` of a set of words (`FRM_CHAIN`, `IRQ_PEND`, `SEQ_RAIL_ON`): word b / 32, bit b mod 32. -/
def Dev.wbit (d : Dev) (f : Field) (b : Nat) : Bool := bit (d.get f (b / 32)) (b % 32)

/-- Write bit `b` of a set of words. -/
def Dev.putWbit (d : Dev) (f : Field) (b : Nat) (v : Bool) : Dev :=
  let w := d.get f (b / 32)
  d.put f (if v then setBit w (b % 32) else clrBit w (b % 32)) (b / 32)

/-- A fresh free value (assumption 4). -/
def Dev.free (d : Dev) : Nat × Dev := (Config.free d.freeCtr, { d with freeCtr := d.freeCtr + 1 })

/-! ## Time -/

/-- The frame number in progress (R408). -/
def Dev.frame (d : Dev) : Nat := d.get2 CLK_FRAME_LO_frame_lo CLK_FRAME_HI_frame_hi

/-- The device epoch and the 48-bit tick count (R9). -/
def Dev.epoch (d : Dev) : Nat := d.get RTC_TICK_HI_epoch

/-- The 48-bit tick count. -/
def Dev.tick (d : Dev) : Nat := d.get2 RTC_TICK_LO_tick_lo RTC_TICK_HI_tick_hi

/-- Clock states (R402): NONE 0, FREE 1, ADOPTING 2, LOCKED 3, HOLDOVER 4, LOST 5. -/
def Dev.clk (d : Dev) : Nat := d.get CLK_STATUS_state

/-- K03 runs in FREE, ADOPTING, LOCKED and HOLDOVER (R474), and not before F_r of a `REARM` (R407). -/
def Dev.k03 (d : Dev) : Bool := decide (1 ≤ d.clk ∧ d.clk ≤ 4) && d.ck.fr == 0

/-- The frame number a record carries: 0 while the frame timebase is not running (R350). -/
def Dev.frameRec (d : Dev) : Nat := if d.k03 then d.frame else 0

/-- 100 ms in units of `Dev.time` (R106). -/
def holdOffTime : Nat := 327_680_000

/-! ## Messages -/

/-- A message leaves the device. -/
def Dev.emit (d : Dev) (k : SentKind) (dest : Nat) (words : List Nat) : Dev :=
  { d with sent := ⟨k, dest, words⟩ :: d.sent }

/-! ## Rails (R464) -/

/-- Rail `r` is enabled. -/
def Dev.railOn (d : Dev) (r : Nat) : Bool := d.wbit SEQ_RAIL_ON_on r

/-- Rail `r` is enabled and good. -/
def Dev.railGood (d : Dev) (r : Nat) : Bool := d.wbit SEQ_RAIL_GOOD_good r

/-- Rail `r` is running (R464). -/
def Dev.railRunning (d : Dev) (r : Nat) : Bool := d.seq.running.testBit r

/-- The hub is up while rails D08, D10, D11 and D12 are all running (R541). -/
def Dev.hubUp (d : Dev) : Bool := d.railRunning 8 && d.railRunning 10 && d.railRunning 11 && d.railRunning 12

/-! ## Ledger records (R353) -/

/-- One second in `Dev.time`. -/
def secondTime : Nat := 3_276_800_000

/-- Records that are appended even while R360 is in force: seals, `START`, `SHUTDOWN`, `TORN`, `EXPORT_ACK`, `FULL_GAP`,
`GENESIS` and `SESSION` records of closes (R360, R361). -/
def ldgAdmits (kind : Nat) (body : List Part) : Bool :=
  kind ∈ [0x01, 0x02, 0x03, 0x04, 0x26, 0x29] || (kind == 0x21 && body.any fun p => p.off == 24 && p.val == 5)

/-- Hand a record to the ledger engine's queue; under R360 only what it admits. -/
def Dev.record (d : Dev) (kind flags : Nat) (body : List Part) (ticket : Nat := 0) (source : Nat := 1024) : Dev :=
  if decide (196_544 ≤ d.get LDG_UNACKED_count) && !ldgAdmits kind body then d
  else { d with ldg := { d.ldg with queue := d.ldg.queue ++ [⟨kind, flags, body, ticket, source⟩] } }

/-- R360 is in force: 196,544 or more records are unacknowledged. -/
def Dev.ldgReserve (d : Dev) : Bool := decide (196_544 ≤ d.get LDG_UNACKED_count)

/-- A record-making act is refused (R360). -/
def Dev.ldgRefusal (d : Dev) : Dev := d.bumpS LDG_FULL_REFUSALS_count LDG_FULL_REFUSALS_sat

/-- The record of a privileged write (R84, R353): kind 0 register, 1 table window, 2 command. -/
def Dev.privRecord (d : Dev) (ch kind page off val ticket result : Nat) : Dev :=
  d.record 0x20 0 [⟨24, 4, d.isl.sessions.get ch 0⟩, ⟨28, 1, ch⟩, ⟨29, 1, kind⟩, ⟨30, 2, page⟩, ⟨32, 4, off⟩,
    ⟨36, 4, val⟩, ⟨40, 6, ticket⟩, ⟨46, 1, result⟩]

/-! ## Interrupts (R94–R96) -/

/-- The target of a source (R96). -/
def Dev.irqTarget (d : Dev) (src : Nat) : Nat := d.get IRQ_TARGET_target src

/-- The source is pending and enabled. -/
def Dev.irqLive (d : Dev) (src : Nat) : Bool := d.wbit IRQ_PEND_pend src && d.wbit IRQ_EN_en src

/-- The MSI-X vector of a source with target 0–3. -/
def Dev.irqVector (d : Dev) (src : Nat) : Nat := 16 * d.irqTarget src + src % 16

/-- Hold an MSI-X message as a pending bit until it can be sent (R71, R96). -/
def Dev.holdMsix (d : Dev) (v : Nat) : Dev :=
  if v ∈ d.msixPend then d else { d with msixPend := d.msixPend ++ [v] }

/-- A packet leaves on the service link: header and payload, closed by a CRC-32 before keying, sealed under the session key and
the device's packet count after it (R500, R502). -/
def Dev.slSend (d : Dev) (hdr payload : List Nat) : Dev :=
  if d.get PD_STATUS_sl_state = 3 then
    let iv := d.pd.slTx * 2 ^ 32 + 2 ^ 24
    { d.emit .sl 0 (hdr ++ Config.gcmSeal d.pd.slKey iv hdr payload) with pd := { d.pd with slTx := d.pd.slTx + 1 } }
  else d.emit .sl 0 (hdr ++ payload ++ leBytes 4 (crc32 (hdr ++ payload)))

/-- A packet header: type, tag, status, flags, count, address (R500). -/
def slHeader (type tag status flags count addr : Nat) : List Nat :=
  [type, tag, status, flags] ++ leBytes 4 count ++ leBytes 8 addr

/-- A page's `PAGE_IRQ_PEND` (R76). -/
def Dev.pagePend (d : Dev) (page : Nat) : Nat := d.get PAGE_IRQ_RAW_raw page &&& d.get PAGE_IRQ_EN_en page

/-- A page summary whose page still pends becomes pending again as soon as it is cleared (R95). -/
def Dev.summaryAgain (d : Dev) (src : Nat) : Dev :=
  if src < 96 ∧ d.pagePend src ≠ 0 then d.putWbit IRQ_PEND_pend src true else d

/-- Start the delivery of a pending, enabled source to its target (R96): MSI-X messages are held until
`MSIX_DELIVERY` sends them; target 6 makes a ledger record, unless R360 keeps it pending; target 4 goes to the
partner in an `IRQ` block while the pair is paired (R376); target 7 goes out on an open service link, and the bit clears. The pulses of target
5 are events of their own. -/
def Dev.irqDeliver (d : Dev) (src : Nat) : Dev :=
  if !d.irqLive src then d
  else
    let t := d.irqTarget src
    if t ≤ 3 then d.holdMsix (d.irqVector src)
    else if t = 4 then
      if d.get TWN_STATUS_pair_state = 3 then
        { d with twn := { d.twn with out := d.twn.out ++ [⟨9, 0, leBytes 2 src⟩] } } else d
    else if t = 6 then
      if d.ldgReserve then d.ldgRefusal
      else if d.ldg.queue.any (fun r => r.source == src) then d
      else d.record 0x24 0 [⟨24, 2, src⟩] 0 src
    else if t = 7 then
      if 2 ≤ d.get PD_STATUS_sl_state then
        ((d.slSend (slHeader 0xA0 0 0 0 0 src) []).putWbit IRQ_PEND_pend src false).summaryAgain src
      else d
    else d

/-- A rising edge of an interrupt source (R95). -/
def Dev.irqEdge (d : Dev) (src : Nat) : Dev :=
  if d.wbit IRQ_PEND_pend src then d.bump IRQ_LOST_count
  else (d.putWbit IRQ_PEND_pend src true).irqDeliver src

/-- A block event: its raw bit is set, and the page's summary source rises when `PAGE_IRQ_PEND` becomes non-zero. -/
def Dev.pageIrq (d : Dev) (page b : Nat) : Dev :=
  let was := d.pagePend page
  let d := d.put PAGE_IRQ_RAW_raw (setBit (d.get PAGE_IRQ_RAW_raw page) b) page
  if was = 0 ∧ d.pagePend page ≠ 0 then d.irqEdge page else d

/-! ## The power state (R541, R542) -/

/-- The memory and cluster domains of the estimation service set are on: D15, one of D16–D23 and one of D24–D31 (R65). -/
def Dev.estimationSet (d : Dev) : Bool :=
  d.railGood 15 && (List.range 8).any (fun k => d.railGood (16 + k)) && (List.range 8).any fun k => d.railGood (24 + k)

/-- Some string lane is in RUN. -/
def Dev.someRun (d : Dev) : Bool := (List.range 32).any fun g => d.get LNK_GRP_STATUS_run g != 0

/-- The power state while D00 is on (R542). -/
def Dev.judgedState (d : Dev) : Nat :=
  if bit (d.get FLT_STATUS_latched) 4 || d.flag THM_STATUS_sd_latched then 7
  else if !d.hubUp then 2
  else if d.flag EST_STATUS_hibernated then 6
  else if d.flag TWN_CFG_en && !d.flag TWN_STATUS_role then 4
  else if d.someRun then 5
  else 3

/-- Re-judge the power state; a change counts and is signalled (R542). -/
def Dev.rejudge (d : Dev) : Dev :=
  let d := d.putB PWR_PSTATE_hub_up d.hubUp
  let s := d.judgedState
  if s = d.get PWR_PSTATE_state then d
  else ((d.put PWR_PSTATE_state s).bumpS PWR_PS_CHANGES_count PWR_PS_CHANGES_sat).pageIrq 0x009 5

/-- A wake cause of R300: the idle time starts again (R298), a probe that runs has been joined, and a hibernated estimator
wakes through `ESTIMATOR_READY` or the `WAKE` recipe. -/
def Dev.wakeCause (d : Dev) : Dev :=
  let d := { d with est := { d.est with idleFrom := d.time, probeWoken := true } }
  if d.flag EST_STATUS_hibernated then { d with wake := if d.wake = 0 then 1 else d.wake } else d

/-! ## The ticket rail (R118–R122) -/

/-- The next ticket to be issued. -/
def Dev.nextTicket (d : Dev) : Nat := d.get2 TKT_NEXT_LO_next_lo TKT_NEXT_HI_next_hi

/-- All 65,536 entries are open (R122). -/
def Dev.railFull (d : Dev) : Bool := decide (65_536 ≤ d.get TKT_OPEN_count)

/-- The first closed entry from `i` on, in ring order (R122). -/
def closedFrom (rail : SMap Ticket) (z : Ticket) : Nat → Nat → Nat
  | 0, i => i
  | n + 1, i => if (rail.get i z).open_ then closedFrom rail z n ((i + 1) % 65_536) else i

/-- An entry no ticket has taken. -/
def Ticket.none : Ticket :=
  { ticket := 0, state := 0, open_ := false, powerLost := false, result := 0, channel := 0, opcode := 0, page := 0, arg := 0,
    done := 0, total := 0, issueEpoch := 0, issueTick := 0, endEpoch := 0, endTick := 0, issueFrame := 0, endFrame := 0,
    faultSeq := 0, detail := 0 }

/-- Issue a ticket: it takes the next closed entry and opens `QUEUED`; the 48-bit count goes on (R118, R122). `TKT_ALLOC` is fixed as the
previous ticket issues: an entry open then and closed before the next issue is passed over (DESIGN CHOICE, assumption 22). -/
def Dev.issue (d : Dev) (ch page op arg total : Nat) : Nat × Dev :=
  let n := d.nextTicket
  let i := closedFrom d.tkt.rail Ticket.none (d.get TKT_OPEN_count) (d.get TKT_ALLOC_index)
  let t : Ticket := { Ticket.none with
    ticket := n, state := 1, open_ := true, result := 1, channel := ch, opcode := op, page := page, arg := arg, total := total,
    issueEpoch := d.epoch, issueTick := d.tick, issueFrame := d.frameRec }
  let d := { d with tkt := { d.tkt with rail := d.tkt.rail.put i t, issued := d.time + 1 } }
  let d := d.put2 TKT_NEXT_LO_next_lo TKT_NEXT_HI_next_hi (n + 1)
  let d := d.put TKT_OPEN_count (d.get TKT_OPEN_count + 1)
  let d := d.put TKT_ALLOC_index
    (closedFrom d.tkt.rail Ticket.none (d.get TKT_OPEN_count) ((i + 1) % 65_536))
  (n, if d.get TKT_OPEN_count = 61_440 then d.pageIrq 0x005 0 else d)

/-- The entry that holds a ticket. -/
def Dev.ticketAt (d : Dev) (n : Nat) : Option (Nat × Ticket) :=
  if n = 0 then none else d.tkt.rail.find? fun e => e.2.ticket == n

/-- Change an open ticket's entry. -/
def Dev.ticketUpd (d : Dev) (n : Nat) (f : Ticket → Ticket) : Dev :=
  match d.ticketAt n with
  | some (i, t) => if t.open_ then { d with tkt := { d.tkt with rail := d.tkt.rail.put i (f t) } } else d
  | none => d

/-- Close an open ticket: 3 PARTIAL, 4 DONE, 5 ABANDONED, with the drip-tray record that closed it (R119–R121). -/
def Dev.close (d : Dev) (n state : Nat) (faultSeq : Nat := 0) : Dev :=
  match d.ticketAt n with
  | some (i, t) =>
    if t.open_ then
      let t := { t with state := state, open_ := false, endEpoch := d.epoch, endTick := d.tick, endFrame := d.frameRec,
                        faultSeq := faultSeq, done := if state = 4 then t.total else t.done }
      ({ d with tkt := { d.tkt with rail := d.tkt.rail.put i t } }).put TKT_OPEN_count (d.get TKT_OPEN_count - 1)
    else d
  | none => d

/-- DONE. -/
def Dev.done (d : Dev) (n : Nat) : Dev := d.close n 4

/-- PARTIAL. -/
def Dev.partialDone (d : Dev) (n : Nat) : Dev := d.close n 3

/-- ABANDONED, by a fault's record or without one. -/
def Dev.abandon (d : Dev) (n : Nat) (faultSeq : Nat := 0) : Dev := d.close n 5 faultSeq

/-- The ticket's effects have begun, `k` of them done (R119). -/
def Dev.progress (d : Dev) (n k : Nat) : Dev := d.ticketUpd n fun t => { t with state := 2, done := k }

/-- Write a ticket's detail field (R121). -/
def Dev.ticketDetail (d : Dev) (n v : Nat) : Dev :=
  match d.ticketAt n with
  | some (i, t) => { d with tkt := { d.tkt with rail := d.tkt.rail.put i { t with detail := v % 2 ^ 16 } } }
  | none => d

/-- Write a ticket's total. -/
def Dev.ticketTotal (d : Dev) (n v : Nat) : Dev := d.ticketUpd n fun t => { t with total := v }

/-! ## Banks: forced changes (R102, R200) -/

/-- A bank's hidden state. -/
def Dev.bank (d : Dev) (b : Nat) : Bank := d.sch.banks.get b Bank.init

/-- Write a bank's hidden state. -/
def Dev.putBank (d : Dev) (b : Nat) (x : Bank) : Dev :=
  { d with sch := { d.sch with banks := d.sch.banks.put b x } }

/-- A bank's mode (R199): IDLE 0, DC 1, AC_LOCKED 2, AC_FREE 3, HOLD 4, TRIPPED 5. -/
def Dev.bankMode (d : Dev) (b : Nat) : Nat := d.get BNK_STATUS_mode b

/-- The mode is one that synthesises: DC, AC_LOCKED, AC_FREE. -/
def workingMode (m : Nat) : Bool := decide (1 ≤ m ∧ m ≤ 3)

/-- A bank takes a mode; the change is signalled, a forced one on its own bit (R238). -/
def Dev.setMode (d : Dev) (b m cause : Nat) (forced : Bool) : Dev :=
  if d.bankMode b = m then d
  else
    let d := (d.put BNK_STATUS_mode m b).put BNK_STATUS_hold_cause (if m = 4 then cause else 0) b
    let d := d.pageIrq (0x020 + b) 0
    if forced then d.pageIrq (0x020 + b) 1 else d

/-- A bank's `pending` bit shows whether a change awaits its boundary. -/
def Dev.bankPending (d : Dev) (b : Nat) : Dev :=
  let x := d.bank b
  d.putB BNK_STATUS_pending (!x.pend.isEmpty || x.forceHold != 0 || x.forceTrip) b

/-- Order a bank to HOLD: at the next boundary, or at once while K03 is stopped (R200). -/
def Dev.holdBank (d : Dev) (b cause : Nat) : Dev :=
  if !workingMode (d.bankMode b) then d
  else if d.k03 then
    let x := d.bank b
    (d.putBank b { x with forceHold := if x.forceHold = 0 then cause else x.forceHold }).bankPending b
  else d.setMode b 4 cause true

/-- Order every bank to TRIPPED (R102), at the next boundary or at once (R200); without D12 there are no banks (R229). -/
def Dev.tripBank (d : Dev) (b : Nat) : Dev :=
  if d.bankMode b = 5 || !d.railGood 12 then d
  else if d.k03 then (d.putBank b { d.bank b with forceTrip := true }).bankPending b
  else d.setMode b 5 0 true

/-- The accepted `MODE` tickets of a bank that a forced change overrides (R120, R239): a hold overrides commands to
the working modes, a trip every command. -/
def Dev.overridden (d : Dev) (b : Nat) (trip : Bool) : List Nat :=
  ((d.bank b).pend.filter fun p => trip || workingMode p.mode).map (·.ticket)

/-- Forget the overridden commands of a bank. -/
def Dev.dropOverridden (d : Dev) (b : Nat) (trip : Bool) : Dev :=
  let x := d.bank b
  (d.putBank b { x with pend := x.pend.filter fun p => !(trip || workingMode p.mode) }).bankPending b

/-! ## The flight recorder's triggers (R332) -/

/-- A lane stands among the first L entries of the recorder's list; its index (R330). -/
def Dev.flrIndex (d : Dev) (l : Nat) : Option Nat :=
  (List.range (d.get FLR_LANES_N_count)).find? fun i =>
    (if i % 2 = 0 then d.get FLR_LANE_even (i / 2) else d.get FLR_LANE_odd (i / 2)) == l

/-- A trigger moves `ARMED` to `POST` and records its frame and cause: 1 command, 2 class, 3 source, 4 lane state, 5 posture;
in any other state it is ignored (R332). -/
def Dev.flrTrigger (d : Dev) (cause source : Nat) : Dev :=
  if d.get FLR_STATUS_state = 1 then
    let d := ((d.put FLR_STATUS_state 2).put2 FLR_TRIG_FRAME_LO_lo FLR_TRIG_FRAME_HI_hi d.frame).put FLR_TRIG_CAUSE_cause cause
    ({ d with flr := { d.flr with left := min (d.get FLR_POST_frames) (d.get FLR_SLOTS_slots - 1) } }.put
      FLR_TRIG_CAUSE_source source).pageIrq 0x019 0
  else d

/-- A fault of this effective class and source triggers the recorder where `FLR_TRIG_CFG` says so (R332). -/
def Dev.flrFault (d : Dev) (eff code : Nat) : Dev :=
  if d.flag FLR_TRIG_CFG_class_en && decide (d.get FLR_TRIG_CFG_min_class ≤ eff) then d.flrTrigger 2 code
  else if d.flag FLR_TRIG_CFG_source_en && d.get FLR_TRIG_CFG_source == code then d.flrTrigger 3 code
  else d

/-! ## Lane states (R145–R147) -/

/-- A lane's hidden state. -/
def Dev.lane (d : Dev) (l : Nat) : Lane := d.lanes.get l Lane.init

/-- Write a lane's hidden state. -/
def Dev.putLane (d : Dev) (l : Nat) (x : Lane) : Dev := { d with lanes := d.lanes.put l x }

/-- A lane's framing. -/
def Dev.frm (d : Dev) (l : Nat) : Frm := d.frms.get l Frm.init

/-- Write a lane's framing. -/
def Dev.putFrm (d : Dev) (l : Nat) (x : Frm) : Dev := { d with frms := d.frms.put l x }

/-- A lane's state: DOWN 0, TRAIN 1, ALIGN 2, ENUM 3, RUN 4, SAFE 5, LOOP 6. -/
def Dev.laneState (d : Dev) (l : Nat) : Nat := d.get LNK_STATUS_state l

/-- The management channel is open in ENUM, RUN and SAFE (R167). -/
def mgmtState (s : Nat) : Bool := decide (3 ≤ s ∧ s ≤ 5)

/-- The management channel closes: the host mailbox's message is abandoned with its ticket (R187, R196). -/
def Dev.mgmtClose (d : Dev) (l : Nat) : Dev :=
  let x := d.frm l
  let d := if x.mbxTkt = 0 then d else (d.abandon x.mbxTkt).put FRM_MBX_TX_STATUS_state 3
  d.putFrm l { x with mgmtOpen := false, mbxTkt := 0, txQueue := [], mgmtNext := 0, mgmtHigh := 0, txNext := 0, rxAck := 0xFFFF, stall := 0 }

/-- The device is the standby of a pair (R388). -/
def Dev.standby (d : Dev) : Bool := d.flag TWN_CFG_en && !d.flag TWN_STATUS_role

/-- It is paired as standby (R382, R383, R392). -/
def Dev.pairedStandby (d : Dev) : Bool := d.standby && d.get TWN_STATUS_pair_state == 3

/-- A lane enters a state: `LNK_HISTORY` records it, the group's run bit and the interrupts follow (R158–R160), a lane
that leaves ENUM, RUN or SAFE for another kind of state closes its management channel, a map is in force in RUN and SAFE
only (R162), and the power state is judged again. Twin lanes (512–515) have no group. -/
def Dev.laneEnter (d : Dev) (l s reason : Nat) : Dev :=
  let old := d.laneState l
  let d := (((d.put LNK_HISTORY_reason reason l).put LNK_HISTORY_prev_state old l).put LNK_HISTORY_frame (d.frame % 2 ^ 24) l).put
    LNK_STATUS_state s l
  let d := if mgmtState old && !mgmtState s && decide (l < 512) then d.mgmtClose l else d
  let d := if old = 3 && s != 3 then d.put FRM_L_INV_phase 0 l else d
  let d := if s = 4 || s = 5 || 512 ≤ l then d else d.put FRM_L_MAP_in_force 0 l
  if l < 512 then
    let g := l / 16
    let run := d.get LNK_GRP_STATUS_run g
    let d := d.put LNK_GRP_STATUS_run (if s = 4 then setBit run (l % 16) else clrBit run (l % 16)) g
    let d := if old = s then d else (d.pageIrq (0x040 + g) (l % 16)).irqEdge (256 + l)
    let d := if old = 4 && s != 4 && d.flag FLR_TRIG_CFG_lane_en && (d.flrIndex l).isSome then d.flrTrigger 4 0 else d
    d.rejudge
  else
    let t := d.get TWN_STATUS_lanes
    d.put TWN_STATUS_lanes (if s = 4 then setBit t (l - 512) else clrBit t (l - 512))

/-! ## Custody sessions (R82, R83, R88) -/

/-- The channel's session covers the scope bit. Recipe engines and the device's own logic need no session. -/
def Dev.covers (d : Dev) (ch scope : Nat) : Bool :=
  decide (2 ≤ ch) || (d.get CUS_STATUS_phase ch == 3 && bit (d.get CUS_SCOPE_scope ch) scope)

/-- Scope bits (R83). -/
def scopeOPS : Nat := 0
/-- TIME. -/
def scopeTIME : Nat := 1
/-- METER. -/
def scopeMETER : Nat := 2
/-- LEARN. -/
def scopeLEARN : Nat := 3
/-- CUSTODY. -/
def scopeCUSTODY : Nat := 4
/-- OTP. -/
def scopeOTP : Nat := 5

/-- The body of a `SESSION` record about a session (events 3–5, R353). -/
def Dev.sessionBody (d : Dev) (ch event reason : Nat) : List Part :=
  [⟨24, 1, event⟩, ⟨25, 1, reason⟩, ⟨26, 1, 0xFF⟩,
   ⟨27, 1, d.get CUS_STATUS_holder_a_ok ch + 2 * d.get CUS_STATUS_holder_b_ok ch + 4 * (d.cusSlots.get ch 0)⟩,
   ⟨28, 1, ch⟩, ⟨32, 4, d.isl.sessions.get ch 0⟩, ⟨36, 4, d.get CUS_SCOPE_scope ch⟩, ⟨40, 4, d.cusDuration.get ch 0⟩]

/-- Forget a channel's verified signatures and its scope. -/
def Dev.cusForget (d : Dev) (ch : Nat) : Dev :=
  ((((d.put CUS_STATUS_holder_a_ok 0 ch).put CUS_STATUS_holder_b_ok 0 ch).put CUS_STATUS_both_required 0 ch).put
    CUS_SCOPE_scope 0 ch).put CUS_REMAIN_seconds 0 ch

/-- An open session closes, with its reason in the ledger: 1 CLOSE, 2 expiry, 3 new epoch, 4 link event or detach,
5 domain off (R88, R353). Interrupt source 139 rises, unless it is D01 that switches off (R94, R95). -/
def Dev.closeSession (d : Dev) (ch reason : Nat) : Dev :=
  if d.get CUS_STATUS_phase ch = 3 then
    let d := d.record 0x21 0 (d.sessionBody ch 5 reason)
    let d := { d with isl := { d.isl with sessions := d.isl.sessions.put ch 0 } }
    let d := (d.cusForget ch).put CUS_STATUS_phase 0 ch
    if d.railGood 1 then d.irqEdge 139 else d
  else d

/-! ## Regulator loops (R440, R444) -/

/-- Phases of a loop. -/
def loopPhases (l : Nat) : Nat := [16, 8, 4, 4].getD l 0

/-- A loop's first phase. -/
def loopBase (l : Nat) : Nat := [0, 16, 24, 28].getD l 0

/-- A loop's hidden state. -/
def Dev.loop (d : Dev) (l : Nat) : Loop := d.loops.get l Loop.init

/-- Write a loop's hidden state. -/
def Dev.putLoop (d : Dev) (l : Nat) (x : Loop) : Dev := { d with loops := d.loops.put l x }

/-- A loop's state: OFF 0, TEST 1, RAMP 2, RUN 3, HICCUP 4, FAULT 5, TRISTATE 6. -/
def Dev.loopState (d : Dev) (l : Nat) : Nat := d.get BRN_STATUS_state l

/-- The fitted phases of a loop, by phase within the loop. -/
def Dev.fitted (d : Dev) (l : Nat) : List Nat :=
  (List.range (loopPhases l)).filter fun k => bit (d.get BRN_PHASES_populated l) k

/-- The fitted phases that are not shed (R452). -/
def Dev.activePhases (d : Dev) (l : Nat) : List Nat :=
  (d.fitted l).filter fun k => !d.flag BRN_PHASE_shed (loopBase l + k)

/-- `BEN` stands high in `TEST`, `RAMP`, `RUN` and `TRISTATE` (R442, R444, R457). -/
def benHigh (s : Nat) : Bool := s == 1 || s == 2 || s == 3 || s == 6

/-- A loop enters a state: power-good falls, the count of active phases follows, `BEN` with it, and its interrupt bit is set (R461). Outside
`RAMP` and `RUN` every `PWM_` output is at mid-level, so that nothing is truncated and no current flows (R442, R451). -/
def Dev.loopEnter (d : Dev) (l s : Nat) : Dev :=
  if d.loopState l = s then d
  else
    let was := d.loopState l
    let on := s = 2 ∨ s = 3
    let d := ((d.put BRN_STATUS_state s l).put BRN_STATUS_pg 0 l).put BRN_STATUS_active (if on then (d.activePhases l).length else 0) l
    let d := if on then d else (d.put BRN_STATUS_truncating 0 l).put BRN_OUT_i_total 0 l
    let d := if benHigh was = benHigh s then d else d.emit .ben l [b2n (benHigh s)]
    d.pageIrq 0x00B l

end Sys2Proof.Machine
end

