-- ==== Sys2Proof/Machine/Faults.lean ====
section
/-!
DEFINITION. Machine/Faults.lean: the fault collector (R102–R117): sources and their classes, raising with its
hold-off, latches and escalation, the drip-tray queue, consequences and containment, acknowledgement's shared parts.
-/
namespace Sys2Proof.Machine

/-- Containment units (R103). -/
inductive FaultUnit where
  | lane | bank | die | channel | rail | loop | block
  deriving DecidableEq, Repr

/-- A row of R104's table: code, raised class, unit. -/
structure FaultRow where
  code : Nat
  cls : Nat
  unit : FaultUnit
  deriving DecidableEq, Repr

/-- Fault sources, part 1 (R104). -/
def faultRows0 : List FaultRow := [
  ⟨0x0001, 0, .lane⟩ /- DEADLINE_MISS -/,
  ⟨0x0002, 1, .lane⟩ /- DEADLINE_MISS_3 -/,
  ⟨0x0003, 2, .die⟩ /- D2D_LOST -/,
  ⟨0x0004, 4, .block⟩ /- ESTOP -/,
  ⟨0x0101, 0, .block⟩ /- HIF_LINK_LOST -/,
  ⟨0x0201, 0, .block⟩ /- SIGN_IN_FAIL -/,
  ⟨0x0401, 4, .block⟩ /- HOST_TRIP -/,
  ⟨0x0402, 1, .block⟩ /- DRIP_LOST -/,
  ⟨0x0501, 1, .block⟩ /- RAIL_FULL -/,
  ⟨0x0601, 0, .block⟩ /- DMA_HOST_ERROR -/,
  ⟨0x0701, 1, .block⟩ /- REF_OUT -/,
  ⟨0x0702, 3, .block⟩ /- ALL_SOURCES_LOST -/,
  ⟨0x0801, 1, .block⟩ /- OSC_STOPPED -/,
  ⟨0x0802, 0, .block⟩ /- BACKUP_SWITCH -/,
  ⟨0x0901, 1, .block⟩ /- VIN_AUX_LOST -/,
  ⟨0x0902, 1, .block⟩ /- CHG_TIMER -/,
  ⟨0x0903, 0, .block⟩ /- CELL_MISSING -/,
  ⟨0x0904, 1, .block⟩ /- CELL_SHORTED -/,
  ⟨0x0905, 3, .block⟩ /- INPUT_COLLAPSE -/,
  ⟨0x0A01, 2, .rail⟩ /- PG_TIMEOUT -/,
  ⟨0x0A02, 2, .rail⟩ /- RAIL_LOST -/,
  ⟨0x0A03, 3, .block⟩ /- SEQ_TIMER_MISMATCH -/,
  ⟨0x0B01, 2, .loop⟩ /- HS_SHORT -/,
  ⟨0x0B02, 3, .loop⟩ /- HICCUP_EXHAUSTED -/]

/-- Fault sources, part 2 (R104). -/
def faultRows1 : List FaultRow := [
  ⟨0x0B03, 0, .loop⟩ /- OVERSHOOT_TRUNC -/,
  ⟨0x0B04, 1, .loop⟩ /- PHASE_HOT -/,
  ⟨0x0C01, 0, .block⟩ /- DIE_WARM -/,
  ⟨0x0C02, 1, .block⟩ /- SENSOR_BROKEN -/,
  ⟨0x0C03, 4, .block⟩ /- THERMAL_SHUTDOWN -/,
  ⟨0x0C04, 3, .block⟩ /- CHG_TIMER_MISMATCH -/,
  ⟨0x0D01, 3, .block⟩ /- WDT_EXPIRY -/,
  ⟨0x0D02, 3, .block⟩ /- WDT_TIMER_MISMATCH -/,
  ⟨0x0E01, 2, .block⟩ /- OTP_REGION_CRC -/,
  ⟨0x0E02, 0, .block⟩ /- OTP_SPARED -/,
  ⟨0x0E03, 1, .block⟩ /- OTP_SPARES_GONE -/,
  ⟨0x0F01, 1, .block⟩ /- PANTRY_VERIFY -/,
  ⟨0x1001, 0, .block⟩ /- PD_CONTRACT_LOST -/,
  ⟨0x1101, 1, .block⟩ /- TWIN_HEARTBEAT -/,
  ⟨0x1102, 0, .block⟩ /- TWIN_SNAPSHOT_DROP -/,
  ⟨0x1103, 1, .block⟩ /- TWIN_TAKEOVER -/,
  ⟨0x1201, 1, .block⟩ /- LDG_COALESCE -/,
  ⟨0x1202, 1, .block⟩ /- LDG_TORN -/,
  ⟨0x1301, 1, .bank⟩ /- MTR_DISCREPANCY -/,
  ⟨0x1302, 0, .bank⟩ /- MTR_OVR -/,
  ⟨0x1303, 0, .block⟩ /- METER_GAP -/,
  ⟨0x1401, 1, .lane⟩ /- NODE_PROFILE -/,
  ⟨0x1402, 1, .lane⟩ /- SLOT_BUDGET -/,
  ⟨0x1403, 0, .lane⟩ /- BRANCH_CURRENT -/]

/-- Fault sources, part 3 (R104). -/
def faultRows2 : List FaultRow := [
  ⟨0x1501, 1, .bank⟩ /- AC_LOCK_LOST -/,
  ⟨0x1502, 0, .lane⟩ /- CURRENT_LIMITED -/,
  ⟨0x1601, 0, .lane⟩ /- OFFSET_FORCED -/,
  ⟨0x1701, 1, .lane⟩ /- ACCUM_SAT -/,
  ⟨0x1702, 1, .lane⟩ /- CELL_FAILED -/,
  ⟨0x1703, 0, .lane⟩ /- CELL_STALE -/,
  ⟨0x1801, 1, .channel⟩ /- CHIP_MARKED -/,
  ⟨0x1802, 2, .channel⟩ /- SECOND_CHIP -/,
  ⟨0x1803, 1, .channel⟩ /- MEM_UNCORRECTABLE -/,
  ⟨0x1901, 0, .block⟩ /- FLR_FROZEN -/,
  ⟨0x2001, 2, .bank⟩ /- BANK_OVERCURRENT -/,
  ⟨0x2002, 2, .bank⟩ /- BANK_VOLTAGE -/,
  ⟨0x3001, 0, .channel⟩ /- MEMC_COUNT_SAT -/,
  ⟨0x4001, 1, .lane⟩ /- LANE_LOCK_LOST -/,
  ⟨0x4002, 0, .lane⟩ /- LANE_UNCORRECTABLE -/,
  ⟨0x4003, 2, .lane⟩ /- LANE_POSTURE -/,
  ⟨0x4004, 1, .lane⟩ /- LANE_TRAIN_FAIL -/]

/-- Every fault source (R104). -/
def faultRows : List FaultRow := faultRows0 ++ faultRows1 ++ faultRows2

/-- `DEADLINE_MISS`. -/
abbrev F_DEADLINE_MISS : Nat := 0x0001
/-- `DEADLINE_MISS_3`. -/
abbrev F_DEADLINE_MISS_3 : Nat := 0x0002
/-- `D2D_LOST`. -/
abbrev F_D2D_LOST : Nat := 0x0003
/-- `ESTOP`. -/
abbrev F_ESTOP : Nat := 0x0004
/-- `HIF_LINK_LOST`. -/
abbrev F_HIF_LINK_LOST : Nat := 0x0101
/-- `SIGN_IN_FAIL`. -/
abbrev F_SIGN_IN_FAIL : Nat := 0x0201
/-- `HOST_TRIP`. -/
abbrev F_HOST_TRIP : Nat := 0x0401
/-- `DRIP_LOST`. -/
abbrev F_DRIP_LOST : Nat := 0x0402
/-- `RAIL_FULL`. -/
abbrev F_RAIL_FULL : Nat := 0x0501
/-- `DMA_HOST_ERROR`. -/
abbrev F_DMA_HOST_ERROR : Nat := 0x0601
/-- `REF_OUT`. -/
abbrev F_REF_OUT : Nat := 0x0701
/-- `ALL_SOURCES_LOST`. -/
abbrev F_ALL_SOURCES_LOST : Nat := 0x0702
/-- `OSC_STOPPED`. -/
abbrev F_OSC_STOPPED : Nat := 0x0801
/-- `BACKUP_SWITCH`. -/
abbrev F_BACKUP_SWITCH : Nat := 0x0802
/-- `VIN_AUX_LOST`. -/
abbrev F_VIN_AUX_LOST : Nat := 0x0901
/-- `CHG_TIMER`. -/
abbrev F_CHG_TIMER : Nat := 0x0902
/-- `CELL_MISSING`. -/
abbrev F_CELL_MISSING : Nat := 0x0903
/-- `CELL_SHORTED`. -/
abbrev F_CELL_SHORTED : Nat := 0x0904
/-- `INPUT_COLLAPSE`. -/
abbrev F_INPUT_COLLAPSE : Nat := 0x0905
/-- `PG_TIMEOUT`. -/
abbrev F_PG_TIMEOUT : Nat := 0x0A01
/-- `RAIL_LOST`. -/
abbrev F_RAIL_LOST : Nat := 0x0A02
/-- `SEQ_TIMER_MISMATCH`. -/
abbrev F_SEQ_TIMER_MISMATCH : Nat := 0x0A03
/-- `HS_SHORT`. -/
abbrev F_HS_SHORT : Nat := 0x0B01
/-- `HICCUP_EXHAUSTED`. -/
abbrev F_HICCUP_EXHAUSTED : Nat := 0x0B02
/-- `OVERSHOOT_TRUNC`. -/
abbrev F_OVERSHOOT_TRUNC : Nat := 0x0B03
/-- `PHASE_HOT`. -/
abbrev F_PHASE_HOT : Nat := 0x0B04
/-- `DIE_WARM`. -/
abbrev F_DIE_WARM : Nat := 0x0C01
/-- `SENSOR_BROKEN`. -/
abbrev F_SENSOR_BROKEN : Nat := 0x0C02
/-- `THERMAL_SHUTDOWN`. -/
abbrev F_THERMAL_SHUTDOWN : Nat := 0x0C03
/-- `CHG_TIMER_MISMATCH`. -/
abbrev F_CHG_TIMER_MISMATCH : Nat := 0x0C04
/-- `WDT_EXPIRY`. -/
abbrev F_WDT_EXPIRY : Nat := 0x0D01
/-- `WDT_TIMER_MISMATCH`. -/
abbrev F_WDT_TIMER_MISMATCH : Nat := 0x0D02
/-- `OTP_REGION_CRC`. -/
abbrev F_OTP_REGION_CRC : Nat := 0x0E01
/-- `OTP_SPARED`. -/
abbrev F_OTP_SPARED : Nat := 0x0E02
/-- `OTP_SPARES_GONE`. -/
abbrev F_OTP_SPARES_GONE : Nat := 0x0E03
/-- `PANTRY_VERIFY`. -/
abbrev F_PANTRY_VERIFY : Nat := 0x0F01
/-- `PD_CONTRACT_LOST`. -/
abbrev F_PD_CONTRACT_LOST : Nat := 0x1001
/-- `TWIN_HEARTBEAT`. -/
abbrev F_TWIN_HEARTBEAT : Nat := 0x1101
/-- `TWIN_SNAPSHOT_DROP`. -/
abbrev F_TWIN_SNAPSHOT_DROP : Nat := 0x1102
/-- `TWIN_TAKEOVER`. -/
abbrev F_TWIN_TAKEOVER : Nat := 0x1103
/-- `LDG_COALESCE`. -/
abbrev F_LDG_COALESCE : Nat := 0x1201
/-- `LDG_TORN`. -/
abbrev F_LDG_TORN : Nat := 0x1202
/-- `MTR_DISCREPANCY`. -/
abbrev F_MTR_DISCREPANCY : Nat := 0x1301
/-- `MTR_OVR`. -/
abbrev F_MTR_OVR : Nat := 0x1302
/-- `METER_GAP`. -/
abbrev F_METER_GAP : Nat := 0x1303
/-- `NODE_PROFILE`. -/
abbrev F_NODE_PROFILE : Nat := 0x1401
/-- `SLOT_BUDGET`. -/
abbrev F_SLOT_BUDGET : Nat := 0x1402
/-- `BRANCH_CURRENT`. -/
abbrev F_BRANCH_CURRENT : Nat := 0x1403
/-- `AC_LOCK_LOST`. -/
abbrev F_AC_LOCK_LOST : Nat := 0x1501
/-- `CURRENT_LIMITED`. -/
abbrev F_CURRENT_LIMITED : Nat := 0x1502
/-- `OFFSET_FORCED`. -/
abbrev F_OFFSET_FORCED : Nat := 0x1601
/-- `ACCUM_SAT`. -/
abbrev F_ACCUM_SAT : Nat := 0x1701
/-- `CELL_FAILED`. -/
abbrev F_CELL_FAILED : Nat := 0x1702
/-- `CELL_STALE`. -/
abbrev F_CELL_STALE : Nat := 0x1703
/-- `CHIP_MARKED`. -/
abbrev F_CHIP_MARKED : Nat := 0x1801
/-- `SECOND_CHIP`. -/
abbrev F_SECOND_CHIP : Nat := 0x1802
/-- `MEM_UNCORRECTABLE`. -/
abbrev F_MEM_UNCORRECTABLE : Nat := 0x1803
/-- `FLR_FROZEN`. -/
abbrev F_FLR_FROZEN : Nat := 0x1901
/-- `BANK_OVERCURRENT`. -/
abbrev F_BANK_OVERCURRENT : Nat := 0x2001
/-- `BANK_VOLTAGE`. -/
abbrev F_BANK_VOLTAGE : Nat := 0x2002
/-- `MEMC_COUNT_SAT`. -/
abbrev F_MEMC_COUNT_SAT : Nat := 0x3001
/-- `LANE_LOCK_LOST`. -/
abbrev F_LANE_LOCK_LOST : Nat := 0x4001
/-- `LANE_UNCORRECTABLE`. -/
abbrev F_LANE_UNCORRECTABLE : Nat := 0x4002
/-- `LANE_POSTURE`. -/
abbrev F_LANE_POSTURE : Nat := 0x4003
/-- `LANE_TRAIN_FAIL`. -/
abbrev F_LANE_TRAIN_FAIL : Nat := 0x4004

/-- The raised class of a source. -/
def faultClass (code : Nat) : Nat := ((faultRows.find? fun r => r.code == code).map (·.cls)).getD 0

/-- The containment unit of a source at a location; `MTR_OVR` of channels 32–39 has the block as its unit (R342). -/
def faultUnit (code loc : Nat) : FaultUnit :=
  if code = F_MTR_OVR ∧ 32 ≤ loc then .block
  else ((faultRows.find? fun r => r.code == code).map (·.unit)).getD .block

/-- Latch `c` is valid. -/
def Dev.latched (d : Dev) (c : Nat) : Bool := bit (d.get FLT_STATUS_latched) c

/-- The drip-tray sequence number that the next record takes. -/
def Dev.nextSeq (d : Dev) : Nat := d.get2 FLT_NEXT_SEQ_LO_seq_lo FLT_NEXT_SEQ_HI_seq_hi

/-- `TRIP_N` as R111 holds it. -/
def Dev.tripN (d : Dev) : Bool :=
  if d.flag TWN_CFG_en then d.latched 4 && d.flt.otherTrip
  else d.latched 4 || d.flag FLT_STATUS_estop

/-- Drive `TRIP_N` by R111; its assertion raises interrupt source 129. -/
def Dev.driveTrip (d : Dev) : Dev :=
  let was := d.flag FLT_STATUS_trip_n
  let d := d.putB FLT_STATUS_trip_n d.tripN
  if !was && d.flag FLT_STATUS_trip_n then d.irqEdge 129 else d

/-- Number of valid latches (each pins its record, R116). -/
def Dev.countLatches (d : Dev) : Dev := d.put FLT_PINS_latch_pins (popcount 5 (d.get FLT_STATUS_latched))

/-- Mirror latches 3 and 4 in the pantry (R113). -/
def Dev.mirrorLatches (d : Dev) : Dev :=
  let one (c : Nat) : List Latch :=
    if d.latched c then
      [{ cls := c, escalated := d.flag FLT_FIRST_SRC_escalated c, raised := d.get FLT_FIRST_SRC_raised c,
         page := d.get FLT_FIRST_SRC_page c, source := d.get FLT_FIRST_SRC_source c,
         seq := d.get2 FLT_FIRST_SEQ_LO_seq_lo FLT_FIRST_SEQ_HI_seq_hi c, location := d.get FLT_FIRST_WHERE_location c }]
    else []
  { d with flt := { d.flt with mirror := one 3 ++ one 4 } }

/-- Fill latch `c` with a first source (R108). -/
def Dev.fillLatch (d : Dev) (c : Nat) (x : Latch) : Dev :=
  let d := d.put FLT_STATUS_latched (setBit (d.get FLT_STATUS_latched) c)
  let d := ((((d.put FLT_FIRST_SRC_valid 1 c).putB FLT_FIRST_SRC_escalated x.escalated c).put FLT_FIRST_SRC_raised x.raised c).put
    FLT_FIRST_SRC_page x.page c).put FLT_FIRST_SRC_source x.source c
  let d := (d.put2 FLT_FIRST_SEQ_LO_seq_lo FLT_FIRST_SEQ_HI_seq_hi x.seq c).put FLT_FIRST_WHERE_location x.location c
  let d := if c = 4 then { d with flt := { d.flt with otherTrip := false, tripFresh := 2 } } else d
  ((d.countLatches).mirrorLatches).pageIrq 0x004 c

/-- A drip-tray record's common fields, filled from the device's present state (R115). -/
def Dev.dripBase (d : Dev) (kind seq : Nat) : DripRec :=
  { seq := seq, kind := kind, raised := 0, effective := 0, escalated := false, source := 0, page := 0, suppressed := 0,
    location := 0, epoch := d.epoch, tick := d.tick, frame := d.frameRec, ticket := 0, detail := 0,
    latched := d.get FLT_STATUS_latched, overflow := d.get FLT_STATUS_overflow }

/-- Take the next sequence number; queue the record, or drop it when 32 wait (R117). The Boolean says that a drop
spell has begun. -/
def Dev.queueDrip (d : Dev) (r : DripRec) : Dev × Bool :=
  let d := d.put2 FLT_NEXT_SEQ_LO_seq_lo FLT_NEXT_SEQ_HI_seq_hi (d.nextSeq + 1)
  if d.flt.queue.length < 32 then
    ({ d with flt := { d.flt with queue := d.flt.queue ++ [r], dropSpell := false } }, false)
  else
    let begins := !d.flt.dropSpell
    let d := { d with flt := { d.flt with dropSpell := true } }
    ((d.bumpS FLT_DROPPED_count FLT_DROPPED_sat).pageIrq 0x004 6, begins)

/-- Containment of a unit (R103). Rails are shut down by the sequencer (R468), which raises its faults itself. -/
def Dev.contain (d : Dev) (u : FaultUnit) (page loc cls seq : Nat) : Dev :=
  match u with
  | .lane =>
    if d.laneState loc = 3 ∨ d.laneState loc = 4 then
      let x := d.lane loc
      let f := d.frm loc
      let d := (d.abandon x.enTkt seq).abandon f.relTkt seq
      let d := (d.putLane loc { d.lane loc with enTkt := 0, contained := true }).putFrm loc
        { d.frm loc with relTkt := 0, runNext := false }
      d.laneEnter loc 5 8
    else d
  | .bank => (d.dropOverridden loc false).holdBank loc 3
  | .die =>
    let d := { d with dieLost := if loc < 8 then setBit d.dieLost loc else d.dieLost }
    each ((List.range 64).map fun k => 64 * loc + k) (fun l (d : Dev) =>
      if loc < 8 ∧ (d.laneState l = 3 ∨ d.laneState l = 4) then
        (d.putFrm l { d.frm l with runNext := false }).laneEnter l 5 9
      else d) d
  | .channel =>
    { (d.put MEMC_STATUS_contained 1 loc).pageIrq (0x030 + loc) 4 with
      flt := { d.flt with
        contained := (0x20000 + loc, cls) :: d.flt.contained, containedBy := d.flt.containedBy.put (0x20000 + loc) seq } }
  | .rail => d
  | .loop =>
    let x := d.loop loc
    let d := d.abandon x.tkt seq
    let d := if x.kind = 2 then d.ticketDetail x.tkt (loc * 4096 + d.get BRN_VID_code_now loc) else d
    let d := d.putLoop loc { d.loop loc with tkt := 0, kind := 0 }
    let d := if 1 ≤ d.loopState loc ∧ d.loopState loc ≤ 4 then (d.loopEnter loc 5).put BRN_HIST_last_stop 4 loc else d
    -- `START` is refused from `FAULT` while a class taken here is latched (R458)
    if d.loopState loc = 5 then d.putLoop loc { d.loop loc with took := cls :: (d.loop loc).took } else d
  | .block => { d with flt := { d.flt with contained := (page, cls) :: d.flt.contained } }

/-- Tickets that a fault of this effective class closes (R120): bank mode commands that its containment or its forced
changes override, the tickets of a contained lane or loop. -/
def Dev.faultTickets (d : Dev) (u : FaultUnit) (loc eff : Nat) : List Nat :=
  if eff < 2 then []
  else
    (match u with
      | .lane => if d.laneState loc = 3 ∨ d.laneState loc = 4 then [(d.lane loc).enTkt, (d.frm loc).relTkt] else []
      | .bank => d.overridden loc false
      | .loop => [(d.loops.get loc Loop.init).tkt]
      | _ => []) ++
    (if eff = 3 then (List.range 16).flatMap fun b => d.overridden b false
     else if eff = 4 then (List.range 16).flatMap fun b => d.overridden b true
     else [])

/-- The consequence of an effective class on the whole plant: SAFE_STOP holds every working bank, TRIP moves every
bank to TRIPPED and asserts `TRIP_N` (R102, R111). -/
def Dev.plantConsequence (d : Dev) (eff code : Nat) : Dev :=
  if eff = 3 then
    each (List.range 16) (fun b d => ((d : Dev).dropOverridden b false).holdBank b 2) d
  else if eff = 4 then
    let d := { d with flt := { d.flt with otherTrip := d.flt.otherTrip || code != F_ESTOP } }
    let d := each (List.range 16) (fun b d => ((d : Dev).dropOverridden b true).tripBank b) d
    d.driveTrip.rejudge
  else d

/-- A descriptor has still to write lines of memory channel `c` (R306). -/
def Dev.descTouches (d : Dev) (c : Nat) (x : Desc) : Bool :=
  let n := d.get MEM_STATUS_channels
  let first := (x.dev + x.pos) / 128
  x.dir == 1 && x.space == 0 && !x.moved && decide (x.pos < x.len) &&
    (List.range (min n ((x.dev + x.len - 1) / 128 + 1 - first))).any fun k => (first + k) % n == c

/-- Tickets that the fault's consequence stops when it comes to them (R120): descriptors that have still to write a contained channel
(R103), and the loops that a thermal shutdown stops 200 µs later (R512). -/
def Dev.faultLater (d : Dev) (code : Nat) (u : FaultUnit) (loc eff : Nat) : List Nat :=
  (if u = .channel ∧ 2 ≤ eff then
    d.dma.rings.flatMap fun (e : Nat × List Desc) => (e.2.filter (d.descTouches loc)).map (·.ticket) else []) ++
  (if code = F_THERMAL_SHUTDOWN then (List.range 4).map fun l => (d.loops.get l Loop.init).tkt else [])

/-- A fault reaches the collector (R106–R109): counted on its page; within the hold-off of its source and location
only suppressed; else graded, latched or marked overflow, its record queued, its tickets closed and its consequence
applied. `tickets` are those that the raising event itself closes. The result says whether a drop spell began. -/
def Dev.raiseCore (d : Dev) (code page loc detail : Nat) (tickets : List Nat) (force : Bool) : Dev × Bool :=
  let key := code * 2 ^ 32 + loc
  let cls := faultClass code
  let u := faultUnit code loc
  let d := d.bumpS PAGE_FAULT_COUNT_count PAGE_FAULT_COUNT_sat page
  let h := d.flt.holdOff.get key ⟨0, 0⟩
  if d.flt.holdOff.has key && decide (d.time < h.taken + holdOffTime) && !force then
    let d := { d with flt := { d.flt with holdOff := d.flt.holdOff.put key ⟨h.taken, min (h.suppressed + 1) 0xFFFF⟩ } }
    (each tickets (fun t d => (d : Dev).abandon t) d, false)
  else
    let d := { d with flt := { d.flt with holdOff := d.flt.holdOff.put key ⟨d.time, 0⟩ } }
    let esc := decide (cls < 4) && d.latched cls
    let eff := if esc then cls + 1 else cls
    let seq := d.nextSeq
    let d := if esc then d.bumpS FLT_ESCALATIONS_count FLT_ESCALATIONS_sat else d
    let d :=
      if d.flag PAGE_FAULT_FIRST_valid page then d
      else ((d.put PAGE_FAULT_FIRST_valid 1 page).put PAGE_FAULT_FIRST_class eff page).put PAGE_FAULT_FIRST_source code page
    let d :=
      if d.latched eff then
        (d.put FLT_STATUS_overflow (setBit (d.get FLT_STATUS_overflow) eff)).pageIrq 0x004 5
      else
        d.fillLatch eff { cls := eff, escalated := esc, raised := cls, page := page, source := code, seq := seq, location := loc }
    let closing := (tickets ++ d.faultTickets u loc eff).filter (· != 0)
    let r : DripRec := { d.dripBase 0 seq with
      raised := cls, effective := eff, escalated := esc, source := code, page := page, suppressed := h.suppressed,
      location := loc, ticket := (closing ++ (d.faultLater code u loc eff).filter (· != 0)).headD 0, detail := detail }
    let (d, spell) := d.queueDrip r
    let d := each closing (fun t d => (d : Dev).abandon t seq) d
    let d := (if eff ≥ 2 then d.contain u page loc eff seq else d).flrFault eff code
    (d.plantConsequence eff code, spell)

/-- Raise a fault; the first drop of a drop spell raises `DRIP_LOST` in its turn (R117). -/
def Dev.raiseWith (d : Dev) (code page loc detail : Nat) (tickets : List Nat) (force : Bool) : Dev :=
  let (d, spell) := d.raiseCore code page loc detail tickets force
  if spell then (d.raiseCore F_DRIP_LOST 0x004 0 0 [] false).1 else d

/-- Raise a fault that closes no ticket of its own. -/
def Dev.raise (d : Dev) (code page loc : Nat) (detail : Nat := 0) : Dev := d.raiseWith code page loc detail [] false

/-- The page of a lane's group. -/
def lanePage (l : Nat) : Nat := 0x040 + l / 16

/-- A memory channel is contained until its class is acknowledged (R103). -/
def Dev.chanContained (d : Dev) (c : Nat) : Bool := d.flt.contained.any fun p => p.1 == 0x20000 + c

/-- The block's page refuses commands: it is contained, and is neither `FLT` nor `CUS` (R103). -/
def Dev.refusing (d : Dev) (page : Nat) : Bool :=
  page != 0x004 && page != 0x002 && d.flt.contained.any fun p => p.1 == page

end Sys2Proof.Machine
end

