-- ==== Sys2Proof/Machine/Access.lean ====
section
/-!
DEFINITION. Machine/Access.lean: how commands reach a page: reachability of the page (R48, R71, R77), the judgement
and its precedence (R79, R123), the ticket, and the held commands of R118.
-/
namespace Sys2Proof.Machine

/-- The block's first page number of a page (R75). -/
def blockOf (page : Nat) : Nat :=
  if 0x20 ≤ page ∧ page < 0x30 then 0x20
  else if 0x30 ≤ page ∧ page < 0x40 then 0x30
  else if 0x40 ≤ page ∧ page < 0x60 then 0x40
  else page

/-- Is the page assigned (R75)? -/
def assigned (page : Nat) : Bool := decide (page ≤ 0x19 ∨ (0x20 ≤ page ∧ page < 0x60))

/-- The page's power domain (R75). `OTP` is served from D00 (R48, R531). -/
def pageDomain (page : Nat) : Nat :=
  if page = 0x01 then 6 else if page = 0x02 then 1 else if page = 0x06 then 13 else if page = 0x07 then 10
  else if page = 0x08 then 2 else if page = 0x0B then 8 else if page = 0x0F then 3 else if page = 0x10 then 5
  else if page = 0x11 then 7 else if page = 0x12 then 1 else if page = 0x13 then 9 else if page = 0x14 then 11
  else if page = 0x15 then 12 else if page = 0x16 then 11 else if page = 0x17 then 15 else if page = 0x18 then 15
  else if page = 0x19 then 14
  else if 0x20 ≤ page ∧ page < 0x30 then 12
  else if 0x30 ≤ page ∧ page < 0x40 then 16 + (page - 0x30) / 2
  else if 0x40 ≤ page ∧ page < 0x60 then 32 + (page - 0x40)
  else 0

/-- The page's scope bit (R75, R83). -/
def pageScope (page : Nat) : Nat :=
  if page = 0x02 then scopeCUSTODY else if page = 0x08 then scopeTIME else if page = 0x0E then scopeOTP
  else if page = 0x12 ∨ page = 0x13 then scopeMETER else if page = 0x17 then scopeLEARN else scopeOPS

/-- The lane die behind a lost link that a lane page belongs to (R43, R150). -/
def Dev.pageLost (d : Dev) (page : Nat) : Bool :=
  decide (0x40 ≤ page ∧ page < 0x60) && d.dieLost.testBit ((page - 0x40) / 4)

/-- The page's domain is on. -/
def Dev.pageOn (d : Dev) (page : Nat) : Bool := d.railGood (pageDomain page)

/-- BAR decoding of the host link: D06 on, the link up and the function not in D3hot (R71). The model takes accesses
only over a link that is up (assumption 8). -/
def Dev.hostDecodes (d : Dev) : Bool := d.railGood 6 && d.flag HIF_LINK_up && !d.d3hot

/-- Does an access through the channel reach a register page at all? The service link reaches pages while it is
up; recipe engines and the device's own logic always do. -/
def Dev.channelUp (d : Dev) (ch : Nat) : Bool :=
  if ch = 0 then d.hostDecodes
  else if ch = 1 then d.railGood 5 && decide (2 ≤ d.get PD_STATUS_sl_state)
  else true

/-- A command reaches its page (R48, R71, R77). -/
def Dev.reaches (d : Dev) (ch page : Nat) : Bool := d.channelUp ch && d.pageOn page && !d.pageLost page

/-- The index of a channel's own register on a page: `PAGE_CMD_STATUS` and the like (R68). -/
def chPage (page ch : Nat) : Nat := page * 8 + ch

/-- Results of R79. -/
def rOK : Nat := 1
/-- refused: argument -/
def rBadArg : Nat := 2
/-- refused: state -/
def rBadState : Nat := 3
/-- refused: privilege -/
def rDenied : Nat := 4
/-- refused: busy -/
def rBusy : Nat := 5

/-- What a command's own chapter says of it: each refusal it meets, the units its ticket counts, whether it is a
privileged command (a `PRIV_WRITE` record, R84, R362) and whether it makes a record of its own (R360). -/
structure Verdict where
  denied : Bool
  badArg : Bool
  badState : Bool
  busy : Bool
  total : Nat
  priv : Bool
  makesRecord : Bool
  deriving DecidableEq, Repr

/-- A command that meets no refusal of its own. -/
def Verdict.ok : Verdict :=
  { denied := false, badArg := false, badState := false, busy := false, total := 1, priv := false, makesRecord := false }

/-- Custody services need the pantry beside D00 and D01 (R65). -/
def Dev.custodyOff (d : Dev) : Bool := !d.railGood 3

/-- The first refusal in R123's order, or OK. A contained block refuses with BAD_STATE (R103), a full rail and a
ledger in reserve with BUSY (R122, R360). -/
def Dev.verdictResult (d : Dev) (page : Nat) (v : Verdict) : Nat :=
  if v.denied then rDenied
  else if v.badArg then rBadArg
  else if v.badState || d.refusing page then rBadState
  else if v.busy || d.railFull || ((v.makesRecord || v.priv) && d.ldgReserve) then rBusy
  else rOK

/-- Report a result in the channel's `PAGE_CMD_STATUS`; ticket 0 for none (R79). -/
def Dev.report (d : Dev) (page ch result ticket : Nat) : Dev :=
  ((d.put PAGE_CMD_STATUS_result result (chPage page ch)).put PAGE_CMD_STATUS_ticket_lo ticket (chPage page ch)).put
    PAGE_TICKET_HI_ticket_hi (ticket / 2 ^ 16) (chPage page ch)

/-- Count a BUSY refusal where R122 or R360 made it. -/
def Dev.busyCounts (d : Dev) (page : Nat) (v : Verdict) : Dev :=
  if v.busy then d
  else if d.railFull then
    (((d.bumpS TKT_BUSY_REFUSALS_count TKT_BUSY_REFUSALS_sat).pageIrq 0x005 1).irqEdge 141).raise F_RAIL_FULL 0x005 0 page
  else d.ldgRefusal

/-- A command that comes through a privileged view that is open to its page: also its refusal is a record (R84, R353, R362); while the
ledger is in reserve it leaves none (R360). -/
def Dev.privHeld (d : Dev) (page ch : Nat) : Bool := decide (ch < 2) && d.covers ch (pageScope page) && !d.ldgReserve

/-- The `PRIV_WRITE` record of a privileged command: the word written, which is `PAGE_CMD` or, for opcode 0, the register `c.arg` (R84,
R353). -/
def Dev.cmdRecord (d : Dev) (page op : Nat) (c : Cmd) (n r : Nat) : Dev :=
  d.privRecord c.ch 2 page (if op = 0 then c.arg else 0x014)
    (if op = 0 then (if c.arg = 0x010 then 2 else 1) else c.arg * 256 + op) n r

/-- A command of the device's own waits for its ticket (R118): channel 2 or 3 for an engine's `SETVID`, 4 for a run of the power-state
logic, 5 for a descriptor's fetch; `inst` its engine, purpose or ring. -/
def Dev.holdOwn (d : Dev) (page ch inst arg : Nat) : Dev :=
  { d with tkt := { d.tkt with held := d.tkt.held ++ [⟨page, 1, ⟨ch, inst, arg, false⟩, false⟩] } }

/-- One of them waits. -/
def Dev.ownHeld (d : Dev) (ch inst : Nat) : Bool := d.tkt.held.any fun h => h.cmd.ch == ch && h.cmd.inst == inst

/-- A request of the device's own can have its ticket at once (R118): nothing waits, and the last ticket lies two frame times back, so
that 5 µs have passed wherever in its frame it was issued. A request that cannot be told to be so late stands in the line of the
commands that wait, from which `TICKET_WAIT_TAKE` takes it (DESIGN CHOICE, assumption 25). -/
def Dev.spaced (d : Dev) : Bool := d.tkt.held.isEmpty && (d.tkt.issued == 0 || decide (d.tkt.issued + 131_071 ≤ d.time))

/-- Judge a command and take it: report a refusal, or issue its ticket and apply its effect (R79, R118, R123). A privileged command is
recorded either way (R84, R362). -/
def Dev.take (d : Dev) (page op : Nat) (c : Cmd) (v : Verdict) (effect : Nat → Dev → Dev) (refused : Dev → Dev) : Dev :=
  let r := d.verdictResult page v
  if r = rOK then
    let (n, d) := d.issue c.ch page op c.arg v.total
    let d := d.report page c.ch rOK n
    effect n (if v.priv && decide (c.ch < 2) then d.cmdRecord page op c n rOK else d)
  else
    let d := if v.priv && d.privHeld page c.ch then d.cmdRecord page op c 0 r else d
    if r = rBusy then refused ((d.busyCounts page v).report page c.ch r 0)
    else refused (d.report page c.ch r 0)

/-- `PAGE_CTRL` as it reads (R76). -/
def Dev.pageCtrl (d : Dev) (page : Nat) : Nat := 4 * d.get PAGE_CTRL_hibernate page + d.get PAGE_CTRL_enable page

/-- Privileged writes of the ledger queue (R84). -/
def Dev.privQueued (d : Dev) : Nat := (d.ldg.queue.filter fun r => r.kind == 0x20).length

/-- A write through the channel must wait at its link: behind a write that waits there, or, if it is privileged itself,
for room in the ledger engine's queue of 64 (R84). -/
def Dev.mustWait (d : Dev) (ch : Nat) (priv : Bool) : Bool :=
  decide (ch < 2) && ((d.ldg.privWait.any fun w => w.ch == ch) || (priv && decide (64 ≤ d.privQueued)))

/-- Hold a write at its link: BAR0 address, value, channel (R84). -/
def Dev.linkHold (d : Dev) (addr val ch : Nat) : Dev :=
  { d with ldg := { d.ldg with privWait := d.ldg.privWait ++ [⟨0, addr, val, ch, [], []⟩] } }

/-- What waits at a channel's link is dropped: writes (R84) and reads (R79, R124). -/
def Dev.dropWaiting (d : Dev) (ch : Nat) : Dev :=
  { d with ldg := { d.ldg with privWait := d.ldg.privWait.filter fun w => w.ch != ch }
           readWait := d.readWait.filter fun w => w.ch != ch }

/-- A command arrives at its page: it waits at its link where R84 says so; it waits whole when it comes sooner than
5 µs after the last ticket or behind commands that wait (R118); it has no effect on a page it does not reach (R48, R71,
R77). -/
def Dev.command (d : Dev) (page op : Nat) (c : Cmd) (v : Dev → Verdict) (effect : Nat → Dev → Dev) (refused : Dev → Dev) :
    Dev :=
  if !d.reaches c.ch page then d
  else if d.mustWait c.ch (v d).priv then
    let view := if (v d).priv && d.get CUS_STATUS_phase c.ch == 3 then 2 ^ 24 else 0
    if op = 0 then d.linkHold (view + page * 0x1000 + c.arg) (if c.arg = 0x010 then d.pageCtrl page + 2 else 1) c.ch
    else d.linkHold (view + page * 0x1000 + 0x014) (c.arg * 256 + op) c.ch
  else if c.soon || !d.tkt.held.isEmpty then
    { d with tkt := { d.tkt with held := d.tkt.held ++ [⟨page, op, { c with soon := false }, (v d).priv⟩] } }
  else d.take page op c (v d) effect refused

/-- An opcode the page does not define is refused with BAD_ARG (R6, R76). -/
def noSuchOp (_ : Dev) : Verdict := { Verdict.ok with badArg := true }

/-- The channel lacks a session over the scope. -/
def Dev.denies (d : Dev) (c : Cmd) (scope : Nat) : Bool := !d.covers c.ch scope

/-- One command of a page: what its chapter refuses, and its effect under its ticket; both take the page number, so
that a command serves every instance of its block. -/
structure CmdDef where
  verdict : Nat → Cmd → Dev → Verdict
  effect : Nat → Cmd → Nat → Dev → Dev
  refused : Nat → Cmd → Dev → Dev := fun _ _ d => d

/-- Commands that would change the content of a configuration snapshot (R389, R392): `SCH_COMMIT`, `WITHDRAW`, `RETURN`,
`ASSIGN`, `MODE`, `PLAN_APPLY` and `DEFINE`. -/
def snapshotCmd (page op : Nat) : Bool :=
  (page == 0x015 && decide (op ≤ 3)) || (decide (0x20 ≤ page ∧ page < 0x30) && op == 1) || (page == 0x016 && op == 1) ||
    (page == 0x013 && op == 1)

/-- The verdict, with the refusal of a paired standby (R392). -/
def CmdDef.judge (x : CmdDef) (page op : Nat) (c : Cmd) (d : Dev) : Verdict :=
  let v := x.verdict page c d
  if d.pairedStandby && snapshotCmd page op then { v with badState := true } else v

/-- A command written to a page. -/
def Dev.cmd (d : Dev) (page op : Nat) (x : CmdDef) (c : Cmd) : Dev :=
  d.command page op c (x.judge page op c) (x.effect page c) (x.refused page c)

/-- A command written to the `EST` or `IMP` page: the access wakes them as soon as it arrives (R300). -/
def Dev.wakingCmd (d : Dev) (page op : Nat) (x : CmdDef) (c : Cmd) : Dev :=
  (if d.channelUp c.ch && !d.mustWait c.ch (x.judge page op c d).priv then d.wakeCause else d).cmd page op x c

/-- A meaning of this block answers a next state: the queue's rest stays as it is. While D00 is held off, nothing but D02
and the next cold start acts (R543). -/
def onDev (f : Dev → Dev) (s : State) : Host.Outcome State Fault Refusal :=
  .next { s with dev := if s.dev.down = 0 then f s.dev else s.dev }

/-- A meaning that acts whether or not D00 is held off: D02 and the power supply. -/
def onAny (f : Dev → Dev) (s : State) : Host.Outcome State Fault Refusal := .next { s with dev := f s.dev }

end Sys2Proof.Machine
end

