-- ==== Sys2Proof/Machine/Dma.lean ====
section
/-!
DEFINITION. Machine/Dma.lean: the dumbwaiter's rings (R90–R93): enabling, the tail, fetching a descriptor, its write-back,
host errors, and what a link event or the loss of its domain does to it (R71, R120).
-/
namespace Sys2Proof.Machine

/-- Ring r's fetched descriptors, oldest first. -/
def Dev.dmaRing (d : Dev) (r : Nat) : List Desc := d.dma.rings.get r []

/-- Write a ring's fetched descriptors. -/
def Dev.putRing (d : Dev) (r : Nat) (l : List Desc) : Dev :=
  { d with dma := { d.dma with rings := if l.isEmpty then d.dma.rings.del r else d.dma.rings.put r l } }

/-- Tickets of the descriptors that have not completed. -/
def Dev.dmaTickets (d : Dev) : List Nat := d.dma.rings.flatMap fun (e : Nat × List Desc) => e.2.map (·.ticket)

/-- Every ring is disabled, and every descriptor not yet completed is abandoned (R71); a ring that this stopped shows
`ABANDONED`. -/
def Dev.dmaStop (d : Dev) : Dev :=
  let d := each (List.range 16) (fun r (d : Dev) =>
    if d.flag DMA_RING_CTRL_enable r || !(d.dmaRing r).isEmpty then
      (d.put DMA_RING_CTRL_enable 0 r).put DMA_RING_STATUS_state 3 r
    else d) d
  { d with dma := Dma.init }

/-- The host link's supply goes: the rings stop and their tickets close (R71, R120). -/
def Dev.dmaOff (d : Dev) : Dev := each d.dmaTickets (fun t (d : Dev) => d.abandon t) d.dmaStop

/-- D13 goes: the rings' content is lost; tickets still open wait for the next cold start (R120). -/
def Dev.dmaLost (d : Dev) : Dev := { d with dma := Dma.init }

/-- Posted writes of the host link that wait at it are dropped (R71), and reads with them. -/
def Dev.dropPosted (d : Dev) : Dev := d.dropWaiting 0

/-- A write of a ring's enable bit (R90). The spec does not say what enabling an enabled ring does (nothing here), nor the state shown
after a disable and after enabling an empty ring (`IDLE`, `RUN`) (DESIGN CHOICE, assumption 22). -/
def Dev.dmaEnable (d : Dev) (r v : Nat) : Dev :=
  let was := d.flag DMA_RING_CTRL_enable r
  let d := d.put DMA_RING_CTRL_enable v r
  if v % 2 = 1 then (if was then d else d.put DMA_RING_STATUS_state 1 r) else d.put DMA_RING_STATUS_state 0 r

/-- A write of a ring's tail (R90). -/
def Dev.dmaTail (d : Dev) (r v : Nat) : Dev := d.put DMA_RING_TAIL_tail v r

/-- Entries of a ring: 2^log2, log2 from 4 to 16 (R90). -/
def Dev.dmaSize (d : Dev) (r : Nat) : Nat := 2 ^ clamp 4 16 (d.get DMA_RING_SIZE_log2 r)

/-- Host address of a ring's entry 0. -/
def Dev.dmaBase (d : Dev) (r : Nat) : Nat := d.get DMA_RING_BASE_LO_addr r * 32 + d.get DMA_RING_BASE_HI_addr r * 2 ^ 32

/-- The dumbwaiter can act: D13 on, the host link up. -/
def Dev.dmaLive (d : Dev) : Bool := d.hostDecodes && d.railGood 13

/-- A ring's fetched descriptors may go on: an error with stop_on_error stops it until it is enabled again (R93). -/
def Dev.ringLive (d : Dev) (r : Nat) : Bool := d.dmaLive && d.get DMA_RING_STATUS_state r != 2

/-- A ring has a descriptor to fetch (R90, R92). -/
def Dev.dmaAvailable (d : Dev) (r : Nat) : Bool :=
  d.dmaLive && decide (r < 16) && d.flag DMA_RING_CTRL_enable r && d.get DMA_RING_STATUS_state r == 1 &&
    d.get DMA_RING_HEAD_head r != d.get DMA_RING_TAIL_tail r

/-- The status word of a write-back (R91). -/
def descStatus (dropped hostError poisoned : Bool) (result : Nat) : Nat :=
  2 ^ 15 + 64 * b2n dropped + 32 * b2n hostError + 16 * b2n poisoned + result

/-- The write-back of bytes 24–31 (R91), with the interrupts and the stop that follow (R92–R94). -/
def Dev.descWriteBack (d : Dev) (r : Nat) (x : Desc) (status : Nat) (error : Bool) : Dev :=
  let d := d.emit .hostWrite r ((x.slot + 24) :: leBytes 2 status ++ leBytes 6 x.ticket)
  let d := if bit x.flags 0 then d.irqEdge (144 + r) else d
  let d := if error then d.irqEdge (160 + r) else d
  if error && bit x.flags 2 then d.put DMA_RING_STATUS_state 2 r else d

/-- A descriptor's 32 bytes as fetched (R91). -/
def descParse (bytes : List Nat) (slot ticket : Nat) : Desc :=
  let n (o k : Nat) : Nat := leNat ((bytes.drop o).take k)
  ⟨n 0 8, n 8 8, n 16 4, n 20 1, n 21 1, n 22 2, slot, ticket, false, false, false, 0⟩

/-- Units of a transfer: 64 B lines, or 128 B records (R92). -/
def descUnits (space dev len : Nat) : Nat :=
  if space = 2 then len / 128 else if len = 0 then 0 else (dev % 64 + len + 63) / 64

/-- The ring may fetch the descriptor now: a fenced one only after every earlier one of its ring has completed (R92). -/
def Dev.descMay (d : Dev) (r bytes : Nat) : Bool :=
  d.dmaAvailable r && !(bit (descParse (leBytes 32 bytes) 0 0).flags 1 && !(d.dmaRing r).isEmpty)

/-- A descriptor is fetched under its ticket (R92): `bytes` its 32 bytes as one number. A full rail refuses it with `BUSY` (R122). -/
def Dev.descTake (d : Dev) (r bytes : Nat) : Dev :=
  let head := d.get DMA_RING_HEAD_head r
  let slot := d.dmaBase r + 32 * head
  let x := descParse (leBytes 32 bytes) slot 0
  if !d.descMay r bytes then d
  else
    let d := (d.emit .hostRead r [slot, 32]).put DMA_RING_HEAD_head ((head + 1) % d.dmaSize r) r
    if d.railFull then (d.busyCounts 0x006 Verdict.ok).descWriteBack r x (descStatus false false false rBusy) true
    else
      let (n, d) := d.issue 0 0x006 0 (0x10C + 0x20 * r) (descUnits x.space x.dev x.len)
      let x := { x with ticket := n }
      if x.len = 0 then
        let d := d.done n
        if (d.dmaRing r).isEmpty then d.descWriteBack r x (descStatus false false false rOK) false
        else d.putRing r (d.dmaRing r ++ [x])
      else d.putRing r (d.dmaRing r ++ [x])

/-- `DESCRIPTOR_FETCH` (R92, R118): where its ticket cannot be issued yet the descriptor joins the line of the commands that wait. -/
def Dev.descFetch (d : Dev) (r : Nat) (bytes : List Nat) : Dev :=
  let x := leNat (bytes.take 32)
  if !d.descMay r x || d.ownHeld 5 r then d
  else if d.spaced then d.descTake r x
  else d.holdOwn 0x006 5 r x

/-- `DESCRIPTOR_FETCH` (R92). -/
def execDescriptorFetch (ring : Nat) (bytes : List Nat) (s : State) := onDev (fun d => d.descFetch ring bytes) s

/-- `DMA_HOST_ERROR` (R93): a completion error or timeout on the ring's oldest descriptor. -/
def execDmaHostError (ring : Nat) (s : State) :=
  onDev (fun d =>
    match d.dmaRing ring with
    | [] => d
    | x :: rest =>
      if d.ringLive ring then
        ((d.putRing ring rest).raiseWith F_DMA_HOST_ERROR 0x006 0 0 [x.ticket] false).descWriteBack ring x
          (descStatus x.dropped true x.poisoned 0) true
      else d) s

end Sys2Proof.Machine
end

