-- ==== Sys2Proof/Machine/FaultCmds.lean ====
section
/-!
DEFINITION. Machine/FaultCmds.lean: the drip tray's appends and pins (R115–R117), the `FLT` commands (R110, R114,
R116), the emergency stop (R111) and the ticket lookup (R124).
-/
namespace Sys2Proof.Machine

/-! ## The drip tray (R115–R117) -/

/-- Queue a record of the device's own; the first drop of a drop spell raises `DRIP_LOST` (R117). -/
def Dev.dripNow (d : Dev) (r : DripRec) : Dev :=
  let (d, spell) := d.queueDrip r
  if spell then d.raise F_DRIP_LOST 0x004 0 else d

/-- A record of kind 1 `ACK`, 2 `RELEASE` or 3 `RESTORE` about sequence number `about` (R115). -/
def Dev.dripAbout (d : Dev) (kind source loc about : Nat) : Dev :=
  d.dripNow { d.dripBase kind d.nextSeq with source := source, page := 0x004, location := loc, detail := about }

/-- A record is named by a valid latch (R116). -/
def Dev.latchNames (d : Dev) (seq : Nat) : Bool :=
  (List.range 5).any fun c => d.latched c && d.get2 FLT_FIRST_SEQ_LO_seq_lo FLT_FIRST_SEQ_HI_seq_hi c == seq

/-- A record is pinned (R116). -/
def Dev.pinned (d : Dev) (seq : Nat) : Bool := seq ∈ d.flt.ackPins || d.latchNames seq

/-- The next slot in ring order that holds no pinned record. -/
def freeSlot (d : Dev) : Nat → Nat → Nat
  | 0, i => i
  | n + 1, i =>
    match d.flt.tray.find? fun e => e.1 == i with
    | some e => if d.pinned e.2.seq then freeSlot d n ((i + 1) % 4096) else i
    | none => i

/-- Write the acknowledgement pins. -/
def Dev.setPins (d : Dev) (l : List Nat) : Dev :=
  ({ d with flt := { d.flt with ackPins := l } }).put FLT_PINS_ack_pins l.length

/-- Pin the first `FAULT` record after an `ACK` or a cold start; a 65th pin releases the oldest (R116). -/
def Dev.pinRecord (d : Dev) (r : DripRec) : Dev :=
  let due := d.flt.pinFrom.filter fun p => decide (p ≤ r.seq)
  if r.kind != 0 || due.isEmpty then d
  else
    let d := { d with flt := { d.flt with pinFrom := d.flt.pinFrom.filter fun p => !decide (p ≤ r.seq) } }
    match d.flt.ackPins with
    | [] => d.setPins [r.seq]
    | old :: rest =>
      if rest.length < 63 then d.setPins (d.flt.ackPins ++ [r.seq])
      else (d.setPins (rest ++ [r.seq])).dripAbout 2 0 4 old

/-- The oldest waiting record is written to the pantry ring (R115–R117). -/
def Dev.dripAppend (d : Dev) : Dev :=
  match d.flt.queue with
  | [] => d
  | r :: rest =>
    let i := freeSlot d 4096 d.flt.nextSlot
    let had := d.flt.tray.has i
    let d := { d with flt := { d.flt with queue := rest, tray := d.flt.tray.put i r, nextSlot := (i + 1) % 4096 } }
    let d := if had then d.bumpS FLT_OVERWRITTEN_count FLT_OVERWRITTEN_sat else d
    d.pinRecord r

/-- `DRIP_APPEND` (R117): needs the pantry's supply, D03. -/
def execDripAppend (s : State) := onDev (fun d => if d.railGood 3 then d.dripAppend else d) s

/-! ## Acknowledgement (R110) -/

/-- Raise `ESTOP` (R110, R111). -/
def Dev.raiseEstop (d : Dev) (force : Bool) : Dev := d.raiseWith F_ESTOP 0x000 0 0 [] force

/-- Clear a class: its latch, its overflow, each `PAGE_FAULT_FIRST` that holds it, and the refusals it imposed. -/
def Dev.clearClass (d : Dev) (c : Nat) : Dev :=
  let d := d.put FLT_STATUS_latched (clrBit (d.get FLT_STATUS_latched) c)
  let d := d.put FLT_STATUS_overflow (clrBit (d.get FLT_STATUS_overflow) c)
  let d := ((((d.put FLT_FIRST_SRC_valid 0 c).put FLT_FIRST_SRC_escalated 0 c).put FLT_FIRST_SRC_raised 0 c).put
    FLT_FIRST_SRC_page 0 c).put FLT_FIRST_SRC_source 0 c
  let d := (d.put2 FLT_FIRST_SEQ_LO_seq_lo FLT_FIRST_SEQ_HI_seq_hi 0 c).put FLT_FIRST_WHERE_location 0 c
  let d := each (List.range 0x60) (fun p d =>
    if (d : Dev).flag PAGE_FAULT_FIRST_valid p && d.get PAGE_FAULT_FIRST_class p == c then
      ((d.put PAGE_FAULT_FIRST_valid 0 p).put PAGE_FAULT_FIRST_class 0 p).put PAGE_FAULT_FIRST_source 0 p
    else d) d
  let left := d.flt.contained.filter fun p => p.2 != c
  let d := { d with flt := { d.flt with contained := left } }
  let d := each (List.range 16) (fun k d => (d : Dev).putB MEMC_STATUS_contained (left.any fun p => p.1 == 0x20000 + k) k) d
  d.countLatches.mirrorLatches

/-- The class an `ACK` argument names: `PAGE_CMD` [10:8]. -/
def ackClass (c : Cmd) : Nat := bits c.arg 0 3

/-- `ACK` is refused with BAD_STATE (R110): the latch is empty, the sequence number does not match, or a held emergency
stop is the first source of latch 4. -/
def Dev.ackBadState (d : Dev) (k seqLo : Nat) : Bool :=
  !d.latched k || bits (d.get FLT_FIRST_SEQ_LO_seq_lo k) 0 16 != seqLo ||
    (k == 4 && d.flag FLT_STATUS_estop && d.get FLT_FIRST_SRC_source 4 == F_ESTOP)

/-- The next `FAULT` record is pinned (R116). -/
def Dev.pinNext (d : Dev) : Dev := { d with flt := { d.flt with pinFrom := d.flt.pinFrom ++ [d.nextSeq] } }

/-- A class 4 acknowledgement that leaves `ESTOP_N` asserted raises `ESTOP` again, outside its hold-off (R110). -/
def Dev.estopAgain (d : Dev) (k : Nat) : Dev := if k = 4 ∧ d.flag FLT_STATUS_estop then d.raiseEstop true else d

/-- An accepted `ACK` of class `k`: the class clears and the record is written (R110). -/
def Dev.ackEffect (d : Dev) (k ch : Nat) : Dev :=
  ((d.clearClass k).driveTrip.dripAbout 1 k ch (d.get2 FLT_FIRST_SEQ_LO_seq_lo FLT_FIRST_SEQ_HI_seq_hi k)).pinNext

/-- `ACK` (R110). -/
def fltAck : CmdDef where
  verdict _ c d :=
    { Verdict.ok with
      denied := decide (3 ≤ ackClass c ∧ ackClass c ≤ 4) && d.denies c scopeOPS
      badArg := decide (5 ≤ ackClass c) || bits c.arg 3 5 != 0
      badState := d.ackBadState (ackClass c) (bits c.arg 8 16)
      priv := decide (3 ≤ ackClass c ∧ ackClass c ≤ 4) }
  effect _ c n d := ((d.ackEffect (ackClass c) c.ch).estopAgain (ackClass c)).rejudge.done n

/-- `TRIP` (R114): raises `HOST_TRIP`; needs no privilege and ignores its argument. -/
def fltTrip : CmdDef where
  verdict _ _ _ := Verdict.ok
  effect _ _ n d := (d.raise F_HOST_TRIP 0x004 0).done n

/-- The most recent sequence number already taken whose low 16 bits are `lo`; 0 for none (R116). -/
def Dev.recentSeq (d : Dev) (lo : Nat) : Nat :=
  let last := d.nextSeq - 1
  let q := last - last % 2 ^ 16 + lo
  if q ≤ last then q else q - 2 ^ 16

/-- `RELEASE_PINS` (R116): all its `RELEASE` records are queued at one instant, so those beyond the queue's 32 are dropped under R117
(DESIGN CHOICE, assumption 22). -/
def releasePins : CmdDef where
  verdict _ c d :=
    { Verdict.ok with
      denied := d.denies c scopeOPS
      badArg := bits c.arg 0 8 != 0 || d.recentSeq (bits c.arg 8 16) == 0
      priv := true }
  effect _ c n d :=
    let upTo := d.recentSeq (bits c.arg 8 16)
    let gone := d.flt.ackPins.filter fun q => decide (q ≤ upTo)
    let d := d.setPins (d.flt.ackPins.filter fun q => !decide (q ≤ upTo))
    (each gone (fun q d => (d : Dev).dripAbout 2 0 c.ch q) d).done n

/-- `FLT_ACK` (R110). -/
def execFltAck (c : Cmd) (s : State) := onDev (fun d => d.cmd 0x004 1 fltAck c) s
/-- `FLT_TRIP` (R114). -/
def execFltTrip (c : Cmd) (s : State) := onDev (fun d => d.cmd 0x004 2 fltTrip c) s
/-- `RELEASE_PINS` (R116). -/
def execReleasePins (c : Cmd) (s : State) := onDev (fun d => d.cmd 0x004 3 releasePins c) s

/-! ## The emergency stop (R111) -/

/-- `ESTOP_ASSERT` (R111): `ESTOP_N` has been low for 1.0 µs; a level held low raises nothing further. -/
def execEstopAssert (s : State) :=
  onDev (fun d =>
    if d.flag FLT_STATUS_estop then d
    else (((d.put FLT_STATUS_estop 1).irqEdge 128).raiseEstop false).driveTrip) s

/-- `ESTOP_RELEASE` (R111). -/
def execEstopRelease (s : State) := onDev (fun d => (d.put FLT_STATUS_estop 0).driveTrip) s

/-! ## The ticket lookup (R124) -/

/-- A write of `TKT_LOOKUP_HI` starts the channel's lookup. -/
def Dev.startLookup (d : Dev) (ch hi : Nat) : Dev :=
  let d := d.put TKT_LOOKUP_HI_ticket_hi hi ch
  if ch ∈ d.tkt.lookups then d else { d with tkt := { d.tkt with lookups := d.tkt.lookups ++ [ch] } }

/-- The lookup of a channel completes: the ticket is found on the rail with its state and index, or is not. -/
def Dev.lookupDone (d : Dev) (ch : Nat) : Dev :=
  if ch ∈ d.tkt.lookups then
    let d := { d with tkt := { d.tkt with lookups := d.tkt.lookups.filter (· != ch) } }
    let (found, state, index) := match d.ticketAt (d.get2 TKT_LOOKUP_LO_ticket_lo TKT_LOOKUP_HI_ticket_hi ch) with
      | some (i, t) => (1, t.state, i)
      | none => (0, 0, 0)
    ((d.put TKT_LOOKUP_RESULT_found found ch).put TKT_LOOKUP_RESULT_state state ch).put TKT_LOOKUP_RESULT_index index ch
  else d

end Sys2Proof.Machine
end

