-- ==== Sys2Proof/Machine/Burners.lean ====
section
/-!
DEFINITION. Machine/Burners.lean: the four regulator loops (R440–R463). A loop's reference is held in 1/800 mV, so that a
slew of `BRN_SLEW` moves it by rate × (cycles of 5 ns) in each switching cycle. Voltages that a command carries are in µV.
-/
namespace Sys2Proof.Machine

/-! ## Codes (R440) -/

/-- Voltage of code 0, in 1/800 mV. -/
def vidBase (l : Nat) : Nat := [440_000, 560_000, 800_000, 1_280_000].getD l 0

/-- One code, in 1/800 mV. -/
def vidStep (l : Nat) : Nat := [1_000, 1_000, 2_000, 8_000].getD l 1

/-- A loop's last code. -/
def lastCode (l : Nat) : Nat := [320, 280, 140, 180].getD l 0

/-- The reference of a code. -/
def vidRef (l code : Nat) : Nat := vidBase l + vidStep l * code

/-- The highest code at or below a reference; 0 below the voltage of code 0 (R447). -/
def codeBelow (l : Nat) (ref : Int) : Nat := min (lastCode l) ((ref - vidBase l).toNat / vidStep l)

/-- The lowest code at or above a reference. -/
def codeAbove (l : Nat) (ref : Int) : Nat := min (lastCode l) (((ref - vidBase l).toNat + vidStep l - 1) / vidStep l)

/-- Nearest integer to n / k, halves away from zero. -/
def roundDiv (n : Int) (k : Nat) : Int := if 0 ≤ n then (2 * n + k) / (2 * k) else -((2 * (-n) + k) / (2 * k))

/-- Cycles of the 200 MHz clock in a switching period (R443). -/
def pwmPeriod (fsw : Nat) : Nat := (400_000 + fsw) / (2 * fsw)

/-! ## Tickets of a loop (R448, R462) -/

/-- A current in 0.1 A, to the nearest, from what `IMON` shows in µV (R442). -/
def Dev.imonAmps (d : Dev) (l : Nat) (uv : Int) : Int := roundDiv (10 * uv) (max 1 (d.get BRN_SCALE_imon_gain l))

/-- The detail of a loop's SETVID ticket: loop and code in force (R448). -/
def Dev.loopDetail (d : Dev) (l : Nat) : Nat := l * 4096 + d.get BRN_VID_code_now l

/-- Close a loop's open ticket: 3 PARTIAL, 4 DONE, 5 ABANDONED. -/
def Dev.loopClose (d : Dev) (l st : Nat) (seq : Nat := 0) : Dev :=
  let x := d.loop l
  if x.tkt = 0 then d
  else
    let d := d.close x.tkt st seq
    let d := if x.kind = 2 then d.ticketDetail x.tkt (d.loopDetail l) else d
    d.putLoop l { d.loop l with tkt := 0, kind := 0 }

/-- The compensator's memory clears (R449). -/
def Dev.clearAcc (d : Dev) (l : Nat) : Dev := d.putLoop l { d.loop l with acc := 0, ePrev := 0, cyc := 0, duties := [] }

/-- Entry to `TEST`: the timebase, the frequency and the balancing of `BRN_CFG` take effect (R443, R446, R453). -/
def Dev.loopTest (d : Dev) (l : Nat) : Dev :=
  let d := d.clearAcc l
  let d := d.putLoop l { d.loop l with
    clkSrc := d.flag BRN_CFG_clk_src l, fsw := d.get BRN_CFG_fsw l, curEq := d.flag BRN_CFG_cur_eq l }
  let d := (d.put BRN_STATUS_truncating 0 l).put BRN_STATUS_limiting 0 l
  let d := each (List.range (loopPhases l)) (fun k (d : Dev) => d.put BRN_PHASE_shorted 0 (loopBase l + k)) d
  d.loopEnter l 1

/-- Entry to `RAMP` from a sensed pre-bias in µV: the reference starts there, rounded down to the VID step; every fitted
phase that is not held out is active, and none sinks current until the reference has reached the pre-bias (R447, R452). -/
def Dev.loopRamp (d : Dev) (l preBias : Nat) : Dev :=
  let d := each (d.fitted l) (fun k (d : Dev) =>
    d.putB BRN_PHASE_shed (d.flag BRN_PHASE_hot (loopBase l + k)) (loopBase l + k)) d
  let ref := preBias * 4 / 5 / vidStep l * vidStep l
  let d := d.putLoop l { d.loop l with ref := ref, shedMs := 0, pre := preBias, sink := decide (4 * preBias ≤ 5 * ref) }
  (d.put BRN_VID_code_now (codeBelow l ref) l).loopEnter l 2

/-- A loop starts with a code under a ticket (R462). -/
def Dev.loopStart (d : Dev) (l code n : Nat) : Dev :=
  let d := (d.put BRN_VID_target code l).loopTest l
  d.putLoop l { d.loop l with tkt := n, kind := 1, took := [] }

/-- A loop leaves for `OFF` (R445); `why` is the last_stop code. -/
def Dev.loopOff (d : Dev) (l why : Nat) : Dev :=
  if d.loopState l = 0 then d else ((d.clearAcc l).loopEnter l 0).put BRN_HIST_last_stop why l

/-- `STOP`: a START ticket closes `PARTIAL`, a SETVID ticket `ABANDONED` (R448, R462). -/
def Dev.loopStop (d : Dev) (l : Nat) : Dev :=
  (d.loopClose l (if (d.loop l).kind = 2 then 5 else 3)).loopOff l 1

/-- A SETVID in `RUN` under a ticket; an earlier one closes `PARTIAL`, and the slew goes on from the code reached (R448). -/
def Dev.loopSetvid (d : Dev) (l code n : Nat) : Dev :=
  let d := (d.loopClose l 3).put BRN_VID_target code l
  let now := d.get BRN_VID_code_now l
  let d := d.putLoop l { d.loop l with tkt := n, kind := 2, start := now, moved := 0, ref := vidRef l now, low := 0 }
  if code = d.get BRN_VID_code_now l then d.loopClose l 4 else d.progress n 0

/-- A recipe abandons its waiting SETVID (R475). -/
def Dev.loopAbandon (d : Dev) (l : Nat) : Dev :=
  let st := d.loopState l
  if st = 3 then
    let now := d.get BRN_VID_code_now l
    let d := (d.loopClose l 3).put BRN_VID_target now l
    d.putLoop l { d.loop l with ref := vidRef l now }
  else if st = 1 ∨ st = 2 ∨ st = 4 then (d.loopClose l 3).loopOff l 1
  else d

/-- D08 switches off, or the supply of the burners is lost: every loop stops (R445). -/
def Dev.loopsOff (d : Dev) (why : Nat) : Dev :=
  each (List.range 4) (fun l (d : Dev) => (d.loopOff l why).putLoop l { d.loop l with tkt := 0, kind := 0 }) d

/-- The loops let go of their tickets: one still open closes `ABANDONED`, a SETVID's takes its detail (R448, R456). -/
def Dev.loopsAbandon (d : Dev) (seq : Nat) : Dev := each (List.range 4) (fun l (d : Dev) => d.loopClose l 5 seq) d

/-- SETVID tickets of the loops that the clock's loss tri-states (R448). -/
def Dev.lostLoops (d : Dev) : List Nat :=
  (List.range 4).filter fun l => (d.loop l).clkSrc && decide (1 ≤ d.loopState l ∧ d.loopState l ≤ 4)

/-- The clock unit enters `LOST`: loops timed from the main synthesiser are tri-stated (R406, R445). -/
def Dev.loopsTristate (d : Dev) : Dev :=
  each d.lostLoops (fun l (d : Dev) => (d.loopEnter l 6).put BRN_HIST_last_stop 5 l) d

/-- At F_r each tri-stated loop ramps again from its pre-bias (R457); `pre` gives the pre-biases of loops A–D in µV. -/
def Dev.loopsResume (d : Dev) (pre : List Nat) : Dev :=
  each (List.range 4) (fun l (d : Dev) => if d.loopState l = 6 then d.loopRamp l (pre.getD l 0) else d) d

/-! ## Commands (R462) -/

/-- The loop of a `BRN` command. -/
def brnLoop (c : Cmd) : Nat := bits c.arg 0 2

/-- The code of a `BRN` command. -/
def brnCode (c : Cmd) : Nat := bits c.arg 8 9

/-- The argument of a `BRN` command is ill-formed: a reserved bit, or a code above the loop's last. -/
def brnBadArg (c : Cmd) (coded : Bool) : Bool :=
  bits c.arg 2 6 != 0 || bits c.arg 17 7 != 0 || (if coded then decide (lastCode (brnLoop c) < brnCode c) else brnCode c != 0)

/-- `START` is not legal (R462): the loop is in neither `OFF` nor `FAULT`, it stands in `FAULT` and a class that a containing fault took is
latched, by whatever fault (R458), it is timed from a synthesiser that does not run, or a thermal shutdown is latched (R512). -/
def Dev.startBad (d : Dev) (l : Nat) : Bool :=
  d.flag THM_STATUS_sd_latched ||
  !(d.loopState l == 0 || (d.loopState l == 5 && !(d.loop l).took.any fun c => d.latched c)) ||
    (d.flag BRN_CFG_clk_src l && (d.clk == 0 || d.clk == 5))

/-- Codes that a SETVID is to move. -/
def Dev.setvidTotal (d : Dev) (l code : Nat) : Nat := absDiff code (d.get BRN_VID_code_now l)

/-- `SETVID` is not legal: the loop is not in `RUN`, or a thermal shutdown is latched (R512). -/
def Dev.setvidBad (d : Dev) (l : Nat) : Bool := d.loopState l != 3 || d.flag THM_STATUS_sd_latched

/-- `START`. -/
def brnStart : CmdDef where
  verdict _ c d :=
    { Verdict.ok with denied := d.denies c scopeOPS, badArg := brnBadArg c true, badState := d.startBad (brnLoop c), priv := true }
  effect _ c n d := (d.loopStart (brnLoop c) (brnCode c) n).progress n 0

/-- `STOP`. -/
def brnStop : CmdDef where
  verdict _ c d :=
    { Verdict.ok with
      denied := d.denies c scopeOPS, badArg := brnBadArg c false, badState := d.loopState (brnLoop c) == 0, priv := true }
  effect _ c n d := (d.loopStop (brnLoop c)).done n

/-- `SETVID`. -/
def brnSetvid : CmdDef where
  verdict _ c d :=
    { Verdict.ok with
      denied := d.denies c scopeOPS, badArg := brnBadArg c true, badState := d.setvidBad (brnLoop c), priv := true
      total := d.setvidTotal (brnLoop c) (brnCode c) }
  effect _ c n d := d.loopSetvid (brnLoop c) (brnCode c) n

/-- `BRN_START` (R462). -/
def execBrnStart (c : Cmd) (s : State) := onDev (fun d => d.cmd 0x00B 1 brnStart c) s
/-- `BRN_STOP` (R462). -/
def execBrnStop (c : Cmd) (s : State) := onDev (fun d => d.cmd 0x00B 2 brnStop c) s
/-- `BRN_SETVID` (R448, R462). -/
def execBrnSetvid (c : Cmd) (s : State) := onDev (fun d => d.cmd 0x00B 3 brnSetvid c) s

/-! ## The short test and power-good (R446, R447) -/

/-- Fitted phases whose `IMON` exceeds 5 A in the test; `peaks` in µV (R446). -/
def Dev.shortPhases (d : Dev) (l : Nat) (peaks : List Int) : List Nat :=
  (d.fitted l).filter fun k => decide (5 * (d.get BRN_SCALE_imon_gain l : Int) < peaks.getD k 0)

/-- A short in the test: each such phase is shown, `HS_SHORT` raised with the first, or 31 where none is known, and the loop is contained
(R446, R458). -/
def Dev.loopShort (d : Dev) (l : Nat) (ks : List Nat) : Dev :=
  let k := ks.headD 31
  let d := d.put BRN_HIST_phase k l
  let d := each ks (fun k (d : Dev) => d.put BRN_PHASE_shorted 1 (loopBase l + k)) d
  let d := d.raiseWith F_HS_SHORT 0x00B l k [(d.loop l).tkt] false
  ((d.loopClose l 5).loopEnter l 5).put BRN_HIST_last_stop 2 l

/-- `SHORT_TEST_END` (R446): the highest `IMON` of each phase of the loop in µV, the rise at the sense input and the pre-bias in µV. A rise
of more than 50 mV with no phase above 5 A is a short of unknown phase. -/
def execShortTestEnd (loop : Nat) (peaks : List Int) (rise : Int) (preBias : Nat) (s : State) :=
  onDev (fun d =>
    if d.loopState loop = 1 ∧ loop < 4 then
      if !(d.shortPhases loop peaks).isEmpty || decide (50_000 < rise) then d.loopShort loop (d.shortPhases loop peaks)
      else d.loopRamp loop preBias
    else d) s

/-- The reference stands at the target. -/
def Dev.atTarget (d : Dev) (l : Nat) : Bool := decide ((d.loop l).ref = (vidRef l (d.get BRN_VID_target l) : Nat))

/-- The voltage in force: the reference of a ramp, the code in force in `RUN`. -/
def Dev.loopRef (d : Dev) (l : Nat) : Int :=
  if d.loopState l = 2 then (d.loop l).ref else (vidRef l (d.get BRN_VID_code_now l) : Nat)

/-- The output as last sensed lies within ±pg_win of the voltage in force (R447). -/
def Dev.inWindow (d : Dev) (l : Nat) : Bool :=
  decide ((4 * ((d.loop l).sense : Int) - 5 * d.loopRef l).natAbs ≤ 4_000 * d.get BRN_PROT_pg_win l)

/-- Power-good sets with the output in its window: a ramp at its target enters `RUN`, and its START ticket is `DONE` (R447, R462). -/
def Dev.pgSet (d : Dev) (l : Nat) : Dev :=
  if !d.inWindow l then d
  else if d.loopState l = 2 ∧ d.atTarget l then
    let d := d.putLoop l { d.loop l with sink := true }
    let d := (d.loopEnter l 3).put BRN_STATUS_pg 1 l
    if (d.loop l).kind = 1 then d.loopClose l 4 else d
  else if d.loopState l = 3 then d.put BRN_STATUS_pg 1 l
  else d

/-- `POWER_GOOD_SET` (R447): 100 µs within the window have passed, in which the output was last sensed. -/
def execPowerGoodSet (loop : Nat) (s : State) := onDev (fun d => d.pgSet loop) s

/-- `POWER_GOOD_CLEAR` (R447): 20 µs outside the window have passed. -/
def execPowerGoodClear (loop : Nat) (s : State) :=
  onDev (fun d => if d.loopState loop = 3 ∧ !d.inWindow loop then d.put BRN_STATUS_pg 0 loop else d) s

/-! ## The switching cycle (R448–R451) -/

/-- The control law of one cycle (R449): the duty from the sensed output (µV) and the input (mV), and each active phase's
duty; no high-side pulse while truncation is in force (R451). -/
def Dev.dutyStep (d : Dev) (l sense vin : Nat) : Dev :=
  let x := d.loop l
  let vref := d.loopRef l
  let e := roundDiv (5 * vref - 4 * sense) 500
  let acc := clampI (-1_048_576) 1_048_575 (x.acc + e)
  let u := ((d.get BRN_COMP_kp l) * e + ((d.get BRN_COMP_ki l) * acc).shiftRight 6 + (d.get BRN_COMP_kd l) * (e - x.ePrev)).shiftRight 3
  let dff := (65_536 * vref) / (800 * (vin : Int))
  let duty := clampI 0 39_321 (dff + u)
  let one (k : Nat) : Nat × Nat :=
    (k, if d.flag BRN_STATUS_truncating l then 0 else (clampI 0 39_321 (duty + x.trims.get k 0)).toNat)
  d.putLoop l { x with acc := acc, ePrev := e, duties := (d.activePhases l).map one }

/-- Overshoot truncation begins above `ovs` over the code in force and ends below half of it (R451). -/
def Dev.truncStep (d : Dev) (l sense : Nat) : Dev :=
  let vref := d.loopRef l
  let ovs : Int := d.get BRN_PROT_ovs l
  if d.flag BRN_STATUS_truncating l then
    if 4 * (sense : Int) < 5 * (vref + 400 * ovs) then d.put BRN_STATUS_truncating 0 l else d
  else if 5 * (vref + 800 * ovs) < 4 * (sense : Int) then
    (((d.put BRN_STATUS_truncating 1 l).bumpS BRN_TRUNC_count BRN_TRUNC_sat l).pageIrq 0x00B 4).raise F_OVERSHOOT_TRUNC 0x00B l
  else d

/-- n_cyc current-limited cycles in a row: `HICCUP`, or `HICCUP_EXHAUSTED` and `FAULT` (R450). -/
def Dev.loopHiccup (d : Dev) (l : Nat) : Dev :=
  let d := d.clearAcc l
  if d.get BRN_STATUS_hiccups l < d.get BRN_HICCUP_retries l then
    ((d.bump BRN_STATUS_hiccups l).loopEnter l 4).pageIrq 0x00B 5
  else
    let d := d.raiseWith F_HICCUP_EXHAUSTED 0x00B l 0 [(d.loop l).tkt] false
    ((d.loopClose l 5).loopEnter l 5).put BRN_HIST_last_stop 3 l

/-- The current limit of a loop in 0.1 A: i_lim, 10 A under the restrictive defaults, 75 % of it while the last active phase is too hot
(R450, R454, R459). -/
def Dev.currentLimit (d : Dev) (l : Nat) : Nat :=
  let i := if d.flag OTP_STATUS_restrictive then 10 else d.get BRN_ILIM_i_lim l
  if (d.loop l).reduced.isEmpty then 10 * i else 30 * i / 4

/-- The cycle's current limits (R450): `imon` is what each phase's `IMON` shows at the peak of its high-side pulse, µV; a phase that made
no pulse has none to end. -/
def Dev.limitStep' (d : Dev) (l : Nat) (imon : List Int) : Dev :=
  let act := (d.activePhases l).filter fun k =>
    (d.loop l).duties.get k 0 != 0 && decide ((d.currentLimit l * d.get BRN_SCALE_imon_gain l : Nat) < 10 * imon.getD k 0)
  let d := each (List.range (loopPhases l)) (fun k (d : Dev) => d.putB BRN_PHASE_limited (k ∈ act) (loopBase l + k)) d
  let d := d.putB BRN_STATUS_limiting (!act.isEmpty) l
  if act.isEmpty then d.putLoop l { d.loop l with cyc := 0 }
  else
    let d := d.bumpS BRN_LIMCYC_count BRN_LIMCYC_sat l
    let n := (d.loop l).cyc + 1
    if d.get BRN_HICCUP_n_cyc l ≤ n then d.loopHiccup l else d.putLoop l { d.loop l with cyc := n }

/-- The reference moves toward the target by one cycle's slew; the code in force follows code by code, and a SETVID ticket
counts the codes moved in `RUN` and is `DONE` at the target (R447, R448). A ramp that a `HICCUP` restarted moves none of them. -/
def Dev.slewStep (d : Dev) (l : Nat) : Dev :=
  let x := d.loop l
  let target := d.get BRN_VID_target l
  let goal : Int := vidRef l target
  let by_ : Int := d.get BRN_SLEW_rate l * pwmPeriod x.fsw
  let r := if x.ref ≤ goal then min goal (x.ref + by_) else max goal (x.ref - by_)
  let now := if x.ref ≤ r then codeBelow l r else codeAbove l r
  let gone := if x.start ≤ target then now - x.start else x.start - now
  let moved := if d.loopState l = 3 ∧ x.kind = 2 then max x.moved (min gone (absDiff target x.start)) else x.moved
  let sink := x.sink || decide (4 * (x.pre : Int) ≤ 5 * r)
  let d := (d.putLoop l { x with ref := r, moved := moved, sink := sink }).put BRN_VID_code_now now l
  if x.kind = 2 then (if r = goal then d.loopClose l 4 else d.progress x.tkt moved) else d

/-- The mean of the total current over 100 µs as `BRN_OUT` shows it, from what `IMON` shows in each switching cycle (R460; DESIGN CHOICE,
assumption 25: the spec does not say at which instants `IMON` is sampled). -/
def Dev.outStep (d : Dev) (l : Nat) (imon : List Int) : Dev :=
  let x := d.loop l
  let t := pwmPeriod x.fsw
  let sum := x.outI + t * (d.fitted l).foldl (fun (n : Int) k => n + imon.getD k 0) 0
  let n := x.outN + t
  if n < 20_000 then d.putLoop l { x with outI := sum, outN := n }
  else (d.putLoop l { x with outI := 0, outN := 0 }).put BRN_OUT_i_total (ofSigned 16 (d.imonAmps l (sum.tdiv n))) l

/-- What the loop's `PWM_` outputs do in the cycle (R442, R449): of each active phase, its number, how long the output is high, in 2^-16 of
the period, and whether it is low for the rest; where phases do not sink current the rest is mid-level, as is every other output. -/
def Dev.pwmSend (d : Dev) (l : Nat) : Dev :=
  let x := d.loop l
  d.emit .pwm l (x.duties.flatMap fun (e : Nat × Nat) => [loopBase l + e.1, e.2, b2n x.sink])

/-- One switching cycle (R449–R451, R448). -/
def Dev.pwmCycle (d : Dev) (l sense vin : Nat) (imon : List Int) : Dev :=
  if d.loopState l = 2 ∨ d.loopState l = 3 then
    let d := d.putLoop l { d.loop l with sense := sense }
    let d := ((((d.truncStep l sense).dutyStep l sense vin).pwmSend l).outStep l imon).limitStep' l imon
    if d.loopState l = 2 ∨ d.loopState l = 3 then d.slewStep l else d
  else d

/-- `SWITCHING_CYCLE` (R449): the sensed output in µV, the input in mV, and each phase's `IMON` at the peak of its high-side pulse in
µV. -/
def execSwitchingCycle (loop sense vin : Nat) (imon : List Int) (s : State) :=
  onDev (fun d => if loop < 4 then d.pwmCycle loop sense vin imon else d) s

/-- `HICCUP_END` (R450). -/
def execHiccupEnd (loop : Nat) (s : State) := onDev (fun d => if d.loopState loop = 4 then d.loopTest loop else d) s

/-- `RETRY_COUNT_CLEAR` (R450). -/
def execRetryCountClear (loop : Nat) (s : State) :=
  onDev (fun d => if d.loopState loop = 3 then d.put BRN_STATUS_hiccups 0 loop else d) s

/-! ## Phases (R452–R454) -/

/-- Count the active phases again. -/
def Dev.countActive (d : Dev) (l : Nat) : Dev :=
  if d.loopState l = 2 ∨ d.loopState l = 3 then d.put BRN_STATUS_active (d.activePhases l).length l else d

/-- Store phase temperatures, °C. -/
def Dev.putTmon (d : Dev) (l : Nat) (tmon : List Int) : Dev :=
  each (d.fitted l) (fun k (d : Dev) => d.put BRN_PHASE_tmon (ofSigned 8 (tmon.getD k 0)) (loopBase l + k)) d

/-- A phase's stored temperature. -/
def Dev.tmonOf (d : Dev) (l k : Nat) : Int := toSigned 8 (d.get BRN_PHASE_tmon (loopBase l + k))

/-- The coolest of some phases. -/
def Dev.coolest (d : Dev) (l : Nat) (ks : List Nat) : Option Nat :=
  ks.foldl (fun (b : Option Nat) k => match b with
    | none => some k
    | some j => if d.tmonOf l k < d.tmonOf l j then some k else some j) none

/-- The hottest of some phases. -/
def Dev.hottest (d : Dev) (l : Nat) (ks : List Nat) : Option Nat :=
  ks.foldl (fun (b : Option Nat) k => match b with
    | none => some k
    | some j => if d.tmonOf l j < d.tmonOf l k then some k else some j) none

/-- Shed phases that may be added: fitted, shed and not held out. -/
def Dev.addable (d : Dev) (l : Nat) : List Nat :=
  (d.fitted l).filter fun k => d.flag BRN_PHASE_shed (loopBase l + k) && !d.flag BRN_PHASE_hot (loopBase l + k)

/-- Add phases, the coolest first, until `n` are active (R452). -/
def Dev.addPhases (d : Dev) (l n : Nat) : Nat → Dev
  | 0 => d
  | m + 1 =>
    if n ≤ (d.activePhases l).length then d
    else match d.coolest l (d.addable l) with
      | some k => Dev.addPhases (d.put BRN_PHASE_shed 0 (loopBase l + k)) l n m
      | none => d

/-- The count of active phases that R452 wishes for a mean total `IMON` in µV. -/
def Dev.wishedPhases (d : Dev) (l iTotal : Nat) : Nat :=
  let unit := max 1 (d.get BRN_ILIM_i_shed l * d.get BRN_SCALE_imon_gain l)
  min ((d.fitted l).filter fun k => !d.flag BRN_PHASE_hot (loopBase l + k)).length
    (max (d.get BRN_PHASES_min_phases l) ((iTotal + unit - 1) / unit))

/-- The 1 ms evaluation (R452). -/
def Dev.shedEval (d : Dev) (l iTotal : Nat) : Dev :=
  if d.loopState l ≠ 3 then d
  else if !d.flag BRN_CFG_shed_en l then (d.addPhases l 16 16).countActive l
  else
    let n := d.wishedPhases l iTotal
    let act := (d.activePhases l).length
    if n < act then
      let ms := (d.loop l).shedMs + 1
      let d := d.putLoop l { d.loop l with shedMs := ms }
      if ms ≤ 10 then d
      else match d.hottest l (d.activePhases l) with
        | some k => (d.put BRN_PHASE_shed 1 (loopBase l + k)).countActive l
        | none => d
    else ((d.putLoop l { d.loop l with shedMs := 0 }).addPhases l n 16).countActive l

/-- `PHASE_SHED_EVALUATION` (R452): the mean total `IMON` of the last 1 ms in µV, the mean output of its last 100 µs in mV, which
`BRN_OUT` shows, and the phase temperatures in °C. -/
def execPhaseShedEvaluation (loop iTotal vOut : Nat) (tmon : List Int) (s : State) :=
  onDev (fun d =>
    if loop < 4 ∧ d.railGood 8 then
      ((d.putTmon loop tmon).put BRN_OUT_v_out vOut loop).shedEval loop iTotal
    else d) s

/-- A phase's trim moves (R453). -/
def Dev.moveTrim (d : Dev) (l k : Nat) (by_ : Int) : Dev :=
  let x := d.loop l
  d.putLoop l { x with trims := x.trims.put k (clampI (-256) 256 (x.trims.get k 0 + by_)) }

/-- Thermal balancing: 2 °C about the active mean moves a trim by 1 (R453). -/
def Dev.balanceThermal (d : Dev) (l : Nat) : Dev :=
  let act := d.activePhases l
  let n : Int := act.length
  let sum := act.foldl (fun (t : Int) k => t + d.tmonOf l k) 0
  each act (fun k (d : Dev) =>
    let e := n * d.tmonOf l k - sum
    if 2 * n < e then d.moveTrim l k (-1) else if e < -(2 * n) then d.moveTrim l k 1 else d) d

/-- Current equalisation: 1.0 A about the active mean moves a trim by 4 (R453); `imon` in µV. -/
def Dev.balanceCurrent (d : Dev) (l : Nat) (imon : List Int) : Dev :=
  let act := d.activePhases l
  let n : Int := act.length
  let amp : Int := d.get BRN_SCALE_imon_gain l
  let sum := act.foldl (fun (t : Int) k => t + imon.getD k 0) 0
  each act (fun k (d : Dev) =>
    let e := n * imon.getD k 0 - sum
    if amp * n < e then d.moveTrim l k (-4) else if e < -(amp * n) then d.moveTrim l k 4 else d) d

/-- One balancing period (R453). -/
def Dev.balance (d : Dev) (l : Nat) (tmon imon : List Int) : Dev :=
  let d := d.putTmon l tmon
  let d := each (d.fitted l) (fun k (d : Dev) => d.put BRN_PHASE_imon (ofSigned 16 (d.imonAmps l (imon.getD k 0))) (loopBase l + k)) d
  if d.loopState l = 2 ∨ d.loopState l = 3 then
    if (d.loop l).curEq then d.balanceCurrent l imon else d.balanceThermal l
  else d

/-- `PHASE_TRIM_BALANCE` (R453): temperatures in °C and `IMON` in µV by phase of the loop. -/
def execPhaseTrimBalance (loop : Nat) (tmon imon : List Int) (s : State) :=
  onDev (fun d => if loop < 4 ∧ d.railGood 8 then d.balance loop tmon imon else d) s

/-- The loop of a phase 0–31. -/
def loopOfPhase (p : Nat) : Nat := if p < 16 then 0 else if p < 24 then 1 else if p < 28 then 2 else 3

/-- A phase is too hot (R454): held out, unless it is the loop's last active phase. -/
def Dev.phaseHot (d : Dev) (p : Nat) (tmon : Int) : Dev :=
  let l := loopOfPhase p
  let k := p - loopBase l
  if !(d.fitted l).contains k || decide (tmon ≤ (d.get BRN_PROT_t_phase_max l : Nat)) || d.flag BRN_PHASE_hot p then d
  else
    let d := (d.put BRN_PHASE_tmon (ofSigned 8 tmon) p).raise F_PHASE_HOT 0x00B l k
    if d.activePhases l = [k] then d.putLoop l { d.loop l with reduced := [k] }
    else (((d.put BRN_PHASE_hot 1 p).put BRN_PHASE_shed 1 p).pageIrq 0x00B 6).countActive l

/-- A phase has been 15 °C below the limit for 1 s (R454): `RAMP` uses every fitted phase that is not held out (R452). -/
def Dev.phaseReturn (d : Dev) (p : Nat) : Dev :=
  let l := loopOfPhase p
  let k := p - loopBase l
  let d := d.putLoop l { d.loop l with reduced := (d.loop l).reduced.filter (· != k) }
  if d.flag BRN_PHASE_hot p then
    let d := d.put BRN_PHASE_hot 0 p
    (if d.flag BRN_CFG_shed_en l && d.loopState l != 2 then d else d.put BRN_PHASE_shed 0 p).countActive l
  else d

/-- `PHASE_HOT` (R454): the phase 0–31 and its temperature in °C. -/
def execPhaseHot (phase : Nat) (tmon : Int) (s : State) :=
  onDev (fun d => if phase < 32 ∧ d.railGood 8 then d.phaseHot phase tmon else d) s

/-- `PHASE_RETURN` (R454). -/
def execPhaseReturn (phase : Nat) (s : State) :=
  onDev (fun d => if phase < 32 ∧ d.railGood 8 then d.phaseReturn phase else d) s

/-! ## Adaptive VCORE (R455) -/

/-- The sensor reports: sensors of dies that are off or behind a lost link do not report. -/
def Dev.slackSeen (d : Dev) (slack : List (Nat × Nat)) : List (Nat × Nat) :=
  slack.filter fun r =>
    if r.1 < 64 then (List.range 4).any (fun k => d.railGood (32 + 4 * (r.1 / 8) + k)) && !d.dieLost.testBit (r.1 / 8)
    else decide (r.1 < 72)

/-- The smallest report, the first of equals. -/
def minSlack : List (Nat × Nat) → Nat × Nat
  | [] => (0, 0)
  | [r] => r
  | r :: rs => let m := minSlack rs; if r.2 ≤ m.2 then r else m

/-- Loop A's target moves by so many codes, within floor and ceiling; the run of ample slack counts `low`. -/
def Dev.adaptTo (d : Dev) (by_ : Int) (low : Nat) : Dev :=
  let t := clampI (d.get BRN_ADAPT_LIM_floor 0) (d.get BRN_ADAPT_LIM_ceiling 0) ((d.get BRN_VID_target 0 : Int) + by_)
  (d.put BRN_VID_target t.toNat 0).putLoop 0 { d.loop 0 with low := low }

/-- What loop A's adaptation asks besides a report: `adapt_en`, `RUN`, no SETVID ticket, and K03 (R455). -/
def Dev.adaptMay (d : Dev) : Bool := d.flag BRN_CFG_adapt_en 0 && d.loopState 0 == 3 && (d.loop 0).kind != 2 && d.k03

/-- Adaptation stops: its count restarts (R455). -/
def Dev.adaptStop (d : Dev) : Dev := (d.put BRN_STATUS_adapting 0 0).putLoop 0 { d.loop 0 with low := 0 }

/-- Loop A judges the frame just ended (R455): slack reports (sensor, 0.01 µs) and whether any lane missed its deadline. -/
def Dev.adapt (d : Dev) (slack : List (Nat × Nat)) (miss : Bool) : Dev :=
  let seen := d.slackSeen slack
  let m := minSlack seen
  let dies := seen.foldl (fun (b : Nat) r => setBit b (if r.1 < 64 then r.1 / 8 else 8)) 0
  let d := if seen.isEmpty then d else (d.put BRN_SLACK_s_min m.2).put BRN_SLACK_sensor m.1
  let d := d.put BRN_SLACK_DIES_reporting dies
  let on := d.adaptMay && !seen.isEmpty
  let d := d.putB BRN_STATUS_adapting on 0
  let margin := 10 * d.get BRN_ADAPT_margin 0
  let band := 10 * d.get BRN_ADAPT_band 0
  if !on then d.adaptStop
  else if miss then d.adaptTo 16 0
  else if m.2 < margin then d.adaptTo 4 0
  else if margin + band ≤ m.2 then
    if (d.loop 0).low + 1 = 50 then d.adaptTo (-1) 0 else d.adaptTo 0 ((d.loop 0).low + 1)
  else d.adaptTo 0 0

end Sys2Proof.Machine
end

