-- ==== Sys2Proof/Machine/Irq.lean ====
section
/-!
DEFINITION. Machine/Irq.lean: the interrupt controller (R94–R98): edges, writes of pending, enable and target
words, and delivery.
-/
namespace Sys2Proof.Machine

/-- Sources that exist (R94): 143, 176–255 and 768–1023 are reserved. -/
def irqSource (src : Nat) : Bool := decide (src < 143 ∨ (144 ≤ src ∧ src < 176) ∨ (256 ≤ src ∧ src < 768))

/-- The domain that produces a source's edges (R75, R94, R95). -/
def irqDomain (src : Nat) : Nat :=
  if src < 96 then pageDomain src
  else if src = 131 ∨ src = 132 then 5
  else if 133 ≤ src ∧ src ≤ 136 then 2
  else if 138 ≤ src ∧ src ≤ 140 then 1
  else if 144 ≤ src ∧ src < 176 then 13
  else if 256 ≤ src ∧ src < 768 then 32 + (src - 256) / 16
  else 0

/-- The source's bit clears; a page summary that pends again is delivered again (R95, R96). -/
def Dev.irqClear (d : Dev) (src : Nat) : Dev := ((d.putWbit IRQ_PEND_pend src false).summaryAgain src).irqDeliver src

/-- `IRQ_SOURCE_EDGE` (R95): a source whose producing domain is off raises no edge. -/
def execIrqSourceEdge (src : Nat) (s : State) :=
  onDev (fun d => if irqSource src && d.railGood (irqDomain src) then d.irqEdge src else d) s

/-- The bus-mastering, link and domain conditions under which a held message is sent (R96, R71). -/
def Dev.msixReady (d : Dev) (busMaster : Bool) : Bool := d.hostDecodes && busMaster

/-- `MSIX_DELIVERY` (R96): a held message is sent once D06, the link and bus mastering permit, and its table entry is
not masked. -/
def execMsixDelivery (vector : Nat) (busMaster : Bool) (s : State) :=
  onDev (fun d =>
    if vector ∈ d.msixPend ∧ d.msixReady busMaster ∧ !bit (d.msixTable.get (4 * vector + 3) 1) 0 then
      let d := { d with msixPend := d.msixPend.filter (· != vector) }
      d.emit .msix vector [d.msixTable.get (4 * vector) 0, d.msixTable.get (4 * vector + 1) 0, d.msixTable.get (4 * vector + 2) 0]
    else d) s

/-- A write-1-to-clear write of `IRQ_PEND` word `w` (R96): bits clear, and every vector to which a still pending and
enabled source of the word maps is sent once more. -/
def Dev.irqPendWrite (d : Dev) (w v : Nat) : Dev :=
  let cleared := (bitList 32 v).filter fun b => d.wbit IRQ_PEND_pend (32 * w + b)
  let d := each cleared (fun b d => (d : Dev).irqClear (32 * w + b)) d
  each (List.range 32) (fun b d =>
    let src := 32 * w + b
    if (d : Dev).irqLive src && decide (d.irqTarget src ≤ 3) then d.holdMsix (d.irqVector src) else d) d

/-- A write of `IRQ_EN` word `w` (R95): enabling a source that is already pending counts as its rising edge. -/
def Dev.irqEnWrite (d : Dev) (w v : Nat) : Dev :=
  let old := d.get IRQ_EN_en w
  let d := d.put IRQ_EN_en v w
  each (bitList 32 (maskOff v old)) (fun b d => (d : Dev).irqDeliver (32 * w + b)) d

/-- A write of `IRQ_TARGET` word `w` (R96): the target of an enabled source stays, and the attempt to change it is
shown. -/
def Dev.irqTargetWrite (d : Dev) (w v : Nat) : Dev :=
  each (List.range 8) (fun k d =>
    let src := 8 * w + k
    let t := bits v (4 * k) 3
    if (d : Dev).irqTarget src = t then d
    else if d.wbit IRQ_EN_en src then d.put IRQ_TARGET_REJECT_reject 1
    else d.put IRQ_TARGET_target t src) d

/-- The lowest-numbered pending, enabled source of a target (R97). -/
def Dev.irqNext (d : Dev) (t : Nat) : Option Nat :=
  (List.range 768).find? fun src => d.irqLive src && d.irqTarget src == t

/-- `INT_N_PULSE` (R96): a pulse begins for the lowest-numbered pending, enabled source of target 5. -/
def execIntNPulse (s : State) :=
  onDev (fun d =>
    if d.intN != 0 then d
    else match d.irqNext 5 with
      | some src => { d with intN := src + 1 }.emit .intPulse 0 [src]
      | none => d) s

/-- `INT_N_PULSE_END` (R96, R98). -/
def execIntNPulseEnd (s : State) :=
  onDev (fun d =>
    if d.intN = 0 then d
    else
      let src := d.intN - 1
      let d := { d with intN := 0 }
      let d := (d.put GEN_SIDE_IRQ_LAST_source src).put GEN_SIDE_IRQ_COUNT_count (d.get GEN_SIDE_IRQ_COUNT_count + 1)
      d.irqClear src) s

end Sys2Proof.Machine
end

