-- ==== Sys2Proof/Machine/Ledger.lean ====
section
/-!
DEFINITION. Machine/Ledger.lean: the ledger engine (R349–R362): records as bytes, the chain, seals, the append with
its reserve and full states, acknowledgement, and the signature engine's turn (R339).
-/
namespace Sys2Proof.Machine

/-- `n` bytes of a number, most significant first. -/
def beBytes (n v : Nat) : List Nat := (leBytes n v).reverse

/-- A hash as a body part: its first byte at the lowest offset. -/
def hashPart (off h : Nat) : Part := ⟨off, 48, leNat (beBytes 48 h)⟩

/-- The byte at an offset of a record's body: the part that covers it, else 0. -/
def partByte (ps : List Part) (off : Nat) : Nat :=
  match ps.find? fun p => decide (p.off ≤ off ∧ off < p.off + p.len) with
  | some p => p.val / 256 ^ (off - p.off) % 256
  | none => 0

/-- Bytes 0–79 of a record (R350). -/
def recHead (r : LdgRec) : List Nat :=
  leBytes 8 r.seq ++ leBytes 2 r.epoch ++ leBytes 6 r.tick ++ leBytes 6 r.frame ++ [r.kind % 256, r.flags % 256] ++
    (List.range 56).map fun k => partByte r.body (24 + k)

/-- The 128 bytes of a slot (R350, R352): a seal carries its signature where others carry their chain hash. -/
def recBytes (r : LdgRec) : List Nat :=
  if r.kind = 0x03 then (recHead r).take 32 ++ beBytes 96 r.sig else recHead r ++ beBytes 48 r.hash

/-- The chain hash of a record after the hash before it (R351). -/
def chainHash (prev : Nat) (r : LdgRec) : Nat :=
  Config.sha384 (beBytes 48 prev ++ (if r.kind = 0x03 then (recHead r).take 32 else recHead r))

/-- Number of slots (R349). -/
def ldgSlots : Nat := 196_608

/-- All ones: no sequence number (R358). -/
def seqNone : Nat := 2 ^ 64 - 1

/-- The acknowledged sequence number. -/
def Dev.ldgAck (d : Dev) : Nat := d.get2 LDG_ACK_LO_lo LDG_ACK_HI_hi

/-- The last signed seal. -/
def Dev.ldgSealSeq (d : Dev) : Nat := d.get2 LDG_SEAL_LO_lo LDG_SEAL_HI_hi

/-- Every slot holds an unacknowledged record (R361). -/
def Dev.ldgFull (d : Dev) : Bool := decide (ldgSlots ≤ d.get LDG_UNACKED_count)

/-- Write the count of unacknowledged records; the reserve and full bits follow it (R360, R361). -/
def Dev.ldgCount (d : Dev) : Dev :=
  let a := d.ldgAck
  let n := if a = seqNone then d.ldg.next else d.ldg.next - 1 - a
  let d := d.put LDG_UNACKED_count n
  let was := d.flag LDG_STATUS_reserve
  let wasFull := d.flag LDG_STATUS_full
  let d := (d.putB LDG_STATUS_reserve d.ldgReserve).putB LDG_STATUS_full d.ldgFull
  let d := if !was && d.flag LDG_STATUS_reserve then d.pageIrq 0x012 3 else d
  if !wasFull && d.flag LDG_STATUS_full then d.pageIrq 0x012 6 else d

/-! ## The signature engine (R339) -/

/-- The engine takes its next operation when it is free or runs one of the third kind: a `SIGN_IN` that waited while a
seal or verification ran comes first, then seals, then documents and checkpoints. -/
def Dev.engineNext (d : Dev) : Dev :=
  if d.isl.current = 1 ∨ d.isl.current = 2 then d
  else
    let k := if !d.isl.signIns.isEmpty then 2 else if !d.ldg.seals.isEmpty then 1 else if !d.isl.docs.isEmpty then 3 else 0
    { d with isl := { d.isl with current := k } }

/-- The engine's operation has ended. -/
def Dev.engineFree (d : Dev) : Dev := { d with isl := { d.isl with current := 0 } }.engineNext

/-- Show how many seals wait. -/
def Dev.sealsShown (d : Dev) : Dev := d.put LDG_STATUS_seals_pending d.ldg.seals.length

/-- A signed seal is queued for the partner, 64 at most (R394). -/
def Dev.xsealQueue (d : Dev) (n h sig : Nat) : Dev :=
  if !d.flag TWN_CFG_en then d
  else
    let q := d.twn.xq ++ [(n, h, sig)]
    let d := if 64 < q.length then d.bump TWN_XSIGN_dropped else d
    let q := q.drop (q.length - 64)
    ({ d with twn := { d.twn with xq := q } }).put TWN_XSIGN_queued q.length

/-- A seal counts as signed: `LDG_SEAL` advances and its command's ticket closes. -/
def Dev.sealCounts (d : Dev) (seq ticket : Nat) : Dev :=
  let d := (d.put2 LDG_SEAL_LO_lo LDG_SEAL_HI_hi seq).pageIrq 0x012 0
  if ticket = 0 then d else d.done ticket

/-- The engine finishes the oldest waiting seal (R352). -/
def Dev.sealSigned (d : Dev) : Dev :=
  if d.isl.current != 1 then d
  else match d.ldg.seals with
    | [] => d.engineFree
    | (n, t) :: rest =>
      let r := d.ldg.ring.get (n % ldgSlots) LdgRec.zero
      let sig := Config.ecdsaSign d.isl.priv (Config.sha384 (beBytes 48 r.hash))
      let d := { d with ldg := { d.ldg with seals := rest, ring := d.ldg.ring.put (n % ldgSlots) { r with sig := sig } } }
      (((d.xsealQueue n r.hash sig).sealsShown).sealCounts n t).engineFree

/-! ## Appending (R351, R352, R357) -/

/-- Write one record of an epoch, tick and frame at the head of the chain; the journal is clear before and after (R357). -/
def Dev.ldgWriteAt (d : Dev) (at_ : Nat × Nat × Nat) (kind flags : Nat) (body : List Part) : Dev :=
  let n := d.ldg.next
  let r : LdgRec := { seq := n, epoch := at_.1, tick := at_.2.1, frame := at_.2.2, kind := kind, flags := flags, body := body,
                      hash := 0, sig := 0 }
  let h := chainHash d.ldg.hash r
  let d := { d with ldg := { d.ldg with
    ring := d.ldg.ring.put (n % ldgSlots) { r with hash := h }, hash := h, next := n + 1, sinceSeal := d.ldg.sinceSeal + 1,
    lastShutdown := if kind = 0x02 then n + 1 else d.ldg.lastShutdown } }
  (d.put2 LDG_HEAD_LO_lo LDG_HEAD_HI_hi n).ldgCount

/-- Write one record as of now. -/
def Dev.ldgWrite (d : Dev) (kind flags : Nat) (body : List Part) : Dev := d.ldgWriteAt (d.epoch, d.tick, d.frameRec) kind flags body

/-- A seal has been written at sequence number `n`: the next one covers what follows. -/
def Dev.sealCovers (d : Dev) (n : Nat) : Dev := { d with ldg := { d.ldg with sinceSeal := 0, sealFirst := n + 1 } }

/-- Append a seal: early by command or at power-down, unsigned without an identity (R337, R352). -/
def Dev.ldgSealNow (d : Dev) (early : Bool) (ticket : Nat) : Dev :=
  let n := d.ldg.next
  let signed := d.flag LDG_STATUS_ident_ok
  let d := d.ldgWrite 0x03 (if early || !signed then 128 else 0) [⟨24, 8, d.ldg.sealFirst⟩]
  let d := d.sealCovers n
  if signed then
    { d with ldg := { d.ldg with seals := d.ldg.seals ++ [(n, ticket)] } }.sealsShown.engineNext
  else d.sealCounts n ticket

/-- A record that would have been appended while the ring is full: counted by its kind (R361): all, seals, `SHUTDOWN`,
`SESSION` closes, `TORN`, `START`. -/
def Dev.ldgSuppress (d : Dev) (kind flags : Nat) : Dev :=
  let add (k : Nat) : Nat := d.ldg.suppressed.getD k 0 + 1
  let same (k : Nat) : Nat := d.ldg.suppressed.getD k 0
  let cls := if kind = 0x03 then 1 else if kind = 0x02 then 2 else if kind = 0x21 then 3 else if kind = 0x04 then 4
    else if kind = 0x01 then 5 else 6
  let first := if d.ldg.suppressed.getD 0 0 = 0 then (d.epoch, d.tick) else d.ldg.firstSupp
  { d with ldg := { d.ldg with
    suppressed := (List.range 6).map fun k => if k = 0 ∨ k = cls then add k else same k
    firstSupp := first
    lastSupp := (d.epoch, d.tick)
    sealsOwed := if kind = 0x03 then d.ldg.sealsOwed ++ [flags] else d.ldg.sealsOwed } }

/-- The `FULL_GAP` body (R361). -/
def Dev.fullGapBody (d : Dev) : List Part :=
  let n (k : Nat) : Nat := d.ldg.suppressed.getD k 0
  [⟨24, 4, n 0⟩, ⟨28, 4, n 1⟩, ⟨32, 4, n 2⟩, ⟨36, 4, n 3⟩, ⟨40, 2, d.ldg.firstSupp.1⟩, ⟨42, 6, d.ldg.firstSupp.2⟩,
   ⟨48, 2, d.ldg.lastSupp.1⟩, ⟨50, 6, d.ldg.lastSupp.2⟩, ⟨56, 4, n 4⟩, ⟨60, 4, n 5⟩]

/-- The sequence number of a lease unit's latest `UNIT_DEF` record is kept (R366). -/
def Dev.unitDefSeq (d : Dev) (p : LdgPend) (seq : Nat) : Dev :=
  if p.kind = 0x15 then
    { d with ldg := { d.ldg with unitDef := d.ldg.unitDef.put (partByte p.body 24 + 256 * partByte p.body 25) (seq + 1) } }
  else d

/-- What an append completes: an interrupt source of target 6 clears (R96), a lease unit's last `UNIT_DEF` is known
(R366), a ticket closes. -/
def Dev.ldgAfter (d : Dev) (p : LdgPend) (seq : Nat) : Dev :=
  let d := if p.source < 1024 then d.irqClear p.source else d
  let d := d.unitDefSeq p seq
  if p.ticket = 0 then d else d.done p.ticket

/-- A seal is due after 63 records (R352). -/
def Dev.sealDue (d : Dev) : Bool := decide (63 ≤ d.ldg.sinceSeal)

/-- A seal of its own comes next in the queue, and takes the place of one that is due: that of a `SEAL` command; `SHUTDOWN`'s, early, behind
it (R371); those owed behind the `EXPORT_ACK` and the `FULL_GAP` that end a full ring (R361). -/
def Dev.sealHead (d : Dev) : Bool := match d.ldg.queue with
  | p :: q :: _ => p.kind ∈ [0x02, 0x03, 0x29] || (p.kind == 0x26 && q.kind == 0x29)
  | [p] => p.kind ∈ [0x02, 0x03]
  | [] => false

/-- The oldest record that may be appended: in reserve, and in a full ring, the first that R360 admits; the others wait (assumption 25). -/
def Dev.ldgReady (d : Dev) : Option LdgPend := d.ldg.queue.find? fun p => !d.ldgReserve || ldgAdmits p.kind p.body

/-- `GENESIS` and `START` wait for entropy: no record of this boot is appended before them (R335, R353). -/
def Dev.genesisWaits (d : Dev) : Bool := d.isl.entropyWait.any fun w => w.1 == 2

/-- One append of the engine (R352, R357, R360, R361): nothing while 8 seals wait; a seal when it is due, merged with an
early one that is next; else the oldest queued record that may be appended. While the ring is full the record is counted instead. -/
def Dev.ldgStep (d : Dev) : Dev :=
  if 8 ≤ d.ldg.seals.length ∨ d.genesisWaits then d
  else if d.sealDue && !d.sealHead then
    if d.ldgFull then (if 0 ∈ d.ldg.sealsOwed then ldgPop d else d.ldgSuppress 0x03 0) else d.ldgSealNow false 0
  else ldgPop d
where
  /-- Take the oldest queued record that may be appended. -/
  ldgPop (d : Dev) : Dev :=
    match d.ldgReady with
    | none => d
    | some p =>
      let d := { d with ldg := { d.ldg with queue := d.ldg.queue.erase p } }
      if d.ldgFull then (let d := d.ldgSuppress p.kind p.flags; if p.ticket = 0 then d else d.done p.ticket)
      else if p.kind = 0x03 then
        if d.ldg.sinceSeal = 0 then (if p.ticket = 0 then d else d.done p.ticket) else d.ldgSealNow (p.flags == 128) p.ticket
      else
        let n := d.ldg.next
        (d.ldgWrite p.kind p.flags p.body).ldgAfter p n

/-! ## Commands (R352, R358) -/

/-- The sequence number an `ACK` names. -/
def Dev.ackArg (d : Dev) : Nat := d.get2 LDG_ACK_ARG_LO_lo LDG_ACK_ARG_HI_hi

/-- `a` is later than `b`; every number is later than none (R358). -/
def seqLater (a b : Nat) : Bool := if b = seqNone then a != seqNone else a != seqNone && decide (b < a)

/-- Room made in a full ring: the `EXPORT_ACK`, one `FULL_GAP`, then every seal that fell due (R361). -/
def Dev.ldgResume (d : Dev) : Dev :=
  let gap : LdgPend := ⟨0x29, 0, d.fullGapBody, 0, 1024⟩
  let owed : List LdgPend := d.ldg.sealsOwed.map fun f => ⟨0x03, f, [], 0, 1024⟩
  { d with ldg := { d.ldg with queue := gap :: owed ++ d.ldg.queue, suppressed := [0, 0, 0, 0, 0, 0], sealsOwed := []
                               firstSupp := (0, 0), lastSupp := (0, 0) } }

/-- `ACK` (R358, R361). -/
def ldgAckCmd : CmdDef where
  verdict _ c d :=
    let a := d.ackArg
    { Verdict.ok with
      badArg := c.arg != 0 || seqLater a d.ldgSealSeq
      badState := !seqLater a d.ldgAck }
  effect _ c n d :=
    let old := d.ldgAck
    let a := d.ackArg
    let wasFull := d.ldgFull
    let d := (d.put2 LDG_ACK_LO_lo LDG_ACK_HI_hi a).ldgCount
    let d := if wasFull then d.ldgResume else d
    let r : LdgPend := ⟨0x26, 0, [⟨24, 1, c.ch⟩, ⟨32, 8, a⟩, ⟨40, 8, old⟩], 0, 1024⟩
    let q := if wasFull then r :: d.ldg.queue else d.ldg.queue ++ [r]
    { d with ldg := { d.ldg with queue := q } }.done n

/-- `SEAL` (R352): an early seal takes its place among the records. -/
def ldgSealCmd : CmdDef where
  verdict _ c d :=
    { Verdict.ok with badArg := c.arg != 0, badState := d.ldg.sinceSeal == 0, busy := d.ldgFull }
  effect _ _ n d := { d with ldg := { d.ldg with queue := d.ldg.queue ++ [⟨0x03, 128, [], n, 1024⟩] } }

/-- `LDG_ACK` (R358). -/
def execLdgAck (c : Cmd) (s : State) := onDev (fun d => d.cmd 0x012 1 ldgAckCmd c) s
/-- `LDG_SEAL` (R352). -/
def execLdgSeal (c : Cmd) (s : State) := onDev (fun d => d.cmd 0x012 2 ldgSealCmd c) s

/-- A power warning: `SHUTDOWN` and an early seal go before everything that waits (R357). -/
def Dev.ldgShutdown (d : Dev) (cause : Nat) : Dev :=
  { d with ldg := { d.ldg with
    queue := ⟨0x02, 0, [⟨24, 1, cause⟩], 0, 1024⟩ :: ⟨0x03, 128, [], 0, 1024⟩ :: d.ldg.queue } }

/-- `REBOOT`'s seal (R555): `SHUTDOWN` with cause 2 and an early seal whose signature closes the command's ticket. -/
def Dev.rebootSeal (d : Dev) : Dev :=
  let q : List LdgPend := [⟨0x02, 0, [⟨24, 1, 2⟩], 0, 1024⟩, ⟨0x03, 128, [], d.pwr.rebootTkt, 1024⟩]
  { d with ldg := { d.ldg with queue := d.ldg.queue ++ q }, pwr := { d.pwr with reboot := 2 } }

end Sys2Proof.Machine
end

