-- ==== Sys2Proof/Machine/Otp.lean ====
section
/-!
DEFINITION. Machine/Otp.lean: the one-time-programmable memory (R525–R539): array, redirection, regions, counters,
sensing, the programming of words by attempts, and the `OTP` commands.
-/
namespace Sys2Proof.Machine

/-- The bitwise majority of three words. -/
def maj3 (a b c : Nat) : Nat := (a &&& b) ||| (a &&& c) ||| (b &&& c)

/-- A word of the array at a place (`OtpStep`). -/
def Otp.cell (o : Otp) (place : Nat) : Nat := o.cells.get place 0

/-- The place of copy `k` of redirection entry `e`. -/
def entryPlace (e k : Nat) : Nat := 0x2_0000 + 3 * e + k

/-- The place of word `p` of spare row `e`. -/
def sparePlace (e p : Nat) : Nat := 0x1_0000 + 8 * e + p

/-- Redirection entry `e` as it reads (R525). -/
def Otp.entry (o : Otp) (e : Nat) : Nat := maj3 (o.cell (entryPlace e 0)) (o.cell (entryPlace e 1)) (o.cell (entryPlace e 2))

/-- Entry `e` is used and names row `r`. -/
def Otp.names (o : Otp) (r e : Nat) : Bool := bit (o.entry e) 31 && o.entry e % 256 == r

/-- The place from which word `w` is read: the spare row of the highest-numbered used entry that names its row, or its
own cells (R525). -/
def Otp.place (o : Otp) (w : Nat) : Nat :=
  match ((List.range 16).filter fun e => o.names (w / 8) e).getLast? with
  | some e => sparePlace e (w % 8)
  | none => w

/-- Entry `e`'s three copies are all zero (R525). -/
def Otp.entryFree (o : Otp) (e : Nat) : Bool := (List.range 3).all fun k => o.cell (entryPlace e k) == 0

/-- The lowest free entry not below `from_`. -/
def Otp.freeEntry (o : Otp) (from_ : Nat) : Option Nat := (List.range 16).find? fun e => decide (from_ ≤ e) && o.entryFree e

/-! ## Regions (R526, R527) -/

/-- First word and number of words of a region (R526). -/
def regionSpan (r : Nat) : Nat × Nat :=
  if r = 0 then (0, 128) else if r = 1 then (128, 16) else if r = 2 then (144, 16)
  else if r = 19 then (448, 64) else (160 + 16 * (r - 3), 16)

/-- The region of a word; `none` for counters and reserved words (R526). -/
def regionOf (w : Nat) : Option Nat := (List.range 20).find? fun r => decide ((regionSpan r).1 ≤ w ∧ w < (regionSpan r).1 + (regionSpan r).2)

/-- The seal word of a region. -/
def sealWord (r : Nat) : Nat := (regionSpan r).1 + (regionSpan r).2 - 2

/-- The check word of a region. -/
def checkWord (r : Nat) : Nat := (regionSpan r).1 + (regionSpan r).2 - 1

/-- A sealed region's seal word. -/
def sealValue : Nat := 0x5EA1_0001

/-- A shadow word (R530); reserved words read 0. -/
def Otp.sh (o : Otp) (w : Nat) : Nat := o.shadow.get w 0

/-- The CRC of a region's data words, by the shadows (R527). -/
def Otp.regionCrc (o : Otp) (r : Nat) : Nat :=
  crc32 ((List.range ((regionSpan r).2 - 2)).flatMap fun k => leBytes 4 (o.sh ((regionSpan r).1 + k)))

/-- A region's state by the shadows: 0 open, 1 sealed, 2 failed (R527). -/
def Otp.regionState (o : Otp) (r : Nat) : Nat :=
  if o.sh (sealWord r) = 0 then 0
  else if o.sh (sealWord r) = sealValue ∧ o.sh (checkWord r) = o.regionCrc r then 1
  else 2

/-- The region is open (neither sealed nor failed), as last judged. -/
def Dev.regionOpen (d : Dev) (r : Nat) : Bool := !bit (d.get OTP_SEALED_sealed) r && !bit (d.get OTP_FAILED_failed) r

/-! ## Counters and key slots (R528, R529) -/

/-- Number of consecutive set bits from bit 0. -/
def runOfOnes : Nat → Nat → Nat
  | 0, _ => 0
  | n + 1, m => if m % 2 = 1 then 1 + runOfOnes n (m / 2) else 0

/-- A counter's value (R529). -/
def Otp.counter (o : Otp) (c : Nat) : Nat :=
  runOfOnes 32 (maj3 (o.sh (416 + 3 * c)) (o.sh (417 + 3 * c)) (o.sh (418 + 3 * c)))

/-- A holder's generation (R529). -/
def Otp.generation (o : Otp) (h : Nat) : Nat := min (o.counter h) 7

/-- The hash in key slot (h, g) as consumers read it: zero unless its region is sealed, zero above generation 7
(R527–R529, R533). First byte most significant. -/
def Dev.keyHash (d : Dev) (h g : Nat) : Nat :=
  if g < 8 ∧ bit (d.get OTP_SEALED_sealed) (3 + 8 * h + g) then
    (List.range 48).foldl (fun (a i : Nat) => a * 256 + bits (d.otp.sh (160 + 16 * (8 * h + g) + i / 4)) (8 * (i % 4)) 8) 0
  else 0

/-- The hash of a holder's current (slot 0) or next (slot 1) key. -/
def Dev.holderHash (d : Dev) (h slot : Nat) : Nat := d.keyHash h (d.otp.generation h + slot)

/-- Values from `OPTIONS` in use, with the restrictive defaults (R530, R533). -/
def Dev.optWord (d : Dev) (w : Nat) : Nat :=
  if d.flag OTP_STATUS_restrictive then (if w = 128 then 5 else 0) else d.otp.inUse.get w 0

/-- Values from `FACTORY` in use. -/
def Dev.factoryWord (d : Dev) (w : Nat) : Nat := d.otp.inUse.get w 0

/-- The registers that show counters, key slots and the claim (R89, R367, R534, R539). -/
def Dev.otpShow (d : Dev) : Dev :=
  let o := d.otp
  let d := each (List.range 8) (fun c d => (d : Dev).put OTP_COUNTER_value (o.counter c) c) d
  let d := d.putB OTP_STATUS_unclaimed (d.regionOpen 3 || d.regionOpen 11)
  let slot (h s : Nat) : Nat := b2n (d.holderHash h s != 0)
  let d := d.put CUS_KEY_SLOTS_programmed (slot 0 0 + 2 * slot 0 1 + 4 * slot 1 0 + 8 * slot 1 1)
  (d.put LDG_KEY_GEN_gen_a (o.generation 0)).put LDG_KEY_GEN_gen_b (o.generation 1)

/-- The registers that show the redirection table (R525, R539). -/
def Dev.redirShow (d : Dev) : Dev :=
  let o := d.otp
  let d := each (List.range 16) (fun e d =>
    ((d : Dev).put OTP_REDIR_used (o.entry e / 2 ^ 31) e).put OTP_REDIR_row (o.entry e % 256) e) d
  d.put OTP_STATUS_spares_used
    ((List.range 16).filter fun e => (List.range 3).any fun k => bit (o.cell (entryPlace e k)) 31).length

/-! ## Sensing (R530) -/

/-- A sense: every shadow and region state is taken from the array (R527, R530). -/
def Dev.sense (d : Dev) : Dev :=
  let o := d.otp
  let sh := (List.range 512).foldl (fun (m : SMap Nat) w =>
    let v := if 440 ≤ w ∧ w < 448 then 0 else o.cell (o.place w)
    if v = 0 then m else m ++ [(w, v)]) []
  let o := { o with shadow := sh }
  let d := { d with otp := o }
  let states (k : Nat) : Nat := ((List.range 20).filter fun r => o.regionState r == k).foldl (fun (a r : Nat) => a + 2 ^ r) 0
  let d := (d.put OTP_SEALED_sealed (states 1)).put OTP_FAILED_failed (states 2)
  let differ (p : Nat) (k : Nat) : Bool := o.cell p != o.cell (p + 1) || o.cell p != o.cell (p + k)
  let redir := ((List.range 16).filter fun e => differ (entryPlace e 0) 2).foldl (fun (a e : Nat) => a + 2 ^ e) 0
  let ctr := ((List.range 8).filter fun c =>
    o.sh (416 + 3 * c) != o.sh (417 + 3 * c) || o.sh (416 + 3 * c) != o.sh (418 + 3 * c)).foldl (fun (a c : Nat) => a + 2 ^ c) 0
  let d := (d.put OTP_DISAGREE_redir redir).put OTP_DISAGREE_counter ctr
  ((d.redirShow).otpShow.bumpS OTP_SENSES_count OTP_SENSES_sat).pageIrq 0x00E 0

/-- The cold-start sense: `FACTORY` and `OPTIONS` are taken into use, and the restrictive defaults are judged (R530, R532). -/
def Dev.coldSense (d : Dev) : Dev :=
  let d := d.sense
  let failed := bitList 20 (d.get OTP_FAILED_failed)
  let restrictive := !failed.isEmpty || d.regionOpen 0 || d.regionOpen 1
  let use := d.otp.shadow.filter fun e =>
    (decide (e.1 < 128) && !d.regionOpen 0) || (decide (128 ≤ e.1 ∧ e.1 < 144) && bit (d.get OTP_SEALED_sealed) 1)
  ({ d with otp := { d.otp with inUse := use } }).putB OTP_STATUS_restrictive restrictive

/-- Each failed region raises its fault (R532). -/
def Dev.otpFaults (d : Dev) : Dev :=
  each (bitList 20 (d.get OTP_FAILED_failed)) (fun r (d : Dev) => d.raise F_OTP_REGION_CRC 0x00E r) d

/-! ## Commands (R534–R538) -/

/-- Is the work a command of R535–R538? -/
def OtpWork.isCommand (w : OtpWork) : Bool := decide (1 ≤ w.kind ∧ w.kind ≤ 4)

/-- All work accepted and not ended. -/
def Otp.open_ (o : Otp) : List OtpWork := (match o.job with | some j => [j.work] | none => []) ++ o.work

/-- The `OTP_STATUS` bits that follow from the work (R530, R531). -/
def Dev.otpBusy (d : Dev) : Dev :=
  let ws := d.otp.open_
  (d.putB OTP_STATUS_sensing (ws.any fun w => w.kind == 4)).putB OTP_STATUS_busy (ws.any fun w => w.isCommand)

/-- Work is accepted or falls due: the block switches D04 on (R531). -/
def Dev.otpQueue (d : Dev) (w : OtpWork) : Dev :=
  ({ d with otp := { d.otp with work := d.otp.work ++ [w], d04 := true, ended := false } }).otpBusy

/-- The channel lacks the privilege (R534). -/
def Dev.otpDenied (d : Dev) (c : Cmd) : Bool := !d.flag OTP_STATUS_unclaimed && d.denies c scopeOTP

/-- BUSY of R534: a sense runs, or another of these commands is open. -/
def Dev.otpIsBusy (d : Dev) : Bool := d.otp.open_.any fun w => w.isCommand

/-- A sense is running or due: refuses another `SENSE`. -/
def Dev.otpSensing (d : Dev) : Bool := d.otp.open_.any fun w => w.kind == 4

/-- A word `PROGRAM` may not name (R535). -/
def otpForbidden (w : Nat) : Bool :=
  match regionOf w with
  | none => true
  | some r => r == 2 || w == sealWord r || w == checkWord r

/-- A word's region is open. -/
def Dev.wordOpen (d : Dev) (w : Nat) : Bool := d.regionOpen ((regionOf w).getD 0)

/-- `PROGRAM` (R535). -/
def otpProgram : CmdDef where
  verdict _ c d :=
    let w := d.get OTP_ADDR_word c.ch
    { Verdict.ok with
      denied := d.otpDenied c
      badArg := c.arg != 0 || otpForbidden w
      badState := d.flag OTP_STATUS_restrictive || !d.wordOpen w || maskOff (d.otp.sh w) (d.get OTP_DATA_data c.ch) != 0
      busy := d.otpIsBusy
      priv := true }
  effect _ c n d :=
    let w := d.get OTP_ADDR_word c.ch
    let v := d.get OTP_DATA_data c.ch
    if d.otp.sh w = v then (((d.ticketDetail n 0).put OTP_STATUS_attempts_last 0).done n).pageIrq 0x00E 1
    else d.otpQueue ⟨1, w, v, n⟩

/-- `SEAL` (R537). -/
def otpSeal : CmdDef where
  verdict _ c d :=
    let r := c.arg
    { Verdict.ok with
      denied := d.otpDenied c
      badArg := decide (20 ≤ r) || r == 2
      badState := d.flag OTP_STATUS_restrictive || !d.regionOpen r || maskOff (d.otp.sh (checkWord r)) (d.otp.regionCrc r) != 0
      busy := d.otpIsBusy
      priv := true }
  effect _ c n d := d.otpQueue ⟨2, c.arg, d.otp.regionCrc c.arg, n⟩

/-- `INCREMENT` (R538). -/
def otpIncrement : CmdDef where
  verdict _ c d :=
    { Verdict.ok with
      denied := d.otpDenied c
      badArg := decide (c.arg < 2 ∨ 8 ≤ c.arg)
      badState := d.flag OTP_STATUS_restrictive || d.otp.counter c.arg == 32
      busy := d.otpIsBusy
      priv := true }
  effect _ c n d := d.otpQueue ⟨3, c.arg, 0, n⟩

/-- `SENSE` (R538, R540): needs no privilege; while a command is open it waits for it. -/
def otpSense : CmdDef where
  verdict _ c d := { Verdict.ok with badArg := c.arg != 0, busy := d.otpSensing, priv := true }
  effect _ _ n d := d.otpQueue ⟨4, 0, 0, n⟩

/-- `OTP_PROGRAM` (R535). -/
def execOtpProgram (c : Cmd) (s : State) := onDev (fun d => d.cmd 0x00E 1 otpProgram c) s
/-- `OTP_SEAL` (R537). -/
def execOtpSeal (c : Cmd) (s : State) := onDev (fun d => d.cmd 0x00E 2 otpSeal c) s
/-- `OTP_INCREMENT` (R538). -/
def execOtpIncrement (c : Cmd) (s : State) := onDev (fun d => d.cmd 0x00E 3 otpIncrement c) s
/-- `OTP_SENSE` (R538). -/
def execOtpSense (c : Cmd) (s : State) := onDev (fun d => d.cmd 0x00E 4 otpSense c) s

/-! ## The work (R531, R535, R536) -/

/-- A step for a word, at the place from which the word is read. -/
def Otp.stepFor (o : Otp) (w v : Nat) : OtpStep := ⟨o.place w, v, w, 0⟩

/-- The steps of a counter's increment: bit v in copies 0, 1, 2 (R538). -/
def Otp.counterSteps (o : Otp) (c : Nat) : List OtpStep :=
  let v := o.counter c
  (List.range 3).map fun k => o.stepFor (416 + 3 * c + k) (setBit (o.sh (416 + 3 * c + k)) v)

/-- The words of the identity binding region for a device key ID (R335, R528): data, check word, seal word. -/
def Otp.identitySteps (o : Otp) (id : Nat) : List OtpStep :=
  let bytes := (leBytes 48 id).reverse
  let words := (List.range 12).map fun k => leNat ((bytes.drop (4 * k)).take 4)
  let crc := crc32 ((words ++ [0, 0]).flatMap (leBytes 4))
  let data := (List.range 12).map fun k => o.stepFor (144 + k) (words.getD k 0)
  data ++ [o.stepFor 159 crc, o.stepFor 158 sealValue]

/-- The steps of a work. -/
def Otp.steps (o : Otp) (w : OtpWork) : List OtpStep :=
  if w.kind = 1 then [o.stepFor w.arg w.data]
  else if w.kind = 2 then [o.stepFor (checkWord w.arg) w.data, o.stepFor (sealWord w.arg) sealValue]
  else if w.kind = 3 ∨ w.kind = 5 then o.counterSteps w.arg
  else if w.kind = 6 then o.identitySteps w.data
  else []

/-- `OTP_WORK_BEGIN` (R531): D04 is on, and the oldest accepted work begins. -/
def execOtpWorkBegin (s : State) :=
  onDev (fun d =>
    match d.otp.job, d.otp.work with
    | none, w :: rest =>
      let j : OtpJob := ⟨w, (d.otp.steps w).filter fun p => p.value != d.otp.cell p.place, 0, 0, 0, (0, 0)⟩
      ({ d with otp := { d.otp with job := some j, work := rest, d04 := true, ended := false } }).otpBusy
    | _, _ => d) s

/-- What a completed rotation leaves in the ledger: the hash of the retired key (R353, R363). -/
def Dev.rotateRecord (d : Dev) (h session retired : Nat) : Dev :=
  d.record 0x22 0 [⟨24, 1, h⟩, ⟨25, 1, d.otp.generation h⟩, ⟨28, 4, session⟩,
    ⟨32, 48, leNat ((leBytes 48 retired).reverse)⟩]

/-- The work has ended: the shadows' consumers take the change, the ticket closes, and D04 may switch off (R530, R531,
R535). -/
def Dev.otpEnd (d : Dev) (j : OtpJob) (ok : Bool) : Dev :=
  let w := j.work
  let retired := d.keyHash w.arg (d.otp.generation w.arg - 1)
  let d := ({ d with otp := { d.otp with job := none, ended := d.otp.work.isEmpty } }).otpBusy
  let d := if w.kind = 1 then (d.ticketDetail w.ticket j.counted).put OTP_STATUS_attempts_last (min j.counted 255) else d
  let d := if w.kind = 2 ∧ ok then d.put OTP_SEALED_sealed (setBit (d.get OTP_SEALED_sealed) w.arg) else d
  let d := if w.kind = 6 ∧ ok then d.put OTP_SEALED_sealed (setBit (d.get OTP_SEALED_sealed) 2) else d
  let d := d.otpShow
  let d := if w.kind = 5 ∧ ok then d.rotateRecord w.arg w.data retired else d
  if w.ticket = 0 then d
  else ((if ok then d.done w.ticket else d.abandon w.ticket)).pageIrq 0x00E 1

/-- A word's shadow takes a value. -/
def Dev.otpShadow (d : Dev) (w v : Nat) : Dev :=
  if w < 512 then { d with otp := { d.otp with shadow := d.otp.shadow.put w v } } else d

/-- Carry on with the rest of a job's steps. -/
def Dev.otpNext (d : Dev) (j : OtpJob) : Dev :=
  match j.todo with
  | [] => d.otpEnd j true
  | _ :: _ => { d with otp := { d.otp with job := some j } }

/-- The steps that move a row to spare row `e`: each of its non-zero words, one of them with its new value, then the
entry's three copies (R536). -/
def Otp.redirSteps (o : Otp) (row w v e : Nat) : List OtpStep :=
  let words := (List.range 8).filterMap fun p =>
    let a := row * 8 + p
    let x := if a = w then v else o.sh a
    if x = 0 then none else some (⟨sparePlace e p, x, if a = w then w else 4096, row + 1⟩ : OtpStep)
  words ++ (List.range 3).map fun k => ⟨entryPlace e k, 2 ^ 31 + row, 4096, row + 1⟩

/-- A word has failed its nine attempts: redirect its row to the next free entry, or give up (R536). -/
def Dev.otpRedirect (d : Dev) (j : OtpJob) (w v row : Nat) (rest : List OtpStep) : Dev :=
  match d.otp.freeEntry j.entry with
  | some e =>
    { d with otp := { d.otp with
      job := some { j with todo := (d.otp.redirSteps row w v e) ++ rest, tries := 0, entry := e + 1, target := (w, v) } } }
  | none => (((d.redirShow).otpShadow w (d.otp.cell (d.otp.place w))).otpEnd j false).raise F_OTP_SPARES_GONE 0x00E 0

/-- An attempt has been made on the first step: the bits `set_` of those to be set have been set, and the word is read
back (R535, R536). -/
def Dev.otpAttempt (d : Dev) (j : OtpJob) (p : OtpStep) (rest : List OtpStep) (set_ : Nat) : Dev :=
  let now := d.otp.cell p.place ||| (p.value &&& set_)
  let d := { d with otp := { d.otp with cells := d.otp.cells.put p.place now } }
  let j := { j with tries := j.tries + 1, counted := if p.word = j.work.arg ∧ j.work.kind = 1 then j.counted + 1 else j.counted }
  if now = p.value then
    let d := if p.redir = 0 then d.otpShadow p.word p.value else d
    let d := if p.redir = 0 ∧ 416 ≤ p.word ∧ p.word < 440 then d.otpShow else d
    let ended := p.redir != 0 && (rest.all fun q => q.redir != p.redir)
    let d :=
      if ended then
        let row := p.redir - 1
        let d := each (List.range 8) (fun k d =>
          (d : Dev).otpShadow (row * 8 + k) (d.otp.cell (sparePlace (j.entry - 1) k))) d
        (d.redirShow.raise F_OTP_SPARED 0x00E 0).pageIrq 0x00E 2
      else d
    let todo := if ended then rest.map fun q => if q.word / 8 = p.redir - 1 then d.otp.stepFor q.word q.value else q else rest
    d.otpNext { j with todo := todo, tries := 0, entry := if ended then 0 else j.entry }
  else if j.tries < 9 then { d with otp := { d.otp with job := some j } }
  else
    let row := if p.redir = 0 then p.word / 8 else p.redir - 1
    let (w, v) := if p.redir = 0 then (p.word, p.value) else j.target
    d.otpRedirect j w v row (rest.filter fun q => q.redir == 0)

/-- `OTP_ATTEMPT` (R535): an attempt on the word in progress completes; the operand says which bits it set. -/
def execOtpAttempt (set_ : Nat) (s : State) :=
  onDev (fun d =>
    match d.otp.job with
    | some j =>
      if j.work.kind = 4 then d
      else match j.todo with
        | p :: rest => d.otpAttempt j p rest set_
        | [] => d.otpEnd j true
    | none => d) s

/-- `SENSE_END` (R530). -/
def execSenseEnd (s : State) :=
  onDev (fun d =>
    match d.otp.job with
    | some j => if j.work.kind = 4 then d.sense.otpEnd j true else d
    | none => d) s

/-- The array as an attempt cut by the loss of power leaves it: the word in progress holds some of its bits (R540). -/
def Dev.otpCut (d : Dev) : Dev :=
  match d.otp.job with
  | some j =>
    match j.todo with
    | p :: _ =>
      let (r, d) := d.free
      { d with otp := { d.otp with cells := d.otp.cells.put p.place (d.otp.cell p.place ||| (p.value &&& r)) } }
    | [] => d
  | none => d

/-- `D04_OFF` (R531): 1 ms after its work ended, the block lets D04 go. -/
def execD04Off (s : State) :=
  onDev (fun d =>
    if d.otp.job.isNone && d.otp.work.isEmpty then { d with otp := { d.otp with d04 := false, ended := false } } else d) s

end Sys2Proof.Machine
end

