-- ==== Sys2Proof/Machine/Custody.lean ====
section
/-!
DEFINITION. Machine/Custody.lean: custody sessions (R82–R89): nonces, sign-in and its verification, opening, closing
and expiry, key rotation (R363), and the island's entropy (R335).
-/
namespace Sys2Proof.Machine

/-- Bytes of a channel's mailbox (R89). -/
def Dev.mailbox (d : Dev) (f : Field) (words ch n : Nat) : List Nat :=
  ((List.range words).flatMap fun k => leBytes 4 (d.get f (ch * words + k))).take n

/-- A custody request's parts (R85). -/
structure CusReq where
  format : Nat
  holder : Nat
  slot : Nat
  scope : Nat
  duration : Nat
  channel : Nat
  nonce : List Nat
  deviceId : List Nat
  deriving DecidableEq, Repr

/-- Parse the 96 bytes of a request. -/
def cusParse (b : List Nat) : CusReq :=
  { format := leNat (b.take 2), holder := b.getD 2 0, slot := b.getD 3 0, scope := leNat ((b.drop 4).take 4),
    duration := leNat ((b.drop 8).take 4), channel := b.getD 12 0, nonce := (b.drop 16).take 32,
    deviceId := (b.drop 48).take 48 }

/-- The scope needs both holders' signatures (R83). -/
def needsBoth (scope : Nat) : Bool := scope % 64 / 4 != 0

/-- The holder is verified on the channel. -/
def Dev.holderOk (d : Dev) (ch h : Nat) : Bool :=
  if h = 0 then d.flag CUS_STATUS_holder_a_ok ch else d.flag CUS_STATUS_holder_b_ok ch

/-- The number of a channel's custody state: the host link 0, the service link 1 (R68). -/
def cusCh (c : Cmd) : Bool := decide (c.ch < 2)

/-- A new nonce is drawn; verified signatures are discarded (R86). -/
def Dev.drawNonce (d : Dev) (ch : Nat) : Dev :=
  let v := Config.entropy d.freeCtr 256
  let d := { d with freeCtr := d.freeCtr + 1, isl := { d.isl with nonceDead := d.isl.nonceDead.filter (· != ch) } }
  let d := each (List.range 8) (fun k d => (d : Dev).put CUS_NONCE_nonce (v / 2 ^ (32 * k)) (ch * 8 + k)) d
  (d.cusForget ch).put CUS_STATUS_phase 1 ch

/-- `NONCE` (R86): waits for entropy while the TRNG health tests fail (R335). -/
def cusNonce : CmdDef where
  verdict _ c d :=
    { Verdict.ok with
      badArg := c.arg != 0 || !cusCh c
      badState := d.custodyOff || d.get CUS_STATUS_phase c.ch == 3
      busy := d.flag CUS_STATUS_verify_busy c.ch }
  effect _ c n d :=
    if d.flag LDG_STATUS_trng_ok then (d.drawNonce c.ch).done n
    else { d with isl := { d.isl with entropyWait := d.isl.entropyWait ++ [(c.ch, n)] } }

/-! ## The identity (R335, R337) -/

/-- The key and its ID are shown (R367). -/
def Dev.showKey (d : Dev) (pub id : Nat) : Dev :=
  let b := beBytes 97 pub ++ [0, 0, 0]
  let d := each (List.range 25) (fun k (d : Dev) => d.put LDG_DEVKEY_data (leNat ((b.drop (4 * k)).take 4)) k) d
  each (List.range 12) (fun k (d : Dev) => d.put LDG_DEVKEY_ID_data (leNat (((beBytes 48 id).drop (4 * k)).take 4)) k) d

/-- The private key is in use (R337). -/
def Dev.useKey (d : Dev) (k : Nat) : Dev :=
  let pub := Config.publicKey k
  let d := d.showKey pub (Config.sha384 (beBytes 97 pub))
  { d.put LDG_STATUS_ident_ok 1 with isl := { d.isl with priv := k } }

/-- The identity is generated: drawn, wrapped, recorded as `GENESIS`, and its hash handed to the OTP block (R335). -/
def Dev.identityMake (d : Dev) : Dev :=
  let k := Config.entropy d.freeCtr 384
  let d := { d with freeCtr := d.freeCtr + 1 }
  let d := { d with isl := { d.isl with wrapped := Config.wrapKey k, hasWrapped := true } }
  let id := Config.sha384 (beBytes 97 (Config.publicKey k))
  ((d.useKey k).record 0x00 0 [hashPart 24 id]).otpQueue ⟨6, 0, id, 0⟩

/-- The device key ID that the binding region holds (R335, R528). -/
def Dev.boundId (d : Dev) : Nat :=
  (List.range 48).foldl (fun (a i : Nat) => a * 256 + bits (d.otp.sh (144 + i / 4)) (8 * (i % 4)) 8) 0

/-- The island unwraps its key and compares it with the binding region (R337). -/
def Dev.identityCheck (d : Dev) : Dev :=
  match (if d.isl.hasWrapped then Config.unwrapKey d.isl.wrapped else none) with
  | some k => if Config.sha384 (beBytes 97 (Config.publicKey k)) = d.boundId then d.useKey k else d
  | none => d

/-- The `START` record of a boot (R353); what the previous boot's `SHUTDOWN` was is then forgotten. -/
def Dev.startRecord (d : Dev) : Dev :=
  let last := if d.ldg.lastShutdown = 0 then seqNone else d.ldg.lastShutdown - 1
  let flags := b2n (d.flag LDG_STATUS_ident_ok) + 2 * b2n (d.flag RTC_STATUS_osc_stopped) + 4 * b2n (d.flag OTP_STATUS_restrictive)
  let d := d.record 0x01 0 [⟨24, 4, d.get LDG_BOOT_count⟩, ⟨28, 1, flags⟩, ⟨32, 8, last⟩]
  { d with ldg := { d.ldg with lastShutdown := 0 } }

/-- An operation that has waited for entropy: a channel's `NONCE`, or, as channel 2, the identity with its `GENESIS` and the `START` behind it,
which go before every record that waits (R335, R353). -/
def Dev.entropyServe (d : Dev) (w : Nat × Nat) : Dev :=
  if w.1 = 2 then
    let later := d.ldg.queue
    let d := { d with ldg := { d.ldg with queue := [] } }.identityMake.startRecord
    { d with ldg := { d.ldg with queue := d.ldg.queue ++ later } }
  else (d.drawNonce w.1).done w.2

/-- `TRNG_HEALTH_TESTS_PASS` (R335): operations that wait for entropy proceed. -/
def execTrngHealthTestsPass (s : State) :=
  onDev (fun d =>
    if !d.railGood 1 then d
    else
      let waits := d.isl.entropyWait
      let d := { d.put LDG_STATUS_trng_ok 1 with isl := { d.isl with entropyWait := [] } }
      each waits (fun w (d : Dev) => d.entropyServe w) d) s

/-- The request in a channel's mailbox. -/
def Dev.cusRequest (d : Dev) (ch : Nat) : CusReq := cusParse (d.mailbox CUS_MAILBOX_REQ_data 24 ch 96)

/-- Rotations of a holder that have been accepted and still run in the OTP block. -/
def Dev.rotating (d : Dev) (h : Nat) : Nat :=
  ((d.otp.work ++ (d.otp.job.map (·.work)).toList).filter fun w => w.kind == 5 && w.arg == h).length

/-- The key hash that a `SIGN_IN` of this moment is checked against: a `ROTATE` accepted before it counts (R371). -/
def Dev.arrivalHash (d : Dev) (h slot : Nat) : Nat := d.holderHash h (slot + d.rotating h)

/-- `SIGN_IN` (R86, R87): the mailbox is taken as it stands at the command. Bytes 13–15 of the request, which R85 gives as zero, are
not judged: the signature covers them (DESIGN CHOICE, assumption 25). -/
def signIn : CmdDef where
  verdict _ c d :=
    let r := d.cusRequest c.ch
    let ph := d.get CUS_STATUS_phase c.ch
    { Verdict.ok with
      badArg := c.arg != 0 || !cusCh c || decide (64 ≤ r.scope) || r.duration == 0 || decide (28_800 < r.duration) ||
        decide (2 ≤ r.slot) || decide (2 ≤ r.holder) || r.format != 1
      badState := d.custodyOff || !(ph == 1 || ph == 2) || d.holderOk c.ch r.holder || decide (c.ch ∈ d.isl.nonceDead)
      busy := d.flag CUS_STATUS_lockout c.ch || d.flag CUS_STATUS_verify_busy c.ch
      makesRecord := true }
  effect _ c n d :=
    let data := d.mailbox CUS_MAILBOX_REQ_data 24 c.ch 96 ++ d.mailbox CUS_MAILBOX_KEY_data 25 c.ch 97 ++
      d.mailbox CUS_MAILBOX_SIG_data 24 c.ch 96
    let r := d.cusRequest c.ch
    let job : SigJob := ⟨1, c.ch, d.arrivalHash r.holder r.slot, n, data⟩
    { d.put CUS_STATUS_verify_busy 1 c.ch with
      isl := { d.isl with signIns := d.isl.signIns ++ [job] } }.engineNext

/-- A number of big-endian bytes. -/
def beNat (b : List Nat) : Nat := leNat b.reverse

/-- The device key ID (R335). -/
def Dev.deviceKeyId (d : Dev) : Nat :=
  beNat ((List.range 12).flatMap fun k => leBytes 4 (d.get LDG_DEVKEY_ID_data k))

/-- The first failed check of a `SIGN_IN`, in R87's order; 0 for none. `hash` is the key hash of its arrival (R371). -/
def Dev.signInError (d : Dev) (ch hash : Nat) (data : List Nat) : Nat :=
  let r := cusParse data
  let key := (data.drop 96).take 97
  let sig := (data.drop 193).take 96
  let nonce := (List.range 8).flatMap fun k => leBytes 4 (d.get CUS_NONCE_nonce (ch * 8 + k))
  let other := d.holderOk ch (1 - r.holder)
  if r.nonce != nonce then 1
  else if r.deviceId != beBytes 48 d.deviceKeyId then 2
  else if r.channel != ch then 3
  else if other && (r.scope != d.get CUS_SCOPE_scope ch || r.duration != d.cusDuration.get ch 0) then 4
  else if hash = 0 || Config.sha384 key != hash then 5
  else if !Config.ecdsaVerify (beNat key) (Config.sha384 (data.take 96)) (beNat sig) then 6
  else 0

/-- The `SESSION` record of a `SIGN_IN` (events 1 and 2, R353). -/
def Dev.signInRecord (d : Dev) (ch err : Nat) (data : List Nat) : Dev :=
  let r := cusParse data
  d.record 0x21 0 [⟨24, 1, if err = 0 then 1 else 2⟩, ⟨25, 1, err⟩, ⟨26, 1, r.holder⟩, ⟨27, 1, r.slot⟩, ⟨28, 1, ch⟩,
    ⟨32, 4, d.isl.sessions.get ch 0⟩, ⟨36, 4, r.scope⟩, ⟨40, 4, r.duration⟩,
    ⟨44, 32, leNat ((beBytes 48 (Config.sha384 ((data.drop 96).take 97))).take 32)⟩]

/-- A verified signature is taken (R86). -/
def Dev.signInPass (d : Dev) (ch : Nat) (r : CusReq) : Dev :=
  let d := if r.holder = 0 then d.put CUS_STATUS_holder_a_ok 1 ch else d.put CUS_STATUS_holder_b_ok 1 ch
  let d := ((d.put CUS_SCOPE_scope r.scope ch).putB CUS_STATUS_both_required (needsBoth r.scope) ch).put CUS_STATUS_phase 2 ch
  let old := if d.holderOk ch (1 - r.holder) then d.cusSlots.get ch 0 else 0
  { d with
    cusSlots := d.cusSlots.put ch (clrBit old r.holder + r.slot * 2 ^ r.holder)
    cusDuration := d.cusDuration.put ch r.duration }

/-- A failed check discards every verified signature (R87). -/
def Dev.signInFail (d : Dev) (ch : Nat) : Dev :=
  (((d.cusForget ch).put CUS_STATUS_phase 0 ch).put CUS_STATUS_lockout 1 ch).raise F_SIGN_IN_FAIL 0x002 0

/-- `SIGN_IN_VERIFY_DONE` (R87): the engine finishes the verification it runs. -/
def execSignInVerifyDone (s : State) :=
  onDev (fun d =>
    if d.isl.current != 2 then d
    else match d.isl.signIns with
      | [] => d.engineFree
      | j :: rest =>
        let d := { d.put CUS_STATUS_verify_busy 0 j.ch with isl := { d.isl with signIns := rest } }
        let e := d.signInError j.ch j.unit j.data
        let d := (d.put CUS_STATUS_last_error e j.ch).signInRecord j.ch e j.data
        let d := if e = 0 then d.signInPass j.ch (cusParse j.data) else d.signInFail j.ch
        (d.done j.ticket).engineFree) s

/-- `OPEN` (R86): a refused one is recorded too (R87). -/
def cusOpen : CmdDef where
  verdict _ c d :=
    let signed := d.get CUS_STATUS_phase c.ch == 2
    { Verdict.ok with
      denied := signed && d.flag CUS_STATUS_both_required c.ch && !(d.holderOk c.ch 0 && d.holderOk c.ch 1)
      badArg := c.arg != 0 || !cusCh c
      badState := d.custodyOff || !signed || d.flag OTP_STATUS_restrictive
      busy := d.flag CUS_STATUS_verify_busy c.ch
      makesRecord := true }
  effect _ c n d :=
    let id := d.get CUS_SESSION_ID_id + 1
    let d := (d.put CUS_SESSION_ID_id id).put CUS_STATUS_phase 3 c.ch
    let d := { d with isl := { d.isl with
      sessions := d.isl.sessions.put c.ch (d.get CUS_SESSION_ID_id), opened := d.isl.opened.put c.ch d.tick } }
    let d := d.put CUS_REMAIN_seconds (d.cusDuration.get c.ch 0) c.ch
    ((d.record 0x21 0 (d.sessionBody c.ch 3 0)).irqEdge 138).done n
  refused _ c d := if cusCh c then d.record 0x21 0 (d.sessionBody c.ch 4 0) else d

/-- `CLOSE` (R86, R88). -/
def cusClose : CmdDef where
  verdict _ c d :=
    { Verdict.ok with
      badArg := c.arg != 0 || !cusCh c
      badState := d.get CUS_STATUS_phase c.ch != 3
      busy := d.flag CUS_STATUS_verify_busy c.ch }
  effect _ c n d := (d.closeSession c.ch 1).done n

/-- `ROTATE` (R363): waits while an OTP sense or command runs (R540). -/
def rotate : CmdDef where
  verdict _ c d :=
    let h := c.arg % 2
    { Verdict.ok with
      denied := d.denies c scopeCUSTODY
      badArg := decide (2 ≤ c.arg)
      badState := d.holderHash h 1 == 0 || d.otp.generation h == 7
      busy := cusCh c && d.flag CUS_STATUS_verify_busy c.ch
      priv := true
      makesRecord := true }
  effect _ c n d := d.otpQueue ⟨5, c.arg % 2, d.isl.sessions.get c.ch 0, n⟩

/-- `CUS_NONCE` (R86). -/
def execCusNonce (c : Cmd) (s : State) := onDev (fun d => d.cmd 0x002 1 cusNonce c) s
/-- `SIGN_IN` (R87). -/
def execSignIn (c : Cmd) (s : State) := onDev (fun d => d.cmd 0x002 2 signIn c) s
/-- `CUS_OPEN` (R86). -/
def execCusOpen (c : Cmd) (s : State) := onDev (fun d => d.cmd 0x002 3 cusOpen c) s
/-- `CUS_CLOSE` (R86). -/
def execCusClose (c : Cmd) (s : State) := onDev (fun d => d.cmd 0x002 4 cusClose c) s
/-- `ROTATE` (R363). -/
def execCusRotate (c : Cmd) (s : State) := onDev (fun d => d.cmd 0x002 5 rotate c) s

/-- `SESSION_EXPIRY` (R88): the channel's duration has expired in RTC ticks. -/
def execSessionExpiry (ch : Nat) (s : State) :=
  onDev (fun d =>
    if decide (d.isl.opened.get ch 0 + d.get CUS_REMAIN_seconds ch * 32_768 ≤ d.tick) then d.closeSession ch 2 else d) s

/-- `NONCE_EXPIRY` (R86): 600 s have passed since the channel's nonce was issued. -/
def execNonceExpiry (ch : Nat) (s : State) :=
  onDev (fun d => if ch ∈ d.isl.nonceDead then d else
    { d with isl := { d.isl with nonceDead := d.isl.nonceDead ++ [ch] } }) s

/-- `LOCKOUT_EXPIRY` (R89). -/
def execLockoutExpiry (ch : Nat) (s : State) := onDev (fun d => d.put CUS_STATUS_lockout 0 ch) s

/-- A new epoch: both channels' sessions close and their nonces expire (R86, R88). -/
def Dev.cusNewEpoch (d : Dev) : Dev :=
  { ((d.closeSession 0 3).closeSession 1 3) with isl := { d.isl with nonceDead := [0, 1] } }

end Sys2Proof.Machine
end

