-- ==== Sys2Proof/Machine/Symbols.lean ====
section
/-!
DEFINITION. Machine/Symbols.lean: the symbol code of attached memory (R309–R311, R313): four codewords of ten 16-bit
symbols over GF(2^16) a line, what a read of a burst decodes to, and poison.
-/
namespace Sys2Proof.Machine

/-- Multiplication by α in GF(2^16), x^16 + x^12 + x^3 + x + 1 (R309). -/
def gf16TimesAlpha (a : Nat) : Nat := if a.testBit 15 then ((a * 2) % 65_536) ^^^ 0x100B else (a * 2) % 65_536

/-- Multiplication in GF(2^16). -/
def gf16Mul (a b : Nat) : Nat :=
  ((List.range 16).foldl (fun (acc : Nat × Nat) i =>
    (if b.testBit i then acc.1 ^^^ acc.2 else acc.1, gf16TimesAlpha acc.2)) (0, a % 65_536)).1

/-- α^n. -/
def gf16Pow : Nat → Nat
  | 0 => 1
  | n + 1 => gf16TimesAlpha (gf16Pow n)

/-- The inverse of α^8 + α^9. -/
def gf16CheckInv : Nat := 0x75D3

/-- Sum of symbols. -/
def xorAll (l : List Nat) : Nat := l.foldl (fun (a b : Nat) => a ^^^ b) 0

/-- S0 of a codeword (R309). -/
def synd0 (s : List Nat) : Nat := xorAll s

/-- S1 of a codeword (R309). -/
def synd1 (s : List Nat) : Nat := xorAll ((List.range s.length).map fun k => gf16Mul (s.getD k 0) (gf16Pow k))

/-- The pair (e8, e9) with e8 + e9 = a and e8 × α^8 + e9 × α^9 = b. -/
def checkPair (a b : Nat) : List Nat :=
  let e9 := gf16Mul (b ^^^ gf16Mul a (gf16Pow 8)) gf16CheckInv
  [a ^^^ e9, e9]

/-- Codeword j of a line: its eight data symbols and the two check symbols that make S0 = S1 = 0 (R309). -/
def codewordOf (data : List Nat) (j : Nat) : List Nat :=
  let s := (List.range 8).map fun k => data.getD (16 * j + 2 * k) 0 * 256 + data.getD (16 * j + 2 * k + 1) 0
  s ++ checkPair (synd0 s) (synd1 s)

/-- A codeword with the poison pattern added to its check symbols (R311). -/
def poisoned (s : List Nat) : List Nat :=
  (s.take 8) ++ List.zipWith (fun (a b : Nat) => a ^^^ b) (s.drop 8) (checkPair 1 (gf16Pow 16))

/-- The bytes that a line's data symbols hold (R309). -/
def symbolBytes (cws : List (List Nat)) : List Nat := cws.flatMap fun s => (s.take 8).flatMap fun x => [x / 256 % 256, x % 256]

/-- What one codeword reads as (R310). -/
inductive CwRead where
  | clean | blames (k : Nat) | bad
  deriving DecidableEq, Repr

/-- Judge one codeword (R310). -/
def cwRead (s : List Nat) : CwRead :=
  let s0 := synd0 s
  let s1 := synd1 s
  if s0 = 0 ∧ s1 = 0 then .clean
  else if s0 = 0 ∨ s1 = 0 then .bad
  else match (List.range 10).find? fun k => gf16Mul s0 (gf16Pow k) == s1 with
    | some k => .blames k
    | none => .bad

/-- The codeword with symbol k corrected by S0 (R310, R313). -/
def cwCorrect (s : List Nat) (k : Nat) : List Nat := s.set k (s.getD k 0 ^^^ synd0 s)

/-- What a line reads as (R310, R313). -/
inductive LineRead where
  | clean | corrected (device : Nat) | erased | uncorrectable | poison
  deriving DecidableEq, Repr

/-- A read that delivers its data. -/
def LineRead.good : LineRead → Bool
  | .clean => true
  | .corrected _ => true
  | .erased => true
  | .uncorrectable => false
  | .poison => false

/-- Judge a line without a mark, with its data as corrected (R310). -/
def lineJudge (cws : List (List Nat)) : LineRead × List Nat :=
  let rs := cws.map cwRead
  let ks := rs.filterMap fun r => match r with
    | .blames k => some k
    | _ => none
  if rs.all (· == .clean) then (.clean, symbolBytes cws)
  else if cws.all fun s => synd0 s == 1 && synd1 s == gf16Pow 16 then (.poison, symbolBytes cws)
  else if rs.any (· == .bad) || ks.any (· != ks.headD 0) then (.uncorrectable, symbolBytes cws)
  else
    let k := ks.headD 0
    (.corrected k, symbolBytes (cws.map fun s => if synd0 s = 0 then s else cwCorrect s k))

/-- Judge a line whose (rank, subchannel) has device m marked (R313). -/
def lineErase (m : Nat) (cws : List (List Nat)) : LineRead × List Nat :=
  if cws.any fun s => synd1 s != gf16Mul (synd0 s) (gf16Pow m) then (.uncorrectable, symbolBytes cws)
  else if cws.all fun s => synd0 s == 0 then (.clean, symbolBytes cws)
  else (.erased, symbolBytes (cws.map fun s => cwCorrect s m))

end Sys2Proof.Machine
end

