-- ==== Sys2Proof/Machine/Memory.lean ====
section
/-!
DEFINITION. Machine/Memory.lean: attached memory (chapter 10): training and the map, the valid bits, reads and what
they find, marks and their counters, the ladle, the scourer, and the `MEM` and `MEMC` commands.
-/
namespace Sys2Proof.Machine

/-! ## The byte store of a channel (R306, R314) -/

/-- The byte at a channel address; a byte never written is 0. -/
def memByte (m : List Host.Cell) (a : Nat) : BitVec 8 := SMap.get m a 0

/-- Write a byte; a byte of 0 is not listed, so that equal memories are equal lists. -/
def memSet (m : List Host.Cell) (a : Nat) (v : BitVec 8) : List Host.Cell := if v = 0 then SMap.del m a else SMap.put m a v

/-- Write bytes from an address on. -/
def memSetAll : List Host.Cell → Nat → List Nat → List Host.Cell
  | m, _, [] => m
  | m, a, b :: bs => memSetAll (memSet m a (BitVec.ofNat 8 b)) (a + 1) bs

/-- Bytes `lo` to `hi - 1` return to 0. -/
def memWipe (m : List Host.Cell) (lo hi : Nat) : List Host.Cell := m.filter fun e => !(decide (lo ≤ e.1) && decide (e.1 < hi))

/-- The canonical form: addresses strictly rising, no byte of 0 listed. -/
abbrev Memory.wf (m : List Host.Cell) : Prop := SMap.wf m = true ∧ ∀ e ∈ m, e.2 ≠ 0

/-- `n` bytes from an address on. -/
def memBytes (m : List Host.Cell) (a n : Nat) : List Nat := (List.range n).map fun k => (memByte m (a + k)).toNat

/-! ## The map (R305–R307) -/

/-- A channel's hidden state. -/
def Dev.memChan (d : Dev) (c : Nat) : MemChan := d.mem.chans.get c MemChan.init

/-- Write a channel's hidden state. -/
def Dev.putMemChan (d : Dev) (c : Nat) (x : MemChan) : Dev := { d with mem := { d.mem with chans := d.mem.chans.put c x } }

/-- N. -/
def Dev.memN (d : Dev) : Nat := d.get MEM_STATUS_channels

/-- C in bytes: the capacity of channel 0. -/
def Dev.memC (d : Dev) : Nat := d.get MEMC_STATUS_capacity 0 * 2 ^ 30

/-- Where a channel's bitmaps begin (R306). -/
def Dev.memBitmaps (d : Dev) : Nat := d.memC * 511 / 512

/-- The usable size U in bytes (R306). -/
def Dev.memU (d : Dev) : Nat := d.memN * d.memC * 511 / 512

/-- The channel and its line of a system line (R306). -/
def Dev.memLocate (d : Dev) (line : Nat) : Nat × Nat := ((line / 2) % d.memN, line / (2 * d.memN) * 2 + line % 2)

/-- The system line of a channel's line. -/
def Dev.memSysLine (d : Dev) (c ln : Nat) : Nat := ln / 2 * (2 * d.memN) + 2 * c + ln % 2

/-- Channel nn qualifies (R305). -/
def Dev.memQualifies (d : Dev) (c : Nat) : Bool :=
  d.railGood (16 + c / 2) && d.flag MEMC_STATUS_present c && d.flag MEMC_STATUS_trained c &&
  d.get MEMC_STATUS_capacity c == d.get MEMC_STATUS_capacity 0 && d.get MEMC_STATUS_ranks c == d.get MEMC_STATUS_ranks 0 &&
  d.get MEMC_STATUS_density c == d.get MEMC_STATUS_density 0 && d.get MEMC_STATUS_rate c == d.get MEMC_STATUS_rate 0

/-- Bit nn: channel nn qualifies. -/
def Dev.memQualified (d : Dev) : Nat := (List.range 16).foldl (fun (n c : Nat) => if d.memQualifies c then setBit n c else n) 0

/-- The largest power of two of channels from 0 on that all qualify; 0 when channel 0 does not (R305). -/
def mapChannels (qualified : Nat) : Nat :=
  ([16, 8, 4, 2, 1].find? fun n => (List.range n).all fun c => bit qualified c).getD 0

/-- A region's start and size in bytes while it is counted (R308): host, state, checkpoint, spectra, flight recorder. -/
def Dev.memRegions (d : Dev) : List (Nat × Nat) :=
  let g := 2 ^ 30
  let est := d.flag PAGE_CTRL_enable 0x17
  [(d.get MEM_HOST_BASE_gib * g, d.get MEM_HOST_SIZE_gib * g),
   (d.get EST_STATE_BASE_gib * g, if est then 5 * 2 ^ 28 else 0),
   (d.get EST_CKPT_BASE_gib * g, if est then 160 * 2 ^ 20 + 256 else 0),
   (d.get IMP_SPECTRA_BASE_gib * g, if d.flag IMP_CFG_spectra_en then 512 * d.get IMP_SPECTRA_CFG_cells * 460_800 else 0),
   (d.get FLR_BASE_gib * g, if d.flag FLR_CFG_en then d.get FLR_SIZE_gib * g else 0)]

/-- Two regions of size above 0 overlap. -/
def regionsMeet (a b : Nat × Nat) : Bool :=
  decide (0 < a.2 ∧ 0 < b.2 ∧ a.1 < b.1 + b.2 ∧ b.1 < a.1 + a.2)

/-- `MEM_OVERLAP` as R308 has it. -/
def Dev.memOverlaps (d : Dev) : Nat :=
  let rs := d.memRegions
  (List.range 5).foldl (fun (n i : Nat) =>
    let a := rs.getD i (0, 0)
    let meets := (List.range 5).any fun j => j != i && regionsMeet a (rs.getD j (0, 0))
    if decide (0 < a.2) && (meets || decide (d.memU < a.1 + a.2)) then setBit n i else n) 0

/-- Judge the regions again; a bit that rises is signalled (R308, R325). -/
def Dev.memJudge (d : Dev) : Dev :=
  let old := d.get MEM_OVERLAP_region
  let new := d.memOverlaps
  let d := d.put MEM_OVERLAP_region new
  if maskOff new old = 0 then d else d.pageIrq 0x018 2

/-- Every filter state goes with the memory map (R307, chapter 20); the lane engines keep their accumulators. What the lease units have
taken of the cells' cycle counts starts again with those counts (R348). -/
def Dev.filtersLost (d : Dev) : Dev :=
  let keep (x : EstCell) : EstCell := { EstCell.init with acc := x.acc, rem := x.rem, accSat := x.accSat, step := x.step }
  { d with
    est := { d.est with cells := d.est.cells.map fun (e : Nat × EstCell) => (e.1, keep e.2) }
    mtr := { d.mtr with efcSeen := [] } }

/-- The map is dissolved (R307): entries and super-valid bits go; `map_lost` is set but under `REMAP`. -/
def Dev.memDissolve (d : Dev) (remap : Bool) : Dev :=
  let clear (x : MemChan) : MemChan := { x with supers := [], damaged := [], ladle := [], cache := [] }
  let d := { d with mem := { d.mem with
    chans := d.mem.chans.map (fun (e : Nat × MemChan) => (e.1, clear e.2)), built := false } }
  let d := each (List.range 16) (fun c (d : Dev) => (d.put MEMC_STATUS_in_map 0 c).put MEMC_VALID_LINES_count 0 c) d
  let d := ((d.filtersLost.put MEM_STATUS_map_valid 0).put MEM_STATUS_channels 0).put MEM_USABLE_mib 0
  let d := if remap then d.put MEM_STATUS_map_lost 0
    else if d.flag MEM_STATUS_map_lost then d
    else (d.put MEM_STATUS_map_lost 1).pageIrq 0x018 1
  d.memJudge

/-- A pair domain of memory is on. -/
def Dev.memPairOn (d : Dev) : Bool := (List.range 8).any fun p => d.railGood (16 + p)

/-- Every channel whose pair domain is on has trained or failed (R305). -/
def Dev.memAllTried (d : Dev) : Bool := (List.range 16).all fun c => !d.railGood (16 + c / 2) || bit d.mem.tried c

/-- The map is built once R305's conditions hold; the scourer's passes begin, and every waiting `REMAP` ticket is done. -/
def Dev.memBuild (d : Dev) : Dev :=
  if d.mem.built || !d.railGood 15 || !d.memPairOn || !d.memAllTried then d
  else
    let n := mapChannels d.memQualified
    let ts := d.mem.remapTkts
    let d := { d with mem := { d.mem with built := true, remapTkts := [] } }
    let d := (d.put MEM_STATUS_qualified d.memQualified).put MEM_STATUS_channels n
    let d := d.put MEM_USABLE_mib (n * d.get MEMC_STATUS_capacity 0 * 1022)
    let d := each (List.range n) (fun c (d : Dev) =>
      ((d.put MEMC_STATUS_in_map 1 c).put MEMC_SCRUB_POS_line 0 c).putMemChan c { d.memChan c with passStart := d.time }) d
    let d := if n = 0 then d else (d.put MEM_STATUS_map_valid 1)
    each ts (fun t (d : Dev) => d.done t) ((d.pageIrq 0x018 0).memJudge)

/-- A qualification changes: a channel of the map that stops qualifying dissolves it (R307). -/
def Dev.memRequalify (d : Dev) : Dev :=
  let d := if d.railGood 15 then d.put MEM_STATUS_qualified d.memQualified else d
  if (List.range 16).any fun c => d.flag MEMC_STATUS_in_map c && !d.memQualifies c then d.memDissolve false else d

/-- The marks stored for a channel's DIMM are applied when the serial number matches, and discarded otherwise (R312). -/
def Dev.memMarks (d : Dev) (c serial : Nat) : Dev :=
  each (List.range 4) (fun q (d : Dev) =>
    let i := c * 4 + q
    if d.flag MEMC_MARK_marked i && d.mem.serials.get i 0 != serial then
      { (d.put MEMC_MARK_marked 0 i).put MEMC_MARK_device 0 i with
        mem := { d.mem with serials := d.mem.serials.del i, seconds := d.mem.seconds.del i, seconded := d.mem.seconded.del i } }
    else d) d

/-- The DIMM is one of R304's. -/
def dimmSupported (x : Dimm) : Bool :=
  x.present && x.rdimm && decide (x.capacity = 32 ∨ x.capacity = 64 ∨ x.capacity = 128) && decide (x.ranks ≤ 1) &&
    decide (x.density ≤ 1) && decide (x.rate ≤ 2)

/-- The highest rate that every DIMM found supports (R304). -/
def Dev.commonRate (d : Dev) : Nat := d.mem.rates.foldl (fun (n : Nat) (e : Nat × Nat) => min n e.2) 2

/-- The channels take the common rate until the map is built; one that trains later trains at the rate common then, which need not be
the map's (R304, R305). -/
def Dev.ratesPut (d : Dev) (c : Nat) : Dev :=
  let r := d.commonRate
  let cs := if d.mem.built then [c] else d.mem.rates.map (·.1)
  each cs (fun k (d : Dev) => d.put MEMC_STATUS_rate r k) d

/-- A channel has trained or failed (R304, R305). -/
def Dev.memTrained (d : Dev) (c : Nat) (x : Dimm) : Dev :=
  if 16 ≤ c ∨ !d.railGood (16 + c / 2) then d
  else
    let ok := dimmSupported x && x.trained
    let rates := if dimmSupported x then d.mem.rates.put c x.rate else d.mem.rates.del c
    let d := { d with mem := { d.mem with tried := setBit d.mem.tried c, rates := rates } }
    let d := (((d.putB MEMC_STATUS_present x.present c).putB MEMC_STATUS_trained ok c).put MEMC_STATUS_capacity x.capacity c).put
      MEMC_STATUS_ranks x.ranks c
    let d := ((d.put MEMC_STATUS_density x.density c).put MEMC_SERIAL_serial x.serial c).ratesPut c
    let d := if ok then d.memMarks c x.serial else d
    d.memRequalify

/-! ## Counters and marks (R310–R313, R327) -/

/-- Count in the counter that has flag `i` of `MEMC_SAT` (R327). -/
def Dev.memCount (d : Dev) (f : Field) (i c : Nat) : Dev :=
  if d.get f c < 0xFFFF_FFFF then d.put f (d.get f c + 1) c
  else if bit (d.get MEMC_SAT_flags c) i then d
  else
    let d := (d.put MEMC_SAT_flags (setBit (d.get MEMC_SAT_flags c) i) c).pageIrq (0x030 + c) 3
    if i = 0 ∨ i = 1 ∨ i = 7 then d.raise F_MEMC_COUNT_SAT (0x030 + c) c else d

/-- The (rank, subchannel) of a channel's line (R312). -/
def Dev.memQ (d : Dev) (c ln : Nat) : Nat :=
  2 * (if d.flag MEMC_STATUS_ranks c then Config.dramRank c ln % 2 else 0) + ln % 2

/-- A device's blame counter (R312). -/
def Dev.blame (d : Dev) (c q k : Nat) : Nat :=
  if k % 2 = 0 then d.get MEMC_BLAME_even (c * 20 + 5 * q + k / 2) else d.get MEMC_BLAME_odd (c * 20 + 5 * q + k / 2)

/-- Write a device's blame counter. -/
def Dev.setBlame (d : Dev) (c q k v : Nat) : Dev :=
  if k % 2 = 0 then d.put MEMC_BLAME_even v (c * 20 + 5 * q + k / 2) else d.put MEMC_BLAME_odd v (c * 20 + 5 * q + k / 2)

/-- A device is marked failed: the mark and the DIMM's serial number stand in the pantry (R312). -/
def Dev.memMark (d : Dev) (c q m : Nat) : Dev :=
  let i := c * 4 + q
  { ((d.put MEMC_MARK_marked 1 i).put MEMC_MARK_device m i).pageIrq (0x030 + c) 2 with
    mem := { d.mem with serials := d.mem.serials.put i (d.get MEMC_SERIAL_serial c), seconds := d.mem.seconds.del i, seconded := d.mem.seconded.del i } }

/-- A counter that has reached thresh marks its device while q has no mark (R312). -/
def Dev.memBlameJudge (d : Dev) (c q : Nat) : Dev :=
  if d.flag MEMC_MARK_marked (c * 4 + q) then d
  else match (List.range 10).find? fun k => decide (d.get MEMC_MARK_CFG_thresh c ≤ d.blame c q k) && d.blame c q k != 0 with
    | some k => (d.memMark c q k).raise F_CHIP_MARKED 0x018 c
    | none => d

/-- `MEMC_LAST_ERR` (R327): lines with a system address; a bitmap line has none. -/
def Dev.memLastErr (d : Dev) (c ln kind device : Nat) : Dev :=
  if d.memBitmaps ≤ ln * 64 then d
  else
    let a := d.memSysLine c ln * 64
    ((((d.put MEMC_LAST_ERR_LO_addr_lo (a % 2 ^ 32) c).put MEMC_LAST_ERR_HI_addr_hi (a / 2 ^ 32) c).put MEMC_LAST_ERR_kind kind c).put
      MEMC_LAST_ERR_q (d.memQ c ln) c).put MEMC_LAST_ERR_device device c

/-- `SECOND_CHIP` is raised once for a mark, when q has reached `second` uncorrectable lines since it (R313). -/
def Dev.memSecondJudge (d : Dev) (c q : Nat) : Dev :=
  let i := c * 4 + q
  if d.flag MEMC_MARK_marked i && !d.mem.seconded.has i && d.mem.seconds.has i &&
      decide (d.get MEMC_MARK_CFG_second c ≤ d.mem.seconds.get i 0) then
    { d with mem := { d.mem with seconded := d.mem.seconded.put i 1 } }.raise F_SECOND_CHIP 0x018 c
  else d

/-- An uncorrectable line counts toward `SECOND_CHIP` while its q has a mark (R313). -/
def Dev.memSecond (d : Dev) (c q : Nat) : Dev :=
  let i := c * 4 + q
  if d.flag MEMC_MARK_marked i then
    { d with mem := { d.mem with seconds := d.mem.seconds.put i (d.mem.seconds.get i 0 + 1) } }.memSecondJudge c q
  else d

/-- A channel's counters are judged against new limits (R312, R313). -/
def Dev.memMarkJudge (d : Dev) (c : Nat) : Dev :=
  each (List.range 4) (fun q (d : Dev) => (d.memBlameJudge c q).memSecondJudge c q) d

/-- What follows from a line's read (R310–R313, R327). -/
def Dev.memNote (d : Dev) (c ln : Nat) (r : LineRead) : Dev :=
  let q := d.memQ c ln
  match r with
  | .clean => d
  | .erased => d.memCount MEMC_ERASE_count 1 c
  | .corrected k =>
    let d := ((d.memCount MEMC_CORR_count 0 c).memLastErr c ln 1 k).pageIrq (0x030 + c) 0
    (d.setBlame c q k (min (d.blame c q k + 1) 0xFFFF)).memBlameJudge c q
  | .uncorrectable =>
    let d := ((d.memCount MEMC_UNCORR_count 2 c).memLastErr c ln 2 0xF).pageIrq (0x030 + c) 1
    (d.memSecond c q).raise F_MEM_UNCORRECTABLE 0x018 c
  | .poison => (d.memCount MEMC_POISON_READS_count 3 c).memLastErr c ln 3 0xF

/-! ## One line in the DRAM -/

/-- A burst as the devices deliver it (R309, R311): the stored line with the errors the DRAM shows. -/
def Dev.memBurst (d : Dev) (c ln : Nat) : List (List Nat) :=
  let x := d.memChan c
  let data := memBytes x.cells (ln * 64) 64
  (List.range 4).map fun j =>
    let s := codewordOf data j
    let s := if x.poison.has ln then poisoned s else s
    (d.mem.errs.filter fun e => e.ch == c && e.line == ln && e.cw == j).foldl
      (fun (s : List Nat) e => s.set e.dev (s.getD e.dev 0 ^^^ (e.xor % 65_536))) s

/-- Read and judge a line, with what follows from it. -/
def Dev.memFetch (d : Dev) (c ln : Nat) : LineRead × List Nat × Dev :=
  let i := c * 4 + d.memQ c ln
  let (r, data) := if d.flag MEMC_MARK_marked i then lineErase (d.get MEMC_MARK_device i) (d.memBurst c ln) else lineJudge (d.memBurst c ln)
  (r, data, d.memNote c ln r)

/-- Store a line, clean or with poison (R309, R311). -/
def Dev.memStore (d : Dev) (c ln : Nat) (data : List Nat) (poison : Bool) : Dev :=
  let x := d.memChan c
  d.putMemChan c { x with
    cells := memSetAll x.cells (ln * 64) data
    poison := if poison then x.poison.put ln 1 else x.poison.del ln }

/-! ## Valid bits (R314, R315) -/

/-- The line's chunk is valid. -/
def Dev.chunkValid (d : Dev) (c ln : Nat) : Bool := (d.memChan c).supers.has (ln / 4096)

/-- The line's bit in the bitmap. -/
def Dev.validBit (d : Dev) (c ln : Nat) : Bool := bit (memByte (d.memChan c).cells (d.memBitmaps + ln / 8)).toNat (ln % 8)

/-- The bitmap line that covers a line is damaged. -/
def Dev.bitmapBad (d : Dev) (c ln : Nat) : Bool := (d.memChan c).damaged.has (ln / 512)

/-- Bitmap line j is lost until a repair: the cache does not hold it. -/
def Dev.bitmapDamage (d : Dev) (c j : Nat) : Dev :=
  let x := d.memChan c
  d.putMemChan c { x with damaged := x.damaged.put j 1, cache := x.cache.filter (· != j) }

/-- What follows from a read of bitmap line j in the DRAM (R315): corrected, it is rewritten clean; uncorrectable or poisoned, its lines
are lost until a repair. -/
def Dev.bitmapNote (d : Dev) (c j : Nat) (r : LineRead) : Dev :=
  match r with
  | .clean => d
  | .erased => d
  | .corrected _ => d.memCount MEMC_HEALED_count 4 c
  | .uncorrectable => d.bitmapDamage c j
  | .poison => (d.raise F_MEM_UNCORRECTABLE 0x018 c).bitmapDamage c j

/-- The cache takes bitmap line j, or holds it as the last one used; the line used longest ago makes room (R314, assumption 15). -/
def Dev.bitmapCache (d : Dev) (c j : Nat) : Dev :=
  let x := d.memChan c
  d.putMemChan c { x with cache := (j :: x.cache.filter (· != j)).take 256 }

/-- The bitmap line that covers a line comes from the cache, else from the DRAM (R314, R315). -/
def Dev.bitmapRead (d : Dev) (c ln : Nat) : Dev :=
  let j := ln / 512
  if d.bitmapBad c ln then d
  else if j ∈ (d.memChan c).cache then d.bitmapCache c j
  else
    let (r, _, d) := d.memFetch c (d.memBitmaps / 64 + j)
    let d := d.bitmapNote c j r
    if d.bitmapBad c ln then d else d.bitmapCache c j

/-- Set a line's valid bit. -/
def Dev.setValid (d : Dev) (c ln : Nat) : Dev :=
  if d.validBit c ln then d
  else
    let x := d.memChan c
    let a := d.memBitmaps + ln / 8
    let b := BitVec.ofNat 8 (setBit (memByte x.cells a).toNat (ln % 8))
    (d.putMemChan c { x with cells := memSet x.cells a b }).put MEMC_VALID_LINES_count (d.get MEMC_VALID_LINES_count c + 1) c

/-- Valid lines that a stretch of a channel's bitmap holds. -/
def countValid (m : List Host.Cell) (lo hi : Nat) : Nat :=
  (m.filter fun e => decide (lo ≤ e.1) && decide (e.1 < hi)).foldl (fun (n : Nat) e => n + popcount 8 e.2.toNat) 0

/-- Repair of the bitmap line that covers `ln` (R315). -/
def Dev.memRepair (d : Dev) (c ln : Nat) : Dev :=
  let x := d.memChan c
  let j := ln / 512
  let a := d.memBitmaps + 64 * j
  let known := countValid x.cells a (a + 64)
  let keep := memBytes x.cells (ln * 64) 64
  let cells := memSetAll (memWipe x.cells (512 * j * 64) (512 * (j + 1) * 64)) (ln * 64) keep
  let poison := (List.range 512).foldl (fun (m : SMap Nat) i => if 512 * j + i = ln then m else m.put (512 * j + i) 1) x.poison
  let d := d.putMemChan c { x with
    cells := memSetAll cells a (List.replicate 64 0xFF), poison := poison, damaged := x.damaged.del j }
  (d.put MEMC_VALID_LINES_count (d.get MEMC_VALID_LINES_count c + 512 - known) c).memCount MEMC_REPAIRS_count 8 c

/-- What a write does before it touches the line: the first write to a chunk writes its bitmap (R314), a damaged bitmap line
is repaired (R315). -/
def Dev.memPrepare (d : Dev) (c ln : Nat) : Dev :=
  if d.chunkValid c ln then
    let d := d.bitmapRead c ln
    if d.bitmapBad c ln then d.memRepair c ln else d
  else
    let x := d.memChan c
    let k := ln / 4096
    let a := d.memBitmaps + 512 * k
    d.putMemChan c { x with
      cells := memWipe x.cells a (a + 512)
      supers := x.supers.put k 1
      damaged := x.damaged.filter fun (e : Nat × Nat) => e.1 / 8 != k
      cache := x.cache.filter fun j => j / 8 != k }

/-! ## Writes, the ladle and reads (R314–R319) -/

/-- Outcomes of a write: its bytes stand in the line, or merged with poison, or were dropped, or wait in the ladle. -/
inductive MemWrite where
  | ok | poisonMerge | dropped | held
  deriving DecidableEq, Repr

/-- A line's bytes overlaid with a write's bytes. -/
def overlay (data : List Nat) (bytes : SMap Nat) : List Nat := (List.range 64).map fun k => bytes.get k (data.getD k 0) % 256

/-- A full-line write: the line stands clean and valid. -/
def Dev.memFull (d : Dev) (c ln : Nat) (bytes : SMap Nat) : Dev :=
  ((d.memPrepare c ln).memStore c ln (overlay [] bytes) false).setValid c ln

/-- A partial write acts on the line as it stands (R318). -/
def Dev.memPartial (d : Dev) (c ln : Nat) (bytes : SMap Nat) : MemWrite × Dev :=
  let d := d.memPrepare c ln
  if d.validBit c ln then
    let (r, data, d) := d.memFetch c ln
    match r with
    | .corrected _ => (.ok, (d.memStore c ln (overlay data bytes) false).memCount MEMC_HEALED_count 4 c)
    | .clean => (.ok, d.memStore c ln (overlay data bytes) false)
    | .erased => (.ok, d.memStore c ln (overlay data bytes) false)
    | .uncorrectable => (.poisonMerge, (d.memStore c ln (overlay data bytes) true).memCount MEMC_POISON_MERGE_count 5 c)
    | .poison => (.poisonMerge, (d.memStore c ln (overlay data bytes) true).memCount MEMC_POISON_MERGE_count 5 c)
  else (.ok, (d.memStore c ln (overlay [] bytes) false).setValid c ln)

/-- Flush one entry: a full line without a read, else a partial write whose result reaches its writers. -/
def Dev.memFlush (d : Dev) (c : Nat) (e : LadleEntry) : Dev :=
  let x := d.memChan c
  let d := d.putMemChan c { x with ladle := x.ladle.filter fun (f : LadleEntry) => f.line != e.line }
  if e.bytes.length = 64 then d.memFull c e.line e.bytes
  else
    let (r, d) := d.memPartial c e.line e.bytes
    if r = .poisonMerge then { d with mem := { d.mem with merged := d.mem.merged ++ e.writers.filter (· != 0) } } else d

/-- Flush every entry of a channel, oldest first. -/
def Dev.memFlushAll (d : Dev) (c : Nat) : Dev := each (d.memChan c).ladle (fun e (d : Dev) => d.memFlush c e) d

/-- A contained channel flushes what its ladle holds (R319, R329). -/
def Dev.memSettle (d : Dev) : Dev :=
  each (List.range 16) (fun c (d : Dev) =>
    if d.chanContained c && !(d.memChan c).ladle.isEmpty then d.memFlushAll c else d) d

/-- Occupancy at the threshold flushes the oldest entries (R316). -/
def Dev.memThreshold (d : Dev) (c : Nat) : Dev :=
  let t := d.get MEM_LADLE_CFG_threshold
  let l := (d.memChan c).ladle
  each (l.take (l.length + 1 - max t 1)) (fun e (d : Dev) => d.memFlush c e) d

/-- A write reaches its channel (R316, R319): `bytes` by offset in the line, `writer` its dumbwaiter ticket or 0. -/
def Dev.memWriteChan (d : Dev) (c ln : Nat) (bytes : SMap Nat) (writer : Nat) : MemWrite × Dev :=
  let d := (d.put MEMC_STATUS_self_refresh 0 c).memSettle
  if d.chanContained c then (.dropped, d.memCount MEMC_WR_DROPS_count 6 c)
  else
    let x := d.memChan c
    let e := (x.ladle.find? fun (f : LadleEntry) => f.line == ln).getD ⟨ln, [], []⟩
    let rest := x.ladle.filter fun (f : LadleEntry) => f.line != ln
    if bytes.length = 64 then (.ok, (d.putMemChan c { x with ladle := rest }).memFull c ln bytes)
    else if d.get MEM_LADLE_CFG_threshold = 0 then d.memPartial c ln bytes
    else
      let e' : LadleEntry :=
        ⟨ln, bytes.foldl (fun (m : SMap Nat) (p : Nat × Nat) => m.put p.1 p.2) e.bytes, writer :: e.writers⟩
      let held := if e.bytes.isEmpty then x.ladle ++ [e'] else x.ladle.map fun (f : LadleEntry) => if f.line = ln then e' else f
      let d := d.putMemChan c { x with ladle := held }
      if e'.bytes.length = 64 then (.ok, d.memFlush c e') else (.held, d.memThreshold c)

/-- A read that touches a line flushes its ladle entry first (R316). -/
def Dev.memFlushLine (d : Dev) (c ln : Nat) : Dev :=
  match (d.memChan c).ladle.find? fun (f : LadleEntry) => f.line == ln with
  | some e => d.memFlush c e
  | none => d

/-- A read reaches its channel (R314–R317): the data, and whether it comes without a poison error. -/
def Dev.memReadChan (d : Dev) (c ln : Nat) : List Nat × Bool × Dev :=
  let d := (d.put MEMC_STATUS_self_refresh 0 c).memSettle
  let d := d.memFlushLine c ln
  let zeros := List.replicate 64 0
  if d.chunkValid c ln then
    let d := d.bitmapRead c ln
    if d.bitmapBad c ln then (zeros, false, d)
    else if d.validBit c ln then
      let (r, data, d) := d.memFetch c ln
      (data, r.good, d)
    else (zeros, true, d)
  else (zeros, true, d)

/-- A write to a system line (R306): at or above U it is dropped and counted. -/
def Dev.memWrite (d : Dev) (line : Nat) (bytes : SMap Nat) (writer : Nat := 0) : MemWrite × Dev :=
  if bytes.isEmpty then (.ok, d)
  else if d.memU ≤ line * 64 then (.dropped, d.bumpS MEM_OOR_DROPS_count MEM_OOR_DROPS_sat)
  else
    let (c, ln) := d.memLocate line
    let (r, d) := d.memWriteChan c ln bytes writer
    (r, d.memSettle)

/-- A read of a system line; at or above U it returns zeros (R306). What was delivered stands in `mem.delivered`. -/
def Dev.memRead (d : Dev) (line : Nat) : List Nat × Bool × Dev :=
  let (data, good, d) :=
    if d.memU ≤ line * 64 then (List.replicate 64 0, true, d)
    else
      let (c, ln) := d.memLocate line
      d.memReadChan c ln
  (data, good, { d with mem := { d.mem with delivered := (data, good) } }.memSettle)

/-- The bytes of a write of consecutive bytes from a system address that fall into one line. -/
def lineBytes (addr : Nat) (bytes : List Nat) (line : Nat) : SMap Nat :=
  (List.range 64).filterMap fun k =>
    let a := line * 64 + k
    if addr ≤ a ∧ a < addr + bytes.length then some (k, bytes.getD (a - addr) 0) else none

/-- Write consecutive bytes, line by line. -/
def Dev.memWriteSpan (d : Dev) (addr : Nat) (bytes : List Nat) (writer : Nat := 0) : Dev :=
  each (List.range ((addr % 64 + bytes.length + 63) / 64)) (fun i (d : Dev) =>
    (d.memWrite (addr / 64 + i) (lineBytes addr bytes (addr / 64 + i)) writer).2) d

/-- Read `n` consecutive bytes; a line that comes with a poison error makes the result bad and its bytes all ones. -/
def Dev.memReadSpan (d : Dev) (addr n : Nat) : List Nat × Bool × Dev :=
  let lines := (List.range ((addr % 64 + n + 63) / 64)).foldl (fun (acc : List Nat × Bool × Dev) i =>
    let (data, good, d) := acc.2.2.memRead (addr / 64 + i)
    (acc.1 ++ (if good then data else List.replicate 64 0xFF), acc.2.1 && good, d)) ([], true, d)
  ((lines.1.drop (addr % 64)).take n, lines.2)

/-- The memory answers: D15 is on and the clock unit is not in `LOST` (R406). -/
def Dev.memLive (d : Dev) : Bool := d.railGood 15 && d.clk != 5

/-! ## Events -/

/-- `MEMORY_CHANNEL_TRAINED` (R305). -/
def execMemoryChannelTrained (ch : Nat) (x : Dimm) (s : State) := onDev (fun d => d.memTrained ch x) s

/-- `MAP_BUILD` (R305). -/
def execMapBuild (s : State) := onDev (fun d => d.memBuild) s

/-- The errors the DRAM shows from now on. -/
def Dev.memErrs (d : Dev) (errs : List MemErr) : Dev := { d with mem := { d.mem with errs := errs } }

/-- `MEMORY_READ` (R310): a read of a system line reaches its controller. -/
def execMemoryRead (line : Nat) (errs : List MemErr) (s : State) :=
  onDev (fun d => if d.memLive then ((d.memErrs errs).memRead line).2.2 else d) s

/-- `MEMORY_WRITE` (R316): a write of consecutive bytes reaches its channels. -/
def execMemoryWrite (addr : Nat) (bytes : List Nat) (errs : List MemErr) (s : State) :=
  onDev (fun d => if d.memLive then (d.memErrs errs).memWriteSpan addr bytes else d) s

/-- `LADLE_AGE_FLUSH` (R316): the channel's oldest entry has existed for age_us. -/
def execLadleAgeFlush (ch : Nat) (errs : List MemErr) (s : State) :=
  onDev (fun d =>
    match (d.memChan ch).ladle with
    | [] => d
    | e :: _ => if d.memLive then ((d.memErrs errs).memFlush ch e).memSettle else d) s

/-- Every counter of a channel is halved; 0 turns this off (R312). -/
def Dev.memDecay (d : Dev) (c : Nat) : Dev :=
  if d.get MEMC_MARK_CFG_decay c = 0 ∨ !d.railGood (16 + c / 2) then d
  else each (List.range 20) (fun i (d : Dev) =>
    (d.put MEMC_BLAME_odd (d.get MEMC_BLAME_odd (c * 20 + i) / 2) (c * 20 + i)).put MEMC_BLAME_even
      (d.get MEMC_BLAME_even (c * 20 + i) / 2) (c * 20 + i)) d

/-- `BLAME_DECAY` (R312). -/
def execBlameDecay (ch : Nat) (s : State) :=
  onDev (fun d => if ch < 16 then each (List.range 4) (fun q (d : Dev) => d.memBlameJudge ch q) (d.memDecay ch) else d) s

/-- A channel's line lies in the scourer's range (R321). -/
def Dev.scrubIn (d : Dev) (c ln : Nat) : Bool :=
  let a := d.memSysLine c ln * 64
  let lo := d.get MEM_SCRUB_BASE_mib * 2 ^ 20
  decide (lo ≤ a ∧ a < lo + d.get MEM_SCRUB_LEN_mib * 2 ^ 20 ∧ a < d.memU)

/-- The lines of a pass from a cursor on, in channel-address order: valid lines in the range, then the bitmap lines of every valid
chunk (R321). -/
def Dev.scrubLines (d : Dev) (c pos : Nat) : List Nat :=
  let x := d.memChan c
  let b := d.memBitmaps
  let data := (x.cells.filter fun e => decide (b ≤ e.1)).flatMap fun e =>
    ((List.range 8).filter fun i => bit e.2.toNat i).map fun i => (e.1 - b) * 8 + i
  let data := data.filter fun ln => x.supers.has (ln / 4096) && d.scrubIn c ln && !x.damaged.has (ln / 512)
  let maps := x.supers.flatMap fun (e : Nat × Nat) =>
    (List.range 8).map fun i => b / 64 + 8 * e.1 + i
  (data ++ maps).filter fun ln => decide (pos ≤ ln)

/-- One visit (R322), a read of the line (R316); a bitmap line's has R315's consequences beside. -/
def Dev.scrubVisit (d : Dev) (c ln : Nat) : Dev :=
  let (r, _, d) := (d.memFlushLine c ln).memFetch c ln
  let b := d.memBitmaps / 64
  let d := if b ≤ ln then d.bitmapNote c (ln - b) r else d
  match r with
  | .corrected _ => d.memCount MEMC_SCRUB_CORR_count 7 c
  | .clean => d
  | .erased => d
  | .uncorrectable => d
  | .poison => d

/-- The end of a pass: counted with its duration, and the next pass begins (R327). -/
def Dev.scrubPass (d : Dev) (c : Nat) : Dev :=
  let x := d.memChan c
  let minutes := (d.time - x.passStart) / 196_608_000_000
  let d := (d.bump MEMC_SCRUB_PASS_passes c).put MEMC_SCRUB_PASS_minutes (min minutes 0xFFFF) c
  let d := d.putMemChan c { x with passStart := d.time }
  d.put MEMC_SCRUB_POS_line ((d.scrubLines c 0).headD 0) c

/-- `SCRUB_VISIT` (R321, R322): the channel's pace timer. -/
def Dev.scrub (d : Dev) (c : Nat) : Dev :=
  if d.get MEM_SCRUB_LEN_mib = 0 ∨ (d.flag MEM_SCRUB_CFG_hib_pause ∧ d.flag EST_STATUS_hibernated) ∨ !d.flag MEMC_STATUS_in_map c then d
  else
    match d.scrubLines c (d.get MEMC_SCRUB_POS_line c) with
    | [] => d.scrubPass c
    | ln :: rest =>
      let d := (d.put MEMC_STATUS_self_refresh 0 c).scrubVisit c ln
      match rest with
      | [] => d.scrubPass c
      | next :: _ => d.put MEMC_SCRUB_POS_line next c

/-- `SCRUB_VISIT` (R322). -/
def execScrubVisit (ch : Nat) (errs : List MemErr) (s : State) :=
  onDev (fun d => if d.memLive ∧ ch < 16 then ((d.memErrs errs).scrub ch).memSettle else d) s

/-- `SELF_REFRESH_ENTRY` (R316, R324): the ladle is flushed first. -/
def execSelfRefreshEntry (ch : Nat) (errs : List MemErr) (s : State) :=
  onDev (fun d =>
    if d.memLive && d.flag EST_STATUS_hibernated && d.flag MEMC_STATUS_trained ch && decide (ch < 16) then
      ((d.memErrs errs).memFlushAll ch).put MEMC_STATUS_self_refresh 1 ch
    else d) s

/-! ## Commands (R326, R328) -/

/-- `FENCE`: every entry that exists is flushed, and the ticket is done (R317). -/
def memFence : CmdDef where
  verdict _ c _ := { Verdict.ok with badArg := c.arg != 0 }
  effect _ _ n d := ((each (List.range 16) (fun c (d : Dev) => d.memFlushAll c) d).memSettle).done n

/-- The range of `ZERO` lies within the host region in force (R308). -/
def Dev.zeroInHost (d : Dev) : Bool :=
  let lo := d.get MEM_ZERO_BASE_units * 2 ^ 22
  let hi := lo + d.get MEM_ZERO_LEN_units * 2 ^ 22
  let h := d.get MEM_HOST_BASE_gib * 2 ^ 30
  decide (h ≤ lo ∧ hi ≤ min (h + d.get MEM_HOST_SIZE_gib * 2 ^ 30) d.memU)

/-- Clear a channel's chunks `lo` to `hi - 1`: entries discarded, super-valid bits cleared (R326). -/
def Dev.zeroChunks (d : Dev) (c lo hi : Nat) : Dev :=
  let x := d.memChan c
  let mine (k : Nat) : Bool := decide (lo ≤ k) && decide (k < hi)
  let gone := (x.supers.filter fun (e : Nat × Nat) => mine e.1).foldl (fun (n : Nat) (e : Nat × Nat) =>
    n + countValid x.cells (d.memBitmaps + 512 * e.1) (d.memBitmaps + 512 * e.1 + 512)) 0
  let d := d.putMemChan c { x with
    supers := x.supers.filter fun (e : Nat × Nat) => !mine e.1
    damaged := x.damaged.filter fun (e : Nat × Nat) => !mine (e.1 / 8)
    cache := x.cache.filter fun j => !mine (j / 8)
    ladle := x.ladle.filter fun (e : LadleEntry) => !mine (e.line / 4096) }
  d.put MEMC_VALID_LINES_count (d.get MEMC_VALID_LINES_count c - gone) c

/-- `ZERO` (R326): the range is cleared at acceptance; the ticket is done when the range completes. -/
def memZero : CmdDef where
  verdict _ c d :=
    { Verdict.ok with
      denied := !d.zeroInHost && d.denies c scopeOPS
      badArg := c.arg != 0 || decide (d.get MEM_ZERO_LEN_units ≠ 0 ∧
        d.memU < (d.get MEM_ZERO_BASE_units + d.get MEM_ZERO_LEN_units) * 2 ^ 22)
      badState := decide (d.memN = 0)
      total := d.get MEM_ZERO_LEN_units
      priv := !d.zeroInHost }
  effect _ _ n d :=
    if d.get MEM_ZERO_LEN_units = 0 then d.done n
    else
      let k := d.memN * 2 ^ 18
      let lo := d.get MEM_ZERO_BASE_units * 2 ^ 22 / k
      let hi := (d.get MEM_ZERO_BASE_units + d.get MEM_ZERO_LEN_units) * 2 ^ 22 / k
      let d := each (List.range d.memN) (fun c (d : Dev) => d.zeroChunks c lo hi) d
      { d.progress n 0 with mem := { d.mem with zeros := d.mem.zeros ++ [n] } }

/-- `ZERO_DONE` (R326): the oldest `ZERO` in progress completes. -/
def execZeroDone (s : State) :=
  onDev (fun d =>
    match d.mem.zeros with
    | [] => d
    | n :: rest => { d with mem := { d.mem with zeros := rest } }.done n) s

/-- `REMAP` (R326). -/
def memRemap : CmdDef where
  verdict _ c d :=
    { Verdict.ok with
      denied := d.denies c scopeOPS
      badArg := c.arg != 0
      badState := !d.mem.zeros.isEmpty
      priv := true }
  effect _ _ n d :=
    let d := d.memDissolve true
    ({ d with mem := { d.mem with remapTkts := d.mem.remapTkts ++ [n] } }.progress n 0).memBuild

/-- `MEMC` `MARK` (R328). -/
def memcMark : CmdDef where
  verdict page c d :=
    let q := 2 * bits c.arg 5 1 + bits c.arg 4 1
    { Verdict.ok with
      denied := d.denies c scopeOPS
      badArg := decide (9 < bits c.arg 0 4) || c.arg / 64 != 0
      badState := d.flag MEMC_MARK_marked ((page - 0x30) * 4 + q) ||
        decide (bits c.arg 5 1 = 1 ∧ d.get MEMC_STATUS_ranks (page - 0x30) = 0) || !d.flag MEMC_STATUS_present (page - 0x30)
      priv := true }
  effect page c n d := (d.memMark (page - 0x30) (2 * bits c.arg 5 1 + bits c.arg 4 1) (bits c.arg 0 4)).done n

/-- `MEMC` `UNMARK` (R328). -/
def memcUnmark : CmdDef where
  verdict page c d :=
    let q := 2 * bits c.arg 5 1 + bits c.arg 4 1
    { Verdict.ok with
      denied := d.denies c scopeOPS
      badArg := bits c.arg 0 4 != 0 || c.arg / 64 != 0
      badState := !d.flag MEMC_MARK_marked ((page - 0x30) * 4 + q)
      priv := true }
  effect page c n d :=
    let q := 2 * bits c.arg 5 1 + bits c.arg 4 1
    let i := (page - 0x30) * 4 + q
    let d := (d.put MEMC_MARK_marked 0 i).put MEMC_MARK_device 0 i
    let d := each (List.range 10) (fun k (d : Dev) => d.setBlame (page - 0x30) q k 0) d
    { d with mem := { d.mem with serials := d.mem.serials.del i, seconds := d.mem.seconds.del i, seconded := d.mem.seconded.del i } }.done n

/-- A channel's counters (R327). -/
def memcCounters : List Field := [MEMC_CORR_count, MEMC_ERASE_count, MEMC_UNCORR_count, MEMC_POISON_READS_count, MEMC_HEALED_count,
  MEMC_POISON_MERGE_count, MEMC_WR_DROPS_count, MEMC_SCRUB_CORR_count, MEMC_REPAIRS_count]

/-- `MEMC` `CLEAR_COUNTERS` (R328). -/
def memcClear : CmdDef where
  verdict _ c d := { Verdict.ok with denied := d.denies c scopeOPS, badArg := c.arg != 0, priv := true }
  effect page _ n d :=
    ((each memcCounters (fun f (d : Dev) => d.put f 0 (page - 0x30)) d).put MEMC_SAT_flags 0 (page - 0x30)).done n

/-- `FENCE` (R326). -/
def execMemFence (c : Cmd) (s : State) := onDev (fun d => d.cmd 0x018 1 memFence c) s
/-- `ZERO` (R326). -/
def execMemZero (c : Cmd) (s : State) := onDev (fun d => d.cmd 0x018 2 memZero c) s
/-- `REMAP` (R326). -/
def execMemRemap (c : Cmd) (s : State) := onDev (fun d => d.cmd 0x018 3 memRemap c) s
/-- `MARK` (R328). -/
def execMemcMark (c : Cmd) (s : State) := onDev (fun d => d.cmd (0x030 + c.inst % 16) 1 memcMark c) s
/-- `UNMARK` (R328). -/
def execMemcUnmark (c : Cmd) (s : State) := onDev (fun d => d.cmd (0x030 + c.inst % 16) 2 memcUnmark c) s
/-- `MEMC_CLEAR_COUNTERS` (R328). -/
def execMemcClearCounters (c : Cmd) (s : State) := onDev (fun d => d.cmd (0x030 + c.inst % 16) 3 memcClear c) s

/-! ## Domains -/

/-- A pair domain switches off: its channels must train again, and a map that holds one of them is dissolved (R305, R307).
With no pair domain left nothing counts as dissolved, though no map stands. -/
def Dev.memPairOff (d : Dev) (p : Nat) : Dev :=
  let d := { d with mem := { d.mem with tried := clrBit (clrBit d.mem.tried (2 * p)) (2 * p + 1), rates := (d.mem.rates.del (2 * p)).del (2 * p + 1) } }
  if !d.memPairOn then
    let l := d.get MEM_STATUS_map_lost
    (d.memDissolve true).put MEM_STATUS_map_lost l
  else if [2 * p, 2 * p + 1].any fun c => d.flag MEMC_STATUS_in_map c then d.memDissolve false
  else d

/-- D15 switches off: the map's registers and the super-valid bits go with it. -/
def Dev.memOff (d : Dev) : Dev :=
  let clear (x : MemChan) : MemChan := { x with supers := [], damaged := [], ladle := [], cache := [] }
  each (List.range 16) (fun c (d : Dev) => (d.put MEMC_STATUS_in_map 0 c).put MEMC_VALID_LINES_count 0 c)
    { d.filtersLost with mem := { d.mem with
      chans := d.mem.chans.map (fun (e : Nat × MemChan) => (e.1, clear e.2)), built := false, zeros := [], remapTkts := [] } }

/-- `MEM_STATUS.qualified` follows the pair's pages. -/
def Dev.memQualPut (d : Dev) : Dev := if d.railGood 15 then d.put MEM_STATUS_qualified d.memQualified else d

/-- D15 is up: what its page shows of the channels and of the regions is judged (R308, R325). -/
def Dev.memUp (d : Dev) : Dev := d.memQualPut.memJudge

end Sys2Proof.Machine
end

