-- ==== Sys2Proof/Machine/Tables.lean ====
section
/-!
DEFINITION. Machine/Tables.lean: the limit and target tables (R229–R235): their layout, reset values, and the fields
the scheduler reads.
-/
namespace Sys2Proof.Machine

/-- The reset value of the table word at a byte offset (R230–R234). -/
def limReset (off : Nat) : Nat :=
  if off < 0x800 then
    let o := off % 0x80
    if o = 0x10 then 4_294_967
    else if o = 0x20 then 16 * 2 ^ 24 + 4 * 2 ^ 16 + 8 * 2 ^ 8 + 16
    else if o = 0x24 then 10 * 2 ^ 16 + 328
    else if o = 0x2C then 0x7FFF_FFFF
    else if o = 0x30 then 0x8000_0000
    else 0
  else if 0x1000 ≤ off ∧ off < 0x1400 then
    let o := off % 0x40
    if o = 0 then 0x7FFE
    else if o = 4 ∨ o = 8 then 0x8001_0000 + 0x7FFE
    else if o = 0x10 then 667 * 2 ^ 16 + 640
    else if o = 0x14 then 320
    else 0
  else if 0x2000 ≤ off ∧ off < 0x4000 then
    let o := off % 0x10
    if o = 0 then 31 else if o = 8 then 4 else 0
  else if 0x4000 ≤ off ∧ off < 0xC000 then
    let o := off % 0x40
    if o = 4 then 133 else if o = 0x18 then 1 else 0
  else 0

/-- A word of one copy. -/
def limWord (t : SMap Nat) (off : Nat) : Nat := t.get off (limReset off)

/-- A field of one copy: word offset, lowest bit, width. -/
def limField (t : SMap Nat) (off lo w : Nat) : Nat := bits (limWord t off) lo w

/-- A copy with one field written. -/
def limSet (t : SMap Nat) (off lo w v : Nat) : SMap Nat :=
  let old := limWord t off
  t.put off (old - bits old lo w * 2 ^ lo + (v % 2 ^ w) * 2 ^ lo)

/-- The string's bank, 0–15, or 31 unassigned (R232). -/
def stringBankIn (t : SMap Nat) (l : Nat) : Nat := limField t (0x2000 + 0x10 * l) 0 5

/-- The string's bank in the active copy. -/
def Dev.stringBank (d : Dev) (l : Nat) : Nat := stringBankIn d.sch.active l

/-- The byte offset of a cell entry (R229). -/
def cellOff (lane node cell : Nat) : Nat := 0x10_0000 + lane * 0x1400 + node * 16 + cell

/-- A cell entry's byte in one copy (R234). -/
def cellEntry (t : SMap Nat) (lane idx : Nat) : Nat :=
  let o := 0x10_0000 + lane * 0x1400 + idx
  bits (limWord t (o - o % 4)) (8 * (o % 4)) 8

/-- A copy with a cell entry's byte written. -/
def cellEntrySet (t : SMap Nat) (lane idx v : Nat) : SMap Nat :=
  let o := 0x10_0000 + lane * 0x1400 + idx
  limSet t (o - o % 4) (8 * (o % 4)) 8 v

/-- The class of a cell position (R234). -/
def classOf (t : SMap Nat) (lane idx : Nat) : Nat := cellEntry t lane idx % 16

/-- Withdrawn, by the active copy. -/
def withdrawnIn (t : SMap Nat) (lane idx : Nat) : Bool := bit (cellEntry t lane idx) 4

/-- A field of class entry `c`, read as a signed 16-bit code. -/
def classI (t : SMap Nat) (c off lo : Nat) : Int := toSigned 16 (limField t (0x1000 + 0x40 * c + off) lo 16)

/-- The class's voltage window is empty (R231). -/
def classEmpty (t : SMap Nat) (c : Nat) : Bool := decide (classI t c 0 16 < classI t c 0 0)

/-- The lanes of a bank, by one copy's string entries. -/
def bankStringsIn (t : SMap Nat) (b : Nat) : List Nat := (List.range 512).filter fun l => stringBankIn t l == b

/-- A lane's sixteenfold key of a position: node × 16 + cell, and the key over all lanes. -/
def posKey (lane idx : Nat) : Nat := lane * 5120 + idx

/-- A packed cell position's parts (R22). -/
structure Pos where
  lane : Nat
  node : Nat
  cell : Nat
  deriving DecidableEq, Repr

/-- Unpack a cell position; `none` where R22 refuses it. -/
def unpackCell (w : Nat) : Option Pos :=
  let p : Pos := ⟨bits w 23 9, bits w 14 9, bits w 9 5⟩
  if p.node ≤ 319 ∧ p.cell ≤ 15 ∧ w % 512 = 0 ∧ w < 2 ^ 32 then some p else none

/-- Unpack an endpoint address; `none` where R8 refuses it. -/
def unpackEndpoint (w : Nat) : Option Pos :=
  let p : Pos := ⟨bits w 23 9, bits w 14 9, bits w 9 5⟩
  if p.node ≤ 319 ∧ w % 512 = 0 ∧ w < 2 ^ 32 then some p else none

/-- The position index node × 16 + cell. -/
def Pos.idx (p : Pos) : Nat := p.node * 16 + p.cell

end Sys2Proof.Machine
end

