-- ==== Sys2Proof/Machine/Lanes.lean ====
section
/-!
DEFINITION. Machine/Lanes.lean: Fleusk string lanes and twin lanes below the frame (chapter 05): training, alignment,
lane states and commands, errors and signal, die-to-die links.
-/
namespace Sys2Proof.Machine

/-- Twin lane t is lane 512 + t here (R157). -/
def isTwin (l : Nat) : Bool := decide (512 ≤ l)

/-- The page whose commands and faults concern a lane. -/
def lanePageOf (l : Nat) : Nat := if isTwin l then 0x011 else lanePage l

/-- The power domain of a lane (R130, R157). -/
def laneDomain (l : Nat) : Nat := if isTwin l then 7 else 32 + l / 16

/-- The lane exists and its domain is on. -/
def Dev.laneOn (d : Dev) (l : Nat) : Bool := decide (l < 516) && d.railGood (laneDomain l)

/-- A lane counter: the increment that would pass all ones sets its sticky flag in `LNK_SAT`, and the first flag set
raises the page's bit 16 + j (R154, R160). -/
def Dev.laneCount (d : Dev) (l : Nat) (f : Field) (flag by_ : Nat) : Dev :=
  let n := d.get f l + by_
  if n < 2 ^ f.width then d.put f n l
  else
    let d := d.put f (2 ^ f.width - 1) l
    let s := d.get LNK_SAT_flags l
    if s.testBit flag then d
    else
      let d := d.put LNK_SAT_flags (setBit s flag) l
      if isTwin l then d else d.pageIrq (lanePage l) (16 + l % 16)

/-- The 48-bit count of corrected symbols (R151). -/
def Dev.laneCorr (d : Dev) (l errs : Nat) : Dev :=
  let n := d.get2 LNK_CORR_LO_count_lo LNK_CORR_HI_count_hi l + errs
  if n < 2 ^ 48 then d.put2 LNK_CORR_LO_count_lo LNK_CORR_HI_count_hi n l
  else
    let d := d.put2 LNK_CORR_LO_count_lo LNK_CORR_HI_count_hi (2 ^ 48 - 1) l
    let s := d.get LNK_SAT_flags l
    if s.testBit 0 then d
    else
      let d := d.put LNK_SAT_flags (setBit s 0) l
      if isTwin l then d else d.pageIrq (lanePage l) (16 + l % 16)

/-- Queue a message on a lane's management channel, taking the next sequence number (R187). -/
def Dev.mgmtSend (d : Dev) (l addr kind : Nat) (body : List Nat) : Dev :=
  let x := d.frm l
  d.putFrm l { x with txQueue := x.txQueue ++ [⟨x.txNext, addr, kind, body⟩], txNext := (x.txNext + 1) % 2 ^ 16 }

/-- The wake threshold of `HEAD_CFG` in string-current LSBs (R195); before the head has reported its LSB the spec
states no value, and a free value stands (assumption 9). -/
def Dev.wakeLsbs (d : Dev) (l : Nat) : Nat × Dev :=
  let lsb := (d.frm l).iLsb
  if lsb = 0 then
    let (v, d) := d.free
    (v % 2 ^ 24, d)
  else (d.get FRM_WAKE_CFG_threshold * 100_000 / lsb, d)

/-- Enumeration begins at phase CFG: `HEAD_CFG` goes out (R188, R189). The channel restarts where it was closed
(R187). A wake threshold beyond the 24 bits of `HEAD_CFG` is sent with its low 24 bits (R195 states no clamping; DESIGN CHOICE,
assumption 25). -/
def Dev.startEnum (d : Dev) (l : Nat) : Dev :=
  let x := d.frm l
  let x := if x.mgmtOpen then x else { x with txNext := 0, txQueue := [], mgmtNext := 0, mgmtHigh := 0, rxAck := 0xFFFF, stall := 0, mgmtOpen := true }
  let d := (d.putFrm l { x with inv := [], rejected := false, runNext := false }).put FRM_L_INV_phase 1 l
  let (w, d) := d.wakeLsbs l
  d.mgmtSend l 0x1FF 0x02
    ([d.get LNK_CFG_posture_count l, d.get LNK_CFG_posture_open l + 1] ++ leBytes 3 w ++ [0, 0, 0])

/-- No cell of the lane has reported a valid echo since this enumeration (R25). -/
def Dev.echoesForget (d : Dev) (l : Nat) : Dev :=
  { d with sch := { d.sch with cells := d.sch.cells.map fun (e : Nat × Cell) =>
      if e.1 / 5120 = l then (e.1, { e.2 with echoSeen := false, faultBits := 0 }) else e } }

/-- Entry to ENUM (R146): plans may be taken again once the lane is enumerated. -/
def Dev.enterEnum (d : Dev) (l reason : Nat) : Dev :=
  let d := (d.echoesForget l).laneEnter l 3 reason
  let x := d.lane l
  let d := d.putLane l { x with contained := false }
  (d.progress x.enTkt 2).startEnum l

/-- The transmitter's taps take preset P1, P2 or P3 (R137). -/
def Dev.txPreset (d : Dev) (l p : Nat) : Dev :=
  let (a, b, c) := if p = 2 then (4, 52, 8) else if p = 3 then (8, 40, 16) else (0, 64, 0)
  ((d.put LNK_TXFIR_pre a l).put LNK_TXFIR_main b l).put LNK_TXFIR_post c l

/-! ## Training blocks sent (R135–R139, R156) -/

/-- The `COEFF` word this end sends: its requests, its status and ready (R136, R138). -/
def Dev.coeffOut (d : Dev) (l : Nat) : Nat :=
  let x := d.lane l
  controlWord (x.rqPreset * 2 ^ 27 + x.rqPre * 2 ^ 25 + x.rqMain * 2 ^ 23 + x.rqPost * 2 ^ 21 + x.stPre * 2 ^ 19 + x.stMain * 2 ^ 17 +
    x.stPost * 2 ^ 15 + b2n x.sentReady * 2 ^ 14)

/-- The `INFO` word this end sends (R136): its turnaround, which the spec leaves to the device (assumption 23); ref_src on the active
device's twin lanes only (R133, R382); no loopback of its own. -/
def Dev.infoOut (d : Dev) (l : Nat) : Nat :=
  controlWord (2 ^ 29 + Config.turnaround l % 8_001 * 2 ^ 15 + b2n (isTwin l && !d.standby) * 2 ^ 14)

/-- The `LOOP` word with enter = 1 (R136, R156). -/
def loopWord : Nat := controlWord (2 * 2 ^ 29 + 2 ^ 28)

/-- Training blocks leave with this control word from now on: the record holds the control and the information word and the symbols of
64 blocks, after which the line goes on in the same way (R135, assumption 23). -/
def Dev.trainSend (d : Dev) (l word : Nat) : Dev :=
  let x := d.lane l
  let info := d.infoOut l
  let s := trainBlocks word info 64 0 x.prbs
  (d.putLane l { x with prbs := s.2 }).emit .training l (word :: info :: s.1.map (pamInvert x.txInv))

/-- Blocks leave with the lane's `COEFF` word, unless its transmitter is squelched. -/
def Dev.trainTell (d : Dev) (l : Nat) : Dev :=
  if (d.lane l).squelched || (d.lane l).heldByClock then d else d.trainSend l (d.coeffOut l)

/-- The word sent changes where it is no longer `w`. -/
def Dev.trainRetell (d : Dev) (l w : Nat) : Dev := if d.coeffOut l = w then d else d.trainTell l

/-- Both ends are ready: 64 further blocks leave with ready (R139). -/
def Dev.readyJudge (d : Dev) (l : Nat) : Dev :=
  let x := d.lane l
  if x.sentReady && d.flag LNK_STATUS_far_ready l && !x.further then (d.putLane l { x with further := true }).trainTell l else d

/-- The receiver starts again: no codeword of a frame is held (R141). -/
def Dev.rxClear (d : Dev) (l : Nat) : Dev := d.putLane l { d.lane l with rx := [], rxCount := 0 }

/-- A lane enters TRAIN: what training and alignment had learned is gone; from P1, or with coefficients kept (R139).
The launch advance goes with the alignment it was made for (assumption 10). The generator of its blocks starts anywhere. -/
def Dev.enterTrain (d : Dev) (l reason : Nat) (fromP1 : Bool) : Dev :=
  let (r, d) := d.free
  let x := d.lane l
  let d := d.putLane l { x with
    coeffSeen := 0, infoSeen := 0, infoValid := false, stPre := 0, stMain := 0, stPost := 0,
    rqPreset := if fromP1 then 1 else 0, rqPre := 0, rqMain := 0, rqPost := 0, sentReady := false, cwGood := 0, cwBad := [],
    hdrGood := 0, hdrBad := 0, disagree := 0, measured := false, advance := 0, keepAdv := false, fromP1 := fromP1,
    txInv := d.flag LNK_CFG_tx_invert l, rxInv := d.flag LNK_CFG_rx_invert l, marker := false, further := false, rx := [],
    rxCount := 0, prbs := 1 + r % 8_191 }
  let d := if fromP1 then d.txPreset l 1 else d
  let d := ((((d.put LNK_STATUS_rx_ready 0 l).put LNK_STATUS_far_ready 0 l).put LNK_STATUS_frame_lock 0 l).put
    LNK_STATUS_cw_lock 0 l).put LNK_STATUS_advanced 0 l
  (d.laneEnter l 1 reason).trainTell l

/-- A lane enters DOWN and squelches; commands in progress end: an ENABLE that a DISABLE overtakes is PARTIAL, a
DISABLE or SAFE is DONE with its transition (R148, R149). -/
def Dev.enterDown (d : Dev) (l reason : Nat) : Dev :=
  let x := d.lane l
  let d := each (x.disTkt :: x.disMore) (fun n (d : Dev) => d.done n) (d.partialDone x.enTkt)
  let d := each (x.safeTkt :: x.safeMore) (fun n (d : Dev) => d.partialDone n) d
  let d := d.putLane l { Lane.init with scrambler := x.scrambler }
  let f := d.frm l
  let d := (d.partialDone f.relTkt).putFrm l { d.frm l with relTkt := 0, runNext := false }
  let d := (((((d.put LNK_STATUS_rx_ready 0 l).put LNK_STATUS_far_ready 0 l).put LNK_STATUS_frame_lock 0 l).put
    LNK_STATUS_cw_lock 0 l).put LNK_STATUS_advanced 0 l).put LNK_STATUS_loop_mode 0 l
  d.laneEnter l 0 reason

/-- Training or alignment fails (R140): the reason is recorded, `LANE_TRAIN_FAIL` raised with the `ENABLE` ticket, and
the lane squelches for 1 s in TRAIN. -/
def Dev.trainFail (d : Dev) (l reason : Nat) : Dev :=
  let t := (d.lane l).enTkt
  let d := d.put LNK_TRAIN_fail_reason reason l
  let d := d.raiseWith F_LANE_TRAIN_FAIL (lanePageOf l) l reason [t] false
  let d := d.putLane l { d.lane l with enTkt := 0, squelched := true }
  d.enterTrain l 5 true

/-- The lane leaves RUN or SAFE by a `DISABLE` whose posture frames are going out (R149): no signal or lock event moves it. -/
def Dev.leaving (d : Dev) (l : Nat) : Bool := (d.lane l).disTkt != 0

/-- Lock is lost in ALIGN (R143, R152): counted; the lane stays, and what it has measured stays. `cw`: codeword lock is lost, too. -/
def Dev.lockAgain (d : Dev) (l : Nat) (cw : Bool) : Dev :=
  let d := d.laneCount l LNK_LOL_count 3 1
  let x := d.lane l
  let d := d.putLane l { x with cwGood := 0, cwBad := [], hdrGood := 0, hdrBad := 0, rx := [], rxCount := 0 }
  let d := if cw then d.put LNK_STATUS_cw_lock 0 l else d
  d.put LNK_STATUS_frame_lock 0 l

/-- Lock is lost (R152): in ENUM, RUN and SAFE the lane re-aligns, holding its launch advance through the first measurement, and a loss
in RUN raises `LANE_LOCK_LOST`; the lane moves before containment sees the fault (R147). -/
def Dev.lockLost (d : Dev) (l : Nat) (cw : Bool) : Dev :=
  let st := d.laneState l
  let d := d.lockAgain l cw
  if st = 2 then d
  else
    let d := if d.leaving l then d else
      let x := d.lane l
      (d.putLane l { x with disagree := 0, measured := false, keepAdv := x.advance != 0, scrambler := 2 ^ 31 - 1 }).laneEnter l 2 7
    if st = 4 then d.raise F_LANE_LOCK_LOST (lanePageOf l) l else d

/-- A frame's header is judged for alignment (R142): four good headers in a row whose numbers, taken modulo `m`, rise by 1
declare it. -/
def Dev.alignHeader (d : Dev) (l : Nat) (good : Bool) (n m : Nat) : Dev :=
  let x := d.lane l
  let k := if !good then 0 else if x.hdrGood ≠ 0 ∧ n = (x.hdrLast + 1) % m then x.hdrGood + 1 else 1
  let d := d.putLane l { x with hdrGood := k, hdrLast := n, hdrBad := 0 }
  if k = 4 then
    (d.put LNK_STATUS_frame_lock 1 l).putFrm l { d.frm l with placed := true, expect := (n + 1) % m }
  else d

/-- A frame of an aligned lane whose codeword 0 is uncorrectable or whose header fails (R151, R152). -/
def Dev.headerFailed (d : Dev) (l : Nat) : Dev :=
  let d := d.laneCount l LNK_HDR_CRC_count 2 1
  let x := d.lane l
  let d := d.putLane l { x with hdrBad := x.hdrBad + 1 }
  if 4 ≤ x.hdrBad + 1 then d.lockLost l false else d

/-- A codeword with so many corrected symbols, or an uncorrectable one, is judged for lock (R141, R151, R152). Without lock the next
symbol offset is tried after an uncorrectable one. -/
def Dev.codewordJudge (d : Dev) (l : Nat) (bad : Bool) (errs : Nat) : Dev :=
  let x := d.lane l
  if d.flag LNK_STATUS_cw_lock l then
    let d := if bad then d.laneCount l LNK_UNCORR_count 1 1 else d.laneCorr l errs
    let win := (bad :: x.cwBad).take 64
    let d := d.putLane l { d.lane l with cwBad := win }
    let d := if 16 ≤ (win.filter id).length then d.lockLost l true else d
    if bad then d.raise F_LANE_UNCORRECTABLE (lanePageOf l) l else d
  else if bad then d.putLane l { x with cwGood := 0, rxOffset := (x.rxOffset + 1) % 700 }
  else
    let d := d.putLane l { x with cwGood := x.cwGood + 1 }
    if 64 ≤ x.cwGood + 1 then (d.put LNK_STATUS_cw_lock 1 l).putLane l { d.lane l with cwBad := [] } else d

/-- The bits that received symbols spell, polarity and Gray code undone (R125, R158). -/
def Dev.rxBits (d : Dev) (l : Nat) (symbols : List Nat) : List Bool :=
  (symbols.map (pamInvert (d.lane l).rxInv)).flatMap pamBits

/-- A codeword's 700 symbols decoded and descrambled (R126, R127): the word, and the descrambler's state after it. An uncorrectable one
keeps its bits as received. -/
def Dev.rxWord (d : Dev) (l : Nat) (symbols : List Nat) : RxWord × Nat :=
  let r := rsSymbols 140 (d.rxBits l symbols)
  let (msg, bad, errs) := match rsDecode r with
    | some (w, n) => (w.take 125, false, n)
    | none => (r.take 125, true, 0)
  let p := descramble (d.lane l).rxScr (msg.flatMap (bitsMsb 10))
  (⟨natOfBits p.1, bad, errs⟩, p.2)

/-- A word joins those of the frame that is coming in, once the receiver has codeword lock. -/
def Dev.rxKeep (d : Dev) (l : Nat) (w : RxWord × Nat) : Dev :=
  let x := d.lane l
  if d.flag LNK_STATUS_cw_lock l then
    d.putLane l { x with rxScr := w.2, rx := (w.1 :: x.rx).take 800, rxCount := min 801 (x.rxCount + 1) }
  else d.putLane l { x with rxScr := w.2, rx := [], rxCount := 0 }

/-- The PRBS31 checker takes one bit (R155): unlocked it loads what it receives and locks after 31 bits in a row that agree with its
generator; locked it counts every bit that does not. -/
def Dev.prbsBit (d : Dev) (l : Nat) (b : Bool) : Dev :=
  let x := d.lane l
  let next := prbsStep 31 28 x.chkReg
  let good := bit next 0 == b
  if x.chkLock then
    let d := d.putLane l { x with chkReg := next }
    if good then d else d.laneCount l LNK_PRBS_ERR_count 5 1
  else
    let k := if good && x.chkReg != 0 then x.chkGood + 1 else 0
    d.putLane l { x with chkReg := (x.chkReg * 2 + b2n b) % 2 ^ 31, chkGood := k, chkLock := decide (31 ≤ k) }

/-- 700 symbols arrive at the offset that the receiver holds or tests: a codeword in ALIGN to SAFE (R141, R151, R152), bits for the
PRBS31 checker in LOOP (R155). In near loopback the deserialiser has what the serialiser sends, and the line's symbols do not matter. -/
def Dev.codeword (d : Dev) (l : Nat) (symbols : List Nat) : Dev :=
  let st := d.laneState l
  if !d.laneOn l then d
  else if st = 6 then
    let r := prbs31Bits 1_400 (d.lane l).loopGen
    let near := d.get LNK_STATUS_loop_mode l == 1
    let d := if near then d.putLane l { d.lane l with loopGen := r.2 } else d
    each (d.rxBits l (if near then (pamSymbols r.1).map (pamInvert (d.lane l).txInv) else symbols)) (fun b (d : Dev) => d.prbsBit l b) d
  else if !(decide (2 ≤ st ∧ st ≤ 5)) then d
  else
    let w := d.rxWord l symbols
    (d.rxKeep l w).codewordJudge l w.1.bad w.1.corr

/-- The frame that the last 800 codewords form, as payload, its uncorrectable codewords and its corrected symbols; an aligned lane's
frames lie exactly 800 codewords apart (R128, R142). -/
def Dev.rxFrame (d : Dev) (l : Nat) : Option (Nat × List Nat × Nat) :=
  let x := d.lane l
  if x.rx.length = 800 ∧ (x.rxCount = 800 ∨ !d.flag LNK_STATUS_frame_lock l) then
    let ws := x.rx.reverse
    some (ws.foldl (fun a w => a * 2 ^ 1_250 + w.payload) 0, (ws.zipIdx.filter fun e => e.1.bad).map (·.2), (ws.map (·.corr)).sum)
  else none

/-- A frame is taken from the receiver; headers that do not lie 800 codewords apart do not count towards alignment (R142). -/
def Dev.rxTake (d : Dev) (l : Nat) : Dev :=
  let x := d.lane l
  d.putLane l { x with rx := [], rxCount := 0, hdrGood := if x.rxCount = 800 then x.hdrGood else 0 }

/-- Loss of signal (R153): in ALIGN, ENUM, RUN and SAFE it re-trains with coefficients kept; in RUN it raises
`LANE_LOCK_LOST`, the lane having moved before containment sees the fault (R147). -/
def Dev.lossOfSignal (d : Dev) (l : Nat) : Dev :=
  if !d.laneOn l || d.flag LNK_STATUS_los l then d
  else
    let d := d.put LNK_STATUS_los 1 l
    let d := if isTwin l then d else
      d.put LNK_GRP_LOS_los (setBit (d.get LNK_GRP_LOS_los (l / 16)) (l % 16)) (l / 16)
    let st := d.laneState l
    if 2 ≤ st ∧ st ≤ 5 then
      let d := d.laneCount l LNK_LOL_count 3 1
      let d := if d.leaving l then d else d.enterTrain l 6 false
      if st = 4 then d.raise F_LANE_LOCK_LOST (lanePageOf l) l else d
    else d

/-- Loss of signal clears (R153). -/
def Dev.signalBack (d : Dev) (l : Nat) : Dev :=
  if !d.laneOn l then d
  else
    let d := d.put LNK_STATUS_los 0 l
    if isTwin l then d else
      d.put LNK_GRP_LOS_los (clrBit (d.get LNK_GRP_LOS_los (l / 16)) (l % 16)) (l / 16)

/-- One tap request acted on (R137): 1 increments, 2 decrements within the tap's range and a sum of at most 64; the
status is 1 updated, 2 at minimum, 3 at maximum. `others` is the sum of the other two taps. -/
def tapStep (lo hi others v req : Nat) : Nat × Nat :=
  if req = 1 then (if v < hi ∧ others + v + 1 ≤ 64 then (v + 1, 1) else (v, 3))
  else if req = 2 then (if lo < v then (v - 1, 1) else (v, 2))
  else (v, 0)

/-- A tap's request is acted on once; its status stays until hold has come (R138). -/
def tapAct (lo hi others v req st : Nat) : Nat × Nat :=
  if req = 0 then (v, 0) else if st ≠ 0 then (v, st) else tapStep lo hi others v req

/-- This end's next request of the far end's taps (R138): where nothing is under way and this end is not ready, which tap to move and how
is its receiver's adaptation, which the spec does not state: any of them (assumption 23). -/
def Dev.nextRequest (d : Dev) (l : Nat) (far : Nat) : Dev :=
  let x := d.lane l
  if x.sentReady || x.rqPreset != 0 || x.rqPre != 0 || x.rqMain != 0 || x.rqPost != 0 || far != 0 then d
  else
    let (r, d) := d.free
    d.putLane l { x with rqPre := r % 3, rqMain := r / 3 % 3, rqPost := r / 9 % 3 }

/-- Act on a confirmed `COEFF` word (R136–R138): a preset sets all three taps; a tap request moves its tap; hold
takes the status back to not updated; the far end's status ends this end's own request. Several tap requests in one word are judged
in the order pre, main, post, each against the taps as already moved (R137 gives no order; DESIGN CHOICE, assumption 25). -/
def Dev.actCoeff (d : Dev) (l w : Nat) : Dev :=
  let x := d.lane l
  let told := d.coeffOut l
  let preset := bits w 27 2
  let (d, sa, sb, sc) :=
    if preset ≠ 0 then
      if x.stPre = 0 ∧ x.stMain = 0 ∧ x.stPost = 0 then (d.txPreset l preset, 1, 1, 1) else (d, x.stPre, x.stMain, x.stPost)
    else
      let pre := d.get LNK_TXFIR_pre l
      let main := d.get LNK_TXFIR_main l
      let post := d.get LNK_TXFIR_post l
      let (pre', sa) := tapAct 0 12 (main + post) pre (bits w 25 2) x.stPre
      let (main', sb) := tapAct 32 64 (pre' + post) main (bits w 23 2) x.stMain
      let (post', sc) := tapAct 0 20 (pre' + main') post (bits w 21 2) x.stPost
      (((d.put LNK_TXFIR_pre pre' l).put LNK_TXFIR_main main' l).put LNK_TXFIR_post post' l, sa, sb, sc)
  -- the far end's status
  let far := d.get LNK_FAR_FIR_taps l
  let moved (v req st : Nat) : Nat := if st = 1 then (if req = 1 then v + 1 else if req = 2 then v - 1 else v) else v
  let fa := bits w 19 2
  let fb := bits w 17 2
  let fc := bits w 15 2
  let far' :=
    if x.rqPreset ≠ 0 ∧ fa = 1 ∧ fb = 1 ∧ fc = 1 then
      if x.rqPreset = 2 then 4 * 2 ^ 16 + 52 * 2 ^ 8 + 8 else if x.rqPreset = 3 then 8 * 2 ^ 16 + 40 * 2 ^ 8 + 16 else 64 * 2 ^ 8
    else
      moved (bits far 16 8) x.rqPre fa % 256 * 2 ^ 16 + moved (bits far 8 8) x.rqMain fb % 256 * 2 ^ 8 +
        moved (bits far 0 8) x.rqPost fc % 256
  let d := d.put LNK_FAR_FIR_taps far' l
  let d := d.put LNK_STATUS_far_ready (bits w 14 1) l
  let d := d.putLane l { x with
    stPre := sa, stMain := sb, stPost := sc, rqPreset := if fa = 0 ∨ fb = 0 ∨ fc = 0 then x.rqPreset else 0,
    rqPre := if fa = 0 then x.rqPre else 0, rqMain := if fb = 0 then x.rqMain else 0,
    rqPost := if fc = 0 then x.rqPost else 0 }
  ((d.nextRequest l (fa + fb + fc)).trainRetell l told).readyJudge l

/-- Act on a confirmed `INFO` word (R136); a turnaround above 8,000 fails training (R140). -/
def Dev.actInfo (d : Dev) (l w : Nat) : Dev :=
  let ta := bits w 15 14
  let d := (d.put LNK_STATUS_far_ref_src (bits w 14 1) l).put LNK_STATUS_far_loop_capable (bits w 13 1) l
  if 8_000 < ta then d.trainFail l 8
  else (d.put LNK_DELAY_turnaround ta l).putLane l { d.lane l with infoValid := true }

/-- A training block's control word (R135, R136): ignored with a wrong CRC or a reserved type; acted on when the
same word has come in 3 consecutive blocks of its type. While the lane's transmitter is squelched after a failure or held by a clock
loss, its receiver does nothing with training blocks (R140 is silent; DESIGN CHOICE, assumption 25). -/
def Dev.trainingBlock (d : Dev) (l w : Nat) : Dev :=
  if !d.laneOn l || d.laneState l != 1 || (d.lane l).squelched || (d.lane l).heldByClock then d
  else
    let d := d.putLane l { d.lane l with marker := true }
    let x := d.lane l
    let ok := decide (crc8Control w = w % 256)
    let ty := bits w 29 3
    if ty = 0 then
      let n := if ok then (if x.coeffWord = w ∧ x.coeffSeen ≠ 0 then x.coeffSeen + 1 else 1) else 0
      let d := d.putLane l { x with coeffWord := w, coeffSeen := n }
      if n = 3 then d.actCoeff l w else d
    else if ty = 1 then
      let n := if ok then (if x.infoWord = w ∧ x.infoSeen ≠ 0 then x.infoSeen + 1 else 1) else 0
      let d := d.putLane l { x with infoWord := w, infoSeen := n }
      if n = 3 then d.actInfo l w else d
    else d

/-- Training completes (R139): the 64 further ready blocks have been sent, and the frame boundary has come at which codewords begin: the
lane aligns, and its scrambler starts. Without a valid `INFO` word training fails instead (R140). -/
def Dev.trainDone (d : Dev) (l duration : Nat) : Dev :=
  let x := d.lane l
  if d.laneOn l && d.laneState l == 1 && !x.squelched && !x.heldByClock && x.further && d.flag LNK_STATUS_far_ready l && d.k03 then
    if !x.infoValid then d.trainFail l 8
    else
      let d := d.put LNK_TRAIN_duration (min duration 0xFFFF) l
      let d := d.putLane l { x with scrambler := 2 ^ 31 - 1, cwGood := 0, cwBad := [], hdrGood := 0, hdrBad := 0 }
      (d.laneEnter l 2 2).progress x.enTkt 1
  else d

/-- A one-way delay in symbols of 28 GBd, rounded to the nearest, a half up, from its double in units of 0.125 ns (R143; assumption 25). -/
def delaySymbols (twice : Nat) : Nat := (7 * twice + 2) / 4

/-- Step the launch advance to a one-way delay, given as its double (R143). -/
def Dev.stepAdvance (d : Dev) (l twice : Nat) : Dev :=
  (d.put LNK_STATUS_advanced 1 l).putLane l
    { d.lane l with advance := delaySymbols twice, lastOneWay := twice, measured := true, keepAdv := false }

/-- A lane whose die-to-die link is lost is in SAFE where it would be in ENUM (R150). -/
def Dev.dieHold (d : Dev) (l : Nat) : Dev :=
  if d.laneState l = 3 ∧ d.dieLost.testBit (l / 64) then (d.putFrm l { d.frm l with runNext := false }).laneEnter l 5 9 else d

/-- A round trip averaged over 16 frames, in units of 0.125 ns (R143): a delay above 2,000 ns fails; the first
measurement steps the launch advance; a later one within 1.0 ns of the last completes alignment, else steps again and
fails after the third disagreement. A twin lane enters RUN, with no launch advance (R157). Delays are judged exactly, by their doubles;
`LNK_DELAY` shows them truncated to its unit. After a lock loss the held value is the last measured delay, which an agreeing measurement
replaces without a step (R152 names only 'the held value'; DESIGN CHOICE, assumption 25). -/
def Dev.delayMeasured (d : Dev) (l rtt : Nat) : Dev :=
  let x := d.lane l
  if !d.laneOn l || d.laneState l != 2 || !d.flag LNK_STATUS_frame_lock l then d
  else
    let twice := rtt - d.get LNK_DELAY_turnaround l
    if 32_000 < twice then d.trainFail l 7
    else if isTwin l then
      let d := (d.put LNK_DELAY_one_way (twice / 2) l).laneEnter l 4 3
      let d := d.done x.enTkt
      d.putLane l { d.lane l with enTkt := 0 }
    else
      let d := d.put LNK_DELAY_one_way (twice / 2) l
      if x.measured || x.keepAdv then
        if absDiff twice x.lastOneWay ≤ 16 then
          ((d.putLane l { x with disagree := 0, keepAdv := false, lastOneWay := twice }).enterEnum l 3).dieHold l
        else if x.keepAdv then d.stepAdvance l twice
        else if 3 ≤ x.disagree + 1 then d.trainFail l 7
        else (d.putLane l { x with disagree := x.disagree + 1 }).stepAdvance l twice
      else d.stepAdvance l twice

/-! ## Lane commands (R148) -/

/-- The lane that a lane command names: argument [3:0] on its page. -/
def cmdLane (page : Nat) (c : Cmd) : Nat := if page = 0x011 then 512 + c.arg % 16 else (page - 0x40) * 16 + c.arg % 16

/-- The loop mode of the argument. -/
def cmdLaneMode (c : Cmd) : Nat := bits c.arg 4 2

/-- A lane command's malformed arguments: a reserved bit, a mode on another opcode than LOOP, no such twin lane. -/
def laneBadArg (page : Nat) (c : Cmd) (isLoop : Bool) : Bool :=
  decide (c.arg / 64 ≠ 0) || (page == 0x011 && decide (4 ≤ c.arg % 16)) ||
    (if isLoop then cmdLaneMode c == 0 || cmdLaneMode c == 3 else cmdLaneMode c != 0)

/-- `ENABLE` (R130, R148). While the main synthesiser stands, the transmitter stays squelched until K03 starts (R406, R407). -/
def laneEnable : CmdDef where
  verdict page c d :=
    let l := cmdLane page c
    { Verdict.ok with
      badArg := laneBadArg page c false
      badState := d.laneState l != 0 || d.flag OTP_STATUS_restrictive || d.flag THM_STATUS_sd_latched || (page != 0x011 && !d.flag LNK_GRP_STATUS_otp_enabled (l / 16))
      total := if page = 0x011 then 2 else 3 }
  effect page c n d :=
    let l := cmdLane page c
    let d := (d.put LNK_TRAIN_fail_reason 0 l).put LNK_TRAIN_attempts 0 l
    let d := d.putLane l { Lane.init with enTkt := n, heldByClock := !d.k03 }
    d.enterTrain l 1 true

/-- A DISABLE is refused in RUN while the string's bank synthesises (R148). -/
def Dev.disableForbidden (d : Dev) (l : Nat) : Bool :=
  d.laneState l == 4 && !isTwin l && decide (d.stringBank l < 16) && workingMode (d.bankMode (d.stringBank l))

/-- `DISABLE` (R148, R149). A further one while the posture frames go out ends with the same transition; other commands are refused
then (assumption 23). -/
def laneDisable : CmdDef where
  verdict page c d :=
    let l := cmdLane page c
    { Verdict.ok with
      badArg := laneBadArg page c false
      badState := d.laneState l == 0 || d.disableForbidden l }
  effect page c n d :=
    let l := cmdLane page c
    let x := d.lane l
    if x.disTkt ≠ 0 then d.putLane l { x with disMore := n :: x.disMore }
    else if (d.laneState l = 4 ∨ d.laneState l = 5) ∧ !isTwin l then
      let d := d.partialDone x.enTkt
      d.putLane l { x with enTkt := 0, disTkt := n, postureLeft := 4 }
    else (d.putLane l { x with disTkt := n }).enterDown l 1

/-- `SAFE` (R148): from RUN, at the next frame boundary. -/
def laneSafe : CmdDef where
  verdict page c d :=
    { Verdict.ok with badArg := laneBadArg page c false, badState := d.laneState (cmdLane page c) != 4 || page == 0x011 || d.leaving (cmdLane page c) }
  effect page c n d :=
    let l := cmdLane page c
    let x := d.lane l
    d.putLane l (if x.safeTkt = 0 then { x with safeTkt := n } else { x with safeMore := n :: x.safeMore })

/-- `ENUMERATE` (R148). -/
def laneEnumerate : CmdDef where
  verdict page c d :=
    { Verdict.ok with badArg := laneBadArg page c false, badState := d.laneState (cmdLane page c) != 5 || page == 0x011 || d.leaving (cmdLane page c) }
  effect page c n d := (d.enterEnum (cmdLane page c) 1).done n

/-- `RETRAIN` (R148). -/
def laneRetrain : CmdDef where
  verdict page c d :=
    let st := d.laneState (cmdLane page c)
    { Verdict.ok with badArg := laneBadArg page c false, badState := !(st == 2 || st == 3 || st == 5) || d.leaving (cmdLane page c) }
  effect page c n d := (d.enterTrain (cmdLane page c) 1 true).done n

/-- What a lane in remote loopback sends (R155, R156): 64 training blocks with the `LOOP` word, then PRBS31, of which the record holds
the generator's state before its first bit and the first 700 symbols. Either generator starts anywhere. One of the 64 blocks is the
INFO block of R135, which has no COEFF word to replace (R156 does not say so; DESIGN CHOICE, assumption 25). -/
def Dev.loopSend (d : Dev) (l : Nat) : Dev :=
  let (r, d) := d.free
  let d := (d.putLane l { d.lane l with prbs := 1 + r % 8_191 }).trainSend l loopWord
  let (r, d) := d.free
  let st := 1 + r % (2 ^ 31 - 1)
  d.emit .prbs l (st :: (pamSymbols (prbs31Bits 1_400 st).1).map (pamInvert (d.lane l).txInv))

/-- `LOOP` (R148, R155, R156): near from DOWN, remote from SAFE with a capable far end. The generators start anywhere. -/
def laneLoop : CmdDef where
  verdict page c d :=
    let l := cmdLane page c
    { Verdict.ok with
      badArg := laneBadArg page c true
      badState :=
        if cmdLaneMode c = 1 then d.laneState l != 0
        else !(d.laneState l == 5 && d.flag LNK_STATUS_far_loop_capable l) || d.leaving l }
  effect page c n d :=
    let l := cmdLane page c
    let d := (d.put LNK_STATUS_loop_mode (cmdLaneMode c) l).putLane l { d.lane l with chkReg := 0, chkGood := 0, chkLock := false }
    (if cmdLaneMode c = 2 then (d.laneEnter l 6 1).loopSend l
     else
       let (r, d) := (d.laneEnter l 6 1).free
       d.putLane l { d.lane l with loopGen := 1 + r % (2 ^ 31 - 1) }).done n

/-- `LOOP_EXIT` (R148). -/
def laneLoopExit : CmdDef where
  verdict page c d :=
    { Verdict.ok with badArg := laneBadArg page c false, badState := d.laneState (cmdLane page c) != 6 }
  effect page c n d := (d.enterDown (cmdLane page c) 1).done n

/-- Zero a lane's counters and `LNK_SAT` (R148, R154). -/
def Dev.clearLaneCounters (d : Dev) (l : Nat) : Dev :=
  (((((((d.put LNK_CORR_LO_count_lo 0 l).put LNK_CORR_HI_count_hi 0 l).put LNK_UNCORR_count 0 l).put LNK_HDR_CRC_count 0 l).put
    LNK_LOL_count 0 l).put LNK_SLIPS_count 0 l).put LNK_PRBS_ERR_count 0 l).put LNK_SAT_flags 0 l

/-- `CLEAR_COUNTERS` (R148): needs a session covering OPS. -/
def laneClear : CmdDef where
  verdict page c d :=
    { Verdict.ok with denied := d.denies c scopeOPS, badArg := laneBadArg page c false, priv := true }
  effect page c n d := (d.clearLaneCounters (cmdLane page c)).done n

/-- The page a lane command goes to: a lane group's, or the twin page. -/
def laneCmdPage (twin : Bool) (c : Cmd) : Nat := if twin then 0x011 else 0x40 + c.inst % 32

/-! ## Die-to-die links (R43, R150) -/

/-- The lanes of a lane die. -/
def dieLanes (m : Nat) : List Nat := (List.range 64).map fun k => 64 * m + k

/-- A frame's 560,000 symbols leave on a lane: scrambled, coded and Gray-mapped (R125–R128). -/
def Dev.lineSend (d : Dev) (l : Nat) (fields : List PayField) : Dev :=
  let x := d.lane l
  let s := frameLine 800 0 x.scrambler fields
  (d.putLane l { x with scrambler := s.2 }).emit .line l (s.1.map (pamInvert x.txInv))

end Sys2Proof.Machine
end

