-- ==== Sys2Proof/Machine/Frames.lean ====
section
/-!
DEFINITION. Machine/Frames.lean: headers, the management channel, the inventory, slot maps and the `FRM` commands
(chapter 06, R11–R25).
-/
namespace Sys2Proof.Machine

/-! ## Node profiles (R12–R17) -/

/-- Upstream bits of an endpoint class per frame (R12): NONE 0, V 1, I 2, T 3, S 4, B 5. -/
def classUp (c : Nat) : Nat :=
  if c = 1 then 96 else if c = 2 then 384 else if c = 3 then 16 else if c = 4 then 8 else if c = 5 then 8 else 0

/-- Downstream bits of an endpoint class per frame (R12). -/
def classDown (c : Nat) : Nat := if c = 4 then 16 else if c = 5 then 8 else 0

/-- Class of endpoint `e` and the cell index it is bound to (0x1F for none), by profile (R16). -/
def profileEp (n : Node) (e : Nat) : Nat × Nat :=
  if n.profile = 0x01 then
    ([1, 3, 4, 5].getD (e % 4) 0, e / 4)
  else if n.profile = 0x02 then
    if e < 12 then (1, e) else if e < 24 then (4, e - 12) else if e < 30 then (3, 0x1F) else (5, 0x1F)
  else if n.profile = 0x03 then
    if e < 28 then ([1, 3, 4, 5].getD (e % 4) 0, e / 4) else if e = 28 then (2, 0x1F) else (0, 0x1F)
  else if n.profile = 0x3F then
    let b := n.classes.getD e 0x1F
    (bits b 5 3, bits b 0 5)
  else (0, 0x1F)

/-- The endpoints of a node: (endpoint, class, cell index). -/
def nodeEps (n : Node) : List (Nat × Nat × Nat) := (List.range 32).map fun e => (e, profileEp n e)

/-- How many endpoints of class `k` a node binds to cell index `c`. -/
def countBound (n : Node) (k c : Nat) : Nat := ((nodeEps n).filter fun e => e.2.1 == k && e.2.2 == c).length

/-- A `PX` node that breaks the rule for a cell's existence (an index that any endpoint names must have its V and its S), or a
reserved profile (R14, R17). An endpoint with a reserved class code makes it so too (DESIGN CHOICE, assumption 22); the index of an
endpoint of class NONE is not judged (DESIGN CHOICE, assumption 25). -/
def badProfile (n : Node) : Bool :=
  if n.profile = 0x3F then
    ((nodeEps n).any fun e => decide (6 ≤ e.2.1) || (e.2.1 != 0 && decide (16 ≤ e.2.2 ∧ e.2.2 < 31))) ||
    (List.range 16).any fun c =>
      let v := countBound n 1 c
      let s := countBound n 4 c
      let t := countBound n 3 c
      let b := countBound n 5 c
      (v != s) || decide (1 < v) || decide (1 < t) || decide (1 < b) || (v == 0 && decide (0 < t + b + countBound n 2 c))
  else !(n.profile ∈ [0x00, 0x01, 0x02, 0x03])

/-- A cell exists at index `c` when exactly one V and one S endpoint are bound to it (R14). -/
def hasCell (n : Node) (c : Nat) : Bool := countBound n 1 c == 1 && countBound n 4 c == 1

/-- The endpoint of class `k` bound to cell `c`, if any. -/
def boundEp (n : Node) (k c : Nat) : Option Nat := ((nodeEps n).find? fun e => e.2.1 == k && e.2.2 == c).map (·.1)

/-- The T endpoint from which a cell takes its temperature (R15). -/
def tempEp (n : Node) (c : Nat) : Option Nat :=
  match boundEp n 3 c with
  | some e => some e
  | none =>
    if n.profile = 0x02 then some (24 + c / 2)
    else ((nodeEps n).find? fun e => e.2.1 == 3 && decide (16 ≤ e.2.2)).map (·.1)

/-- Upstream bits of a node's slots. -/
def nodeUp (n : Node) : Nat := ((nodeEps n).map fun e => classUp e.2.1).sum

/-- Downstream bits of a node's slots. -/
def nodeDown (n : Node) : Nat := ((nodeEps n).map fun e => classDown e.2.1).sum

/-- The node as the lane treats it: `P0` where R17 says so. -/
def effNode (n : Node) : Node := if badProfile n then { n with profile := 0, classes := [] } else n

/-- The cells of a lane's inventory: (node, cell). -/
def Dev.laneCells (d : Dev) (l : Nat) : List (Nat × Nat) :=
  (d.frm l).nodes.flatMap fun e => ((List.range 16).filter fun c => hasCell e.2 c).map fun c => (e.1, c)

/-- The node of a lane. -/
def Dev.node (d : Dev) (l m : Nat) : Option Node := ((d.frm l).nodes.find? fun e => e.1 == m).map (·.2)

/-- A cell exists at the position, by the inventory in use (R14). -/
def Dev.cellExists (d : Dev) (p : Pos) : Bool :=
  match d.node p.lane p.node with
  | some n => hasCell n p.cell
  | none => false

/-! ## Slot maps (R192, R193) -/

/-- Lay nodes out in chain order from the given bases: (upstream bases, downstream bases, ends). -/
def layNodes : SMap Node → Nat → Nat → SMap Nat → SMap Nat → SMap Nat × SMap Nat × Nat × Nat
  | [], u, w, us, ws => (us, ws, u, w)
  | (m, n) :: ns, u, w, us, ws => layNodes ns (u + nodeUp n) (w + nodeDown n) (us.put m u) (ws.put m w)

/-- The default map of R192 in window 7 under a map_id. -/
def Dev.writeDefaultMap (d : Dev) (l : Nat) : Dev :=
  let x := d.frm l
  let (us, ws, u, w) := layNodes x.nodes 1_568 1_184 [] []
  ((d.putFrm l { x with upBase := us, downBase := ws }).put FRM_L_UP_USED_bits (u - 1_568) l).put FRM_L_DOWN_USED_bits
    (w - 1_184) l

/-- Do two bit ranges (base, width) overlap? -/
def rangesMeet (a b : Nat × Nat) : Bool := decide (0 < a.2 ∧ 0 < b.2 ∧ a.1 < b.1 + b.2 ∧ b.1 < a.1 + a.2)

/-- No two of the ranges overlap. -/
def noOverlap : List (Nat × Nat) → Bool
  | [] => true
  | r :: rs => (rs.all fun q => !rangesMeet r q) && noOverlap rs

/-- A map is valid (R193). -/
def Dev.mapValid (d : Dev) (l : Nat) : Bool :=
  let x := d.frm l
  let ups := x.nodes.map fun e => (x.upBase.get e.1 0, nodeUp e.2)
  let downs := x.nodes.map fun e => (x.downBase.get e.1 0, nodeDown e.2)
  (ups.all fun r => r.2 == 0 || decide (1_568 ≤ r.1 ∧ r.1 + r.2 ≤ 1_000_000)) &&
  (downs.all fun r => r.2 == 0 || decide (1_184 ≤ r.1 ∧ r.1 + r.2 ≤ 1_000_000)) && noOverlap ups && noOverlap downs

/-- The downstream offset of an endpoint within its node's slots (R192: endpoint order). -/
def epDownOff (n : Node) (e : Nat) : Nat := ((List.range e).map fun k => classDown (profileEp n k).1).sum

/-- The upstream offset of an endpoint within its node's slots. -/
def epUpOff (n : Node) (e : Nat) : Nat := ((List.range e).map fun k => classUp (profileEp n k).1).sum

/-- Up to 13 nodes of a `MAP_LOAD` message: its body (R188). -/
def mapLoadBody (x : Frm) (id : Nat) (chunk : SMap Node) : List Nat :=
  leBytes 2 id ++ leBytes 2 ((chunk.head?.map (·.1)).getD 0) ++ [chunk.length] ++
    chunk.flatMap fun e => leBytes 4 (x.upBase.get e.1 0) ++ leBytes 4 (x.downBase.get e.1 0)

/-- Send the map in chunks of 13 nodes (fuel: the number of nodes). -/
def Dev.sendMap (d : Dev) (l id : Nat) : Nat → SMap Node → Dev
  | 0, _ => d
  | k + 1, ns => if ns.isEmpty then d else
      (d.mgmtSend l 0x1FF 0x03 (mapLoadBody (d.frm l) id (ns.take 13))).sendMap l id k (ns.drop 13)

/-- LOADING: `MAP_LOAD`s and `MAP_COMMIT` go out (R189). -/
def Dev.startLoading (d : Dev) (l : Nat) : Dev :=
  let id := d.get FRM_L_MAP_built l
  let x := d.frm l
  let d := (d.put FRM_L_INV_phase 5 l).sendMap l id (x.nodes.length + 1) x.nodes
  d.mgmtSend l 0x1FF 0x04 (leBytes 2 id ++ leBytes 2 x.nodes.length)

/-- The inventory is asked for (again): phase INVENTORY. -/
def Dev.startInventory (d : Dev) (l : Nat) : Dev :=
  ((d.putFrm l { d.frm l with inv := [], headNodes := 0 }).put FRM_L_INV_phase 2 l).mgmtSend l 0x1FF 0x01 []

/-- A new map_id: the previous one plus 1, 0 skipped (R189). -/
def nextMapId (id : Nat) : Nat := if (id + 1) % 2 ^ 16 = 0 then 1 else (id + 1) % 2 ^ 16

/-- The positions whose node identity changed (R191): their learned data becomes stale. -/
def Dev.markStale (d : Dev) (l m : Nat) : Dev :=
  { d with stale := (List.range 16).foldl (fun t c => SMap.put t (posKey l (m * 16 + c)) 1) d.stale }

/-- Compare the reported identities with the pantry's (R191). -/
def Dev.checkIdentities (d : Dev) (l : Nat) (ns : SMap Node) : Dev :=
  each ns (fun e d =>
    let key := l * 320 + e.1
    if (d : Dev).identities.has key && d.identities.get key 0 != e.2.identity then
      ((d.raise F_CELL_STALE 0x017 l).pageIrq 0x017 3).markStale l e.1
    else d) d

/-- The inventory is complete (R189): it is judged against R17, R20 and the limit of 320 nodes; where it fits, the
default map is written under a new map_id, and the lane waits in HELD or goes on to LOADING. Node records received beyond the count that
`INV_END` gives are kept (DESIGN CHOICE, assumption 22). -/
def Dev.inventoryDone (d : Dev) (l count gen : Nat) : Dev :=
  let x := d.frm l
  let raw := x.inv.filter fun e => decide (e.1 < 320)
  let d := if decide (320 < count) || raw.any (fun e => badProfile e.2) then d.raise F_NODE_PROFILE 0x014 l else d
  let ns : SMap Node := raw.map fun e => (e.1, effNode e.2)
  let d := (d.put FRM_L_INV_inv_gen gen l).put FRM_L_INV_node_count (min count 320) l
  let up := (ns.map fun e => nodeUp e.2).sum
  let down := (ns.map fun e => nodeDown e.2).sum
  let over_ := decide (998_432 < up ∨ 998_816 < down)
  let d := if over_ then (d.put FRM_L_INV_phase 3 l).raise F_SLOT_BUDGET 0x014 l else d
  let d := d.checkIdentities l ns
  let d := d.putFrm l { d.frm l with nodes := ns }
  if over_ then d
  else
    let d := (d.put FRM_L_MAP_built (nextMapId (d.get FRM_L_MAP_built l)) l).writeDefaultMap l
    let d := d.putFrm l { d.frm l with rejected := false }
    if d.wbit FRM_ENUM_HOLD_hold l then (d.put FRM_L_INV_phase 4 l).pageIrq 0x014 3
    else d.startLoading l

/-! ## Headers (R161, R164–R166) -/

/-- Payload bits a–b of a 160-bit header, most significant bit first (R161). -/
def hdrField (hdr a b : Nat) : Nat := bits hdr (159 - b) (b - a + 1)

/-- A header's CRC passes (R166). -/
def hdrGood (hdr : Nat) : Bool := hdrField hdr 144 159 == crc16Header hdr

/-! ## The management channel (R186–R188) -/

/-- The bytes of a message, or zero. -/
def byteAt (b : List Nat) (i : Nat) : Nat := b.getD i 0

/-- Epoch a is later than epoch b (R168). -/
def laterEpoch (a b : Nat) : Bool := decide (1 ≤ (a + 2 ^ 16 - b) % 2 ^ 16 ∧ (a + 2 ^ 16 - b) % 2 ^ 16 ≤ 32_767)

/-- An acknowledgement arrives: messages up to it leave the sender's window; the host mailbox's message is DONE with
its ticket (R187, R196). -/
def Dev.mgmtAck (d : Dev) (l ack : Nat) : Dev :=
  let x := d.frm l
  let known := (x.txQueue.take x.mgmtHigh).any fun m => m.seq == ack
  if !known then d
  else
    let rest := x.txQueue.filter fun m => laterEpoch m.seq ack
    let mbx := decide (x.mbxTkt ≠ 0) && !rest.any (fun m => m.seq == x.mbxSeq)
    let k := x.txQueue.length - rest.length
    let d := d.putFrm l { x with txQueue := rest, mgmtNext := x.mgmtNext - k, mgmtHigh := x.mgmtHigh - k, stall := 0, mbxTkt := if mbx then 0 else x.mbxTkt }
    if mbx then (d.done x.mbxTkt).put FRM_MBX_TX_STATUS_state 2 else d

/-- A message for the host mailbox fills it, or is dropped and counted while it is full (R195, R196). -/
def Dev.mbxReceive (d : Dev) (l addr kind : Nat) (body : List Nat) : Dev :=
  if d.flag FRM_MBX_RX_STATUS_full then (d.bump FRM_MBX_RX_STATUS_dropped).pageIrq 0x014 4
  else
    let bytes := leBytes 2 addr ++ [kind, body.length] ++ body ++ List.replicate (124 - body.length) 0
    let d := each (List.range 32) (fun w d => (d : Dev).put FRM_MBX_RX_data (leNat ((bytes.drop (4 * w)).take 4)) w) d
    (((d.put FRM_MBX_RX_STATUS_full 1).put FRM_MBX_RX_STATUS_lane l).pageIrq 0x014 2)

/-- `MAP_ACK` (R190): loaded, the lane enters RUN at the next frame boundary; rejected, LOADING runs once more, then the
inventory, where a `MAP_RELEASE` ticket closes PARTIAL (R190 and R196 give only its DONE at RUN; DESIGN CHOICE, assumption 25). -/
def Dev.mapAck (d : Dev) (l id verdict : Nat) : Dev :=
  if d.get FRM_L_INV_phase l ≠ 5 ∨ id ≠ d.get FRM_L_MAP_built l then d
  else if verdict = 0 then d.putFrm l { d.frm l with runNext := true }
  else if !(d.frm l).rejected then (d.putFrm l { d.frm l with rejected := true }).startLoading l
  else
    let t := (d.frm l).relTkt
    let d := (d.partialDone t).putFrm l { d.frm l with relTkt := 0 }
    (d.bump FRM_L_ENUM_RETRY_count l).startInventory l

/-- Act on a message received in order (R188, R189, R194). -/
def Dev.mgmtAct (d : Dev) (l addr kind : Nat) (b : List Nat) : Dev :=
  let phase := d.get FRM_L_INV_phase l
  let x := d.frm l
  if kind = 0x81 then
    d.putFrm l { x with headId := leNat (b.take 16), iLsb := leNat ((b.drop 16).take 4), dualHomed := bit (byteAt b 20) 0,
                        headNodes := leNat ((b.drop 21).take 2) }
  else if kind = 0x82 then
    if phase = 2 ∨ phase = 3 then
      let n : Node := { identity := leNat (b.take 16), profile := byteAt b 16, iLsb := leNat ((b.drop 17).take 2),
                        classes := if byteAt b 16 = 0x3F then (List.range 32).map fun e => byteAt b (19 + e) else [] }
      d.putFrm l { x with inv := x.inv.put addr n }
    else d
  else if kind = 0x83 then
    let count := leNat (b.take 2)
    if (phase = 2 ∨ phase = 3) ∧ (List.range count).all (fun m => x.inv.has m) then d.inventoryDone l count (byteAt b 2)
    else d
  else if kind = 0x84 then d.mapAck l (leNat (b.take 2)) (byteAt b 2)
  else if kind = 0x85 then
    (d.putWbit FRM_CHAIN_changed l true).pageIrq 0x014 0
  else if kind = 0x86 ∨ kind = 0x87 then d.mbxReceive l addr kind b
  else if kind = 0x88 then
    if phase = 1 then d.startInventory l else d
  else d

/-- A management block (R186): 128 bytes; `bad` says that it contains a bit of an uncorrectable codeword. A bad block
is discarded whole and counted; the rest acknowledge, and a message in order is accepted and acted on. -/
def Dev.mgmtBlock (d : Dev) (l : Nat) (b : List Nat) (bad : Bool) : Dev :=
  let kind := byteAt b 0
  if !d.laneOn l || isTwin l || !mgmtState (d.laneState l) then d
  else if bad || decide (b.length ≠ 128) || decide (crc32 (b.take 124) ≠ leNat ((b.drop 124).take 4)) || decide (1 < kind) then
    let n := d.get FRM_L_MGMT_discards l
    if n + 1 < 2 ^ 16 then d.put FRM_L_MGMT_discards (n + 1) l
    else d.put FRM_L_SAT_flags (setBit (d.get FRM_L_SAT_flags l) 4) l
  else
    let d := d.mgmtAck l (leNat ((b.drop 4).take 2))
    let x := d.frm l
    let seq := leNat ((b.drop 2).take 2)
    if kind = 1 ∧ seq = (x.rxAck + 1) % 2 ^ 16 then
      let d := d.putFrm l { x with rxAck := seq }
      d.mgmtAct l (leNat ((b.drop 6).take 2) % 2 ^ 9) (byteAt b 8) ((b.drop 10).take (min (byteAt b 9) 110))
    else d

/-- `MGMT_BLOCK_RECEIVED` (R186). -/
def execMgmtBlockReceived (lane : Nat) (block : List Nat) (bad : Bool) (s : State) :=
  onDev (fun d => d.mgmtBlock lane block bad) s

/-- The block that a frame carries on an open channel (R186, R187): the next message of the queue within the window of 256, or
`IDLE`. A message sent again is counted; `stall` counts the frames since the acknowledgement last advanced. -/
def Dev.mgmtNextBlock (d : Dev) (l : Nat) : List Nat × Dev :=
  let x := d.frm l
  let close (b : List Nat) : List Nat :=
    let b := b ++ List.replicate (124 - b.length) 0
    b ++ leBytes 4 (crc32 b)
  match (x.txQueue.take 256)[x.mgmtNext]? with
  | none =>
    (close ([0, 0, 0, 0] ++ leBytes 2 x.rxAck), d.putFrm l { x with stall := if x.mgmtHigh = 0 then 0 else x.stall + 1 })
  | some m =>
    let d := if x.mgmtHigh ≤ x.mgmtNext then d
      else if d.get FRM_L_MGMT_retx l + 1 < 2 ^ 16 then d.put FRM_L_MGMT_retx (d.get FRM_L_MGMT_retx l + 1) l
      else d.put FRM_L_SAT_flags (setBit (d.get FRM_L_SAT_flags l) 3) l
    (close ([1, 0] ++ leBytes 2 m.seq ++ leBytes 2 x.rxAck ++ leBytes 2 m.addr ++ [m.kind, m.body.length] ++ m.body),
     d.putFrm l { x with mgmtNext := x.mgmtNext + 1, mgmtHigh := max x.mgmtHigh (x.mgmtNext + 1), stall := x.stall + 1 })

/-- `MGMT_RETRANSMIT` (R187): after 32 frames with unacknowledged messages and no advance of the acknowledgement, sending
begins again at the oldest. -/
def execMgmtRetransmit (lane : Nat) (s : State) :=
  onDev (fun d =>
    let x := d.frm lane
    if d.laneOn lane && mgmtState (d.laneState lane) && decide (0 < x.mgmtHigh ∧ 32 ≤ x.stall) then
      d.putFrm lane { x with mgmtNext := 0, stall := 0 }
    else d) s

/-- `INVENTORY_RETRY` (R189): in INVENTORY after 100 ms, or in BUDGET_FAIL every 1 s, the inventory is asked for
again. -/
def execInventoryRetry (lane : Nat) (s : State) :=
  onDev (fun d =>
    let ph := d.get FRM_L_INV_phase lane
    if d.laneOn lane && d.laneState lane == 3 && (ph == 2 || ph == 3) then
      (d.bump FRM_L_ENUM_RETRY_count lane).startInventory lane
    else d) s

/-- The first frame at or after `f` whose number is a multiple of the window's length, W seconds (R241, R244). -/
def nextWindow (f w : Nat) : Nat :=
  let l := 50_000 * max 1 w
  (f + l - 1) / l * l

/-- A word of a bin plan copy. -/
def planWord (t : SMap Nat) (l bin w : Nat) : Nat := t.get (l * 0x100 + bin * 0x10 + 4 * w) 0

/-- The bin of a lane is enabled in force. -/
def Dev.binOn (d : Dev) (l bin : Nat) : Bool := bit (planWord d.imp.force l bin 0) 31

/-- Windows of enabled bins that are in progress on a lane at frame `f`. -/
def Dev.windowsOpen (d : Dev) (l f : Nat) : Nat :=
  let x := d.imp.lanes.get l ImpLane.init
  ((List.range x.bins).filter fun b => d.binOn l b && x.start.has b && decide (x.start.get b 0 < f)).length

/-- A lane's engine. -/
def Dev.impLane (d : Dev) (l : Nat) : ImpLane := d.imp.lanes.get l ImpLane.init

/-- Write a lane's engine. -/
def Dev.putImp (d : Dev) (l : Nat) (x : ImpLane) : Dev := { d with imp := { d.imp with lanes := d.imp.lanes.put l x } }

/-- The four words of an entry of a copy. -/
def planEntry (t : SMap Nat) (l bin : Nat) : List Nat := (List.range 4).map fun w => planWord t l bin w

/-- A `PLAN_APPLY` ticket counts a bin that has taken its entry; the last one completes it (R243). -/
def Dev.applyCount (d : Dev) (n : Nat) : Dev :=
  let k := d.imp.taken.get n 0 + 1
  let d := { d with imp := { d.imp with taken := d.imp.taken.put n k } }
  match d.ticketAt n with
  | some (_, t) =>
    if !t.open_ then d
    else if t.total ≤ k then ({ d with imp := { d.imp with taken := d.imp.taken.del n } }.done n).pageIrq 0x016 3
    else d.progress n k
  | none => d

/-- A bin's next window starts at a frame; while the arithmetic hibernates none does (R254). -/
def Dev.startPut (d : Dev) (m : SMap Nat) (bin f : Nat) : SMap Nat :=
  if d.flag EST_STATUS_hibernated then m.del bin else m.put bin f

/-- A changed bin takes its new entry at frame `f` (R244). -/
def Dev.binTake (d : Dev) (l bin f : Nat) : Dev :=
  let x := d.impLane l
  match x.pend.find? fun (e : Nat × List Nat) => e.1 == bin with
  | none => d
  | some e =>
    let words := e.2
    let force := (List.range 4).foldl (fun (t : SMap Nat) w => t.put (l * 0x100 + bin * 0x10 + 4 * w) (words.getD w 0)) d.imp.force
    let on := bit (words.getD 0 0) 31
    let start := if on then d.startPut x.start bin (nextWindow f (bits (words.getD 0 0) 24 7)) else x.start.del bin
    let x := { x with
      pend := x.pend.del bin
      start := start
      seen := x.seen.del bin
      acc := x.acc.filter fun (a : Nat × ImpAcc) => a.1 % 16 != bin }
    ({ d with imp := { d.imp with force := force } }.putImp l x).applyCount x.tkt

/-- Every changed bin of a lane whose windows have just been dropped takes its new entry (R244). -/
def Dev.takeAll (d : Dev) (l f : Nat) : Dev := each ((d.impLane l).pend.map (·.1)) (fun b (d : Dev) => d.binTake l b f) d

/-- Entry to RUN in the impedance engine: open windows are dropped and counted, ordinals numbered afresh, the bins served
follow, words cleared (R245, R254). -/
def Dev.impEnterRun (d : Dev) (l f : Nat) : Dev :=
  let fresh := !d.imp.lanes.has l
  let x := d.imp.lanes.get l ImpLane.init
  let d := d.bumpS IMP_L_DROPPED_count IMP_L_DROPPED_sat l (d.windowsOpen l f)
  let cells := (d.laneCells l).map fun p => p.1 * 16 + p.2
  let b := if cells.isEmpty then 16 else min 16 (40_960 / cells.length)
  let start : SMap Nat := (List.range b).foldl (fun (m : SMap Nat) i =>
    if d.binOn l i then d.startPut m i (nextWindow f (bits (planWord d.imp.force l i 0) 24 7)) else m) []
  let d := { d with imp := { d.imp with lanes := d.imp.lanes.put l { x with
      cells := cells, bins := b, start := start, seen := [], acc := [], ended := [], endedPlan := [], closed := [], prev := [], res := [], deliver := [],
      refreshed := if fresh then f else x.refreshed } } }
  d.takeAll l f

/-- The lane enters RUN at the frame boundary that follows a loaded map (R190): the new map is in force, the reported
identities are recorded (R191), tickets complete, the string's impedance ordinals and filters start afresh (R245). -/
def Dev.enterRun (d : Dev) (l : Nat) : Dev :=
  let x := d.frm l
  let d := d.put FRM_L_MAP_in_force (d.get FRM_L_MAP_built l) l
  let d := { d with identities := x.nodes.foldl (fun m (e : Nat × Node) => m.put (l * 320 + e.1) e.2.identity) d.identities }
  let d := (d.done x.relTkt).done (d.lane l).enTkt
  let d := d.putLane l { d.lane l with enTkt := 0 }
  let d := d.putFrm l { d.frm l with relTkt := 0, runNext := false }
  let d := { d with sch := { d.sch with strs := d.sch.strs.put l Str.init } }
  ((d.impEnterRun l d.frame).laneEnter l 4 4).wakeCause

/-! ## `FRM` commands (R196) -/

/-- A lane command of the `FRM` page names its lane in argument [8:0] of `PAGE_CMD` [31:8]. -/
def frmLane (c : Cmd) : Nat := c.arg % 512

/-- `MAP_RELEASE`. -/
def mapRelease : CmdDef where
  verdict _ c d :=
    let l := frmLane c
    let held := d.laneState l == 3 && d.get FRM_L_INV_phase l == 4
    { Verdict.ok with badArg := decide (512 ≤ c.arg) || (held && !d.mapValid l), badState := !held }
  effect _ c n d :=
    let l := frmLane c
    (d.putFrm l { d.frm l with relTkt := n }).startLoading l

/-- `MAP_DEFAULT`. -/
def mapDefault : CmdDef where
  verdict _ c d :=
    let l := frmLane c
    { Verdict.ok with badArg := decide (512 ≤ c.arg), badState := !(d.laneState l == 3 && d.get FRM_L_INV_phase l == 4) }
  effect _ c n d := (d.writeDefaultMap (frmLane c)).done n

/-- The B endpoint that `FRM_B_ADDR` names, in a map in force. -/
def Dev.bEndpoint (d : Dev) (w : Nat) : Option Pos :=
  match unpackEndpoint w with
  | some p =>
    match d.node p.lane p.node with
    | some n => if (profileEp n p.cell).1 = 5 ∧ d.get FRM_L_MAP_in_force p.lane ≠ 0 ∧
          (d.laneState p.lane = 4 ∨ d.laneState p.lane = 5) then some p else none
    | none => none
  | none => none

/-- `B_SET`: the downstream byte of the endpoint in `FRM_B_ADDR`. -/
def bSet : CmdDef where
  verdict _ c d :=
    let a := d.get FRM_B_ADDR_addr
    { Verdict.ok with
      badArg := decide (256 ≤ c.arg) || (unpackEndpoint a).isNone
      badState := (d.bEndpoint a).isNone }
  effect _ c n d :=
    match d.bEndpoint (d.get FRM_B_ADDR_addr) with
    | some p =>
      let x := d.frm p.lane
      (d.putFrm p.lane { x with bDown := x.bDown.put (p.node * 32 + p.cell) (c.arg % 256) }).done n
    | none => d.done n

/-- The 128 bytes of the transmit mailbox. -/
def Dev.mbxBytes (d : Dev) : List Nat := (List.range 32).flatMap fun w => leBytes 4 (d.get FRM_MBX_TX_data w)

/-- `MBX_SEND`: queues the host mailbox message; needs a session covering OPS. -/
def mbxSend : CmdDef where
  verdict _ c d :=
    let l := frmLane c
    let b := d.mbxBytes
    let ty := byteAt b 2
    { Verdict.ok with
      denied := d.denies c scopeOPS
      badArg := decide (512 ≤ c.arg) || !(ty == 0x05 || ty == 0x06) ||
        decide (d.get FRM_L_INV_node_count l ≤ leNat (b.take 2)) || decide (110 < byteAt b 3)
      badState := !mgmtState (d.laneState l) || d.get FRM_MBX_TX_STATUS_state == 1
      priv := true }
  effect _ c n d :=
    let l := frmLane c
    let b := d.mbxBytes
    let q := (d.frm l).txNext
    let d := d.mgmtSend l (leNat (b.take 2)) (byteAt b 2) ((b.drop 4).take (byteAt b 3))
    (d.putFrm l { d.frm l with mbxTkt := n, mbxSeq := q }).put FRM_MBX_TX_STATUS_state 1

/-- `INVENTORY`: restarts the work of ENUM at the inventory. -/
def frmInventory : CmdDef where
  verdict _ c d := { Verdict.ok with badArg := decide (512 ≤ c.arg), badState := d.laneState (frmLane c) != 3 }
  effect _ c n d :=
    let l := frmLane c
    let t := (d.frm l).relTkt
    let d := (d.partialDone t).putFrm l { d.frm l with relTkt := 0, runNext := false }
    ((d.bump FRM_L_ENUM_RETRY_count l).startInventory l).done n

/-- `MAP_RELEASE` (R196). -/
def execMapRelease (c : Cmd) (s : State) := onDev (fun d => d.cmd 0x014 1 mapRelease c) s
/-- `MAP_DEFAULT` (R196). -/
def execMapDefault (c : Cmd) (s : State) := onDev (fun d => d.cmd 0x014 2 mapDefault c) s
/-- `B_SET` (R196). -/
def execBSet (c : Cmd) (s : State) := onDev (fun d => d.cmd 0x014 3 bSet c) s
/-- `MBX_SEND` (R196). -/
def execMbxSend (c : Cmd) (s : State) := onDev (fun d => d.cmd 0x014 4 mbxSend c) s
/-- `FRM_INVENTORY` (R196). -/
def execFrmInventory (c : Cmd) (s : State) := onDev (fun d => d.cmd 0x014 5 frmInventory c) s

/-- `MBX_RX_RELEASE` (R195): writing 1 to `FRM_MBX_RX_STATUS.full` frees the buffer; like every write it waits behind those that wait
at its link (R84). -/
def execMbxRxRelease (ch : Nat) (s : State) :=
  onDev (fun d =>
    if !d.reaches ch 0x014 then d
    else if d.mustWait ch false then d.linkHold 0x14580 (2 ^ 31) ch
    else d.put FRM_MBX_RX_STATUS_full 0) s

/-- `EPOCH_RAISE` (R170): at the frame boundary after an upstream header in ENUM reported an epoch at or later than the
device's, the device's epoch becomes emax + 1 on every lane at once. -/
def execEpochRaise (s : State) :=
  onDev (fun d =>
    if d.epochPend = 0 ∨ !d.k03 then d
    else { d.put FRM_EPOCH_epoch (d.epochPend - 1) with epochPend := 0 }) s

end Sys2Proof.Machine
end

