-- ==== Sys2Proof/Machine/Sched.lean ====
section
/-!
DEFINITION. Machine/Sched.lean: writes of the limit and target tables (R58–R60, R229–R235), the `SCH` commands (R237),
bank modes (R199–R201, R239), grid-sense lock (R203) and what a frame boundary does to tables and modes.
-/
namespace Sys2Proof.Machine

/-! ## Writes of the tables (R230–R235) -/

/-- A field of a table word: lowest bit, width, and which changed values it takes. -/
structure LimF where
  lo : Nat
  width : Nat
  legal : Nat → Bool

/-- Any value. -/
def anyV (_ : Nat) : Bool := true
/-- No changed value: an `RO` field. -/
def roV (_ : Nat) : Bool := false
/-- A value in a range. -/
def inV (a b v : Nat) : Bool := decide (a ≤ v ∧ v ≤ b)

/-- Fields of a bank entry's word (R230). -/
def bankFields (o : Nat) : List LimF :=
  if o = 0x00 then [⟨0, 32, roV⟩]
  else if o = 0x04 then [⟨3, 29, roV⟩, ⟨0, 3, anyV⟩]
  else if o = 0x14 then [⟨16, 16, roV⟩, ⟨0, 16, anyV⟩]
  else if o ≤ 0x30 then [⟨0, 32, anyV⟩]
  else if 0x40 ≤ o ∧ o < 0x60 then
    if o % 8 = 0 then [⟨16, 16, anyV⟩, ⟨8, 8, roV⟩, ⟨0, 8, fun v => v == 0 || inV 2 50 v⟩] else [⟨0, 32, anyV⟩]
  else []

/-- Fields of a class entry's word (R231). -/
def classFields (o : Nat) : List LimF :=
  if o ≤ 0x10 then [⟨0, 32, anyV⟩] else if o = 0x14 then [⟨16, 16, roV⟩, ⟨0, 16, anyV⟩] else []

/-- Fields of a string entry's word (R232). -/
def stringFields (o : Nat) : List LimF :=
  if o = 4 then [⟨16, 16, inV 1 65_535⟩, ⟨0, 16, inV 1 65_535⟩]
  else if o = 8 then [⟨8, 24, roV⟩, ⟨0, 8, inV 1 255⟩]
  else [⟨0, 32, roV⟩]

/-- Fields of a stir plan's word (R233). -/
def stirFields (o : Nat) : List LimF :=
  if o = 0 then [⟨24, 8, inV 0 5⟩, ⟨16, 8, inV 0 64⟩, ⟨15, 1, roV⟩, ⟨8, 7, inV 0 64⟩, ⟨2, 6, roV⟩, ⟨0, 2, inV 0 2⟩]
  else if o = 4 then [⟨0, 32, anyV⟩]
  else if o < 0x18 then [⟨0, 32, inV 0 2_097_152⟩]
  else if o = 0x18 then [⟨16, 16, roV⟩, ⟨0, 16, inV 1 65_535⟩]
  else []

/-- Fields of four cell entries (R234). -/
def cellFields : List LimF := (List.range 4).flatMap fun k => [⟨8 * k, 4, anyV⟩, ⟨8 * k + 4, 4, roV⟩]

/-- The fields of the table word at an offset; none where the table has no word (R229). -/
def limFields (off : Nat) : List LimF :=
  if off < 0x800 then bankFields (off % 0x80)
  else if 0x1000 ≤ off ∧ off < 0x1400 then classFields (off % 0x40)
  else if 0x2000 ≤ off ∧ off < 0x4000 then stringFields (off % 0x10)
  else if 0x4000 ≤ off ∧ off < 0xC000 then stirFields (off % 0x40)
  else if 0x10_0000 ≤ off ∧ off < 0x38_0000 then cellFields
  else []

/-- The mode field of a bank entry reads the bank's mode. -/
def Dev.limRead (d : Dev) (t : SMap Nat) (off : Nat) : Nat :=
  if off < 0x800 ∧ off % 0x80 = 0 then d.bankMode (off / 0x80)
  else if (limFields off).isEmpty then 0
  else limWord t off

/-- Every field that the write changes takes its new value (R235). -/
def limLegal (off old new : Nat) : Bool :=
  (limFields off).all fun f => bits old f.lo f.width == bits new f.lo f.width || f.legal (bits new f.lo f.width)

/-- An ignored write is counted and its place recorded (R235, R236). -/
def Dev.limReject (d : Dev) (window off : Nat) : Dev :=
  let d := ((d.bumpS SCH_REJ_COUNT_count SCH_REJ_COUNT_sat).put SCH_REJ_OFFSET_window window).put SCH_REJ_OFFSET_offset off
  let d := if d.sch.rejSince then d else d.pageIrq 0x015 2
  { d with sch := { d.sch with rejSince := true } }

/-- A write to the shadow copy (R58, R235). -/
def Dev.shadowWrite (d : Dev) (off val : Nat) : Dev :=
  if (limFields off).isEmpty then d
  else if limLegal off (d.limRead d.sch.shadow off) val then { d with sch := { d.sch with shadow := d.sch.shadow.put off val } }
  else d.limReject 0 off

/-- A direct write to an active entry goes to both copies (R60, R235). -/
def Dev.activeWrite (d : Dev) (off val : Nat) : Dev :=
  if (limFields off).isEmpty then d
  else if limLegal off (d.limRead d.sch.active off) val then
    { d with sch := { d.sch with active := d.sch.active.put off val, shadow := d.sch.shadow.put off val } }
  else d.limReject 1 off

/-! ## The state as it will stand at the next boundary (R201) -/

/-- The copy that will be active after the boundary. -/
def Dev.limNext (d : Dev) : SMap Nat := if d.sch.commits.isEmpty then d.sch.active else d.sch.shadow

/-- The string's bank after the pending assignments. -/
def Dev.bankNext (d : Dev) (l : Nat) : Nat :=
  match (d.sch.entries.filter fun e => e.op == 3 && e.pos == l).getLast? with
  | some e => e.bank
  | none => d.stringBank l

/-- The strings that the bank will have. -/
def Dev.stringsNext (d : Dev) (b : Nat) : List Nat := (List.range 512).filter fun l => d.bankNext l == b

/-- Is the transition by command one of R200's? -/
def modeStep (old new : Nat) : Bool :=
  (old == new && decide (old ≤ 4)) ||
  (old == 0 && decide (1 ≤ new ∧ new ≤ 4)) ||
  (workingMode old && (new == 4 || new == 0)) ||
  (old == 2 && new == 3) || (old == 3 && new == 2) ||
  (old == 4 && (workingMode new || new == 0)) ||
  (old == 5 && new == 0)

/-- A bank that works is to be held at the boundary: by an order that waits, or because no string of it is in RUN (R200). -/
def Dev.holdDue (d : Dev) (b : Nat) : Bool :=
  workingMode (d.bankMode b) &&
    ((d.bank b).forceHold != 0 || ((d.stringsNext b).filter fun l => d.laneState l == 4).isEmpty)

/-- The mode after the forced change that waits for the boundary. -/
def Dev.modeForced (d : Dev) (b : Nat) : Nat :=
  if (d.bank b).forceTrip then 5 else if d.holdDue b then 4 else d.bankMode b

/-- The bank's grid-sense input, by a copy. -/
def gvSel (t : SMap Nat) (b : Nat) : Nat := limField t (0x80 * b + 4) 0 2

/-- The bank's grid-sense input, by a copy, is there and locked (R66, R201, R203). -/
def Dev.gridReady (d : Dev) (t : SMap Nat) (b : Nat) : Bool := d.railGood 9 && d.flag SCH_GV_STATUS_locked (gvSel t b)

/-- R200 permits a command's transition: it is in the table, TRIPPED is left only with no class 4 latch, and AC_LOCKED is entered only on
an input that is locked, so that no bank stands in AC_LOCKED on an input that has lost its lock (R203). -/
def Dev.modeCan (d : Dev) (t : SMap Nat) (b old m : Nat) : Bool :=
  modeStep old m && !(old == 5 && d.latched 4) && (m != 2 || d.gridReady t b)

/-- The mode that the bank will have at the boundary, counting what has been accepted (R201); a forced change abandons the commands to
working modes (R239). -/
def Dev.modeNext (d : Dev) (b : Nat) : Nat :=
  let ps := (d.bank b).pend.filter fun p => !((d.bank b).forceTrip || d.holdDue b) || !workingMode p.mode
  ps.foldl (fun m p => if d.modeCan d.limNext b m p.mode then p.mode else m) (d.modeForced b)

/-- |`BNK_PHASE_ERR`|. -/
def Dev.phaseErrMag (d : Dev) (b : Nat) : Nat := (toSigned 16 (d.get BNK_PHASE_ERR_err b)).natAbs

/-- Some string of the bank has a current limit of 0. -/
def Dev.limitZero (d : Dev) (b : Nat) : Bool :=
  (d.stringsNext b).any fun l =>
    limField d.limNext (0x2000 + 0x10 * l + 4) 0 16 == 0 || limField d.limNext (0x2000 + 0x10 * l + 4) 16 16 == 0

/-- `MODE` is refused with BAD_STATE (R201). -/
def Dev.modeBad (d : Dev) (b m : Nat) : Bool :=
  let old := d.modeNext b
  !d.modeCan d.limNext b old m ||
  (m != 0 && m != 4 && d.latched 3) ||
  (m != 0 && (d.stringsNext b).isEmpty) ||
  (workingMode m && d.limitZero b) ||
  (m == 2 && old == 3 && decide (364 < d.phaseErrMag b))

/-! ## Commands (R58, R201, R237) -/

/-- `MODE` (R201); the bank is the page's instance. -/
def modeCmd : CmdDef where
  verdict page c d :=
    { Verdict.ok with badArg := decide (5 ≤ c.arg), badState := d.modeBad (page - 0x20) c.arg }
  effect page c n d :=
    let b := page - 0x20
    let x := d.bank b
    let d := if workingMode c.arg then d.wakeCause else d
    (d.putBank b { x with pend := x.pend ++ [⟨c.arg, n⟩] }).bankPending b

/-- Queue a both-copies command for the boundary (R59). -/
def Dev.schQueue (d : Dev) (e : PendEntry) : Dev := { d with sch := { d.sch with entries := d.sch.entries ++ [e] } }

/-- The cell position of `WITHDRAW` and `RETURN`: `PAGE_CMD` [31:9]. -/
def schPos (c : Cmd) : Option Pos := unpackCell (c.arg * 256)

/-- The position key of the argument. -/
def schKey (c : Cmd) : Nat := match schPos c with
  | some p => posKey p.lane p.idx
  | none => 0

/-- `WITHDRAW` (op 1) and `RETURN` (op 2) (R237). -/
def positionCmd (op : Nat) : CmdDef where
  verdict _ c _ := { Verdict.ok with badArg := (schPos c).isNone }
  effect _ c n d := d.schQueue ⟨op, schKey c, 0, n⟩

/-- The lane of an `ASSIGN`. -/
def assignLane (c : Cmd) : Nat := bits c.arg 15 9
/-- The bank of an `ASSIGN`. -/
def assignBank (c : Cmd) : Nat := bits c.arg 10 5

/-- `ASSIGN` (R27, R237). -/
def assignCmd : CmdDef where
  verdict _ c d :=
    let old := d.bankNext (assignLane c)
    let new := assignBank c
    { Verdict.ok with
      badArg := bits c.arg 0 10 != 0 || (decide (16 ≤ new) && new != 31)
      badState := (decide (old < 16) && d.modeNext old != 0) || (decide (new < 16) && d.modeNext new != 0) }
  effect _ c n d := d.schQueue ⟨3, assignLane c, assignBank c, n⟩

/-- `SCH_COMMIT.go` (R58): a named command field, opcode 0. -/
def commitCmd : CmdDef where
  verdict _ _ _ := Verdict.ok
  effect _ _ n d := { d.put GEN_HATCH_STATUS_lt_pending 1 with sch := { d.sch with commits := d.sch.commits ++ [n] } }

/-- `SCH_COMMIT` (R58). -/
def execSchCommit (ch : Nat) (soon : Bool) (s : State) := onDev (fun d => d.cmd 0x015 0 commitCmd ⟨ch, 0, 0x100, soon⟩) s
/-- `MODE` (R201). -/
def execBankMode (c : Cmd) (s : State) := onDev (fun d => d.cmd (0x20 + c.inst) 1 modeCmd c) s
/-- `WITHDRAW` (R237). -/
def execCellWithdraw (c : Cmd) (s : State) := onDev (fun d => d.cmd 0x015 1 (positionCmd 1) c) s
/-- `RETURN` (R237). -/
def execCellReturn (c : Cmd) (s : State) := onDev (fun d => d.cmd 0x015 2 (positionCmd 2) c) s
/-- `ASSIGN` (R237). -/
def execStringAssign (c : Cmd) (s : State) := onDev (fun d => d.cmd 0x015 3 assignCmd c) s

/-! ## At a frame boundary: tables (R58, R59) -/

/-- The exchange of the limit and target tables; every commit waiting is DONE (R58). -/
def Dev.limExchange (d : Dev) : Dev :=
  if d.sch.commits.isEmpty then d
  else
    let ts := d.sch.commits
    let d := { d with sch := { d.sch with active := d.sch.shadow, commits := [] } }
    let d := (d.put GEN_HATCH_STATUS_lt_pending 0).put2 GEN_HATCH_LT_FRAME_LO_frame_lo GEN_HATCH_LT_FRAME_HI_frame_hi d.frame
    let d := (d.put GEN_HATCH_LT_AGE_frames 0).put GEN_HATCH_LT_AGE_sat 0
    each ts (fun t d => (d : Dev).done t) d

/-- Strings assigned to a bank are counted in `BNK_STATUS.strings`. -/
def Dev.countStrings (d : Dev) (b : Nat) : Dev :=
  if b < 16 then d.put BNK_STATUS_strings (bankStringsIn d.sch.active b).length b else d

/-- Write a cell position's withdrawn bit in both copies. -/
def Dev.setWithdrawn (d : Dev) (key v : Nat) : Dev :=
  let lane := key / 5120
  let idx := key % 5120
  let f (t : SMap Nat) : SMap Nat := cellEntrySet t lane idx (cellEntry t lane idx % 16 + 16 * v)
  { d with sch := { d.sch with active := f d.sch.active, shadow := f d.sch.shadow } }

/-- A both-copies entry is written, and its ticket is DONE (R59, R237). -/
def Dev.writeEntry (d : Dev) (e : PendEntry) : Dev :=
  if e.op = 1 then (d.setWithdrawn e.pos 1).done e.ticket
  else if e.op = 2 then
    let d := d.setWithdrawn e.pos 0
    let d := if d.sch.cells.has e.pos then
        { d with sch := { d.sch with cells := d.sch.cells.upd e.pos Cell.init fun x => { x with failed := false, faultBits := 0 } } }
      else d
    d.done e.ticket
  else
    let old := d.stringBank e.pos
    let f (t : SMap Nat) : SMap Nat := limSet t (0x2000 + 0x10 * e.pos) 0 5 e.bank
    let d := { d with sch := { d.sch with active := f d.sch.active, shadow := f d.sch.shadow } }
    ((d.countStrings old).countStrings e.bank).done e.ticket

/-- Every both-copies entry that waits, in order. -/
def Dev.writeEntries (d : Dev) : Dev :=
  let es := d.sch.entries
  each es (fun e d => (d : Dev).writeEntry e) { d with sch := { d.sch with entries := [] } }

/-! ## At a frame boundary: modes (R200–R205, R239) -/

/-- Lanes of the bank that are in RUN. -/
def Dev.bankRunning (d : Dev) (b : Nat) : List Nat := (bankStringsIn d.sch.active b).filter fun l => d.laneState l == 4

/-- The bank's measured voltage, averaged over the last 1 ms; 0 without D09 (R204). -/
def Dev.bankMeasured (d : Dev) (b : Nat) : Int :=
  let l := d.sch.mvRecent.get b []
  if d.railGood 9 && !l.isEmpty then l.foldl (· + ·) 0 / (l.length : Int) else 0

/-- A bank enters a mode by command: its generator starts as R204 and R205 say. -/
def Dev.modeEnter (d : Dev) (b m : Nat) : Dev :=
  let old := d.bankMode b
  let x := d.bank b
  let d :=
    if m = 1 ∧ (old = 0 ∨ old = 4) then d.putBank b { x with level := d.bankMeasured b }
    else if m = 2 ∧ old ≠ 2 then
      let g := gvSel d.sch.active b
      (d.putBank b { x with amp := (d.get SCH_GV_AMP_amp g : Nat) }).put BNK_PHASE_theta (d.sch.gvPhase.get g 0) b
    else if m = 3 ∧ (old = 0 ∨ old = 4) then d.putBank b { x with amp := 0 }
    else d
  d.setMode b m 1 false

/-- One accepted `MODE` command at its boundary: done where R200 permits it, else abandoned (R239). -/
def Dev.modeApply (d : Dev) (b : Nat) (p : PendMode) : Dev :=
  let old := d.bankMode b
  if d.modeCan d.sch.active b old p.mode then
    (if old = p.mode then d else d.modeEnter b p.mode).done p.ticket
  else d.abandon p.ticket

/-- The forced change of a bank, if any: TRIPPED; HOLD with its cause; HOLD when no string is in RUN. A hold by lock loss
or by D09 raises `AC_LOCK_LOST`, which closes the `MODE` commands that it overrides (R120, R200). The Boolean says that the bank was held. -/
def Dev.modeForce (d : Dev) (b : Nat) : Dev × Bool :=
  let x := d.bank b
  let mode := d.bankMode b
  let d := d.putBank b { x with forceHold := 0, forceTrip := false }
  if x.forceTrip then (d.setMode b 5 0 true, true)
  else if !workingMode mode then (d, false)
  else if x.forceHold ≠ 0 then
    let d := d.setMode b 4 x.forceHold true
    let tkts := d.overridden b false
    (if x.forceHold = 4 ∨ x.forceHold = 6 then (d.dropOverridden b false).raiseWith F_AC_LOCK_LOST 0x015 b 0 tkts false else d, true)
  else if (d.bankRunning b).isEmpty then (d.setMode b 4 5 true, true)
  else (d, false)

/-- The banks whose hold by lock loss or by D09 still waits. -/
def Dev.lockHolds (d : Dev) : List Nat := (List.range 16).filter fun b =>
  workingMode (d.bankMode b) && !(d.bank b).forceTrip && ((d.bank b).forceHold == 4 || (d.bank b).forceHold == 6)

/-- K03 stops under a bank (R200): no boundary comes to carry a forced change that waits, so it takes effect at this instant; any other
working bank holds with cause 7. -/
def Dev.stopBank (d : Dev) (b : Nat) : Dev :=
  let x := d.bank b
  let mode := d.bankMode b
  let d := d.putBank b { x with forceHold := 0, forceTrip := false }
  let d := if x.forceTrip then d.setMode b 5 0 true
    else if workingMode mode then d.setMode b 4 (if x.forceHold = 0 then 7 else x.forceHold) true
    else d
  d.bankPending b

/-- The faults of the holds by lock loss that took effect as K03 stopped (R200). -/
def Dev.lockFaults (d : Dev) (bs : List Nat) : Dev := each bs (fun b (d : Dev) => d.raise F_AC_LOCK_LOST 0x015 b) d

/-- One bank's mode changes at a frame boundary (R200, R239). -/
def Dev.bankBoundary (d : Dev) (b : Nat) : Dev :=
  if !workingMode (d.bankMode b) && !(d.bank b).forceTrip && (d.bank b).pend.isEmpty then d
  else
    let (d, forced) := d.modeForce b
    let ps := (d.bank b).pend
    let d := d.putBank b { d.bank b with pend := [] }
    let d := each ps (fun p d =>
      if forced && workingMode p.mode then (d : Dev).abandon p.ticket else (d : Dev).modeApply b p) d
    d.bankPending b

/-- What a frame boundary does to tables and modes, in R239's order. -/
def Dev.schBoundary (d : Dev) : Dev :=
  if !d.railGood 12 then d
  else each (List.range 16) (fun b d => (d : Dev).bankBoundary b) d.limExchange.writeEntries

/-- `LIMIT_TARGET_EXCHANGE` (R58). -/
def execLimitTargetExchange (s : State) := onDev (fun d => if d.railGood 12 && d.k03 then d.limExchange else d) s

/-! ## Grid-sense lock (R203) -/

/-- Banks in AC_LOCKED on an input. -/
def Dev.lockedBanks (d : Dev) (g : Nat) : List Nat :=
  (List.range 16).filter fun b => d.bankMode b == 2 && gvSel d.sch.active b == g

/-- A tracker loses lock: its banks are held at the next boundary (R200, R203), and the phase error of every bank that selects it reads
0 (R205). -/
def Dev.gridLost (d : Dev) (g cause : Nat) : Dev :=
  if d.flag SCH_GV_STATUS_locked g then
    let d := { (d.put SCH_GV_STATUS_locked 0 g).pageIrq 0x015 1 with sch := { d.sch with gvGood := d.sch.gvGood.put g 0 } }
    let d := each (d.lockedBanks g) (fun b d => (d : Dev).holdBank b cause) d
    each ((List.range 16).filter fun b => gvSel d.sch.active b == g) (fun b d => (d : Dev).put BNK_PHASE_ERR_err 0 b) d
  else d

end Sys2Proof.Machine
end

