-- ==== Sys2Proof/Machine/Trig.lean ====
section
/-!
DEFINITION. Machine/Trig.lean: the sine of a phase of 2^32 per cycle, in fixed point, for the target generators
(R202) and the stir tones (R226).
-/
namespace Sys2Proof.Machine

/-- 2π × 2^80, rounded down. -/
def twoPi80 : Nat := 7595904947272677161575987

/-- Taylor terms of the sine: `term` is ± x^(2k−1) / (2k−1)! in units of 2^−80, `x2` is x² in the same units. -/
def sinTaylor (x2 : Int) : Nat → Nat → Int → Int → Int
  | 0, _, _, acc => acc
  | n + 1, k, term, acc =>
    let next := -(term * x2 / 2 ^ 80) / ((2 * k) * (2 * k + 1) : Nat)
    sinTaylor x2 n (k + 1) next (acc + next)

/-- Sine of r / 2^32 of a cycle for r ≤ 2^30, in units of 2^−80. -/
def sinQuarter (r : Nat) : Int :=
  let x : Int := (r * twoPi80 / 2 ^ 32 : Nat)
  sinTaylor (x * x / 2 ^ 80) 14 1 x x

/-- Sine of θ / 2^32 of a cycle, in units of 2^−80; exact at the quarters. -/
def sin80 (θ : Nat) : Int :=
  let t := θ % 2 ^ 32
  let r := t % 2 ^ 30
  let up (r : Nat) : Int := if r = 0 then 0 else if r = 2 ^ 30 then 2 ^ 80 else sinQuarter r
  match t / 2 ^ 30 with
  | 0 => up r
  | 1 => up (2 ^ 30 - r)
  | 2 => -(up r)
  | _ => -(up (2 ^ 30 - r))

/-- Sine of r / n of a quarter cycle, r ≤ n, in units of 2^−80. -/
def sinPart (r n : Nat) : Int :=
  if r = 0 then 0 else if r = n then 2 ^ 80
  else
    let x : Int := (r * twoPi80 / (4 * n) : Nat)
    sinTaylor (x * x / 2 ^ 80) 14 1 x x

/-- Sine of k / n of a cycle, in units of 2^−80 (R250). -/
def sinFrac (k n : Nat) : Int :=
  let t := 4 * (k % n)
  let r := t % n
  match t / n with
  | 0 => sinPart r n
  | 1 => sinPart (n - r) n
  | 2 => -(sinPart r n)
  | _ => -(sinPart (n - r) n)

/-- Cosine of k / n of a cycle. -/
def cosFrac (k n : Nat) : Int := sinFrac (4 * k + n) (4 * n)

/-- The angle of (x, y) in 2^16 per cycle, signed, rounded down (R255, R258). -/
def angle16 (x y : Int) : Int :=
  let up : Bool := decide (0 < y) || (decide (y = 0) && decide (0 ≤ x))
  let (x, y, off) := if up then (x, y, (0 : Int)) else (-x, -y, -32_768)
  -- (x, y) lies in the half-plane of angles 0 ≤ angle < π
  let p := (List.range 15).foldl (fun (p : Nat) i =>
    let c := p + 2 ^ (14 - i)
    if 0 ≤ cosFrac c 65_536 * y - sinFrac c 65_536 * x then c else p) 0
  (p : Int) + off

/-- Integer square root, rounded down: `bits` binary digits. -/
def isqrt (bits n : Nat) : Nat :=
  (List.range bits).foldl (fun (r : Nat) i =>
    let c := r + 2 ^ (bits - 1 - i)
    if c * c ≤ n then c else r) 0

end Sys2Proof.Machine
end

