-- ==== Sys2Proof/Machine/Plan.lean ====
section
/-!
DEFINITION. Machine/Plan.lean: target generators (R202–R206), string commands (R207, R208, R221, R222), cell eligibility
(R209–R214), rank orders (R215–R217), stirring (R224–R227) and the plan (R218–R220).
-/
namespace Sys2Proof.Machine

/-! ## Cells as the selector sees them -/

/-- What is kept of a position. -/
def Dev.cell (d : Dev) (l idx : Nat) : Cell := d.sch.cells.get (posKey l idx) Cell.init

/-- Change what is kept of a position. -/
def Dev.cellUpd (d : Dev) (l idx : Nat) (f : Cell → Cell) : Dev :=
  { d with sch := { d.sch with cells := d.sch.cells.upd (posKey l idx) Cell.init f } }

/-- What is kept of a string. -/
def Dev.str (d : Dev) (l : Nat) : Str := d.sch.strs.get l Str.init

/-- Change what is kept of a string. -/
def Dev.strUpd (d : Dev) (l : Nat) (f : Str → Str) : Dev :=
  { d with sch := { d.sch with strs := d.sch.strs.upd l Str.init f } }

/-- The position indices of a lane's cells, rising. -/
def Dev.laneIdx (d : Dev) (l : Nat) : List Nat := (d.laneCells l).map fun p => p.1 * 16 + p.2

/-- The key of an endpoint in `Sch.temps`. -/
def epKey (l m e : Nat) : Nat := l * 10240 + m * 32 + e

/-- The T endpoint of a cell (R15). -/
def Dev.cellTempEp (d : Dev) (l idx : Nat) : Option Nat := match d.node l (idx / 16) with
  | some n => (tempEp n (idx % 16)).map fun e => epKey l (idx / 16) e
  | none => none

/-- A cell's status (R25): the lowest-numbered bench reason that applies. -/
def Dev.cellStatus (d : Dev) (l idx : Nat) : Nat :=
  let x := d.cell l idx
  if !x.echoSeen then 1
  else if x.failed then 2
  else if withdrawnIn d.sch.active l idx then 3
  else if (d.cellTempEp l idx).isNone then 4
  else if classEmpty d.sch.active (classOf d.sch.active l idx) then 5
  else 0

/-- The health-weight entry in the front copy (R55). -/
def Dev.healthWord (d : Dev) (l idx : Nat) : Nat := d.hatch.front.get (posKey l idx) 0x8000_8000

/-- A bank-entry field of the active copy, at its reset value for strings in no bank (assumption 12). -/
def Dev.bankField (d : Dev) (b off lo w : Nat) : Nat :=
  if b < 16 then limField d.sch.active (0x80 * b + off) lo w else bits (limReset off) lo w

/-- Directions (R209): 0 discharge, 1 charge, 2 the rest band. -/
def directionOf (i : Int) (pol iDir : Nat) : Nat :=
  if i.natAbs < iDir * 100_000 then 2 else if (0 < i) == (pol == 1) then 0 else 1

/-- Mean string current of the frame in use, µA, by R10's division. -/
def Dev.stringMean (d : Dev) (l : Nat) : Int :=
  let x := d.str l
  if x.cur.isEmpty then 0 else (x.cur.foldl (· + ·) 0 * ((d.frm l).iLsb : Int)).tdiv (x.cur.length : Int)

/-- A class field as a signed code. -/
def Dev.cls (d : Dev) (l idx off lo : Nat) : Int := classI d.sch.active (classOf d.sch.active l idx) off lo

/-- A class field as a number. -/
def Dev.clsN (d : Dev) (l idx off lo : Nat) : Nat := limField d.sch.active (0x1000 + 0x40 * classOf d.sch.active l idx + off) lo 16

/-- The voltage and temperature rows of R210 for one direction. -/
def Dev.rowsAllow (d : Dev) (l idx dir : Nat) : Bool :=
  let x := d.cell l idx
  if dir = 0 then
    decide (d.cls l idx 0 0 ≤ x.v ∧ d.cls l idx 8 0 ≤ x.tEff ∧ x.tEff ≤ d.cls l idx 8 16)
  else decide (x.v ≤ d.cls l idx 0 16 ∧ d.cls l idx 4 0 ≤ x.tEff ∧ x.tEff ≤ d.cls l idx 4 16)

/-- The last valid temperature is not too old (R210). -/
def Dev.tempFresh (d : Dev) (l idx : Nat) : Bool := match d.cellTempEp l idx with
  | some k => d.sch.temps.has k && decide ((d.sch.temps.get k ⟨0, 0⟩).age ≤ d.get SCH_AGE_CFG_t_age_max * 50)
  | none => false

/-- A cell is eligible in a direction with a string polarity (R210). -/
def Dev.eligible (d : Dev) (l idx dir pol : Nat) : Bool :=
  let x := d.cell l idx
  d.cellStatus l idx == 0 && x.vHas && decide (x.vAge ≤ d.get SCH_AGE_CFG_v_age_max) && !x.ovr && d.tempFresh l idx && !x.curInh &&
    (x.lastPol == 0 || x.lastPol == pol) &&
    (if dir = 2 then d.rowsAllow l idx 0 && d.rowsAllow l idx 1 else d.rowsAllow l idx dir)

/-! ## Rank orders (R215–R217) -/

/-- A score as a signed 32-bit integer. -/
def score32 (z : Int) : Int := toSigned 32 (ofSigned 32 z)

/-- Mean V code of a string's present cells, by R10's division. -/
def Dev.meanCode (d : Dev) (l : Nat) : Int :=
  let vs := ((d.laneIdx l).filter fun i => (d.cell l i).vHas).map fun i => (d.cell l i).v
  if vs.isEmpty then 0 else (vs.foldl (· + ·) 0).tdiv (vs.length : Int)

/-- A string's mean soc at the last health boundary, truncated to R55 units (R207). -/
def Str.meanSoc (x : Str) : Nat := x.meanSum / x.meanCnt

/-- The bank's mean over its strings in RUN, published (R207, R239): a string that has left RUN has left it. -/
def Dev.bankMean (d : Dev) (b : Nat) : Dev :=
  let xs := (d.bankRunning b).map d.str
  let n := (xs.map (·.meanCnt)).sum
  (d.putB BNK_MEAN_SOC_valid (n != 0) b).put BNK_MEAN_SOC_soc ((xs.map (·.meanSum)).sum / n) b

/-- The mean soc that scores refer to: the bank's, or the string's own in no bank (R215). -/
def Dev.scoreMean (d : Dev) (l : Nat) : Int :=
  let b := d.stringBank l
  if b < 16 then (d.get BNK_MEAN_SOC_soc b : Nat) else ((d.str l).meanSoc : Nat)

/-- A cell's two scores: discharge, charge (R215, R216); blind without est_valid and in a service set without estimation (R57). -/
def Dev.scores (d : Dev) (l : Nat) (meanV : Int) (idx : Nat) : Int × Int :=
  let b := d.stringBank l
  let x := d.cell l idx
  let w := d.healthWord l idx
  let ds : Int := if bit w 1 && d.estimationSet then (bits w 16 16 : Int) - d.scoreMean l else (d.get SCH_BLIND_blind_gain : Int) * (x.v - meanV)
  let a : Int := d.bankField b 0x20 0 8
  let common : Int := (d.bankField b 0x20 8 8 : Int) * ((bits w 8 8 : Int) - 128) * 256 +
    (if x.role = 1 then a * (d.bankField b 0x24 0 16 : Int) else 0)
  let c : Int := (d.bankField b 0x20 16 8 : Int) * 8
  (score32 (a * ds + common + c * clampI 0 2047 (d.cls l idx 8 16 - x.tEff)),
   score32 (-(a * ds) + common + c * clampI 0 2047 (d.cls l idx 4 16 - x.tEff)))

/-- A cell in a ranking: zero-weight cells last, then the score, then the lower index. -/
def rankBefore (p q : Bool × Int × Nat) : Bool :=
  if p.1 != q.1 then !p.1 else if p.2.1 = q.2.1 then decide (p.2.2 ≤ q.2.2) else decide (q.2.1 < p.2.1)

/-- Insert into a ranking. -/
def rankInsert (p : Bool × Int × Nat) : List (Bool × Int × Nat) → List (Bool × Int × Nat)
  | [] => [p]
  | q :: qs => if rankBefore p q then p :: q :: qs else q :: rankInsert p qs

/-- The order of scored cells. -/
def rankSort (l : List (Bool × Int × Nat)) : List Nat := (l.foldr rankInsert []).map fun p => p.2.2

/-- At most `limit` exchanges across the first `n` places; 0 for no limit (R217). Those that stay keep their relative
order; those that enter follow them, best first, and those that leave come next. -/
def limitedSwap (old new : List Nat) (n limit : Nat) : List Nat :=
  let kept := (old.filter fun i => decide (i ∈ new)) ++ new.filter fun i => !decide (i ∈ old)
  let ins := kept.take n
  let want := new.take n
  let enter := want.filter fun i => !decide (i ∈ ins)
  let leave := (new.filter fun i => decide (i ∈ ins) && !decide (i ∈ want)).reverse
  if limit = 0 ∨ enter.length ≤ limit then new
  else
    let e := enter.take limit
    let v := leave.take limit
    (ins.filter fun i => !decide (i ∈ v)) ++ e ++ v.reverse ++ (kept.drop n).filter fun i => !decide (i ∈ e)

/-- A cell is current-inhibited by the class maxima for a direction under a peak in µA (R212). -/
def Dev.currentInhibit (d : Dev) (l idx dir peak : Nat) : Bool :=
  let dis := decide (d.clsN l idx 0xC 0 * 100_000 < peak)
  let chg := decide (d.clsN l idx 0xC 16 * 100_000 < peak)
  if dir = 0 then dis else if dir = 1 then chg else dis || chg

/-- A slot's member or partner as an index. -/
def slotHolds (s : StirSlot) (idx : Nat) : Bool := s.member == idx + 1 || s.partner == idx + 1

/-- The partner of a slot at a refresh: the eligible cell in no other slot closest in V to the member, within v_pair;
ties to the lower index (R225). -/
def Dev.pickPartner (d : Dev) (l dir pol : Nat) (others : List StirSlot) (s : StirSlot) : StirSlot :=
  if s.member = 0 then { s with partner := 0 }
  else
    let v := (d.cell l (s.member - 1)).v
    let vPair := limField d.sch.active (0x4000 + 0x40 * l + 4) 0 16
    let best := (d.laneIdx l).foldl (fun (acc : Option (Nat × Nat)) i =>
      let gap := ((d.cell l i).v - v).natAbs
      if i + 1 = s.member ∨ others.any (fun o => slotHolds o i) ∨ vPair < gap ∨ !d.eligible l i dir pol then acc
      else match acc with
        | some (g, _) => if gap < g then some (gap, i) else acc
        | none => some (gap, i)) none
    { s with partner := match best with
      | some (_, i) => i + 1
      | none => 0 }

/-- Partners for every slot, in slot order. -/
def Dev.pickPartners (d : Dev) (l dir pol : Nat) : List StirSlot → List StirSlot → List StirSlot
  | doneSlots, [] => doneSlots
  | doneSlots, s :: rest =>
    Dev.pickPartners d l dir pol (doneSlots ++ [d.pickPartner l dir pol (doneSlots ++ rest) s]) rest

/-- The string polarity last shown, positive where none was. -/
def Dev.lastPolarity (d : Dev) (l : Nat) : Nat := if d.get SCH_STR_STATUS_polarity l = 2 then 2 else 1

/-- A string's direction for a polarity. -/
def Dev.direction (d : Dev) (l pol : Nat) : Nat := directionOf (d.stringMean l) pol (d.bankField (d.stringBank l) 0x24 16 16)

/-- Plans are computed from the plant's echoes: in the standby role and for the first 5 plans as active (R388). -/
def Dev.echoMode (d : Dev) : Bool := d.standby || d.twn.echoPlans != 0

/-- The end state of a cell's last valid echo (R183). -/
def Cell.echoEnd (x : Cell) : Nat := if x.echoSeen then bits x.echo 4 2 else 0

/-- The number of fully inserted cells that a refresh refers to (R217, R388). -/
def Dev.nRef (d : Dev) (l : Nat) : Nat :=
  if d.echoMode then ((d.laneIdx l).filter fun i => (d.cell l i).echoEnd == 1 || (d.cell l i).echoEnd == 2).length
  else d.get SCH_STR_STATUS_n l

/-- The insertion state fixed by the echoes stands in for the last plan's (R388). -/
def Dev.echoState (d : Dev) (l : Nat) : Dev :=
  each (d.laneIdx l) (fun i (d : Dev) => d.cellUpd l i fun x =>
    let e := x.echoEnd
    let ins := e == 1 || e == 2
    { x with role := b2n ins, lastPol := if ins then e else 0, cmd := e * 2 ^ 14 }) d

/-- Cells of weight 0 follow every cell of weight above 0, whatever else put them in their places (R216). -/
def Dev.zeroLast (d : Dev) (l : Nat) (order : List Nat) : List Nat :=
  let zero (i : Nat) : Bool := bits (d.healthWord l i) 8 8 == 0
  (order.filter fun i => !zero i) ++ order.filter zero

/-- The refresh of a string's rank orders, current inhibits and stir partners (R212, R215–R217, R225). -/
def Dev.rankRefresh (d : Dev) (l : Nat) : Dev :=
  let idxs := d.laneIdx l
  let pol := d.lastPolarity l
  let dir := d.direction l pol
  let peak := (d.str l).peak
  let d := each idxs (fun i d => (d : Dev).cellUpd l i fun x => { x with curInh := d.currentInhibit l i dir peak }) d
  let meanV := d.meanCode l
  let scored := idxs.map fun i => (bits (d.healthWord l i) 8 8 == 0, d.scores l meanV i, i)
  let x := d.str l
  let n := d.nRef l
  let lim := d.bankField (d.stringBank l) 0x20 24 8
  let swap (old new : List Nat) : List Nat := if old.isEmpty then new else d.zeroLast l (limitedSwap old new n lim)
  let dis := swap x.orderDis (rankSort (scored.map fun p => (p.1, p.2.1.1, p.2.2)))
  let chg := swap x.orderChg (rankSort (scored.map fun p => (p.1, p.2.1.2, p.2.2)))
  let d := d.strUpd l fun x => { x with peak := 0, orderDis := dis, orderChg := chg }
  d.strUpd l fun x => { x with slots := d.pickPartners l dir pol [] x.slots }

/-- `RANK_REFRESH` (R217): in a frame whose number is a multiple of 50. -/
def execRankRefresh (lane : Nat) (s : State) :=
  onDev (fun d => if d.k03 && d.laneState lane == 4 && lane < 512 && d.frame % 50 == 0 then d.rankRefresh lane else d) s

/-! ## Stirring (R224–R227) -/

/-- A field of a lane's stir plan. -/
def Dev.stir (d : Dev) (l off lo w : Nat) : Nat := limField d.sch.active (0x4000 + 0x40 * l + off) lo w

/-- The tone words of a lane's stir plan. -/
def Dev.stirWords (d : Dev) (l : Nat) : List Nat := (List.range 4).map fun i => d.stir l (8 + 4 * i) 0 32

/-- The stir plan is active (R224). -/
def Dev.stirOn (d : Dev) (l : Nat) : Bool :=
  d.stir l 0 0 2 != 0 && decide (1 ≤ d.stir l 0 8 7 ∧ 1 ≤ d.stir l 0 16 8) &&
    (d.stir l 0 0 2 != 1 || (d.stirWords l).any (· != 0))

/-- A position qualifies as a member (R225). -/
def Dev.stirQualifies (d : Dev) (l idx pol : Nat) (others : List StirSlot) : Bool :=
  let x := d.cell l idx
  let vm := (d.clsN l idx 0x10 16 : Int)
  let tm := (d.clsN l idx 0x14 0 : Int)
  d.eligible l idx 2 pol && !others.any (fun o => slotHolds o idx) &&
    decide (d.cls l idx 0 0 + vm ≤ x.v ∧ x.v ≤ d.cls l idx 0 16 - vm) &&
    decide (d.cls l idx 4 0 + tm ≤ x.tEff ∧ x.tEff ≤ d.cls l idx 4 16 - tm) &&
    decide (d.cls l idx 8 0 + tm ≤ x.tEff ∧ x.tEff ≤ d.cls l idx 8 16 - tm)

/-- The switch of a cell changed within the frame of its last valid echo, and not by a posture (R183). -/
def Cell.echoTurns (x : Cell) : Bool := x.echoSeen && bits x.echo 6 2 != bits x.echo 4 2 && !bit x.echo 2

/-- The index after the last member taken. In the standby role and for the first plans as active the plant's echoes stand in for it
(R388): what an echo shows of a stirred cell is a switch that changes within the frame, so the rotation goes on after the last position
in index order that shows one (DESIGN CHOICE, assumption 25: R388 does not say how a rotation is read from echoes). -/
def Dev.lastTaken (d : Dev) (l : Nat) : Nat :=
  if d.echoMode then ((d.laneIdx l).filter fun i => (d.cell l i).echoTurns).foldl (fun (r i : Nat) => max r (i + 1)) 0 else (d.str l).rot

/-- The next member by rotation in index order after the last one taken; index + 1, 0 for none. -/
def Dev.nextMember (d : Dev) (l pol : Nat) (slots : List StirSlot) : Nat :=
  let idxs := d.laneIdx l
  let r := d.lastTaken l
  let turn := (idxs.filter fun i => decide (r ≤ i)) ++ idxs.filter fun i => decide (i < r)
  match turn.find? fun i => d.stirQualifies l i pol slots with
  | some i => i + 1
  | none => 0

/-- The state of all ones of a PRBS order (R226). -/
def prbsOnes (order : Nat) : Nat := 2 ^ ([7, 9, 11, 15, 23, 31].getD order 7) - 1

/-- A slot takes its next member; a dwell begins, and with it the PRBS state at all ones (R226). -/
def Dev.takeMember (d : Dev) (l k pol : Nat) : Dev :=
  let x := d.str l
  let others := (x.slots.take k) ++ x.slots.drop (k + 1)
  let m := d.nextMember l pol others
  d.strUpd l fun x =>
    let x := { x with slots := x.slots.set k (StirSlot.mk m 0) }
    if m = 0 then x else { x with rot := m, prbs := prbsOnes (d.stir l 0 24 8), prbsAge := 0 }

/-- One advance of a PRBS order. -/
def prbsNext (order st : Nat) : Nat :=
  if order = 0 then prbsStep 7 6 st else if order = 1 then prbsStep 9 5 st else if order = 2 then prbsStep 11 9 st
  else if order = 3 then prbsStep 15 14 st else if order = 4 then prbsStep 23 18 st else prbsStep 31 28 st

/-- `STIR_DWELL_EXPIRY` (R225, R226): a slot takes its next member, and the PRBS state starts again at all ones. -/
def execStirDwellExpiry (lane slot : Nat) (s : State) :=
  onDev (fun d =>
    if d.laneState lane == 4 && lane < 512 && slot < (d.str lane).slots.length then
      d.takeMember lane slot (d.lastPolarity lane)
    else d) s

/-- The plan becomes active or inactive: slots appear with a first member, phases start at 0 (R224–R226). -/
def Dev.stirPrepare (d : Dev) (l pol : Nat) : Dev :=
  let x := d.str l
  if !d.stirOn l then
    if x.stirActive || !x.slots.isEmpty then d.strUpd l fun x => { x with stirActive := false, slots := [] } else d
  else
    let n := d.stir l 0 8 7
    let d := if x.stirActive then d else
      d.strUpd l fun x => { x with stirActive := true, phases := [0, 0, 0, 0], prbs := prbsOnes (d.stir l 0 24 8), prbsAge := 0 }
    let d := d.strUpd l fun x => { x with slots := (x.slots ++ List.replicate n (StirSlot.mk 0 0)).take n }
    let dir := d.direction l pol
    let d := each (List.range n) (fun k d =>
      let ss := ((d : Dev).str l).slots
      let s : StirSlot := ss.getD k (StirSlot.mk 0 0)
      let others := (ss.take k) ++ ss.drop (k + 1)
      let s := if s.member ≠ 0 ∧ !d.stirQualifies l (s.member - 1) pol others then StirSlot.mk 0 0 else s
      let s := if s.partner ≠ 0 ∧ !d.eligible l (s.partner - 1) dir pol then { s with partner := 0 } else s
      d.strUpd l fun x => { x with slots := x.slots.set k s }) d
    each (List.range n) (fun k d =>
      if (((d : Dev).str l).slots.getD k (StirSlot.mk 0 0)).member = 0 then d.takeMember l k pol else d) d

/-- p of the tones at a tick (R226). -/
def tonesP (words phases : List Nat) (tick : Nat) : Bool :=
  decide (0 < ((words.zip phases).map fun (p : Nat × Nat) => if p.1 = 0 then 0 else sin80 (p.2 + p.1 * tick)).foldl (· + ·) 0)

/-- The pattern in one frame: its value at the boundary and the tick of its first change, 0 for none (R226). -/
def Dev.stirPattern (d : Dev) (l : Nat) : Bool × Nat :=
  let x := d.str l
  if d.stir l 0 0 2 = 1 then
    let ws := d.stirWords l
    let p := tonesP ws x.phases 0
    (p, ((List.range 1024).find? fun t => tonesP ws x.phases t != p).getD 0)
  else (x.prbs.testBit 0, 0)

/-- The pattern goes on by one frame. -/
def Dev.stirAdvance (d : Dev) (l : Nat) : Dev :=
  if !(d.str l).stirActive then d
  else
    let ws := d.stirWords l
    d.strUpd l fun x =>
      let last := decide (d.stir l 0x18 0 16 ≤ x.prbsAge + 1)
      { x with
        phases := (ws.zip x.phases).map fun (p : Nat × Nat) => (p.2 + 1024 * p.1) % 2 ^ 32
        prbs := if last then prbsNext (d.stir l 0 24 8) x.prbs else x.prbs
        prbsAge := if last then 0 else x.prbsAge + 1 }

/-! ## The plan (R218, R219) -/

/-- V of a cell in 1/20 mV (R178: 150 µV). -/
def Dev.v20 (d : Dev) (l idx : Nat) : Int := 3 * (d.cell l idx).v

/-- The trim's removals: the last full cell leaves while the rest is negative. The list is the full cells, last first. -/
def trimDown (v : Nat → Int) : List Nat → Int → List Nat × Int
  | [], rho => ([], rho)
  | c :: cs, rho => if rho < 0 then trimDown v cs (rho + v c) else (c :: cs, rho)

/-- The trim's additions: (cells added, what is left of the order, the rest). -/
def trimUp (v : Nat → Int) : List Nat → Int → List Nat × List Nat × Int
  | [], rho => ([], [], rho)
  | f :: fs, rho =>
    if v f ≤ rho then
      let (add, left, r) := trimUp v fs (rho - v f)
      (f :: add, left, r)
    else ([], f :: fs, rho)

/-- What a plan comes to. -/
structure PlanOut where
  full : List Nat
  frac : Option Nat
  o : Nat
  sat : Bool
  stirred : List (Nat × Nat)
  deriving DecidableEq, Repr

/-- A slot acts when exactly one of its two cells would be fully inserted (R225). -/
def slotActs (full : List Nat) (s : StirSlot) : Bool :=
  s.member != 0 && s.partner != 0 && (decide (s.member - 1 ∈ full) != decide (s.partner - 1 ∈ full))

/-- The selector's algorithm (R218) for U in 1/20 mV over the eligible order: `slots` are the stir slots that may act,
`p0` and `tick` the pattern. Stirred cells are given with the S command each takes (R219). -/
def selectCells (v : Nat → Int) (order : List Nat) (u20 : Int) (slots : List StirSlot) (p0 : Bool) (tick pol : Nat) : PlanOut :=
  let total := (order.map v).foldl (· + ·) 0
  let n := if 0 < total then min ((u20 * order.length).tdiv total).toNat order.length else 0
  let full := order.take n
  let acting := slots.filter (slotActs full)
  let stirIdx := acting.flatMap fun s => [s.member - 1, s.partner - 1]
  let plain := full.filter fun i => !decide (i ∈ stirIdx)
  -- the cell of a slot that is in at the boundary, and the other one
  let first (s : StirSlot) : Nat := if p0 then s.member - 1 else s.partner - 1
  let second (s : StirSlot) : Nat := if p0 then s.partner - 1 else s.member - 1
  let w1024 := (plain.map fun i => 1024 * v i).foldl (· + ·) 0 +
    (acting.map fun s =>
      if tick = 0 then 1024 * v (first s) else (tick : Int) * v (first s) + (1024 - (tick : Int)) * v (second s)).foldl (· + ·) 0
  let v1024 (i : Nat) : Int := 1024 * v i
  let (kept, rho) := trimDown v1024 plain.reverse (1024 * u20 - w1024)
  let rest := order.filter fun i => !decide (i ∈ kept) && !decide (i ∈ stirIdx)
  let (add, left, rho) := trimUp v1024 rest rho
  let frac := left.head?
  let o := match frac with
    | some f => if 0 < v f then min 1023 (((2 * rho + v f) / (2 * v f)).toNat) else 0
    | none => 0
  let ins := pol * 2 ^ 14
  let stirred := acting.flatMap fun s =>
    if tick = 0 then [(first s, ins), (second s, 0)] else [(first s, tick * 16), (second s, ins + tick * 16)]
  { full := kept.reverse ++ add, frac := frac, o := o, sat := frac.isNone && decide (0 < rho), stirred := stirred }

/-- The end state of an S command (R182). -/
def cmdEnd (w : Nat) : Nat := if w % 4 = 1 then 0 else w / 2 ^ 14

/-- Transitions that a command makes from a state (R182). -/
def cmdChanges (prev w : Nat) : Nat :=
  let st := w / 2 ^ 14
  let o := bits w 4 10
  if w % 4 = 1 then
    if o = 0 then b2n (prev != 0) else b2n (prev != st) + b2n (st != 0)
  else b2n (prev != st)

/-- One cell takes its command of the plan: the polarity of its insertion (R214), its role, its transitions (R236). -/
def Dev.cellPlan (d : Dev) (l idx w role pol : Nat) : Dev :=
  d.cellUpd l idx fun x =>
    { x with
      switches := satAdd 32 x.switches (cmdChanges (cmdEnd x.cmd) w)
      cmd := w
      role := role
      lastPol := pol }

/-- A plan for every cell of a string: index to S command. -/
def Dev.placePlan (d : Dev) (l n : Nat) (cmds : List (Nat × Nat)) : Dev :=
  let p : SMap Nat := cmds.foldl (fun m (e : Nat × Nat) => m.put e.1 e.2) []
  d.strUpd l fun x => { x with plans := ((n, p) :: x.plans).take 10, assembled := false }

/-- Every cell of a string takes one state by STEP at offset 0 (R199, R222). -/
def Dev.uniformPlan (d : Dev) (l n st : Nat) : Dev :=
  let idxs := d.laneIdx l
  let d := each idxs (fun i d => (d : Dev).cellPlan l i (st * 2 ^ 14) 0 0) d
  let d := (((d.put SCH_STR_STATUS_n 0 l).put SCH_STR_STATUS_o 0 l).put SCH_STR_STATUS_sat 0 l).put SCH_STR_STATUS_polarity 0 l
  let d := d.put SCH_STR_STATUS_stirring 0 l
  d.placePlan l n (idxs.map fun i => (i, st * 2 ^ 14))

/-- The slots that may act on a synthesising string now; a saturated plan takes none of them (R227). -/
def Dev.stirSlots (d : Dev) (l : Nat) : List StirSlot :=
  let x := d.str l
  let lsb := (d.frm l).iLsb
  let peak := x.cur.foldl (fun (a : Nat) (c : Int) => max a (c.natAbs * lsb)) 0
  if x.stirActive && d.get SCH_STR_BACKOFF_b_s l == 0 && !x.curOvrHi && !x.curOvrLo && decide (peak ≤ d.stir l 4 16 16 * 100_000) then
    x.slots
  else []

/-- What every plan of a string shows beside its commands: its V_s and the cells eligible in each direction (R236). -/
def Dev.planShow (d : Dev) (l : Nat) (vs : Int) (pol : Nat) : Dev :=
  let idxs := d.laneIdx l
  let count (dir : Nat) : Nat := (idxs.filter fun i => d.eligible l i dir pol).length
  ((d.put SCH_STR_VCMD_v_s (ofSigned 32 vs) l).put SCH_STR_ELIG_dis (count 0) l).put SCH_STR_ELIG_chg (count 1) l

/-- The plan of a synthesising string from its signed command (R208, R218–R220). -/
def Dev.synthPlan (d : Dev) (l n : Nat) (vs : Int) : Dev :=
  let pol := if vs < 0 then 2 else 1
  let dir := d.direction l pol
  let idxs := d.laneIdx l
  let x := d.str l
  let src := if dir = 1 then x.orderChg else x.orderDis
  let order := (if src.isEmpty then d.zeroLast l idxs else src).filter fun i => d.eligible l i dir pol
  let slots := d.stirSlots l
  let (p0, tick) := d.stirPattern l
  let u20 : Int := 20 * (vs.natAbs : Int)
  let plain := selectCells (d.v20 l) order u20 [] p0 tick pol
  let out := if slots.isEmpty || plain.sat then plain else selectCells (d.v20 l) order u20 slots p0 tick pol
  let ins := pol * 2 ^ 14
  let entry (i : Nat) : Nat × Nat × Nat :=
    match out.stirred.find? fun e => e.1 == i with
    | some e => (e.2, 3, if e.2 = 0 then 0 else pol)
    | none =>
      if i ∈ out.full then (ins, 1, pol)
      else if out.frac = some i then (ins + out.o * 16 + 1, 2, if out.o = 0 then 0 else pol)
      else (0, 0, 0)
  let cmds := idxs.map fun i => (i, entry i)
  let d := each cmds (fun (e : Nat × Nat × Nat × Nat) d => (d : Dev).cellPlan l e.1 e.2.1 e.2.2.1 e.2.2.2) d
  let some_ := !out.full.isEmpty || out.o != 0 || !out.stirred.isEmpty
  let d := (((d.put SCH_STR_STATUS_n out.full.length l).put SCH_STR_STATUS_o out.o l).putB SCH_STR_STATUS_sat out.sat l).put
    SCH_STR_STATUS_polarity (if some_ then pol else 0) l
  let d := d.putB SCH_STR_STATUS_stirring (!out.stirred.isEmpty) l
  let d := if out.sat then d.bump SCH_STR_SAT_FRAMES_count l else d
  d.placePlan l n (cmds.map fun e => (e.1, e.2.1))

/-! ## The fast current limit (R221, R222) -/

/-- The backoff after one plan's samples (R221): limits in 0.1 A, samples in µA. -/
def nextBackoff (b : Int) (samples : List Int) (ovrHi ovrLo : Bool) (out in_ step : Nat) : Int :=
  let hi := ovrHi || samples.any fun x => decide ((out * 100_000 : Int) < x)
  let lo := ovrLo || samples.any fun x => decide (x < -(in_ * 100_000 : Int))
  let near := samples.all fun x => decide (x ≤ (out * 90_000 : Int) ∧ -(in_ * 90_000 : Int) ≤ x)
  let b' := if hi || lo then b + (if hi then (step : Int) else 0) - (if lo then (step : Int) else 0)
    else if near then (if 0 < b then b - 1 else if b < 0 then b + 1 else 0)
    else b
  clampI (-5120) 5120 b'

/-- The string's current is blind (R222). -/
def Dev.blindCurrent (d : Dev) (l : Nat) : Bool :=
  let x := d.str l
  !x.curHas || decide (d.get SCH_AGE_CFG_i_age_max < x.curAge)

/-- Update a string's backoff for one plan (R221); a blind string has no samples in use, and its backoff stays (R222). -/
def Dev.limitStep (d : Dev) (l : Nat) : Dev :=
  let x := d.str l
  let lsb := ((d.frm l).iLsb : Int)
  let o := 0x2000 + 0x10 * l
  let was := toSigned 16 (d.get SCH_STR_BACKOFF_b_s l)
  let b := if d.blindCurrent l then was else nextBackoff was (x.cur.map (· * lsb)) x.curOvrHi x.curOvrLo
    (limField d.sch.active (o + 4) 0 16) (limField d.sch.active (o + 4) 16 16) (limField d.sch.active (o + 8) 0 8)
  let d := (d.put SCH_STR_BACKOFF_b_s (ofSigned 16 b) l).putB SCH_STR_STATUS_limited (b != 0) l
  if b = 0 then d else (d.bump SCH_STR_LIMIT_FRAMES_count l).raise F_CURRENT_LIMITED 0x015 l

/-! ## Bank targets (R202–R206) -/

/-- Move toward a target by at most the slew; 0 steps (R204). -/
def slewTo (now target : Int) (slew : Nat) : Int :=
  if slew = 0 then target else clampI (now - slew) (now + slew) target

/-- Harmonic h of a bank's active entry: (order, phase, amplitude). -/
def Dev.harmonic (d : Dev) (b h : Nat) : Nat × Nat × Nat :=
  (d.bankField b (0x40 + 8 * h) 0 8, d.bankField b (0x40 + 8 * h) 16 16, d.bankField b (0x44 + 8 * h) 0 32)

/-- Sum of harmonic amplitudes in use. -/
def Dev.harmonicPeak (d : Dev) (b : Nat) : Nat :=
  ((List.range 4).map fun h => if (d.harmonic b h).1 = 0 then 0 else (d.harmonic b h).2.2).sum

/-- The AC target at a phase, rounded to 1 mV (R202). -/
def Dev.acTarget (d : Dev) (b θ : Nat) (amp : Int) : Int :=
  let sum := amp * sin80 (θ + d.bankField b 0x14 0 16 * 2 ^ 16) +
    ((List.range 4).map fun h =>
      let (k, ph, a) := d.harmonic b h
      if k = 0 then 0 else (a : Int) * sin80 (k * θ + ph * 2 ^ 16)).foldl (· + ·) 0
  (2 * sum + 2 ^ 80) / 2 ^ 81

/-- The bank's phase error (R205). -/
def Dev.phaseError (d : Dev) (b θ : Nat) : Nat :=
  let g := gvSel d.sch.active b
  if d.flag SCH_GV_STATUS_locked g then
    (θ + 2 ^ 33 - d.sch.gvPhase.get g 0 - d.bankField b 0x14 0 16 * 2 ^ 16) % 2 ^ 32 / 2 ^ 16
  else 0

/-- `BNK_REQ_PEAK` (R206). -/
def Dev.reqPeak (d : Dev) (b : Nat) : Nat :=
  max (toSigned 32 (d.bankField b 8 0 32)).natAbs (d.bankField b 0xC 0 32 + d.harmonicPeak b)

/-- θ, L and A of frame n as the active's heartbeat of frame n − 3 gave them (R383). -/
def Dev.hbTarget (d : Dev) (b n : Nat) : Option (Nat × Nat × Nat) :=
  if d.pairedStandby && decide (d.twn.heard + 2 = n) then
    let at_ (o : Nat) : Nat := leNat ((d.twn.hb.drop (36 + 12 * b + o)).take 4)
    some (at_ 0, at_ 4, at_ 8)
  else none

/-- θ, L and A as they will stand one frame later (R380). -/
def Dev.bankAhead (d : Dev) (b : Nat) : Nat × Nat × Nat :=
  let mode := d.bankMode b
  let x := d.bank b
  let g := gvSel d.sch.active b
  let slew := d.bankField b 0x18 0 32
  let θ := if mode = 2 then (d.sch.gvPhase.get g 0 + d.sch.gvDelta.get g 0) % 2 ^ 32
    else (d.get BNK_PHASE_theta b + d.bankField b 0x10 0 32) % 2 ^ 32
  (θ, ofSigned 32 (if mode = 1 then slewTo x.level (toSigned 32 (d.bankField b 8 0 32)) slew else x.level),
   ofSigned 32 (if mode = 2 ∨ mode = 3 then slewTo x.amp (d.bankField b 0xC 0 32 : Nat) slew else x.amp))

/-- The bank's target for the plan being computed (R202): the accumulator advances, level and amplitude slew. The AC sum
carries an error of at most 2 mV that the spec leaves open: a bounded free value. -/
def Dev.bankTarget (d : Dev) (b n : Nat) : Dev × Int :=
  let mode := d.bankMode b
  let x := d.bank b
  let g := gvSel d.sch.active b
  let followed := d.hbTarget b n
  let θ := match followed with
    | some h => h.1
    | none => if mode = 2 then d.sch.gvPhase.get g 0 else (d.get BNK_PHASE_theta b + d.bankField b 0x10 0 32) % 2 ^ 32
  let slew := d.bankField b 0x18 0 32
  let x := if mode = 1 then { x with level := slewTo x.level (toSigned 32 (d.bankField b 8 0 32)) slew }
    else if mode = 2 ∨ mode = 3 then { x with amp := slewTo x.amp (d.bankField b 0xC 0 32 : Nat) slew }
    else x
  let x := match followed with
    | some h => { x with level := toSigned 32 h.2.1, amp := toSigned 32 h.2.2 }
    | none => x
  let d := ((d.putBank b x).put BNK_PHASE_theta θ b).put BNK_PHASE_ERR_err (d.phaseError b θ) b
  let d := d.put BNK_REQ_PEAK_peak (d.reqPeak b) b
  let (v, d) :=
    if mode = 1 then (x.level, d)
    else if mode = 2 ∨ mode = 3 then
      let (f, d) := d.free
      (d.acTarget b θ x.amp + ((f % 5 : Nat) : Int) - 2, d)
    else (0, d)
  (d.put BNK_TARGET_v_b (ofSigned 32 v) b, v)

/-- A string's signed command (R207), by R10's division at the end. -/
def Dev.stringCommand (d : Dev) (b : Nat) (vb meanI : Int) (l : Nat) : Int :=
  let x := d.str l
  let dI := if d.blindCurrent l then 0 else meanI - d.stringMean l
  let dSoc : Int := if x.meanCnt != 0 && d.flag BNK_MEAN_SOC_valid b then (x.meanSoc : Int) - (d.get BNK_MEAN_SOC_soc b : Nat) else 0
  let pol := if vb < 0 then 2 else 1
  let dir := d.direction l pol
  let el := (d.laneIdx l).filter fun i => d.eligible l i dir pol
  let n := if el.isEmpty then 1 else el.length
  let v20 := (el.map (d.v20 l)).foldl (· + ·) 0
  let bs := toSigned 16 (d.get SCH_STR_BACKOFF_b_s l)
  let share := (d.bankField b 0x1C 0 16 : Int) * dI * 65_536
  let bal := (d.bankField b 0x1C 16 16 : Int) * dSoc * 100 * 1_000_000 * vb.sign
  -- denominators: 65,536 × 10^6 for the shares, 20 n for the backoff
  let den : Int := 65_536 * 1_000_000 * 20 * n
  vb + ((share + bal) * (20 * n) - bs * v20 * (65_536 * 1_000_000)).tdiv den

/-- One string's plan for frame `n` (R199, R207, R221, R222): its limiter, what it shows, its stir plan, and then the safe posture while
it is blind, the synthesis of V_s in a working mode, or one state for every cell. A blind string of no bank takes the posture of R222,
not the `BYPASS` of R26: the spec does not say which stands first (DESIGN CHOICE, assumption 22). -/
def Dev.planFrom (d : Dev) (l n mode posture : Nat) (vs : Int) : Dev :=
  let blind := d.blindCurrent l
  let d := d.putB SCH_STR_STATUS_blind_current blind l
  let pol := if vs < 0 then 2 else 1
  let d := (d.planShow l vs pol).stirPrepare l pol
  (if blind then (d.bump SCH_STR_BLIND_FRAMES_count l).uniformPlan l n (3 * d.get LNK_CFG_posture_open l)
   else if workingMode mode then d.synthPlan l n vs
   else d.uniformPlan l n posture).stirAdvance l

/-- The state that a bank's mode gives every cell where it synthesises nothing (R199). -/
def Dev.modePosture (d : Dev) (b : Nat) : Nat :=
  if d.bankMode b = 4 then 3 * d.bankField b 4 2 1 else if d.bankMode b = 5 then 3 * d.get FLT_TRIP_CFG_open else 0

/-- One string of a bank: in `DC` a negative V_s is replaced by 0 (R208). -/
def Dev.stringPlan (d : Dev) (b n : Nat) (vb meanI : Int) (l : Nat) : Dev :=
  let d := d.limitStep l
  let mode := d.bankMode b
  let vs := d.stringCommand b vb meanI l
  d.planFrom l n mode (d.modePosture b) (if mode = 1 ∧ vs < 0 then 0 else vs)

/-- One bank's plans for frame `n`, and its registers (R198, R220, R238). -/
def Dev.bankPlan (d : Dev) (b n : Nat) : Dev :=
  let run := d.bankRunning b
  let (d, vb) := (d.bankMean b).bankTarget b n
  let seen := run.filter fun l => !d.blindCurrent l
  let sum := (seen.map d.stringMean).foldl (· + ·) 0
  let meanI := if seen.isEmpty then 0 else sum.tdiv (seen.length : Int)
  let d := each run (fun l d => (d : Dev).stringPlan b n vb meanI l) d
  let sat := (run.filter fun l => d.flag SCH_STR_STATUS_sat l).length
  let d := (d.put BNK_RUNNING_running run.length b).put BNK_RUNNING_saturated sat b
  let d := if sat = 0 then d else (d.bump BNK_SAT_FRAMES_count b).pageIrq (0x20 + b) 2
  if run.any fun l => d.get SCH_STR_BACKOFF_b_s l != 0 then d.bump BNK_LIMIT_FRAMES_count b else d

/-- Strings in RUN that belong to no bank (R26, R199). -/
def Dev.freeStrings (d : Dev) : List Nat :=
  (d.frms.map (·.1)).filter fun l => decide (l < 512) && d.laneState l == 4 && decide (16 ≤ d.stringBank l)

/-- Plans for frame `n`: banks whose plans or targets move (those with strings, or in a working mode, or with a running accumulator),
then the strings of no bank (R26, R199; a blind one of them: assumption 22). -/
def Dev.computePlans (d : Dev) (n : Nat) : Dev :=
  let d := if d.echoMode then
      each ((d.frms.map (·.1)).filter fun l => decide (l < 512) && d.laneState l == 4) (fun l (d : Dev) => d.echoState l) d
    else d
  let d := { d with twn := { d.twn with echoPlans := if d.standby then d.twn.echoPlans else d.twn.echoPlans - 1 } }
  let d := each (List.range 16) (fun b d => (d : Dev).bankPlan b n) d
  each d.freeStrings (fun l (d : Dev) => (d.limitStep l).planFrom l n 0 0 0) d

end Sys2Proof.Machine
end

