-- ==== Sys2Proof/Machine/Impedance.lean ====
section
/-!
DEFINITION. Machine/Impedance.lean: the impedance engine (chapter 08): bin plans, windows, accumulation, results, internal
temperature, the spectra store and the offset refresh.
-/
namespace Sys2Proof.Machine

/-! ## A frame as the sieve hands it on (R185, R246–R248) -/

/-- A cell in one string-head frame: its position index, its five V samples (none for a gap, an invalid or a discarded one),
whether its frame is marked overrange, whether its insertion is known, and its switch states from tick on, in 1/1024 frame,
with a change at the boundary marked. -/
structure CellIn where
  idx : Nat
  v : List (Option Int)
  ovr : Bool
  known : Bool
  states : List (Nat × Nat)
  boundary : Bool
  deriving DecidableEq, Repr

/-- A lane's frame: the string-head frame it describes, the 20 string-current samples (none for a gap or a discarded one; an
overranged one holds full scale), which of them are overranged, the cells, whether the delivered S commands are free of
stirring, and whether the lane was in RUN. -/
structure FrameIn where
  lane : Nat
  frame : Nat
  cur : List (Option Int)
  curOvr : List Bool
  cells : List CellIn
  stirFree : Bool
  run : Bool
  deriving DecidableEq, Repr

/-- The switch state in force at t µs after the boundary: a transition at tick x applies when x × 20 / 1024 ≤ t (R247). -/
def CellIn.stateAt (c : CellIn) (t : Nat) : Nat :=
  c.states.foldl (fun (st : Nat) (x : Nat × Nat) => if x.1 * 20 ≤ t * 1024 then x.2 else st) 0

/-- p of a switch state (R246). -/
def polarityOf (st : Nat) : Int := if st = 1 then 1 else if st = 2 then -1 else 0

/-- p at t µs. -/
def CellIn.pAt (c : CellIn) (t : Nat) : Int := polarityOf (c.stateAt t)

/-- An instant within 120 ns of a transition (R248). -/
def CellIn.nearSwitch (c : CellIn) (t : Nat) : Bool :=
  (c.boundary && t == 0) ||
  (c.states.drop 1).any fun (x : Nat × Nat) => decide (absDiff (x.1 * 20_000) (t * 1_024_000) ≤ 120 * 1024)

/-- p_n ≠ 0 at some instant n of the frame (R246, R253). -/
def CellIn.inserted (c : CellIn) : Bool := c.known && (List.range 5).any fun k => c.pAt (4 * k) != 0

/-! ## Bin plans (R240–R245) -/

/-- An enabled entry meets R240 and has no reserved bit set (R243). -/
def entryLegal (e : List Nat) : Bool :=
  let w0 := e.getD 0 0
  let w := bits w0 24 7
  let c := bits w0 0 21
  !bit w0 31 ||
  (w ∈ [1, 2, 4, 8, 16, 32, 64] && decide (max 4 w ≤ 4 * c ∧ c ≤ 25_000 * w) && bits w0 21 3 == 0 &&
    bits (e.getD 1 0) 13 3 == 0 && bits (e.getD 1 0) 5 3 == 0 && bits (e.getD 2 0) 16 16 == 0 && e.getD 3 0 == 0)

/-- Lanes a `PLAN_APPLY` concerns (R243). -/
def applyLanes (arg : Nat) : List Nat := if bit arg 9 then List.range 512 else [arg % 512]

/-- The lane group's domain is on. -/
def Dev.groupOn (d : Dev) (l : Nat) : Bool := d.railGood (32 + l / 16)

/-- Bins whose staged entry differs from the entry in force. -/
def Dev.changedBins (d : Dev) (l : Nat) : List Nat :=
  (List.range 16).filter fun b => planEntry d.imp.staged l b != planEntry d.imp.force l b

/-- Lanes with a staged or in-force plan; others have nothing to change. -/
def Dev.plannedLanes (d : Dev) : List Nat :=
  ((d.imp.staged ++ d.imp.force).map fun (e : Nat × Nat) => e.1 / 0x100).eraseDups

/-- A bin of a lane has a window in progress at frame `f`. -/
def Dev.windowOpen (d : Dev) (l bin f : Nat) : Bool :=
  let x := d.impLane l
  d.binOn l bin && x.start.has bin && decide (x.start.get bin 0 ≤ f) && decide (bin < x.bins)

/-- A lane that a `PLAN_APPLY` covers: an earlier ticket closes, its changed bins wait, idle bins take their entries at once
(R243, R244). -/
def Dev.applyLane (d : Dev) (n l : Nat) : Dev :=
  let x := d.impLane l
  let waits := !x.pend.isEmpty && x.tkt != n && (d.ticketAt x.tkt).any fun t => t.2.open_
  let d := if waits then (d.partialDone x.tkt).pageIrq 0x016 3 else d
  let bins := d.changedBins l
  let pend : SMap (List Nat) := bins.foldl (fun (m : SMap (List Nat)) b => m.put b (planEntry d.imp.staged l b)) []
  let d := d.putImp l { d.impLane l with pend := pend, tkt := n, pendAt := d.frame }
  each bins (fun b (d : Dev) => if d.windowOpen l b d.frame then d else d.binTake l b (d.frame + 1)) d

/-- `PLAN_APPLY` (R243). -/
def planApply : CmdDef where
  verdict _ c d :=
    let lanes := (applyLanes c.arg).filter fun l => d.groupOn l && (!bit c.arg 9 || l ∈ d.plannedLanes)
    { Verdict.ok with
      badArg := decide (1024 ≤ c.arg) || (bit c.arg 9 && c.arg % 512 != 0) ||
        (applyLanes c.arg).any fun l => (l ∈ d.plannedLanes) && (!bit c.arg 9 || d.groupOn l) && (List.range 16).any fun b => !entryLegal (planEntry d.imp.staged l b)
      badState := !bit c.arg 9 && !d.groupOn (c.arg % 512)
      total := (lanes.map fun l => (d.changedBins l).length).sum }
  effect _ c n d :=
    let lanes := (applyLanes c.arg).filter fun l => d.groupOn l && l ∈ d.plannedLanes
    let none_ := (lanes.all fun l => (d.changedBins l).isEmpty)
    let d := each lanes (fun l (d : Dev) => d.applyLane n l) (if none_ then d else d.progress n 0)
    if none_ then (d.done n).pageIrq 0x016 3 else d

/-- `PLAN_APPLY` (R243). -/
def execPlanApply (c : Cmd) (s : State) := onDev (fun d => d.wakingCmd 0x016 1 planApply c) s

/-- `BIN_PLAN_TAKE` (R244): a changed bin with no window in progress takes its entry. -/
def execBinPlanTake (lane bin : Nat) (s : State) :=
  onDev (fun d => if d.windowOpen lane bin d.frame then d else d.binTake lane bin (d.frame + 1)) s

/-! ## Windows and accumulation (R241, R246–R254) -/

/-- W, c, gap_max, shifts and threshold of an entry in force. -/
structure BinPlan where
  w : Nat
  c : Nat
  gapMax : Nat
  iShift : Nat
  vShift : Nat
  iMin : Nat
  deriving DecidableEq, Repr

/-- What the four words of an entry say (R242). -/
def planOf (e : List Nat) : BinPlan :=
  { w := bits (e.getD 0 0) 24 7, c := bits (e.getD 0 0) 0 21, gapMax := bits (e.getD 1 0) 16 16, iShift := bits (e.getD 1 0) 8 5,
    vShift := bits (e.getD 1 0) 0 5, iMin := bits (e.getD 2 0) 0 16 }

/-- The entry in force of a bin. -/
def Dev.binPlan (d : Dev) (l bin : Nat) : BinPlan := planOf (planEntry d.imp.force l bin)

/-- A window ends: its accumulators, with the frames nobody delivered counted as gaps, await their results under its
entry; a bin changed before the window's end takes its entry, another one starts its next window (R241, R244). -/
def Dev.windowEnd (d : Dev) (l bin : Nat) : Dev :=
  let x := d.impLane l
  let p := d.binPlan l bin
  let len := 50_000 * p.w
  let stop := x.start.get bin 0 + len
  let lost := 5 * (len - x.seen.get bin 0)
  let closed := (List.range x.cells.length).foldl (fun (m : SMap ImpAcc) o =>
    let a := x.acc.get (o * 16 + bin) ImpAcc.init
    m.put (o * 16 + bin) { a with gaps := a.gaps + lost }) x.closed
  let d := d.putImp l { x with
    closed := closed
    ended := x.ended.put bin stop
    endedPlan := x.endedPlan.put bin (planEntry d.imp.force l bin)
    acc := x.acc.filter fun (a : Nat × ImpAcc) => a.1 % 16 != bin
    seen := x.seen.del bin
    start := d.startPut x.start bin stop }
  if x.pend.has bin && decide (x.pendAt < stop) then d.binTake l bin stop else d

/-- Windows that ended before frame `f` close (fuel: windows a bin can have missed). -/
def Dev.windowRoll (d : Dev) (l bin f : Nat) : Nat → Dev
  | 0 => d
  | n + 1 =>
    let x := d.impLane l
    if d.binOn l bin && x.start.has bin && decide (bin < x.bins) &&
        decide (x.start.get bin 0 + 50_000 * (d.binPlan l bin).w ≤ f) then
      (d.windowEnd l bin).windowRoll l bin f n
    else d

/-- Round to the nearest integer, ties to even. -/
def rndEven (z : Int) (sh : Nat) : Int :=
  let q := z / (2 ^ sh : Nat)
  let r := z % (2 ^ sh : Nat)
  if sh = 0 then z
  else if 2 * r < (2 ^ sh : Nat) then q
  else if (2 ^ sh : Nat) < 2 * r then q + 1
  else if q % 2 = 0 then q else q + 1

/-- round(32,768 × x) of a value in units of 2^−80, within ±32,767 (R250). -/
def twRound (x : Int) : Int := clampI (-32_767) 32_767 ((2 * 32_768 * x + 2 ^ 80) / 2 ^ 81)

/-- Frames since a lane's last refresh. -/
def Dev.refreshAge (d : Dev) (l : Nat) : Nat := d.frame - (d.impLane l).refreshed

/-- How far generator value j of a bin stands from R250's value: at most 1 within 20 s of the refresh, open after it (R251). -/
def Dev.twDev (d : Dev) (l bin j : Nat) : Int :=
  let v := Config.twiddle l bin j (d.refreshAge l)
  if d.refreshAge l ≤ 1_000_000 then clampI (-1) 1 v else v

/-- The twiddle of instant n: (C_n, S_n) (R250, R251). -/
def Dev.twiddle (d : Dev) (l bin n : Nat) (p : BinPlan) : Int × Int :=
  let big := 250_000 * p.w
  let k := p.c * n % big
  (twRound (cosFrac k big) + d.twDev l bin (2 * n), twRound (sinFrac k big) + d.twDev l bin (2 * n + 1))

/-- Clamp an accumulator part; the Boolean says that it clamped. -/
def accClamp (z : Int) : Int × Bool :=
  if z < -8_388_608 then (-8_388_608, true) else if 8_388_607 < z then (8_388_607, true) else (z, false)

/-- The five instants of a cell's frame: (k, x_V code, i) where the instant is no gap sample (R246, R248, R253). -/
def cellInstants (f : FrameIn) (c : CellIn) : List (Nat × Int × Int) :=
  if !c.known || !f.run then []
  else (List.range 5).filterMap fun k =>
    match c.v.getD k none, f.cur.getD (4 * k) none with
    | some v, some i => if c.nearSwitch (4 * k) then none else some (k, v, c.pAt (4 * k) * i)
    | _, _ => none

/-- A cell's frame is marked overrange: its own samples, or the string current's while it is inserted (R253). -/
def cellOverrange (f : FrameIn) (c : CellIn) : Bool := c.ovr || (f.curOvr.any id && c.inserted)

/-- One cell's accumulators of one bin take a frame (R250, R253). -/
def accFrame (tws : List (Int × Int)) (p : BinPlan) (inst : List (Nat × Int × Int)) (ovr : Bool) (a : ImpAcc) : ImpAcc :=
  let a := { a with gaps := a.gaps + (5 - inst.length), ovr := a.ovr || ovr }
  if a.ovr then a
  else
    let vRef := match a.vRef with
      | some v => some v
      | none => (inst.head?).map fun x => x.2.1
    let v0 := vRef.getD 0
    let sum (g : (Nat × Int × Int) → Int) : Int := (inst.map g).foldl (· + ·) 0
    let tw (k : Nat) : Int × Int := tws.getD k (0, 0)
    let pvr := sum fun x => (x.2.1 - v0) * (tw x.1).1
    let pvi := sum fun x => -((x.2.1 - v0) * (tw x.1).2)
    let pir := sum fun x => x.2.2 * (tw x.1).1
    let pii := sum fun x => -(x.2.2 * (tw x.1).2)
    let (vr, b1) := accClamp (a.vr + rndEven pvr p.vShift)
    let (vi, b2) := accClamp (a.vi + rndEven pvi p.vShift)
    let (ir, b3) := accClamp (a.ir + rndEven pir p.iShift)
    let (ii, b4) := accClamp (a.ii + rndEven pii p.iShift)
    { a with vr := vr, vi := vi, ir := ir, ii := ii, vRef := vRef, sat := a.sat || b1 || b2 || b3 || b4 }

/-- One bin of a lane takes a frame: all cells of the lane (R250). A forced refresh makes every instant a gap (R252). -/
def Dev.binFrame (d : Dev) (f : FrameIn) (forced : Bool) (bin : Nat) : Dev :=
  let x := d.impLane f.lane
  let s0 := x.start.get bin 0
  if !(d.binOn f.lane bin && x.start.has bin && decide (s0 ≤ f.frame)) then d
  else
    let p := d.binPlan f.lane bin
    let n := (f.frame - s0) * 5
    let tws := (List.range 5).map fun k => d.twiddle f.lane bin (n + k) p
    let acc := (List.range x.cells.length).foldl (fun (m : SMap ImpAcc) o =>
      let key := o * 16 + bin
      let a := m.get key ImpAcc.init
      match f.cells.find? fun (c : CellIn) => c.idx == x.cells.getD o 0 with
      | some c => m.put key (accFrame tws p (if forced then [] else cellInstants f c) (f.run && cellOverrange f c) a)
      | none => m.put key (accFrame tws p [] false a)) x.acc
    d.putImp f.lane { x with acc := acc, seen := x.seen.put bin (x.seen.get bin 0 + 1) }

/-- The engine takes a frame; those that begin once its arithmetic hibernates are left out (R241, R250, R252, R254, R266). -/
def Dev.impFrame (d : Dev) (f : FrameIn) : Dev :=
  if (d.flag EST_STATUS_hibernated && decide (d.est.hibFrame ≤ f.frame)) || !d.imp.lanes.has f.lane then d
  else
    let bs := List.range (d.impLane f.lane).bins
    let d := each bs (fun b (d : Dev) => d.windowRoll f.lane b f.frame 8) d
    let forced := (d.impLane f.lane).forceGap
    let d := each bs (fun b (d : Dev) => d.binFrame f forced b) d
    let x := d.impLane f.lane
    let x := if forced then { x with forceGap := false, refreshed := f.frame } else x
    let d := d.putImp f.lane { x with stirFree := f.stirFree || !f.cells.any (fun (c : CellIn) => c.v.any (·.isSome)) }
    -- windows whose last frame this was
    each bs (fun b (d : Dev) => d.windowRoll f.lane b (f.frame + 1) 1) d

/-! ## Results (R255–R258) -/

/-- round(n / q) to the nearest, halves up. -/
def roundRat (x : Rat) : Int := (x + 1 / 2).floor

/-- |Z_p| / 10 nΩ in units of 2^−64 from a previous-result word (R258): the 256th root by eight square roots. -/
def prevMag (word : Nat) : Nat := (List.range 8).foldl (fun (n : Nat) i => isqrt ((24_576 >>> i) / 2 + 1) n) (2 ^ (bits word 3 13 + 16_384))

/-- round(256 × log2 m) for m² = r, clamped to 0–8,191 (R258): the largest k with 2^(2k−1) ≤ (m²)^256. -/
def logMag (r : Rat) : Nat :=
  if r ≤ 0 then 0
  else
    let num := r.num.natAbs ^ 256
    let den := r.den ^ 256
    if num * 2 < den then 0
    else min 8_191 ((Nat.log2 (num * 2 / den)) / 2)

/-- Coherence: round(255 × |Z + Z_p|² / (2 (|Z|² + |Z_p|²))) (R257). Z in 10 nΩ, exact. -/
def coherence (re im : Rat) (word : Nat) : Nat :=
  let m : Rat := (prevMag word : Rat) / (2 ^ 64 : Nat)
  let ph := bits word 16 16
  let pr := m * (cosFrac ph 65_536 : Rat) / (2 ^ 80 : Nat)
  let pi := m * (sinFrac ph 65_536 : Rat) / (2 ^ 80 : Nat)
  let den := 2 * (re * re + im * im + pr * pr + pi * pi)
  if den = 0 then 0
  else (clampI 0 255 (roundRat (255 * ((re + pr) * (re + pr) + (im + pi) * (im + pi)) / den))).toNat

/-- The excitation word of E in A²·s (R264): m × 2^(e − 16), m ≥ 1,024 whenever e > 0, clamped. -/
def excWord (e : Rat) : Nat :=
  match (List.range 32).find? fun k => decide (roundRat (e * (2 ^ 16 : Nat) / (2 ^ k : Nat)) ≤ 2_047) with
  | some k => k * 2_048 + (roundRat (e * (2 ^ 16 : Nat) / (2 ^ k : Nat))).toNat
  | none => 31 * 2_048 + 2_047

/-- The two integers next to a value, one of which the device takes: the spec does not state the rounding (assumption 14). -/
def eitherWay (x : Rat) (f : Nat) : Int := if (x.floor : Rat) = x then x.floor else x.floor + ((f % 2 : Nat) : Int)

/-- A result from a window's accumulators (R255–R258), for a cell at temperature tM. -/
def impResult (p : BinPlan) (iLsb prev close f : Nat) (tM : Int) (a : ImpAcc) : ImpRes :=
  let den : Int := a.ir * a.ir + a.ii * a.ii
  let zero : ImpRes := { re := 0, im := 0, mag := 0, phase := 0, coh := 0, exc := 0, quality := 0, noPrev := true, close := close, log := 0, tM := tM }
  if a.ovr then { zero with quality := 3 }
  else if a.sat then { zero with quality := 5 }
  else
    let big : Rat := (250_000 * p.w : Nat)
    let aI2 : Rat := 4 * (den : Rat) * ((2 ^ (2 * p.iShift) * iLsb * iLsb : Nat) : Rat) / (1_000_000_000_000 * 32_768 * 32_768 * big * big)
    let exc := excWord (aI2 * (p.w : Rat) / 2)
    let iMin : Rat := (p.iMin : Rat) / 100
    if den = 0 ∨ iLsb = 0 then { zero with
        quality := if p.gapMax < a.gaps then 4 else 2, exc := exc, coh := if prev % 8 = 1 then coherence 0 0 prev else 0,
        noPrev := prev % 8 != 1 }
    else
      let k : Rat := (15_000_000_000 * 2 ^ p.vShift : Nat) / (2 ^ p.iShift * iLsb : Nat)
      let re : Rat := -k * ((a.vr * a.ir + a.vi * a.ii : Int) : Rat) / (den : Rat)
      let im : Rat := -k * ((a.vi * a.ir - a.vr * a.ii : Int) : Rat) / (den : Rat)
      let m2 := re * re + im * im
      let ph := angle16 (-(a.vr * a.ir + a.vi * a.ii)) (-(a.vi * a.ir - a.vr * a.ii))
      let has := decide (prev % 8 = 1)
      { re := eitherWay re f, im := eitherWay im (f / 2)
        mag := isqrt 40 (m2.floor.toNat) + (if (m2.floor : Rat) = m2 ∧ isqrt 40 m2.floor.toNat * isqrt 40 m2.floor.toNat = m2.floor.toNat
          then 0 else f / 4 % 2)
        phase := if im = 0 ∨ re = 0 then ph else ph + ((f / 8 % 2 : Nat) : Int)
        coh := if has then coherence re im prev else 0
        exc := exc
        quality := if p.gapMax < a.gaps then 4 else if aI2 < iMin * iMin then 2 else 1
        noPrev := !has
        close := close
        log := logMag m2
        tM := tM }

/-- The previous-result word of a result (R258). -/
def resultWord (r : ImpRes) : Nat :=
  ofSigned 16 r.phase * 2 ^ 16 + r.log * 8 + r.quality

/-! ## Internal temperature (R260, R261) -/

/-- A word of the class tables in use (window 3). -/
def Dev.classWord (d : Dev) (off reset : Nat) : Nat := d.est.inUse.get off reset

/-- The word at +0x00 of class c's temperature-inference table. -/
def Dev.tinfWord (d : Dev) (c : Nat) : Nat := d.classWord (0x1_0000 + 0x80 * c) (230 * 2 ^ 16)

/-- The points in use of class c's table: (phase, T code). -/
def Dev.tinfPoints (d : Dev) (c : Nat) : List (Int × Int) :=
  (List.range (bits (d.tinfWord c) 8 4)).map fun k =>
    let w := d.classWord (0x1_0000 + 0x80 * c + 4 + 4 * k) 0
    (toSigned 16 (bits w 16 16), toSigned 16 (bits w 0 16))

/-- Strictly increasing phases. -/
def phasesRise : List (Int × Int) → Bool
  | [] => true
  | [_] => true
  | a :: b :: rest => decide (a.1 < b.1) && phasesRise (b :: rest)

/-- n_points: the field's 4 bits hold 2–15; 16 does not fit (assumption 15). -/
def Dev.tinfValid (d : Dev) (c : Nat) : Bool := decide (2 ≤ bits (d.tinfWord c) 8 4) && phasesRise (d.tinfPoints c)

/-- `IMP_TINF_BAD` is judged for the tables in use (R260). -/
def Dev.tinfJudge (d : Dev) : Dev :=
  let old := d.get IMP_TINF_BAD_class
  let new := (List.range 16).foldl (fun (n c : Nat) => if bit (d.tinfWord c) 31 && !d.tinfValid c then setBit n c else n) 0
  let d := d.put IMP_TINF_BAD_class new
  if maskOff new old = 0 then d else d.pageIrq 0x016 4

/-- Linear interpolation in rising points; outside them the end points, clamped (R261). -/
def interpT (ph : Int) : List (Int × Int) → Int × Bool
  | [] => (0, true)
  | [a] => (a.2, decide (a.1 < ph))
  | a :: b :: rest =>
    if ph < a.1 then (a.2, true)
    else if ph ≤ b.1 then (roundRat ((a.2 : Rat) + ((b.2 - a.2 : Int) : Rat) * ((ph - a.1 : Int) : Rat) / ((b.1 - a.1 : Int) : Rat)), false)
    else interpT ph (b :: rest)

/-- The inference of a cell from a result (R261). -/
def Dev.inferTemp (d : Dev) (l idx bin : Nat) (r : ImpRes) : Dev :=
  let c := classOf d.sch.active l idx
  let w := d.tinfWord c
  if bit w 31 && d.tinfValid c && bits w 0 4 == bin && r.quality == 1 && decide (bits w 16 8 ≤ r.coh) then
    let (t, cl) := interpT r.phase (d.tinfPoints c)
    let x := d.impLane l
    d.putImp l { x with temps := x.temps.put idx { t := ofSigned 16 t, clamped := cl, at_ := r.close } }
  else d

/-- t_int of a cell is valid: an inference exists, and its class's table is enabled, valid and names a served bin (R261). -/
def Dev.tintValid (d : Dev) (l idx : Nat) : Bool :=
  let c := classOf d.sch.active l idx
  let w := d.tinfWord c
  (d.impLane l).temps.has idx && bit w 31 && d.tinfValid c && decide (bits w 0 4 < (d.impLane l).bins)

/-- t_int's age in seconds. -/
def Dev.tintAge (d : Dev) (l idx : Nat) : Nat := (d.frame - ((d.impLane l).temps.get idx ⟨0, false, 0⟩).at_) / 50_000

/-- The temperature in use, T code (R277). -/
def Dev.tInUse (d : Dev) (l idx : Nat) : Int :=
  if d.tintValid l idx && decide (d.tintAge l idx ≤ 120) then toSigned 16 ((d.impLane l).temps.get idx ⟨0, false, 0⟩).t
  else (d.cell l idx).tEff

/-- One cell's result at a window's close, under the entry the window ran with (R244, R255–R258); T_m is the temperature in use
once the window's own inference has been made (R280). -/
def Dev.cellResult (d : Dev) (l bin stop o : Nat) : Dev :=
  let x := d.impLane l
  let key := o * 16 + bin
  let (f, d) := d.free
  let idx := x.cells.getD o 0
  let r := impResult (planOf (x.endedPlan.get bin [])) (d.frm l).iLsb (x.prev.get key 0) stop f 0 (x.closed.get key ImpAcc.init)
  let d := d.inferTemp l idx bin r
  let r := { r with tM := d.tInUse l idx }
  let x := d.impLane l
  let d := d.putImp l { x with prev := x.prev.put key (resultWord r), res := x.res.put key r, closed := x.closed.del key }
  let d := if r.quality = 5 then (d.bumpS IMP_L_SATWIN_count IMP_L_SATWIN_sat l).pageIrq 0x016 1 else d
  let d := if r.quality = 3 then d.bumpS IMP_L_OVRWIN_count IMP_L_OVRWIN_sat l else d
  if r.quality = 4 then d.bumpS IMP_L_GAPWIN_count IMP_L_GAPWIN_sat l else d

/-- `WINDOW_CLOSE` (R255): the results of a window that has ended; the GOOD ones await delivery (R259). -/
def Dev.windowClose (d : Dev) (l bin : Nat) : Dev :=
  let d := if d.laneState l == 4 && !d.flag EST_STATUS_hibernated then d else d.windowRoll l bin d.frame 8
  let x := d.impLane l
  if !x.ended.has bin then d
  else
    let stop := x.ended.get bin 0
    let d := each (List.range x.cells.length) (fun o (d : Dev) => d.cellResult l bin stop o) d
    let x := d.impLane l
    d.putImp l { x with ended := x.ended.del bin, endedPlan := x.endedPlan.del bin, deliver := (x.deliver.filter (· != bin)) ++ [bin] }

/-- `WINDOW_CLOSE` (R255). -/
def execWindowClose (lane bin : Nat) (s : State) := onDev (fun d => if d.railGood 11 then d.windowClose lane bin else d) s

/-! ## Offset refresh (R252) -/

/-- The frame at which a lane's refresh falls due. -/
def Dev.refreshDue (d : Dev) (l : Nat) : Nat := (d.impLane l).refreshed + 50_000 * d.get IMP_CFG_refresh_period

/-- Deviations of the generators of a lane's served bins as a frame begins. -/
def Dev.twDevs (d : Dev) (l : Nat) : List Nat :=
  let x := d.impLane l
  ((List.range x.bins).filter fun b => d.binOn l b && x.start.has b).flatMap fun b =>
    let n := (d.frame - x.start.get b 0) * 5
    [(d.twDev l b (2 * n)).natAbs, (d.twDev l b (2 * n + 1)).natAbs]

/-- The largest difference found before re-seeding, in 2^−24 of full scale (R251, R265): 512 units are 1 in C_n or S_n. What lies
below a unit of C_n is open, within the same bound (assumption 4); the field holds at most 65,535. -/
def Dev.twFind (d : Dev) (l : Nat) : Dev :=
  let (f, d) := d.free
  let m := (d.twDevs l).foldl max 0
  d.put IMP_L_TWERR_err (min 65_535 (max (512 * m) (f % 513))) l

/-- The refresh (R251, R252). -/
def Dev.refresh (d : Dev) (l : Nat) : Dev :=
  let d := d.twFind l
  d.putImp l { d.impLane l with refreshed := d.frame }

/-- The lane carries V samples: it is in RUN or SAFE. -/
def Dev.carriesV (d : Dev) (l : Nat) : Bool := d.laneState l == 4 || d.laneState l == 5

/-- `OFFSET_REFRESH` (R252): due, in a frame without stirring or in one that carries no V samples. -/
def execOffsetRefresh (lane : Nat) (s : State) :=
  onDev (fun d =>
    if d.imp.lanes.has lane && decide (d.refreshDue lane ≤ d.frame) && ((d.impLane lane).stirFree || !d.carriesV lane) then d.refresh lane
    else d) s

/-- `OFFSET_REFRESH_FORCED` (R252): ten seconds after the due time; the next frame processed is all gap samples. -/
def execOffsetRefreshForced (lane : Nat) (s : State) :=
  onDev (fun d =>
    if d.imp.lanes.has lane && decide (d.refreshDue lane + 500_000 ≤ d.frame) && d.carriesV lane then
      let d := d.refresh lane
      let d := d.putImp lane { d.impLane lane with forceGap := true }
      ((d.bumpS IMP_L_FORCED_count IMP_L_FORCED_sat lane).pageIrq 0x016 0).raise F_OFFSET_FORCED 0x016 lane
    else d) s

/-! ## The spectra store (R262–R264) -/

/-- One bin's 16 bytes of an entry (R264). -/
def binBytes (r : ImpRes) (tBin : Bool) (frame : Nat) : List Nat :=
  let clamp3 (z : Int) : Int := clampI (-8_388_608) 8_388_607 z
  let clip := decide (clamp3 r.re ≠ r.re ∨ clamp3 r.im ≠ r.im ∨ 2 ^ 24 ≤ r.mag)
  leBytes 3 (ofSigned 24 (clamp3 r.re)) ++ leBytes 3 (ofSigned 24 (clamp3 r.im)) ++ leBytes 3 (min r.mag (2 ^ 24 - 1)) ++
    leBytes 2 (ofSigned 16 r.phase) ++ [r.coh] ++ leBytes 2 r.exc ++
    [r.quality + 8 * b2n clip + 16 * b2n r.noPrev + 32 * b2n tBin, min ((frame - r.close) / 50_000) 255]

/-- The bytes of a served bin without a result: only the mark of its class's temperature bin. -/
def binEmpty (tBin : Bool) : List Nat := List.replicate 14 0 ++ [32 * b2n tBin, 0]

/-- A cell's entry of 320 bytes for a minute boundary's frame, epoch and tick (R264). -/
def Dev.spectraEntry (d : Dev) (l o : Nat) (m : Nat × Nat × Nat) : List Nat :=
  let age := (m.1 - ((d.impLane l).temps.get ((d.impLane l).cells.getD o 0) ⟨0, false, 0⟩).at_) / 50_000
  let x := d.impLane l
  let idx := x.cells.getD o 0
  let t := x.temps.get idx ⟨0, false, 0⟩
  let c := classOf d.sch.active l idx
  let valid := d.tintValid l idx
  let bad := bit (d.tinfWord c) 31 && !d.tinfValid c
  let staleT := valid && decide (120 < age)
  let pos := l * 2 ^ 23 + idx / 16 * 2 ^ 14 + idx % 16 * 2 ^ 9
  let head := leBytes 6 m.1 ++ leBytes 2 m.2.1 ++ leBytes 6 m.2.2 ++ leBytes 4 pos ++ leBytes 2 t.t ++
    [b2n valid + 2 * b2n t.clamped + 4 * b2n staleT + 8 * b2n bad, x.bins] ++ leBytes 2 (min age 65_535)
  head ++ List.replicate (64 - head.length) 0 ++
    (List.range 16).flatMap fun b =>
      let tBin := bit (d.tinfWord c) 31 && bits (d.tinfWord c) 0 4 == b
      if x.bins ≤ b then List.replicate 16 0
      else match x.res.find? fun (e : Nat × ImpRes) => e.1 == o * 16 + b with
        | some e => binBytes e.2 tBin m.1
        | none => binEmpty tBin

/-- One served cell's entry is written, or counted as dropped (R262, R263). -/
def Dev.spectraWrite (d : Dev) (l o : Nat) (m : Nat × Nat × Nat) : Dev :=
  let k := d.get IMP_SPECTRA_CFG_cells
  let a := d.get IMP_SPECTRA_BASE_gib * 2 ^ 30 + (l * k + o) * 460_800 + m.1 / 3_000_000 % 1_440 * 320
  if k ≤ o ∨ d.memU < a + 320 then (d.bumpS IMP_SPECTRA_DROPS_count IMP_SPECTRA_DROPS_sat).pageIrq 0x016 2
  else d.memWriteSpan a (d.spectraEntry l o m)

/-- A bin's window whose last frame is over at frame `f` though it has not closed: it still gives its result (R266). -/
def Dev.windowOver (d : Dev) (l bin f : Nat) : Bool :=
  let x := d.impLane l
  d.binOn l bin && x.start.has bin && decide (bin < x.bins) && decide (x.start.get bin 0 + 50_000 * (d.binPlan l bin).w ≤ f)

/-- Some served lane owes the result of a window that ended at or before frame `f` (R263, R266). -/
def Dev.resultsOwed (d : Dev) (f : Nat) : Bool :=
  d.imp.lanes.any fun (e : Nat × ImpLane) =>
    e.2.ended.any (fun (w : Nat × Nat) => decide (w.2 ≤ f)) || (List.range 16).any fun b => d.windowOver e.1 b f

/-- The entries of the last minute boundary, written within 5 ms of it, once, when the results of all windows that closed at or before
it have been computed: until then the write waits (R263, R266). Without the estimation set nothing is stored (R259). -/
def Dev.minuteWrite (d : Dev) : Dev :=
  match d.imp.minute with
  | none => d
  | some m =>
    if d.resultsOwed m.1 then d else
    let d := { d with imp := { d.imp with minute := none } }
    if d.flag IMP_CFG_spectra_en && d.estimationSet && d.memLive && decide (d.frame < m.1 + 250) then
      each (d.imp.lanes.map (·.1)) (fun l (d : Dev) =>
        each (List.range (d.impLane l).cells.length) (fun o (d : Dev) => d.spectraWrite l o m) d) d
    else d

/-- `MINUTE_BOUNDARY` (R263). -/
def execMinuteBoundary (s : State) := onDev (fun d => d.minuteWrite) s

/-! ## Hibernation and domains (R254) -/

/-- The arithmetic hibernates at a boundary: windows in progress are dropped and counted, among them those that have started since a
window that is over but not closed. -/
def Dev.impHibernate (d : Dev) : Dev :=
  each (d.imp.lanes.map (·.1)) (fun l (d : Dev) =>
    let x := d.impLane l
    let f := d.frame
    let stop (b : Nat) : Nat := x.start.get b 0 + 50_000 * (d.binPlan l b).w
    let ended := (List.range 16).filter fun b => d.windowOver l b f
    let just := ended.filter fun b => stop b == f || x.pend.has b
    let d := d.bumpS IMP_L_DROPPED_count IMP_L_DROPPED_sat l (d.windowsOpen l f - just.length)
    d.putImp l { x with
      start := x.start.filter fun (e : Nat × Nat) => e.1 ∈ ended
      seen := x.seen.filter fun (e : Nat × Nat) => e.1 ∈ ended
      acc := x.acc.filter fun (a : Nat × ImpAcc) => a.1 % 16 ∈ ended }) d

/-- The arithmetic wakes: the windows that start from now on give the next results, each under the entry that its bin then has (R244). -/
def Dev.impWake (d : Dev) : Dev :=
  each (d.imp.lanes.map (·.1)) (fun l (d : Dev) =>
    let d := each (List.range 16) (fun b (d : Dev) => d.windowRoll l b d.est.hibFrame 1) d
    let x := d.impLane l
    let start : SMap Nat := (List.range x.bins).foldl (fun (m : SMap Nat) i =>
      if d.binOn l i then m.put i (nextWindow d.frame (d.binPlan l i).w) else m) []
    (d.putImp l { x with start := start }).takeAll l d.frame) d

/-- A lane group starts afresh: its engines and entries in force with it. -/
def Dev.impGroupReset (d : Dev) (g : Nat) : Dev :=
  let mine (l : Nat) : Bool := decide (l / 16 = g)
  { d with imp := { d.imp with
    lanes := d.imp.lanes.filter fun (e : Nat × ImpLane) => !mine e.1
    force := d.imp.force.filter fun (e : Nat × Nat) => !mine (e.1 / 0x100) } }

/-- A lane engine's counters go with its group's domain (R265). -/
def Dev.impCountersOff (d : Dev) (l : Nat) : Dev :=
  each [IMP_L_FORCED_sat, IMP_L_FORCED_count, IMP_L_TWERR_err, IMP_L_SATWIN_sat, IMP_L_SATWIN_count, IMP_L_OVRWIN_sat,
    IMP_L_OVRWIN_count, IMP_L_GAPWIN_sat, IMP_L_GAPWIN_count, IMP_L_DROPPED_sat, IMP_L_DROPPED_count]
    (fun f (d : Dev) => d.put f 0 l) d

end Sys2Proof.Machine
end

