-- ==== Sys2Proof/Machine/Estimator.lean ====
section
/-!
DEFINITION. Machine/Estimator.lean: state of charge and health (chapter 09): counted charge, the filter, resistance,
anchors and capacity, health weights, learned records, checkpoints, partitions and hibernation.
-/
namespace Sys2Proof.Machine

/-! ## Class models (R274–R276) -/

/-- Reset value of a word of a class block, by offset in the block (R274). -/
def classReset (o : Nat) : Nat :=
  if o = 0x10C then 96 * 2 ^ 24 + 100 * 2 ^ 12 + 600
  else if o = 0x110 then 800
  else if o = 0x114 then 0xFFFF_0000 + 230 * 2 ^ 8
  else if o = 0x118 then 0x7FFE_8001
  else if o = 0x11C then 60
  else if o = 0x120 then 5 * 2 ^ 16 + 1_800
  else if o = 0x124 then 7 * 2 ^ 16 + 200
  else if o = 0x128 then 13 * 2 ^ 24 + 5 * 2 ^ 16 + 2 ^ 8 + 30
  else if o = 0x12C then 128 * 2 ^ 24 + 2 ^ 16
  else if o = 0x130 then 64 * 2 ^ 24 + 16 * 2 ^ 16
  else 0

/-- A field of class c's block in use. -/
def Dev.clsF (d : Dev) (c o lo w : Nat) : Nat := bits (d.classWord (0x200 * c + o) (classReset o)) lo w

/-- A field of class c's block in use as a rational. -/
def Dev.clsQ (d : Dev) (c o lo w : Nat) : Rat := (d.clsF c o lo w : Nat)

/-- OCV point k of class c: V code and entropic coefficient in µV/°C. -/
def Dev.ocvPoint (d : Dev) (c k : Nat) : Int × Int :=
  (toSigned 16 (d.clsF c (4 * k) 0 16), toSigned 16 (d.clsF c (4 * k) 16 16))

/-- Class c's model is valid (R275). -/
def Dev.modelValid (d : Dev) (c : Nat) : Bool :=
  d.clsF c 0x100 0 32 != 0 && d.clsF c 0x104 0 32 != 0 && d.clsF c 0x108 0 32 != 0 &&
    ((List.range 63).all fun k => decide ((d.ocvPoint c k).1 ≤ (d.ocvPoint c (k + 1)).1)) &&
    decide ((d.ocvPoint c 0).1 < (d.ocvPoint c 63).1)

/-- The magnitude of a number. -/
def ratAbs (x : Rat) : Rat := if x < 0 then -x else x

/-- A V code in volts. -/
def vCode (z : Rat) : Rat := z * 150 / 1_000_000

/-- The value of point k at temperature T °C, in volts. -/
def Dev.ocvAt (d : Dev) (c k : Nat) (t : Rat) : Rat :=
  let p := d.ocvPoint c k
  vCode (p.1 : Rat) + (p.2 : Rat) * (t - 25) / 1_000_000

/-- The enclosing segment of s within 0–1. -/
def ocvSegment (s : Rat) : Nat := min 62 (max 0 (s * 63).floor).toNat

/-- OCV(s, T) in volts and its slope per unit of s (R276). -/
def Dev.ocv (d : Dev) (c : Nat) (s t : Rat) : Rat × Rat :=
  let s := max 0 (min 1 s)
  let k := ocvSegment s
  let a := d.ocvAt c k t
  let slope := (d.ocvAt c (k + 1) t - a) * 63
  (a + slope * (s - (k : Rat) / 63), slope)

/-- The lowest s at which OCV(s, T) reaches a voltage, clamped to 0–1 (R279, R281). -/
def Dev.ocvInverse (d : Dev) (c : Nat) (v t : Rat) : Rat :=
  if v ≤ d.ocvAt c 0 t then 0
  else match (List.range 63).find? fun k => decide (v ≤ d.ocvAt c (k + 1) t) with
    | some k =>
      let a := d.ocvAt c k t
      ((k : Rat) + (v - a) / (d.ocvAt c (k + 1) t - a)) / 63
    | none => 1

/-! ## Learned records (R269, R288) -/

/-- A learned record's fields. -/
structure LRec where
  fmt : Nat
  cls : Nat
  flags : Nat
  pos : Nat
  identity : Nat
  q : Nat
  rOhm : Nat
  rPol : Nat
  qs : Nat
  ru : Nat
  efc : Nat
  staleQ : Nat
  staleR : Nat
  epoch : Nat
  tick : Nat
  deriving DecidableEq, Repr

/-- Read a record from its 64 bytes; format 0x0000 ignores every other byte. -/
def LRec.parse (b : List Nat) : LRec :=
  let f (o n : Nat) : Nat := leNat ((b.drop o).take n)
  if f 0 2 = 0 then
    { fmt := 0, cls := 0, flags := 0, pos := 0, identity := 0, q := 0, rOhm := 0, rPol := 0, qs := 0, ru := 0, efc := 0, staleQ := 0,
      staleR := 0, epoch := 0, tick := 0 }
  else
    { fmt := f 0 2, cls := f 2 1, flags := f 3 1, pos := f 4 4, identity := f 8 16, q := f 24 4, rOhm := f 28 4, rPol := f 32 4,
      qs := f 36 2, ru := f 38 2, efc := f 40 4, staleQ := f 44 1, staleR := f 45 1, epoch := f 48 2, tick := f 50 6 }

/-- The 60 bytes before the CRC. -/
def LRec.body (r : LRec) : List Nat :=
  leBytes 2 r.fmt ++ [r.cls, r.flags] ++ leBytes 4 r.pos ++ leBytes 16 r.identity ++ leBytes 4 r.q ++ leBytes 4 r.rOhm ++
    leBytes 4 r.rPol ++ leBytes 2 r.qs ++ leBytes 2 r.ru ++ leBytes 4 r.efc ++ [r.staleQ, r.staleR, 0, 0] ++ leBytes 2 r.epoch ++
    leBytes 6 r.tick ++ [0, 0, 0, 0]

/-- The 64 bytes of a record; format 0x0000 is written as zeros. -/
def LRec.bytes (r : LRec) : List Nat := if r.fmt = 0 then List.replicate 64 0 else r.body ++ leBytes 4 (crc32 r.body)

/-- The packed position of an index. -/
def packedPos (l idx : Nat) : Nat := l * 2 ^ 23 + idx / 16 * 2 ^ 14 + idx % 16 * 2 ^ 9

/-- The address of a position's state (R269). -/
def Dev.stateAddr (d : Dev) (l idx : Nat) : Nat := d.get EST_STATE_BASE_gib * 2 ^ 30 + posKey l idx * 512

/-- What is kept of a cell. -/
def Dev.estCell (d : Dev) (l idx : Nat) : EstCell := d.est.cells.get (posKey l idx) EstCell.init

/-- Change what is kept of a cell. -/
def Dev.estUpd (d : Dev) (l idx : Nat) (f : EstCell → EstCell) : Dev :=
  { d with est := { d.est with cells := d.est.cells.upd (posKey l idx) EstCell.init f } }

/-- The position is STALE. -/
def Dev.isStale (d : Dev) (l idx : Nat) : Bool := d.stale.has (posKey l idx)

/-- Mark or clear STALE; 2 says that the mark has been acted on. -/
def Dev.setStale (d : Dev) (l idx v : Nat) : Dev :=
  { d with stale := if v = 0 then d.stale.del (posKey l idx) else d.stale.put (posKey l idx) v }

/-- A position's filter is initialised again (R279); what it has used of the charge since the last drain stays counted (R272). -/
def Dev.estInit (d : Dev) (l idx : Nat) : Dev :=
  d.estUpd l idx fun x => { x with started := false, updates := 0, valid := false }

/-- A state line that cannot be read or written: the record has format 0x0001, no learning flag, stale set (R269). -/
def Dev.recLost (d : Dev) (l idx : Nat) : LRec × Dev :=
  let r : LRec := { LRec.parse [] with fmt := 1, flags := 1, cls := classOf d.sch.active l idx, pos := packedPos l idx,
                                       identity := d.identities.get (l * 320 + idx / 16) 0 }
  (r, ((d.setStale l idx 2).estInit l idx).estUpd l idx fun x => { x with freshQ := true, freshR := true, freshP := true })

/-- A cycle count that comes with a record replaces the cell's own; a lease unit takes only what the cell itself adds (R273, R348). -/
def Dev.efcPut (d : Dev) (l idx : Nat) (v : Rat) : Dev :=
  let old := (d.estCell l idx).efc
  { d.estUpd l idx fun x => { x with efc := v } with
    mtr := { d.mtr with efcSeen := d.mtr.efcSeen.upd (posKey l idx) 0 fun e => e + (v - old) } }

/-- Write a position's in-use record; a write dropped by a contained channel counts as an uncorrectable line (R319). -/
def Dev.recWrite (d : Dev) (l idx : Nat) (r : LRec) : Dev :=
  let (w, d) := d.memWrite (d.stateAddr l idx / 64) ((List.range 64).map fun k => (k, r.bytes.getD k 0))
  if w = .dropped ∧ d.memU > d.stateAddr l idx then (d.recLost l idx).2 else d

/-- Read a position's in-use record (R269). -/
def Dev.recRead (d : Dev) (l idx : Nat) : LRec × Dev :=
  let (b, ok, d) := d.memRead (d.stateAddr l idx / 64)
  if ok then (LRec.parse b, d)
  else
    let (r, d) := d.recLost l idx
    (r, d.recWrite l idx r)

/-- What every write of a record says of its position: the cell's class, the position and the identity recorded there (R288). -/
def Dev.recStamp (d : Dev) (l idx : Nat) (r : LRec) : LRec :=
  { r with cls := classOf d.sch.active l idx, pos := packedPos l idx, identity := d.identities.get (l * 320 + idx / 16) 0 }

/-- A record ready to be written to: one of format 0x0000 becomes one of format 0x0001 with the nameplate's values. -/
def Dev.recOpen (d : Dev) (l idx : Nat) (r : LRec) : LRec :=
  let c := classOf d.sch.active l idx
  d.recStamp l idx (if r.fmt = 0 then
    { r with fmt := 1, flags := b2n (d.isStale l idx), q := d.clsF c 0x100 0 32, rOhm := d.clsF c 0x104 0 32,
             rPol := d.clsF c 0x108 0 32 }
  else r)

/-- Capacity in use, mAh (R282). -/
def Dev.qUse (d : Dev) (l idx : Nat) (r : LRec) : Nat :=
  if r.fmt = 1 ∧ bit r.flags 1 then r.q else d.clsF (classOf d.sch.active l idx) 0x100 0 32

/-- Ohmic resistance in use, 10 nΩ at 25 °C. -/
def Dev.rOhmUse (d : Dev) (l idx : Nat) (r : LRec) : Nat :=
  if r.fmt = 1 ∧ bit r.flags 2 then r.rOhm else d.clsF (classOf d.sch.active l idx) 0x104 0 32

/-- Polarisation resistance in use. -/
def Dev.rPolUse (d : Dev) (l idx : Nat) (r : LRec) : Nat :=
  if r.fmt = 1 ∧ bit r.flags 3 then r.rPol else d.clsF (classOf d.sch.active l idx) 0x108 0 32

/-- An integer the device stores for a value it computes (assumption 13). -/
def estNat (w : Nat) (x : Rat) : Nat := (clampI 0 (2 ^ w - 1 : Nat) (Config.filterRound x).floor).toNat

/-! ## Counted charge (R270–R273) -/

/-- Full scale of a string-current sample. -/
def iFull : Nat := 131_071

/-- The magnitude of a last valid sample, or full scale where there is none (R271). -/
def uncOf (last : Option Int) : Int :=
  match last with
  | some i => (i.natAbs : Nat)
  | none => (iFull : Nat)

/-- The last valid sample before instant t. -/
def lastBefore (f : FrameIn) (last : Option Int) (t : Nat) : Option Int :=
  (List.range t).foldl (fun (a : Option Int) k =>
    if f.curOvr.getD k false then a else match f.cur.getD k none with
      | some i => some i
      | none => a) last

/-- One instant of a cell: code charge, uncertain code charge (R270, R271). `last` is the last valid sample before the frame; where p
is unknown, the sample of the instant itself counts as the last valid one. -/
def chargeAt (f : FrameIn) (c : CellIn) (last : Option Int) (t : Nat) : Int × Int :=
  if !c.known then (0, uncOf (lastBefore f last (t + 1)))
  else
    let p := c.pAt t
    if f.curOvr.getD t false then (p * (f.cur.getD t none).getD 0, if p = 0 then 0 else (iFull : Nat))
    else match f.cur.getD t none with
      | some i => (p * i, 0)
      | none => (p * (lastBefore f last t).getD 0, if p = 0 then 0 else uncOf (lastBefore f last t))

/-- A cell's step takes a frame (R271, R272). A V sample within 120 ns of a transition is a gap sample (R248). -/
def stepFrame (f : FrameIn) (c : CellIn) (last : Option Int) (a : StepAcc) : StepAcc × Int :=
  let ch := (List.range 20).map fun t => chargeAt f c last t
  let q := (ch.map (·.1)).foldl (· + ·) 0
  let unc := (ch.map (·.2)).foldl (· + ·) 0
  let curAt (t : Nat) : Int := ((f.cur.getD t none).getD ((lastBefore f last t).getD 0))
  let vs := if !c.known || cellOverrange f c then [] else (List.range 5).filterMap fun k =>
    if c.nearSwitch (4 * k) then none else (c.v.getD k none).map fun v => (k, v)
  let ins := if c.known then (List.range 20).filter fun t => c.pAt t != 0 else []
  ({ q := a.q + q
     qUnc := a.qUnc + unc
     vSum := a.vSum + (vs.map (·.2)).foldl (· + ·) 0
     nv := a.nv + vs.length
     iSum := a.iSum + (vs.map fun x => c.pAt (4 * x.1) * curAt (4 * x.1)).foldl (· + ·) 0
     insSum := a.insSum + (ins.map fun t => (curAt t).natAbs).foldl (· + ·) 0
     insN := a.insN + ins.length
     insDir := a.insDir + (ins.map fun t => c.pAt t * curAt t).foldl (· + ·) 0 }, q)

/-- A charge accumulator takes code charge: whole µC move, the remainder in pC is carried; it saturates (R270). -/
def accTake (iLsb : Nat) (q : Int) (x : EstCell) : EstCell × Bool :=
  let total := x.rem + q * iLsb
  let a := x.acc + total.tdiv 1_000_000
  let lim : Int := 2 ^ 31 - 1
  let sat := decide (a < -lim ∨ lim < a)
  ({ x with acc := clampI (-lim) lim a, rem := total.tmod 1_000_000, accSat := x.accSat || sat }, sat)

/-- A lane's estimation state. -/
def Dev.estLane (d : Dev) (l : Nat) : EstLane := d.est.lanes.get l EstLane.init

/-- Write it. -/
def Dev.putEstLane (d : Dev) (l : Nat) (x : EstLane) : Dev := { d with est := { d.est with lanes := d.est.lanes.put l x } }

/-- Filters of a lane run: the estimation set is on, the lane's cluster and the page's enable (R65, R267). -/
def Dev.filtersOn (d : Dev) (l : Nat) : Bool := d.estimationSet && d.railGood (24 + l / 64) && d.flag PAGE_CTRL_enable 0x17

/-- A step of a lane closes: its records are delivered; a step still waiting is skipped (R268, R272). The step that ends at the
boundary at which hibernation begins is still finished (R299). -/
def Dev.stepClose (d : Dev) (l : Nat) : Dev :=
  let x := d.estLane l
  let run := d.filtersOn l && (!d.flag EST_STATUS_hibernated || decide ((x.stepNo + 1) * 500 ≤ d.est.hibFrame))
  let d := if x.due && run then d.bumpS EST_STEP_SKIPS_count EST_STEP_SKIPS_sat else d
  let d := each (d.laneIdx l) (fun i (d : Dev) =>
    d.estUpd l i fun c => { c with rec_ := if run then some c.step else none, step := StepAcc.init }) d
  d.putEstLane l { x with due := run, stepNo := x.stepNo + 1 }

/-- A frame reaches the charge accumulators and step sums (R270, R271); a lane not in RUN counts nothing. A step that has closed takes no
further frame (R268). -/
def Dev.estFrame (d : Dev) (f : FrameIn) : Dev :=
  let l := f.lane
  let x := d.estLane l
  let late := decide (f.frame / 500 < x.stepNo)
  let d := if x.stepNo < f.frame / 500 ∧ d.est.lanes.has l then d.stepClose l else d
  let d := d.putEstLane l { d.estLane l with stepNo := max x.stepNo (f.frame / 500), last := f.frame }
  let iLsb := (d.frm l).iLsb
  let d := if !f.run then d else
    each f.cells (fun (c : CellIn) (d : Dev) =>
      let e := d.estCell l c.idx
      let (st, q) := stepFrame f c x.lastI e.step
      let (e, sat) := accTake iLsb q (if late then e else { e with step := st })
      let d := d.estUpd l c.idx fun _ => e
      if sat then (d.raise F_ACCUM_SAT 0x017 l).pageIrq 0x017 4 else d) d
  let d := d.putEstLane l { d.estLane l with lastI := lastBefore f x.lastI 20 }
  -- the idle current condition of R298
  let lim : Int := d.get EST_HIB_CFG_i_idle * 100_000
  let big := f.run && f.cur.any fun i => match i with
    | some i => decide (lim ≤ (i.natAbs * iLsb : Nat))
    | none => false
  let d := if big then { d with est := { d.est with idleFrom := d.time, probeWoken := true } } else d
  if f.frame % 500 = 499 ∧ !late then d.stepClose l else d

/-- `STEP_BOUNDARY` (R268): lanes that get no frames close their step here; the others close it with the upstream frame
that carries the step's last one. -/
def execStepBoundary (s : State) :=
  onDev (fun d =>
    if d.k03 && d.frame % 500 == 0 then
      each (d.est.lanes.map (·.1)) (fun l (d : Dev) =>
        let x := d.estLane l
        if !d.carriesV l && decide (x.stepNo < d.frame / 500) then
          (d.stepClose l).putEstLane l { (d.stepClose l).estLane l with stepNo := d.frame / 500 }
        else d) d
    else d) s

/-! ## The filter (R276–R279) -/

/-- Row i, column j of a covariance. -/
def cov (p : List Rat) (i j : Nat) : Rat := p.getD (4 * i + j) 0

/-- A covariance from its entries. -/
def mkCov (f : Nat → Nat → Rat) : List Rat := (List.range 4).flatMap fun i => (List.range 4).map fun j => f i j

/-- A number as the filter keeps it (assumption 13). -/
def keepNum (x : Rat) : Rat := Config.filterRound x

/-- A cell's parameters for one step: class, Q in C, r_ohm, r_fast, r_slow in Ω at T, T in °C. -/
structure CellPar where
  c : Nat
  q : Rat
  rOhm : Rat
  rFast : Rat
  rSlow : Rat
  t : Rat
  deriving DecidableEq, Repr

/-- A resistance at 25 °C brought to T: factor 1 when t_dbl = 0 (R276). -/
def tempFactor (tDbl : Nat) (t : Rat) : Rat := if tDbl = 0 then 1 else exp2Q ((25 - t) / (tDbl : Rat))

/-- The parameters of a cell (R276). -/
def Dev.cellPar (d : Dev) (l idx : Nat) (r : LRec) : CellPar :=
  let c := classOf d.sch.active l idx
  let t : Rat := (d.tInUse l idx : Rat) / 64
  let k := tempFactor (d.clsF c 0x114 0 8) t / 100_000_000
  let rp := (d.rPolUse l idx r : Rat) * k
  let rf := rp * d.clsQ c 0x10C 24 8 / 256
  { c := c, q := (d.qUse l idx r : Rat) * 36 / 10, rOhm := (d.rOhmUse l idx r : Rat) * k, rFast := rf, rSlow := rp - rf, t := t }

/-- Prediction over Δt seconds with charge q C and uncertain charge (R276). -/
def Dev.predict (d : Dev) (p : CellPar) (dt q qUnc : Rat) (x : EstCell) : EstCell :=
  let iBar := if dt = 0 then 0 else q / dt
  let aF := expQ (-(dt / (d.clsQ p.c 0x10C 12 12 / 10)))
  let aS := expQ (-(dt / d.clsQ p.c 0x10C 0 12))
  let e := expQ (-(d.clsQ p.c 0x110 0 16 / 16 * ratAbs q / p.q))
  let m := vCode (toSigned 16 (d.clsF p.c 0x110 16 16) : Int)
  let sgn : Rat := if 0 < q then 1 else if q < 0 then -1 else 0
  let sdq := d.clsQ p.c 0x128 16 8 / 1000
  let f (i : Nat) : Rat := if i = 0 then 1 else if i = 1 then aF else if i = 2 then aS else e
  let sq (z : Rat) : Rat := z * z
  let add (i : Nat) : Rat :=
    if i = 0 then sq (sdq * ratAbs q / p.q) + sq (qUnc / p.q) / 3
    else if i = 1 then sq (sdq * p.rFast * iBar)
    else if i = 2 then sq (sdq * p.rSlow * iBar)
    else sq (vCode (d.clsQ p.c 0x128 8 8))
  { x with
    s := keepNum (x.s - q / p.q)
    vFast := keepNum (aF * x.vFast + p.rFast * (1 - aF) * iBar)
    vSlow := keepNum (aS * x.vSlow + p.rSlow * (1 - aS) * iBar)
    h := keepNum (e * x.h - (1 - e) * sgn * m)
    cov := mkCov fun i j => keepNum (f i * cov x.cov i j * f j + if i = j then add i else 0) }

/-- The measurement update (R278): mean voltage in V, mean current in A. -/
def Dev.measure (d : Dev) (p : CellPar) (vBar iV : Rat) (x : EstCell) : EstCell :=
  let (v, slope) := d.ocv p.c x.s p.t
  let y := v + x.h - x.vFast - x.vSlow - p.rOhm * iV
  let hh (i : Nat) : Rat := if i = 0 then slope else if i = 3 then 1 else -1
  let ph (i : Nat) : Rat := ((List.range 4).map fun j => cov x.cov i j * hh j).foldl (· + ·) 0
  let hp (j : Nat) : Rat := ((List.range 4).map fun i => hh i * cov x.cov i j).foldl (· + ·) 0
  let sd := vCode (d.clsQ p.c 0x128 24 8)
  let ss := ((List.range 4).map fun i => hh i * ph i).foldl (· + ·) 0 + sd * sd
  let k (i : Nat) : Rat := if ss = 0 then 0 else ph i / ss
  let inn := vBar - y
  { x with
    s := keepNum (x.s + k 0 * inn)
    vFast := keepNum (x.vFast + k 1 * inn)
    vSlow := keepNum (x.vSlow + k 2 * inn)
    h := keepNum (x.h + k 3 * inn)
    cov := mkCov fun i j => keepNum (cov x.cov i j - k i * hp j)
    updates := x.updates + 1 }

/-- Initialisation at a step with n_v ≥ 50 (R279). -/
def Dev.filterInit (d : Dev) (p : CellPar) (vBar iV : Rat) (x : EstCell) : EstCell :=
  let sq (z : Rat) : Rat := z * z
  let m := vCode (toSigned 16 (d.clsF p.c 0x110 16 16) : Int)
  let var (i : Nat) : Rat :=
    if i = 0 then sq (2 / 10) else if i = 1 then sq (ratAbs (p.rFast * iV) + 1 / 100) else if i = 2 then sq (ratAbs (p.rSlow * iV) + 1 / 100)
    else sq m
  { x with
    started := true, s := d.ocvInverse p.c (vBar + p.rOhm * iV) p.t, vFast := 0, vSlow := 0, h := 0
    cov := mkCov fun i j => if i = j then var i else 0
    updates := 0, valid := false }

/-- est_valid after a step (R279). -/
def Dev.validJudge (d : Dev) (c : Nat) (x : EstCell) : EstCell :=
  let conv := d.clsQ c 0x128 0 8 / 1000
  let v := cov x.cov 0 0
  { x with valid :=
      if 4 * conv * conv < v then false
      else if v ≤ conv * conv ∧ 100 ≤ x.updates then true
      else x.valid }

/-- The rest timer: it holds over every step with n_v < 50 (R281). -/
def Dev.restTimer (d : Dev) (c : Nat) (iBar : Rat) (nv : Nat) (x : EstCell) : EstCell :=
  let rests := decide (ratAbs iBar ≤ d.clsQ c 0x120 16 16 / 10)
  let x := { x with resting := rests }
  if nv < 50 then x else if rests then { x with rest := x.rest + 1 } else { x with rest := 0, restTaken := false }

/-- The rested anchor that falls due (R281). -/
def Dev.restStep (d : Dev) (p : CellPar) (vBar : Rat) (nv : Nat) (x : EstCell) : EstCell :=
  if !x.restTaken && decide (d.clsF p.c 0x120 0 16 * 100 ≤ x.rest) && decide (50 ≤ nv) then
    let sA := d.ocvInverse p.c (vBar - x.h) p.t
    let slope := (d.ocv p.c sA p.t).2
    { x with restTaken := true, restDue := some (sA, decide (vCode (d.clsQ p.c 0x124 16 16) * 100 ≤ slope)) }
  else x

/-- The full and empty timers and the declaration that falls due (R283). -/
def Dev.taperStep (d : Dev) (p : CellPar) (st : StepAcc) (iLsb : Nat) (vBar iV : Rat) (x : EstCell) : EstCell :=
  let vpc := vBar + p.rOhm * iV + x.vFast + x.vSlow
  let meanI : Rat := if st.insN = 0 then 0 else ((st.insSum * iLsb : Nat) : Rat) / (st.insN : Rat)
  let small := decide (0 < st.insN) && decide (meanI ≤ d.clsQ p.c 0x11C 16 16 * 100_000) && decide (0 < st.nv)
  let toFull := small && decide (st.insDir < 0) && decide (vCode (toSigned 16 (d.clsF p.c 0x118 16 16) : Int) ≤ vpc)
  let toEmpty := small && decide (0 < st.insDir) && decide (vpc ≤ vCode (toSigned 16 (d.clsF p.c 0x118 0 16) : Int))
  let next (t : Nat) (b : Bool) : Nat := if b then t + 1 else if st.insN = 0 then t else 0
  let f := next x.fullT toFull
  let e := next x.emptyT toEmpty
  let lim := d.clsF p.c 0x11C 0 16 * 100
  { x with
    fullT := f, emptyT := e
    declDue := if toFull && f == lim then 1 else if toEmpty && e == lim then 2 else x.declDue }

/-- Charge since a declaration clears its flag at 2 % of Q (R283). -/
def declClear (q : Rat) (qUC : Rat) (x : EstCell) : EstCell :=
  let m := x.moved + qUC
  let lim := q * 1_000_000 / 50
  { x with moved := m, full := x.full && decide (m < lim), empty := x.empty && decide (-lim < m) }

/-- A position newly marked STALE: its record says so, and its filter starts again (R279, R290). -/
def Dev.staleTake (d : Dev) (l idx : Nat) : Dev :=
  if d.stale.get (posKey l idx) 0 = 1 then
    let (r, d) := d.recRead l idx
    let d := ((d.setStale l idx 2).estInit l idx).estUpd l idx fun x => { x with freshQ := true, freshR := true, freshP := true }
    if r.fmt = 0 then d else d.recWrite l idx (d.recStamp l idx { r with flags := setBit r.flags 0, staleQ := 0, staleR := 0 })
  else d

/-- One cell's filter step (R276–R283). -/
def Dev.cellStep (d : Dev) (l idx : Nat) : Dev :=
  let d := d.staleTake l idx
  let c := classOf d.sch.active l idx
  match (d.estCell l idx).rec_ with
  | none => d
  | some st =>
    let q : Rat := ((st.q * (d.frm l).iLsb : Int) : Rat) / 1_000_000_000_000
    let d := d.estUpd l idx fun x => { x with rec_ := none, stepQ := x.stepQ + q * 1_000_000 }
    if !bit d.est.valid c then d.estUpd l idx fun x => { x with valid := false }
    else
      let (r, d) := d.recRead l idx
      let p := d.cellPar l idx r
      let lsb := (d.frm l).iLsb
      let unc : Rat := ((st.qUnc * lsb : Int) : Rat) / 1_000_000_000_000
      let vBar : Rat := if st.nv = 0 then 0 else vCode ((st.vSum : Rat) / (st.nv : Rat))
      let iV : Rat := if st.nv = 0 then 0 else ((st.iSum * lsb : Int) : Rat) / (st.nv : Rat) / 1_000_000
      let t := d.tInUse l idx
      d.estUpd l idx fun x =>
        let x := d.restTimer c (q * 100) st.nv { x with tUsed := t, aUnc := x.aUnc + unc * 1_000_000 }
        if !x.started then (if 50 ≤ st.nv then d.filterInit p vBar iV x else x)
        else
          let x := d.predict p (1 / 100) q unc x
          let x := { x with used := x.used + q * 1_000_000 }
          let x := if 50 ≤ st.nv then d.measure p vBar iV x else x
          let x := d.validJudge p.c x
          let x := d.restStep p vBar st.nv x
          declClear p.q (q * 1_000_000) (d.taperStep p st lsb vBar iV x)

/-- The step that ends at the latest health boundary has closed on the lane and its filter step has run (R268, R272, R286). -/
def Dev.stepRun (d : Dev) (l : Nat) : Bool := !(d.estLane l).due && decide (d.frame / 5_000 * 10 ≤ (d.estLane l).stepNo)

/-- The tables in use become the written ones; classes are judged, and a class whose model becomes valid has its cells
initialised (R54, R260, R275, R279). -/
def Dev.tablesReload (d : Dev) : Dev :=
  let old := d.est.valid
  let d := { d with est := { d.est with inUse := d.est.host } }
  let new := (List.range 16).foldl (fun (n c : Nat) => if d.modelValid c then setBit n c else n) 0
  let d := { d with est := { d.est with valid := new } }
  let d := each ((d.est.cells.map (·.1)).filter fun k =>
      let c := classOf d.sch.active (k / 5120) (k % 5120)
      bit new c && !bit old c) (fun k (d : Dev) => d.estInit (k / 5120) (k % 5120)) d
  let bad := maskOff 0xFFFF new
  let was := d.get EST_STATUS_class_bad
  let d := d.put EST_STATUS_class_bad bad
  let d := if maskOff bad was = 0 then d else d.pageIrq 0x017 5
  d.tinfJudge

/-- `FILTER_STEP` (R276): a lane's delivered step; reloaded tables take effect first, unless a health boundary has reloaded them
since the command (R54, R303). -/
def Dev.filterStep (d : Dev) (l : Nat) : Dev :=
  let x := d.estLane l
  if !x.due || !d.filtersOn l then d
  else
    let tkts := d.est.reloaded ++ d.est.reload
    let d := if d.est.reload.isEmpty then d else d.tablesReload
    let d := each tkts (fun n (d : Dev) => d.done n) { d with est := { d.est with reload := [], reloaded := [] } }
    let d := d.putEstLane l { x with due := false }
    each (d.laneIdx l) (fun i (d : Dev) => d.cellStep l i) d

/-- `FILTER_STEP` (R276). -/
def execFilterStep (lane : Nat) (s : State) := onDev (fun d => d.filterStep lane) s

/-- `EST_RELOAD.go` (R54): a named command field, opcode 0, argument its register. -/
def estReloadCmd : CmdDef where
  verdict _ _ _ := Verdict.ok
  effect _ _ n d := { d with est := { d.est with reload := d.est.reload ++ [n] } }

/-- `EST_RELOAD` (R54); an access to the estimator's page wakes it (R300). -/
def execEstReload (ch : Nat) (soon : Bool) (s : State) :=
  onDev (fun d => d.wakingCmd 0x017 0 estReloadCmd ⟨ch, 0, 0x100, soon⟩) s

/-! ## Learning (R280–R284, R287) -/

/-- After a learning event the record carries its time, and the cell may be declared failed (R284, R287). -/
def Dev.learned (d : Dev) (l idx : Nat) (r : LRec) : Dev :=
  let c := classOf d.sch.active l idx
  let r := { r with epoch := d.epoch, tick := d.tick, flags := setBit r.flags 5,
                    efc := estNat 32 ((d.estCell l idx).efc * 100) }
  let capF := d.clsF c 0x12C 8 8
  let resF := d.clsF c 0x12C 0 8
  let bad := (decide (capF ≠ 0 ∧ 2 ≤ r.qs) && decide (d.qUse l idx r * 256 < capF * d.clsF c 0x100 0 32)) ||
    (decide (resF ≠ 0 ∧ 16 ≤ r.ru) && decide (resF * d.clsF c 0x104 0 32 < d.rOhmUse l idx r * 16))
  if bad then
    ((d.recWrite l idx { r with flags := setBit r.flags 4 }).cellUpd l idx fun x => { x with failed := true }).raise F_CELL_FAILED 0x017 l
  else d.recWrite l idx r

/-- A capacity sample between two anchors (R282): the record with the capacity moved, or none where a test fails. -/
def Dev.capacitySample (d : Dev) (l idx : Nat) (a1 a2 : Rat × Rat) (r : LRec) : Option LRec :=
  let x := d.estCell l idx
  let c := classOf d.sch.active l idx
  let ds := a1.1 - a2.1
  let dc := a2.2 - a1.2
  let qs := if ds = 0 then 0 else dc / ds / 3_600_000
  let np := d.clsQ c 0x100 0 32
  if ratAbs ds < d.clsQ c 0x124 0 16 / 1000 ∨ x.aSat ∨ ratAbs dc / 100 < x.aUnc ∨ qs < np / 2 ∨ np * 3 / 2 < qs then none
  else
    let first := !bit r.flags 1 || x.freshQ
    let old : Rat := (r.q : Rat)
    let q := if first then qs else old + d.clsQ c 0x130 24 8 / 256 * (qs - old)
    some { r with q := estNat 32 q, flags := setBit r.flags 1, qs := satInc 16 r.qs,
                  staleQ := if d.isStale l idx then satInc 8 r.staleQ else r.staleQ }

/-- An accepted anchor: compared with the one before, then kept (R281, R282). -/
def Dev.anchor (d : Dev) (l idx : Nat) (a : Rat × Rat) : Dev :=
  let (r0, d) := d.recRead l idx
  let r := d.recOpen l idx r0
  let x := d.estCell l idx
  let (r, d) := match x.anchor with
    | none => (r, d)
    | some a1 => match d.capacitySample l idx a1 a r with
      | some r' => (r', d.estUpd l idx fun x => { x with freshQ := false })
      | none => (r, d.bumpS EST_LEARN_REJECTS_count EST_LEARN_REJECTS_sat)
  let d := d.estUpd l idx fun x => { x with anchor := some a, aUnc := 0, aSat := false }
  d.learned l idx r

/-- An `IMPORT` of the position takes effect at the latest health boundary and has not yet been applied (R303). -/
def Dev.importDue (d : Dev) (l idx : Nat) : Bool :=
  d.est.cmds.any fun c => c.op == 1 && c.lane == l && c.node == idx / 16 && (c.cell == 0x1F || c.cell == idx % 16) &&
    decide (c.at_ < d.frame / 5_000 * 5_000)

/-- `REST_ANCHOR` (R281): the anchor that fell due is accepted where its segment's slope suffices; learning of the step at which an
`IMPORT` takes effect is discarded (R303). -/
def Dev.restAnchor (d : Dev) (l idx : Nat) : Dev :=
  let x := d.estCell l idx
  match x.restDue with
  | none => d
  | some (s, ok) =>
    let d := d.estUpd l idx fun x => { x with restDue := none }
    if ok && x.declDue == 0 && !d.importDue l idx then d.anchor l idx (s, (x.ctot : Rat) + x.stepQ) else d

/-- `REST_ANCHOR` (R281). -/
def execRestAnchor (lane idx : Nat) (s : State) := onDev (fun d => d.restAnchor lane idx) s

/-- `TAPER_DECLARATION` (R283): a cell is declared FULL or EMPTY; a rested anchor of the same step is lost to it (R303). -/
def Dev.declare (d : Dev) (l idx : Nat) : Dev :=
  let x := d.estCell l idx
  if x.declDue = 0 then d
  else if d.importDue l idx then d.estUpd l idx fun x => { x with declDue := 0, restDue := none }
  else
    let s : Rat := if x.declDue = 1 then 1 else 0
    let conv := d.clsQ (classOf d.sch.active l idx) 0x128 0 8 / 2000
    let d := d.estUpd l idx fun x => { x with
      s := s, cov := mkCov fun i j => if i = 0 ∧ j = 0 then conv * conv else cov x.cov i j
      full := x.declDue == 1, empty := x.declDue == 2, moved := 0, declDue := 0, restDue := none }
    d.anchor l idx (s, (x.ctot : Rat) + x.stepQ)

/-- `TAPER_DECLARATION` (R283). -/
def execTaperDeclaration (lane idx : Nat) (s : State) := onDev (fun d => d.declare lane idx) s

/-- A GOOD result in the ohmic bin, normalised from the temperature at its window's close (R280). -/
def Dev.learnOhm (d : Dev) (l idx : Nat) (re tM : Int) : Dev :=
  let c := classOf d.sch.active l idx
  let (r0, d) := d.recRead l idx
  let r := d.recOpen l idx r0
  let x := d.estCell l idx
  let v := (re : Rat) / tempFactor (d.clsF c 0x114 0 8) ((tM : Rat) / 64)
  let first := !bit r.flags 2 || x.freshR
  let new := if first then v else (r.rOhm : Rat) + d.clsQ c 0x130 16 8 / 256 * (v - (r.rOhm : Rat))
  let d := d.estUpd l idx fun x => { x with rLast := some (re : Rat), freshR := false }
  d.learned l idx { r with rOhm := estNat 32 new, flags := setBit r.flags 2, ru := satInc 16 r.ru,
                           staleR := if d.isStale l idx then satInc 8 r.staleR else r.staleR }

/-- A GOOD result in the polarisation bin (R280): a negative value, or one before any ohmic value, is rejected. -/
def Dev.learnPol (d : Dev) (l idx : Nat) (re tM : Int) : Dev :=
  let c := classOf d.sch.active l idx
  let x := d.estCell l idx
  match x.rLast with
  | none => d
  | some rm =>
    let raw := (re : Rat) - rm
    if raw < 0 then d
    else
      let (r0, d) := d.recRead l idx
      let r := d.recOpen l idx r0
      let v := raw / tempFactor (d.clsF c 0x114 0 8) ((tM : Rat) / 64)
      let first := !bit r.flags 3 || x.freshP
      let new := if first then v else (r.rPol : Rat) + d.clsQ c 0x130 16 8 / 256 * (v - (r.rPol : Rat))
      let d := d.estUpd l idx fun x => { x with freshP := false }
      d.learned l idx { r with rPol := estNat 32 new, flags := setBit r.flags 3, ru := satInc 16 r.ru,
                               staleR := if d.isStale l idx then satInc 8 r.staleR else r.staleR }

/-- One cell's delivered result (R280). -/
def Dev.deliverCell (d : Dev) (l idx bin : Nat) (z : ImpRes) : Dev :=
  let c := classOf d.sch.active l idx
  if z.quality != 1 || decide (z.coh < d.clsF c 0x114 8 8) || !bit d.est.valid c then d
  else
    let d := if d.clsF c 0x114 24 8 = bin then d.learnOhm l idx z.re z.tM else d
    if d.clsF c 0x114 16 8 = bin then d.learnPol l idx z.re z.tM else d

/-- `RESULT_DELIVERY` (R259, R280): the GOOD results of a window that has closed. -/
def Dev.resultDelivery (d : Dev) (l bin : Nat) : Dev :=
  let x := d.impLane l
  if bin ∉ x.deliver then d
  else
    let d := d.putImp l { x with deliver := x.deliver.filter (· != bin) }
    if !d.filtersOn l || d.flag EST_STATUS_hibernated then d
    else
      each (List.range x.cells.length) (fun o (d : Dev) =>
        match x.res.find? fun (e : Nat × ImpRes) => e.1 == o * 16 + bin with
        | some e => d.deliverCell l (x.cells.getD o 0) bin e.2
        | none => d) d

/-- `RESULT_DELIVERY` (R259). -/
def execResultDelivery (lane bin : Nat) (s : State) := onDev (fun d => d.resultDelivery lane bin) s

/-! ## Health figures (R285) -/

/-- A cell's health figures (R285): capacity ratio, resistance growth; one not yet learned counts as 1. -/
def Dev.healthFigures (d : Dev) (l idx : Nat) (r : LRec) : Rat × Rat :=
  let c := classOf d.sch.active l idx
  let qn := d.clsQ c 0x100 0 32
  let rn := d.clsQ c 0x104 0 32
  (if r.fmt = 1 ∧ bit r.flags 1 ∧ qn ≠ 0 then (r.q : Rat) / qn else 1, if r.fmt = 1 ∧ bit r.flags 2 ∧ rn ≠ 0 then (r.rOhm : Rat) / rn else 1)

/-- s in R55 units. -/
def socUnits (s : Rat) : Nat := (clampI 0 65_535 (s * 65_536).floor).toNat

/-- Sum of numbers. -/
def sumQ (l : List Rat) : Rat := l.foldl (· + ·) 0

/-! ## Domains -/

/-- An estimator cluster's domain goes: the filters of its lanes stop (R267). -/
def Dev.clusterOff (d : Dev) (m : Nat) : Dev :=
  let clear (e : Nat × EstLane) : Nat × EstLane := if e.1 / 64 = m then (e.1, { e.2 with due := false, health := false }) else e
  let drop (e : Nat × EstCell) : Nat × EstCell := if e.1 / 5120 / 64 = m then (e.1, { e.2 with rec_ := none, valid := false }) else e
  { d with est := { d.est with lanes := d.est.lanes.map clear, cells := d.est.cells.map drop } }

/-- The memory controller's domain goes, or the estimator's block is reset: the class tables, what they made valid, the partitions and
the commands that wait go with it (R48, R76); the class tables' inference tables are judged again (R260). -/
def Dev.estOff (d : Dev) : Dev :=
  { d with est := { d.est with host := [], inUse := [], valid := 0, reload := [], reloaded := [], cmds := [], ckpt := 0, ckptTkt := 0,
                               parts := [] }, wake := 0 }.tinfJudge

end Sys2Proof.Machine
end

