-- ==== Sys2Proof/Machine/Meters.lean ====
section
/-!
DEFINITION. Machine/Meters.lean: bank meters (R340–R343), metered energy and its attribution (R344–R347), lease-unit counters and
records (R348, R354–R356, R359), lease-unit definitions (R32–R35, R369).
-/
namespace Sys2Proof.Machine

/-! ## Lease units (R32–R34, R369) -/

/-- The unleased total's index among the units. -/
def unleased : Nat := 4096

/-- A word of a unit's definition in a set of definitions. -/
def unitWord (t : SMap Nat) (u off : Nat) : Nat := t.get (u * 0x400 + off) 0

/-- The unit is defined. -/
def unitDefined (t : SMap Nat) (u : Nat) : Bool := bit (unitWord t u 0) 31

/-- The ranges of a unit: first and last packed positions. -/
def unitRanges (t : SMap Nat) (u : Nat) : List (Nat × Nat) :=
  (List.range (min 64 (bits (unitWord t u 0) 0 7))).map fun r => (unitWord t u (8 + 8 * r), unitWord t u (12 + 8 * r))

/-- A range as lane, first and last position index (R32); none where R22 or R32 refuses it. -/
def rangeOf (r : Nat × Nat) : Option (Nat × Nat × Nat) :=
  match unpackCell r.1, unpackCell r.2 with
  | some a, some b => if a.lane = b.lane ∧ a.idx ≤ b.idx then some (a.lane, a.idx, b.idx) else none
  | _, _ => none

/-- The ranges of a unit that are in order. -/
def unitSpans (t : SMap Nat) (u : Nat) : List (Nat × Nat × Nat) := (unitRanges t u).filterMap rangeOf

/-- The defined units of a set of definitions, rising. -/
def definedUnits (t : SMap Nat) : List Nat :=
  ((t.filter fun (e : Nat × Nat) => decide (e.1 % 0x400 = 0) && bit e.2 31).map fun (e : Nat × Nat) => e.1 / 0x400)

/-- A position is covered by a unit. -/
def unitCovers (t : SMap Nat) (u l idx : Nat) : Bool :=
  (unitSpans t u).any fun s => s.1 == l && decide (s.2.1 ≤ idx ∧ idx ≤ s.2.2)

/-- The unit of a position; 4096 for none. -/
def unitOf (t : SMap Nat) (l idx : Nat) : Nat := ((definedUnits t).find? fun u => unitCovers t u l idx).getD unleased

/-- Cells present, by position. -/
def Dev.presentCells (d : Dev) : List (Nat × Nat) :=
  (d.frms.map (·.1)).flatMap fun l => (d.laneIdx l).map fun i => (l, i)

/-- The member cells present of a unit, or those of no unit. -/
def Dev.unitCells (d : Dev) (t : SMap Nat) (u : Nat) : List (Nat × Nat) := d.presentCells.filter fun p => unitOf t p.1 p.2 == u

/-- Two spans share a position. -/
def spansMeet (a b : Nat × Nat × Nat) : Bool := a.1 == b.1 && decide (a.2.1 ≤ b.2.2 ∧ b.2.1 ≤ a.2.2)

/-- A set of definitions with one unit's words replaced. -/
def putUnit (t : SMap Nat) (u : Nat) (words : SMap Nat) : SMap Nat :=
  words.foldl (fun (m : SMap Nat) (w : Nat × Nat) => m.put (u * 0x400 + w.1) w.2)
    (t.filter fun (e : Nat × Nat) => !decide (e.1 / 0x400 = u))

/-- A unit's words by byte offset. -/
def unitWords (t : SMap Nat) (u : Nat) : SMap Nat :=
  (t.filter fun (e : Nat × Nat) => decide (e.1 / 0x400 = u)).map fun (e : Nat × Nat) => (e.1 % 0x400, e.2)

/-- The definitions as they will stand once every accepted one is in force. -/
def Dev.unitsNext (d : Dev) : SMap Nat :=
  d.mtr.defs.foldl (fun (t : SMap Nat) (x : UnitDef) => putUnit t x.unit x.words) d.mtr.units

/-- `DEFINE` (R35, R369). -/
def mtrDefine : CmdDef where
  verdict _ c d :=
    let u := c.arg
    let rs := unitRanges d.mtr.staged u
    let t := d.unitsNext
    let mine := unitSpans d.mtr.staged u
    { Verdict.ok with
      denied := d.denies c scopeMETER
      badArg := decide (4096 ≤ u) || decide (64 < bits (unitWord d.mtr.staged u 0) 0 7) || rs.any fun r => (rangeOf r).isNone
      badState := unitDefined d.mtr.staged u &&
        (definedUnits t).any fun v => v != u && (unitSpans t v).any fun b => mine.any fun a => spansMeet a b
      priv := true
      makesRecord := true }
  effect _ c n d :=
    { d with mtr := { d.mtr with
      defs := d.mtr.defs ++ [⟨c.arg, unitWords d.mtr.staged c.arg, d.isl.sessions.get c.ch 0, n⟩] } }

/-- `DEFINE` (R369). -/
def execMtrDefine (c : Cmd) (s : State) := onDev (fun d => d.cmd 0x013 1 mtrDefine c) s

/-- Bytes +0x000–+0x207 of a definition in force. -/
def unitBytes (t : SMap Nat) (u : Nat) : List Nat := (List.range 130).flatMap fun k => leBytes 4 (unitWord t u (4 * k))

/-- One accepted definition comes into force (R369). -/
def Dev.unitApply (d : Dev) (x : UnitDef) : Dev :=
  let t := putUnit d.mtr.units x.unit x.words
  let d := { d with mtr := { d.mtr with units := t } }
  let w := unitWord t x.unit 0
  let d := d.record 0x15 0 [⟨24, 2, x.unit⟩, ⟨26, 1, w / 2 ^ 31⟩, ⟨27, 1, bits w 0 7⟩, ⟨28, 4, x.session⟩,
    hashPart 32 (Config.sha384 (unitBytes t x.unit))]
  d.done x.ticket

/-- `UNIT_DEF_APPLY` (R369): at a metering boundary. -/
def execUnitDefApply (s : State) :=
  onDev (fun d =>
    if d.k03 && d.frame % 5_000 == 0 then
      let xs := d.mtr.defs
      each xs (fun (x : UnitDef) (d : Dev) => d.unitApply x) { d with mtr := { d.mtr with defs := [] } }
    else d) s

/-! ## Cell energy (R344) -/

/-- A cell's metering. -/
def Dev.mtrCell (d : Dev) (l idx : Nat) : MtrCell := d.mtr.cells.get (posKey l idx) MtrCell.init

/-- The last valid V code at or before instant t of a frame (R344): V instants are those at 0, 4, 8, 12 and 16 µs. -/
def energyV (f : FrameIn) (c : CellIn) (last : Int) (t : Nat) : Int :=
  (List.range (t / 4 + 1)).foldl (fun (v : Int) k => if cellOverrange f c then v else (c.v.getD k none).getD v) last

/-- One frame of a cell: discharge and charge energy in 10^-18 J, |q| in pC (R344, R271). -/
def cellEnergy (f : FrameIn) (c : CellIn) (iLsb : Nat) (last : Option Int) (x : MtrCell) : MtrCell :=
  let ps := (List.range 20).map fun t =>
    let q := (chargeAt f c last t).1 * (iLsb : Int)
    (q, q * energyV f c x.lastV t * 150)
  { dis := x.dis + (ps.map fun p => p.2.toNat).sum
    chg := x.chg + (ps.map fun p => (-p.2).toNat).sum
    q := x.q + (ps.map fun p => p.1.natAbs).sum
    lastV := energyV f c x.lastV 19 }

/-- Add to a tap's cell sums, by key. -/
def tapAdd (m : SMap TapCell) (k : Nat) (x : TapCell) : SMap TapCell :=
  m.upd k TapCell.init fun o => { dis := o.dis + x.dis, chg := o.chg + x.chg, q := o.q + x.q }

/-- The tap's fields are full: it holds 2^16 intervals (R62). -/
def Dev.tapFull (d : Dev) : Bool := decide (2 ^ 16 < d.mtr.tap.count)

/-- A lane's cells close their interval into the tap (R344, R62); `gap` says that it was a gap interval. -/
def Dev.laneClose (d : Dev) (l : Nat) (gap : Bool) : Dev :=
  let b := min 31 (d.stringBank l)
  each (d.laneIdx l) (fun i (d : Dev) =>
    let c := d.mtrCell l i
    let x : TapCell := { dis := c.dis / 10 ^ 15, chg := c.chg / 10 ^ 15, q := c.q / 10 ^ 6 }
    let left := { c with dis := c.dis % 10 ^ 15, chg := c.chg % 10 ^ 15, q := c.q % 10 ^ 6 }
    let m : Mtr := { d.mtr with cells := d.mtr.cells.put (posKey l i) left }
    let k := (unitOf m.unitsClose l i * 32 + b) * 2 ^ 22 + posKey l i
    let t := m.tap
    let t := if d.tapFull then { t with lost := t.lost.upd b (0, 0) fun n => (n.1 + x.dis + x.chg, n.2) }
      else if gap || decide (16 ≤ b) then { t with gapCells := tapAdd t.gapCells k x }
      else { t with cells := tapAdd t.cells k x }
    { d with mtr := { m with tap := t } }) d

/-- The interval with this number was a gap interval: the one in progress, or the one closed last. -/
def Dev.gapOf (d : Dev) (n : Nat) : Bool := if n < d.frame / 5_000 then d.mtr.lastGap else d.ck.gap || !d.railGood 9

/-- A frame reaches the metering of its lane's cells (R344). -/
def Dev.mtrFrame (d : Dev) (f : FrameIn) : Dev :=
  let l := f.lane
  let n := f.frame / 5_000
  let old := d.mtr.lanes.get l n
  let d := if old < n then d.laneClose l (d.gapOf old) else d
  let iLsb := (d.frm l).iLsb
  let last := (d.estLane l).lastI
  let d := if !f.run then d else
    each f.cells (fun (c : CellIn) (d : Dev) =>
      { d with mtr := { d.mtr with cells := d.mtr.cells.put (posKey l c.idx) (cellEnergy f c iLsb last (d.mtrCell l c.idx)) } }) d
  if f.frame % 5_000 = 4_999 then
    let d := d.laneClose l (d.gapOf n)
    { d with mtr := { d.mtr with lanes := d.mtr.lanes.put l (n + 1) } }
  else { d with mtr := { d.mtr with lanes := d.mtr.lanes.put l n } }

/-- The banks' sums go into the tap, unless the interval is a gap; an interval that closes without D09 is `METER_GAP` (R66, R104). -/
def Dev.bankClose (d : Dev) (gap : Bool) : Dev :=
  let t := d.mtr.tap
  let t := { t with count := t.count + 1, gaps := t.gaps + b2n gap }
  let add (m : SMap (Nat × Nat)) (e : Nat × Nat × Nat) : SMap (Nat × Nat) :=
    m.upd e.1 (0, 0) fun o => (o.1 + e.2.1, o.2 + e.2.2)
  let keepOut (m : SMap (Nat × Nat)) (e : Nat × Nat × Nat) : SMap (Nat × Nat) :=
    m.upd e.1 (0, 0) fun o => (o.1, o.2 + e.2.1 + e.2.2)
  let t := if gap then t
    else if 2 ^ 16 < t.count then { t with lost := d.mtr.sums.foldl keepOut t.lost }
    else { t with banks := d.mtr.sums.foldl add t.banks }
  let t := { t with clipped := d.mtr.bankClip.foldl (fun (m : SMap Nat) b => m.upd b 0 (· + 1)) t.clipped }
  let d := { d with mtr := { d.mtr with tap := t, sums := [], bankClip := [], chanClip := [], lastGap := gap } }
  let d := if d.railGood 9 then d else d.raise F_METER_GAP 0x013 0
  let d := if 2 ≤ t.count then d.put GEN_HATCH_STATUS_mt_folding 1 else d
  if 2 ^ 16 < t.count then d.put GEN_HATCH_STATUS_mt_sat 1 else d

/-- Changed gains and offsets come into use (R341). -/
def Dev.meterLoad (d : Dev) : Dev :=
  let gains := (List.range 40).foldl (fun (m : SMap Int) c => m.put c (toSigned 32 (d.get MTR_CH_GAIN_gain c))) []
  let offs := (List.range 40).foldl (fun (m : SMap Int) c => m.put c (toSigned 24 (d.get MTR_CH_OFFSET_offset c))) []
  { d with mtr := { d.mtr with gains := gains, offsets := offs } }

/-- The histogram bin of a temperature in 1/64 °C (R348). -/
def histoBin (t : Int) : Nat := if t < 0 then 0 else if 55 * 64 ≤ t then 12 else (t / 320).toNat + 1

/-- At a metering boundary each present cell adds 0.1 s to the bin of its T_eff, for its unit (R348). -/
def Dev.histoClose (d : Dev) : Dev :=
  let h := d.presentCells.foldl (fun (m : SMap Nat) p =>
    m.upd (unitOf d.mtr.unitsClose p.1 p.2 * 13 + histoBin (d.cell p.1 p.2).tEff) 0 (· + 1)) d.mtr.tap.histo
  { d with mtr := { d.mtr with tap := { d.mtr.tap with histo := h } } }

/-- A metering boundary (R53, R341, R344): the interval closes, changed gains and offsets come into use, and the definitions that
the interval's energy is attributed under are kept. -/
def Dev.meterBoundary (d : Dev) : Dev :=
  let gap := d.ck.gap || !d.railGood 9
  let d := ({ d with mtr := { d.mtr with unitsClose := d.mtr.units } }.bankClose gap).histoClose
  let d := { d with ck := { d.ck with gap := !d.railGood 9 } }
  let n := d.frame / 5_000
  let d := each (d.mtr.lanes.map (·.1)) (fun l (d : Dev) =>
    if !d.carriesV l && decide (d.mtr.lanes.get l n < n) then
      let d := d.laneClose l gap
      { d with mtr := { d.mtr with lanes := d.mtr.lanes.put l n } }
    else d) d
  let due := if d.frame % (d.get MTR_REC_CFG_interval * 3_000_000) = 0 then some d.frame else d.mtr.recDue
  { d with mtr := { d.mtr with recDue := due } }.meterLoad

/-! ## Bank meters (R340–R342, R223) -/

/-- A channel's value from a code (R341). -/
def Dev.chValue (d : Dev) (c : Nat) (x : Int) : Int :=
  ((x - d.mtr.offsets.get c 0) * d.mtr.gains.get c 65_536).tdiv 65_536

/-- A clipped period of a channel (R342): the first one of the interval raises `MTR_OVR`. -/
def Dev.chClip (d : Dev) (c : Nat) : Dev :=
  let first := !decide (c ∈ d.mtr.chanClip)
  let loc := if c < 32 then c % 16 else c
  let d := d.pageIrq 0x013 1
  let d := if first then d.raise F_MTR_OVR 0x013 loc else d
  let m : Mtr := { d.mtr with chanClip := if first then d.mtr.chanClip ++ [c] else d.mtr.chanClip }
  let m : Mtr := if c < 32 ∧ !(decide (c % 16 ∈ m.bankClip)) then { m with bankClip := m.bankClip ++ [c % 16] } else m
  let m : Mtr := if m.calPhase = 2 ∧ m.calNext = c then { m with calClip := true } else m
  let d := { d with mtr := m }
  if c < 32 then d.put MTR_BANK_FLAGS_clipped 1 (c % 16) else d

/-- One channel's period: the code it holds for use, with its marks (R342). -/
def Dev.chPeriod (d : Dev) (c code : Nat) (ovr : Bool) : Dev :=
  let x := toSigned 24 code
  let left := d.mtr.settle.get c 0
  let d := if ovr then d.chClip c else d
  let use : Int := if ovr then (if x < 0 then -8_388_608 else 8_388_607) else if 0 < left then d.mtr.clean.get c 0 else x
  let d := { d with mtr := { d.mtr with
    settle := d.mtr.settle.put c (if ovr then 3 else left - 1)
    clean := if ovr || decide (0 < left) then d.mtr.clean else d.mtr.clean.put c x } }
  let d := ((d.putB MTR_CH_CODE_ovr ovr c).putB MTR_CH_CODE_settling (!ovr && decide (0 < left)) c).put MTR_CH_CODE_code
    (ofSigned 24 use) c
  let d := if ovr then d.bump MTR_CH_INFO_clips c else d
  d.put MTR_CH_VALUE_value (ofSigned 32 (d.chValue c use)) c

/-- A channel's latest value, exact (R341). -/
def Dev.chNow (d : Dev) (c : Nat) : Int := d.chValue c (toSigned 24 (d.get MTR_CH_CODE_code c))

/-- One bank's check against its limits (R223): three samples in a row outside raise the fault, and so does each further one. -/
def Dev.bankCheck (d : Dev) (b : Nat) : Dev :=
  if !workingMode (d.bankMode b) then
    { d with sch := { d.sch with meterRun := (d.sch.meterRun.put b 0).put (16 + b) 0 } }
  else
    let i := d.chNow (16 + b)
    let v := d.chNow b
    let lim := limField d.sch.active (0x80 * b + 0x28) 0 32
    let hi := toSigned 32 (limField d.sch.active (0x80 * b + 0x2C) 0 32)
    let lo := toSigned 32 (limField d.sch.active (0x80 * b + 0x30) 0 32)
    let ni := if lim ≠ 0 ∧ lim * 100 < i.natAbs then d.sch.meterRun.get b 0 + 1 else 0
    let nv := if v < lo ∨ hi < v then d.sch.meterRun.get (16 + b) 0 + 1 else 0
    let d := { d with sch := { d.sch with meterRun := (d.sch.meterRun.put b ni).put (16 + b) nv } }
    let d := if 3 ≤ ni then d.raise F_BANK_OVERCURRENT (0x20 + b) b else d
    if 3 ≤ nv then d.raise F_BANK_VOLTAGE (0x20 + b) b else d

/-- One bank's energy in a period, in µW × 100 µs = 0.1 nJ (R341), and its recent voltage (R204). -/
def Dev.bankPeriod (d : Dev) (b : Nat) : Dev :=
  let v := d.chNow b
  let p := v * d.chNow (16 + b)
  let d := { d with
    mtr := { d.mtr with sums := d.mtr.sums.upd b (0, 0) fun o => (o.1 + p.toNat, o.2 + (-p).toNat) }
    sch := { d.sch with mvRecent := d.sch.mvRecent.upd b [] fun l => (v :: l).take 10 } }
  if d.railGood 12 then d.bankCheck b else d

/-- `METER_PERIOD` (R341): the 40 channels' codes of one output period; `ovr` has bit c set where channel c overranged. Period k begins at
frame 5k; its codes are taken in its last frame, once, so that an interval holds its own 1,000 periods (assumption 25). -/
def execMeterPeriod (codes : List Nat) (ovr : Nat) (s : State) :=
  onDev (fun d =>
    if d.railGood 9 && d.k03 && d.frame % 5 == 4 && d.mtr.period != d.frame / 5 + 1 then
      let d := { d with mtr := { d.mtr with period := d.frame / 5 + 1 } }
      let d := each (List.range 40) (fun c (d : Dev) => d.chPeriod c (codes.getD c 0 % 2 ^ 24) (bit ovr c)) d
      each (List.range 16) (fun b (d : Dev) => d.bankPeriod b) d
    else d) s

/-! ## Calibration (R343) -/

/-- One step every period: as many seconds have passed since the latest step began, or none has (R343). -/
def Dev.calDue (d : Dev) : Bool :=
  d.mtr.calTime == 0 || decide (d.mtr.calTime - 1 + d.get MTR_CAL_CFG_period * secondTime ≤ d.time)

/-- `CAL_STEP_START` (R343). -/
def execCalStepStart (s : State) :=
  onDev (fun d =>
    if d.railGood 9 && !d.flag MTR_STATUS_no_spare && d.mtr.calPhase == 0 && d.calDue then
      { (d.put MTR_STATUS_rotating 1).put MTR_STATUS_cal_channel d.mtr.calNext with
        mtr := { d.mtr with calPhase := 1, calClip := false, calTime := d.time + 1 } }
    else d) s

/-- `CAL_OVERLAP_START` (R343): at the first metering boundary after 1.0 s. -/
def execCalOverlapStart (s : State) :=
  onDev (fun d =>
    if d.railGood 9 && d.k03 && d.frame % 5_000 == 0 && d.mtr.calPhase == 1 && decide (d.mtr.calTime - 1 + secondTime ≤ d.time) then
      { d with mtr := { d.mtr with calPhase := 2, calClip := false, calFrame := d.frame } }
    else d) s

/-- The spare is rejected; at the third rejection in a row it is retired (R343). -/
def Dev.calReject (d : Dev) : Dev :=
  let m := d.get MTR_STATUS_spare
  let n := d.mtr.rejects.get m 0 + 1
  let gone := if 3 ≤ n then [m] else []
  let d := { (d.bumpS MTR_CAL_REJECTS_count MTR_CAL_REJECTS_sat).pageIrq 0x013 2 with
    mtr := { d.mtr with rejects := d.mtr.rejects.put m n, retired := d.mtr.retired ++ gone } }
  if 3 ≤ n then (((d.put MTR_STATUS_retired (d.get MTR_STATUS_retired + 1)).put MTR_STATUS_no_spare 1).pageIrq 0x013 3) else d

/-- Where the meters start afresh, a modulator once retired stays out of use: modulator 40 serves its channel, and no spare remains (R343; the
spec does not say which modulator a channel then has: DESIGN CHOICE, assumption 25). -/
def Dev.calRestore (d : Dev) : Dev :=
  each d.mtr.retired (fun m (d : Dev) =>
    let d := d.put MTR_STATUS_no_spare 1
    if m < 40 then d.put MTR_CH_INFO_modulator 40 m else d) d

/-- `CAL_HANDOVER` (R343): at the metering boundary after the overlap's, with the overlap's mean difference in codes, and whether either modulator clipped. -/
def execCalHandover (diff : Nat) (clipped : Bool) (s : State) :=
  onDev (fun d =>
    if d.railGood 9 && d.k03 && d.frame % 5_000 == 0 && d.mtr.calPhase == 2 && d.frame != d.mtr.calFrame then
      let c := d.mtr.calNext
      let good := decide (diff ≤ d.get MTR_CAL_CFG_cal_tol) && !clipped && !d.mtr.calClip
      let sp := d.get MTR_STATUS_spare
      let d := if good then
          let old := d.get MTR_CH_INFO_modulator c
          let d := { d with mtr := { d.mtr with rejects := d.mtr.rejects.put sp 0 } }
          (d.put MTR_CH_INFO_modulator sp c).put MTR_STATUS_spare old
        else d.calReject
      { d.put MTR_STATUS_rotating 0 with mtr := { d.mtr with calPhase := 0, calClip := false, calNext := (c + 1) % 40 } }
    else d) s

/-! ## Attribution (R345, R346, R348) -/

/-- A unit's counters. -/
def Dev.unitAcc (d : Dev) (u : Nat) : UnitAcc := d.mtr.accs.get u UnitAcc.init

/-- Change a unit's counters. -/
def Dev.accUpd (d : Dev) (u : Nat) (f : UnitAcc → UnitAcc) : Dev :=
  { d with mtr := { d.mtr with accs := d.mtr.accs.upd u UnitAcc.init f } }

/-- A bank's metering. -/
def Dev.bankAcc (d : Dev) (b : Nat) : BankAcc := d.mtr.banks.get b BankAcc.init

/-- Change a bank's metering. -/
def Dev.bankUpd (d : Dev) (b : Nat) (f : BankAcc → BankAcc) : Dev :=
  { d with mtr := { d.mtr with banks := d.mtr.banks.upd b BankAcc.init f } }

/-- Units of 0.1 nJ in a mJ, and in a mWh (R345, R346). -/
def perMJ : Nat := 10 ^ 7
/-- 0.1 nJ in a mWh. -/
def perMWh : Nat := 36_000_000_000

/-- Unit, bank and position of a tap key. -/
def tapUnit (k : Nat) : Nat := k / 2 ^ 22 / 32
/-- Bank of a tap key. -/
def tapBank (k : Nat) : Nat := k / 2 ^ 22 % 32

/-- Sums of d and g over tap cells. -/
def tapSum (m : List (Nat × TapCell)) : Nat × Nat := ((m.map fun e => e.2.dis).sum, (m.map fun e => e.2.chg).sum)

/-- The units with cells among tap entries. -/
def tapUnits (m : List (Nat × TapCell)) : List Nat := (m.map fun e => tapUnit e.1).eraseDups

/-- One bank's energy is shared among units; the remainder goes to the unleased total (R345). -/
def Dev.attribute (d : Dev) (b ePos eNeg : Nat) (cells : List (Nat × TapCell)) : Dev :=
  let (dis, chg) := tapSum cells
  let shares := (tapUnits cells).map fun u =>
    let (du, gu) := tapSum (cells.filter fun e => tapUnit e.1 == u)
    (u, if dis = 0 then 0 else ePos * du / dis, if chg = 0 then 0 else eNeg * gu / chg)
  let d := each shares (fun (x : Nat × Nat × Nat) (d : Dev) =>
    d.accUpd x.1 fun a => { a with eOut := a.eOut + x.2.1, eIn := a.eIn + x.2.2 }) d
  let restOut := ePos - (shares.map fun x => x.2.1).sum
  let restIn := eNeg - (shares.map fun x => x.2.2).sum
  let d := d.accUpd unleased fun a => { a with eOut := a.eOut + restOut, eIn := a.eIn + restIn }
  if (dis = 0 ∧ 0 < ePos) ∨ (chg = 0 ∧ 0 < eNeg) then d.put MTR_BANK_FLAGS_unattributed 1 b else d

/-- One bank's part of a drained tap (R345–R347). -/
def Dev.drainBank (d : Dev) (t : Tap) (b : Nat) : Dev :=
  let cells := t.cells.filter fun e => tapBank e.1 == b
  let gaps := t.gapCells.filter fun e => tapBank e.1 == b
  let (ePos, eNeg) := t.banks.get b (0, 0)
  let (dis, chg) := tapSum cells
  let (gd, gg) := tapSum gaps
  let clip := t.clipped.get b 0
  let d := d.bankUpd b fun a =>
    { a with ePos := a.ePos + ePos, eNeg := a.eNeg + eNeg, rPos := a.rPos + ePos, rNeg := a.rNeg + eNeg, rDis := a.rDis + dis + gd,
             rChg := a.rChg + chg + gg, clipped := a.clipped + clip, gaps := a.gaps + t.gaps,
             measured := a.measured || decide (0 < gd + gg), wPos := a.wPos + ePos, wNeg := a.wNeg + eNeg, wDis := a.wDis + dis,
             wChg := a.wChg + chg, wBad := a.wBad || decide (0 < clip + t.gaps) }
  d.attribute b ePos eNeg cells

/-- Billed as measured: cells of gap intervals and of unassigned strings (R346). -/
def Dev.drainMeasured (d : Dev) (cells : SMap TapCell) : Dev :=
  each (tapUnits cells) (fun u (d : Dev) =>
    let (du, gu) := tapSum (cells.filter fun e => tapUnit e.1 == u)
    d.accUpd u fun a =>
      { a with eOut := a.eOut + du * perMJ, eIn := a.eIn + gu * perMJ, measured := a.measured || decide (0 < du + gu) }) d

/-- A histogram takes what a tap holds for a unit: a bin counts in 0.1 s and saturates at 2^32 − 1 cell-minutes (R348). -/
def histoAdd (h : List Nat) (t : SMap Nat) (u : Nat) : List Nat :=
  (List.range 13).map fun i => min (600 * 2 ^ 32 - 1) (h.getD i 0 + t.get (u * 13 + i) 0)

/-- One unit's counters take a drained tap (R348). -/
def Dev.drainUnit (d : Dev) (t : Tap) (u : Nat) : Dev :=
  let cells := d.unitCells d.mtr.unitsClose u
  let n := cells.length
  let all := t.cells ++ t.gapCells
  let q := ((all.filter fun (e : Nat × TapCell) => tapUnit e.1 == u).map fun (e : Nat × TapCell) => e.2.q).sum
  let efcOf (p : Nat × Nat) : Rat := (d.estCell p.1 p.2).efc
  let inc := sumQ (cells.map fun p => efcOf p - d.mtr.efcSeen.get (posKey p.1 p.2) 0)
  let seen := cells.foldl (fun (m : SMap Rat) p => m.put (posKey p.1 p.2) (efcOf p)) d.mtr.efcSeen
  let clip := ((cells.map fun p => t.clipped.get (d.stringBank p.1) 0).foldl max 0)
  let d := { d with mtr := { d.mtr with efcSeen := seen } }
  d.accUpd u fun a =>
    { a with
      thru := if n = 0 then a.thru else a.thru + (q : Rat) / n
      efc := if n = 0 then a.efc else a.efc + inc / n
      histo := histoAdd a.histo t.histo u
      intervals := a.intervals + t.count, gaps := a.gaps + t.gaps, clipped := a.clipped + clip }

/-- The energy that saturation kept out of the tap: a `DISCREPANCY` record of kind 3 with the bank meter's part, the cells' part and both
together (R62, R347). The record has no field for charge. -/
def Dev.drainLost (d : Dev) (lost : SMap (Nat × Nat)) : Dev :=
  each lost (fun (e : Nat × Nat × Nat) (d : Dev) =>
    let cells := e.2.1 * perMJ
    d.record 0x14 0 [⟨24, 1, e.1⟩, ⟨25, 1, 3⟩, ⟨28, 6, d.mtr.winStart⟩, ⟨36, 8, e.2.2 / perMWh⟩, ⟨44, 8, cells / perMWh⟩,
      ⟨52, 8, (cells + e.2.2) / perMWh⟩]) d

/-- The ledger engine drains the taps (R345). -/
def Dev.tapDrain (d : Dev) : Dev :=
  let t := d.mtr.tap
  if t.count = 0 then d
  else
    let d := { d with mtr := { d.mtr with tap := Tap.init } }
    let d := each (List.range 16) (fun b (d : Dev) => d.drainBank t b) d
    let d := d.drainMeasured t.gapCells
    let d := each (definedUnits d.mtr.unitsClose ++ [unleased]) (fun u (d : Dev) => d.drainUnit t u) d
    ((((d.drainLost t.lost).put GEN_HATCH_STATUS_mt_folding 0).put GEN_HATCH_STATUS_mt_sat 0).put GEN_HATCH_MT_AGE_frames 0).put
      GEN_HATCH_MT_AGE_sat 0

/-- Every lane whose frames still come has delivered the last frame of the interval that closed last, so that the tap holds its cells' sums
(R176, R344, R356). -/
def Dev.tapReady (d : Dev) : Bool :=
  (d.mtr.lanes.map (·.1)).all fun l => !d.carriesV l || decide (d.frame / 5_000 ≤ d.mtr.lanes.get l 0)

/-- `TAP_DRAIN` (R345). -/
def execTapDrain (s : State) := onDev (fun d => if d.tapReady then d.tapDrain else d) s

/-! ## Discrepancy (R347) -/

/-- η in 1/32,768, saturating. -/
def etaOf (num den : Nat) : Nat := if den = 0 then 65_535 else min 65_535 (num * 32_768 / den)

/-- The ratio, before any rounding, lies outside the range. -/
def Dev.etaBad (d : Dev) (num den : Nat) : Bool :=
  decide (num * 32_768 < d.get MTR_DISC_CFG_eff_lo * den ∨ d.get MTR_DISC_CFG_eff_hi * den < num * 32_768)

/-- A discrepancy of one kind: meter and cell energy in 0.1 nJ. -/
def Dev.discrepancy (d : Dev) (b kind eta meter cell : Nat) : Dev :=
  let d := d.record 0x14 0 [⟨24, 1, b⟩, ⟨25, 1, kind⟩, ⟨28, 6, d.mtr.winStart⟩, ⟨34, 2, eta⟩, ⟨36, 8, meter / perMWh⟩,
    ⟨44, 8, cell / perMWh⟩]
  ((d.raise F_MTR_DISCREPANCY 0x013 b).put MTR_BANK_FLAGS_discrepancy 1 b).pageIrq 0x013 0

/-- One bank's window is judged (R347): E⁺/D and G/E⁻, each when its energy exceeds e_min Wh. -/
def Dev.windowJudge (d : Dev) (b : Nat) : Dev :=
  let a := d.bankAcc b
  let d := d.bankUpd b fun a => { a with wPos := 0, wNeg := 0, wDis := 0, wChg := 0, wBad := false }
  if a.wBad then d
  else
    let lim := d.get MTR_DISC_WIN_e_min * 1000 * perMWh
    let out := decide (lim < a.wPos)
    let in_ := decide (lim < a.wNeg)
    let eo := etaOf a.wPos (a.wDis * perMJ)
    let ei := etaOf (a.wChg * perMJ) a.wNeg
    let d := if out then d.put MTR_BANK_FLAGS_eta_out eo b else d
    let badO := out && d.etaBad a.wPos (a.wDis * perMJ)
    let badI := in_ && d.etaBad (a.wChg * perMJ) a.wNeg
    let d := if badO || badI then d else if out || in_ then d.put MTR_BANK_FLAGS_discrepancy 0 b else d
    let d := if badO then d.discrepancy b 1 eo a.wPos (a.wDis * perMJ) else d
    if badI then d.discrepancy b 2 ei a.wNeg (a.wChg * perMJ) else d

/-- The frame at which the discrepancy window in progress ends. -/
def Dev.winEnd (d : Dev) : Nat := d.mtr.winStart + d.get MTR_DISC_WIN_window * 50_000

/-- A window whose end passed without judgement is dropped: no window is longer than its seconds (R347). -/
def Dev.winDrop (d : Dev) : Dev :=
  each (List.range 16) (fun b (d : Dev) => d.bankUpd b fun a => { a with wPos := 0, wNeg := 0, wDis := 0, wChg := 0, wBad := false }) d

/-- `DISCREPANCY_WINDOW` (R347): the window has lasted its seconds and its last interval is in the tap, which is drained first; the next one
begins at its end. One left past the next metering boundary is dropped. -/
def execDiscrepancyWindow (s : State) :=
  onDev (fun d =>
    if d.railGood 9 && d.k03 && d.tapReady && decide (d.winEnd ≤ d.frame) then
      let stop := d.winEnd
      let d := d.tapDrain
      if d.frame < stop + 5_000 then
        let d := each (List.range 16) (fun b (d : Dev) => d.windowJudge b) d
        { d with mtr := { d.mtr with winStart := stop } }
      else { d.winDrop with mtr := { d.winDrop.mtr with winStart := d.frame / 5_000 * 5_000 } }
    else d) s

/-! ## Records (R354–R356, R359) -/

/-- A T code of a temperature. -/
def tCode (t : Int) : Nat := ofSigned 16 t

/-- The flags of a unit's record (R350). -/
def unitFlags (coalesced : Bool) (a : UnitAcc) (sat : Bool) : Nat :=
  b2n coalesced + 2 * b2n (0 < a.clipped) + 4 * b2n (0 < a.gaps) + 32 * b2n sat + 64 * b2n a.measured

/-- An `ENERGY` record (R354); that of a unit without cells is one of zeros (R34, R371). -/
def Dev.energyRecord (d : Dev) (coalesced : Bool) (u : Nat) : Dev :=
  let a := d.unitAcc u
  let cells := d.unitCells d.mtr.unitsClose u
  let ts := cells.map fun p => (d.cell p.1 p.2).tEff
  let out := a.eOut / perMWh
  let in_ := a.eIn / perMWh
  let dOut := out - a.lastOut
  let dIn := in_ - a.lastIn
  let lim := 2 ^ 32 - 1
  let top : Int := ts.foldl max (ts.headD 0)
  let low : Int := ts.foldl min (ts.headD 0)
  let body : List Part := [⟨24, 2, if u = unleased then 0xFFFF else u⟩, ⟨26, 2, min 0xFFFF cells.length⟩, ⟨28, 8, out⟩, ⟨36, 8, in_⟩,
    ⟨44, 8, (a.thru / 3_600_000).floor.toNat⟩, ⟨52, 4, min lim dOut⟩, ⟨56, 4, min lim dIn⟩, ⟨60, 4, (a.efc * 100).floor.toNat⟩,
    ⟨64, 4, a.intervals⟩, ⟨68, 2, min 0xFFFF a.gaps⟩, ⟨70, 2, min 0xFFFF a.clipped⟩, ⟨72, 2, tCode top⟩, ⟨74, 2, tCode low⟩]
  let body := if cells.isEmpty ∧ u ≠ unleased then [⟨24, 2, u⟩] else body
  let d := d.record 0x10 (unitFlags coalesced a (decide (lim < dOut ∨ lim < dIn))) body
  d.accUpd u fun a => { a with lastOut := out, lastIn := in_, intervals := 0, gaps := 0, clipped := 0, measured := false }

/-- A `BANK` record (R355). -/
def Dev.bankRecord (d : Dev) (coalesced : Bool) (b : Nat) : Dev :=
  let a := d.bankAcc b
  let flags := b2n coalesced + 2 * b2n (0 < a.clipped) + 4 * b2n (0 < a.gaps) + 8 * d.get MTR_BANK_FLAGS_discrepancy b +
    16 * d.get MTR_BANK_FLAGS_unattributed b + 64 * b2n a.measured
  let body : List Part := [⟨24, 1, b⟩, ⟨25, 1, d.bankMode b⟩, ⟨28, 8, a.ePos / perMWh⟩, ⟨36, 8, a.eNeg / perMWh⟩,
    ⟨44, 8, a.rPos / perMWh⟩, ⟨52, 8, a.rNeg / perMWh⟩, ⟨60, 8, a.rDis * perMJ / perMWh⟩, ⟨68, 8, a.rChg * perMJ / perMWh⟩,
    ⟨76, 2, min 0xFFFF a.clipped⟩, ⟨78, 2, min 0xFFFF a.gaps⟩]
  let d := d.record 0x11 flags body
  let d := d.bankUpd b fun a => { a with rPos := 0, rNeg := 0, rDis := 0, rChg := 0, clipped := 0, gaps := 0, measured := false }
  (d.put MTR_BANK_FLAGS_clipped 0 b).put MTR_BANK_FLAGS_unattributed 0 b

/-- A `HISTO` record: cell-minutes since the last one. -/
def Dev.histoRecord (d : Dev) (coalesced : Bool) (u : Nat) : Dev :=
  let a := d.unitAcc u
  let now := a.histo.map (· / 600)
  let bins : List Part := (List.range 13).map fun k => ⟨28 + 4 * k, 4, min (2 ^ 32 - 1) (now.getD k 0 - a.lastHisto.getD k 0)⟩
  (d.record 0x12 (b2n coalesced) (⟨24, 2, u⟩ :: bins)).accUpd u fun a => { a with lastHisto := now }

/-- A unit's health (R285, R353, R366). -/
structure UnitHealth where
  cells : Nat
  meanCap : Nat
  minCap : Nat
  meanGrow : Nat
  maxGrow : Nat
  qLearned : Nat
  unlearned : Nat
  stale : Nat
  failed : Nat
  inactive : Nat
  deriving DecidableEq, Repr

/-- A figure in 1/65,536 or 1/256, saturating at 65,535 (R285). -/
def figure (x : Rat) (scale : Nat) : Nat := (clampI 0 65_535 (x * scale).floor).toNat

/-- The health of a unit's cells. -/
def Dev.unitHealth (d : Dev) (u : Nat) : UnitHealth :=
  let cells := d.unitCells d.mtr.unitsClose u
  let recs := cells.map fun p => ((d.recRead p.1 p.2).1, p)
  let figs := recs.map fun r => d.healthFigures r.2.1 r.2.2 r.1
  let n := cells.length
  let learned (r : LRec) (b : Nat) : Bool := r.fmt == 1 && bit r.flags b
  let caps := figs.map (·.1)
  let grows := figs.map (·.2)
  { cells := n
    meanCap := if n = 0 then 0 else figure (sumQ caps / n) 65_536
    minCap := if n = 0 then 0 else figure (caps.foldl min (caps.headD 0)) 65_536
    meanGrow := if n = 0 then 0 else figure (sumQ grows / n) 256
    maxGrow := if n = 0 then 0 else figure (grows.foldl max (grows.headD 0)) 256
    qLearned := (recs.filter fun r => learned r.1 1).length
    unlearned := (recs.filter fun r => !learned r.1 1 && !learned r.1 2).length
    stale := (cells.filter fun p => d.isStale p.1 p.2).length
    failed := (cells.filter fun p => (d.cell p.1 p.2).failed).length
    inactive := (cells.filter fun p => d.cellStatus p.1 p.2 != 0).length }

/-- A count in a 16-bit field saturates (R580). -/
def sat16 (n : Nat) : Nat := min 0xFFFF n

/-- A `SOH` record. -/
def Dev.sohRecord (d : Dev) (coalesced : Bool) (u : Nat) : Dev :=
  let h := d.unitHealth u
  d.record 0x13 (b2n coalesced) [⟨24, 2, u⟩, ⟨26, 2, sat16 h.cells⟩, ⟨28, 2, h.meanCap⟩, ⟨30, 2, h.minCap⟩, ⟨32, 2, h.meanGrow⟩,
    ⟨34, 2, h.maxGrow⟩, ⟨36, 2, sat16 h.qLearned⟩, ⟨38, 2, sat16 h.stale⟩, ⟨40, 2, sat16 h.failed⟩, ⟨42, 2, sat16 h.inactive⟩]

/-- The records of the record boundary of frame f, in R356's order. -/
def Dev.recordSet (d : Dev) (f : Nat) (coalesced : Bool) : Dev :=
  let us := definedUnits d.mtr.unitsClose
  let d := each (us ++ [unleased]) (fun u (d : Dev) => d.energyRecord coalesced u) d
  let d := each ((List.range 16).filter fun b => d.get BNK_STATUS_strings b != 0) (fun b (d : Dev) => d.bankRecord coalesced b) d
  if f / (d.get MTR_REC_CFG_interval * 3_000_000) % d.get MTR_REC_CFG_summary = 0 then
    let d := each us (fun u (d : Dev) => d.histoRecord coalesced u) d
    each us (fun u (d : Dev) => d.sohRecord coalesced u) d
  else d

/-- The record boundary of frame f (R356, R359). -/
def Dev.recordBoundary (d : Dev) (f : Nat) : Dev :=
  let d := { d with mtr := { d.mtr with recDue := none } }.tapDrain
  let n := d.get LDG_UNACKED_count
  if d.flag LDG_STATUS_coalescing then
    if n ≤ 188_416 then
      let d := d.record 0x28 0 [⟨24, 4, d.ldg.skipped⟩, ⟨28, 6, d.ldg.skippedFrame⟩]
      let d := (d.put LDG_STATUS_coalescing 0).pageIrq 0x012 2
      ({ d with ldg := { d.ldg with skipped := 0 } }).recordSet f true
    else { d with ldg := { d.ldg with skipped := d.ldg.skipped + 1 } }
  else if 192_512 ≤ n then
    let d := d.record 0x27 0 [⟨24, 4, n⟩]
    let d := (((d.put LDG_STATUS_coalescing 1).pageIrq 0x012 1).raise F_LDG_COALESCE 0x012 0).irqEdge 140
    { d with ldg := { d.ldg with skipped := 1, skippedFrame := f } }
  else d.recordSet f false

/-- `RECORD_BOUNDARY` (R356): a metering boundary whose frame number is a multiple of the interval has come, and the taps of the interval that
it closed are complete. -/
def execRecordBoundary (s : State) :=
  onDev (fun d =>
    match d.mtr.recDue with
    | some f => if d.k03 && d.tapReady then d.recordBoundary f else d
    | none => d) s

/-- The meters' domain goes: what the page held of the meters is lost, with the runs of samples and of cycles that the checks, the
trackers and the last millisecond count (R203, R204, R223); totals, definitions in force and retired modulators stay
in the pantry (R346, R370). -/
def Dev.mtrOff (d : Dev) : Dev :=
  { d with
    sch := { d.sch with mvRecent := [], meterRun := [], gvGood := [], gvBad := [], gvLow := [] }
    mtr := { d.mtr with
    sums := [], bankClip := [], chanClip := [], settle := [], clean := [], gains := [], offsets := [], staged := [], calPhase := 0
    calClip := false, calTime := 0, period := 0 } }

end Sys2Proof.Machine
end

