-- ==== Sys2Proof/Machine/Documents.lean ====
section
/-!
DEFINITION. Machine/Documents.lean: the certificate chain (R338), attestations and health certificates (R364–R366).
-/
namespace Sys2Proof.Machine

/-- The certificate chain's bytes. -/
def Dev.certBytes (d : Dev) : List Nat :=
  ((List.range 1024).flatMap fun w => leBytes 4 (d.get LDG_CERT_DATA_data w)).take (d.get LDG_CERT_LEN_bytes)

/-- The identity public key as a number, first byte most significant. -/
def Dev.deviceKey (d : Dev) : Nat := beNat (((List.range 25).flatMap fun k => leBytes 4 (d.get LDG_DEVKEY_data k)).take 97)

/-- The first DER item of the bytes: its tag, its content and what follows it; none where the bytes hold no whole item of a definite
length. -/
def derItem (bs : List Nat) : Option (Nat × List Nat × List Nat) :=
  match bs with
  | tag :: n :: rest =>
    let k := n - 0x80
    let len := if n < 0x80 then n else beNat (rest.take k)
    let rest := if n < 0x80 then rest else rest.drop k
    if n = 0x80 ∨ 0x84 < n ∨ rest.length < len then none else some (tag, rest.take len, rest.drop len)
  | _ => none

/-- The content of the first item, where it carries the tag. -/
def derInside (tag : Nat) (bs : List Nat) : Option (List Nat) :=
  match derItem bs with
  | some (t, content, _) => if t = tag then some content else none
  | none => none

/-- What follows items of the tags, one after the other. -/
def derSkip : List Nat → List Nat → Option (List Nat)
  | [], bs => some bs
  | tag :: tags, bs =>
    match derItem bs with
    | some (t, _, rest) => if t = tag then derSkip tags rest else none
    | none => none

/-- The leaf's subject public key (R338): of the first certificate's TBSCertificate, behind version, serial number, signature algorithm,
issuer, validity and subject, the bit string of SubjectPublicKeyInfo, 97 bytes. The places are X.509 v3's, which the spec names and does
not repeat (PRESUMED, assumption 24). -/
def leafKey (chain : List Nat) : Option Nat :=
  (derInside 0x30 chain).bind fun cert =>
  (derInside 0x30 cert).bind fun tbs =>
  (derSkip [0xA0, 0x02, 0x30, 0x30, 0x30, 0x30] tbs).bind fun tbs =>
  (derInside 0x30 tbs).bind fun info =>
  (derSkip [0x30] info).bind fun info =>
  (derInside 0x03 info).bind fun key =>
  if key.head? = some 0 ∧ key.length = 98 then some (beNat (key.drop 1)) else none

/-- `CERT_LOAD` (R338): its checks stand in R338's order, state before argument. -/
def certLoad : CmdDef where
  verdict _ c d :=
    let loaded := d.flag LDG_STATUS_cert_loaded
    let n := d.get LDG_CERT_LEN_bytes
    { Verdict.ok with
      badArg := !loaded && (c.arg != 0 || n == 0 || decide (4_096 < n) || leafKey d.certBytes != some d.deviceKey)
      badState := loaded }
  effect _ _ n d := (d.put LDG_STATUS_cert_loaded 1).done n

/-- `CERT_LOAD` (R338). -/
def execCertLoad (c : Cmd) (s : State) := onDev (fun d => d.cmd 0x012 5 certLoad c) s

/-- The nonce of a document: `LDG_NONCE_IN`. -/
def Dev.nonceIn (d : Dev) : List Nat := (List.range 8).flatMap fun k => leBytes 4 (d.get LDG_NONCE_IN_data k)

/-- A document is queued in the signature engine. -/
def Dev.docQueue (d : Dev) (kind unit : Nat) (c : Cmd) (n : Nat) : Dev :=
  let j : SigJob := { kind := kind, ch := c.ch, unit := unit, ticket := n, data := d.nonceIn }
  let d := { d with isl := { d.isl with docs := d.isl.docs ++ [j] } }
  (((d.put LDG_OUT_STATUS_state 1 c.ch).put LDG_OUT_STATUS_kind (kind - 1) c.ch)).engineNext

/-- The channel's `LDG_OUT` is being written. -/
def Dev.outBusy (d : Dev) (ch : Nat) : Bool := d.get LDG_OUT_STATUS_state ch == 1

/-- `ATTEST` (R364, R365). -/
def attest : CmdDef where
  verdict _ c d :=
    { Verdict.ok with badArg := c.arg != 0, badState := d.custodyOff || !d.flag LDG_STATUS_ident_ok, busy := d.outBusy c.ch }
  effect _ c n d := d.docQueue 2 0 c n

/-- `CERTIFY` (R364, R366). -/
def certify : CmdDef where
  verdict _ c d :=
    { Verdict.ok with
      badArg := decide (4_096 ≤ c.arg)
      badState := d.custodyOff || !d.flag LDG_STATUS_ident_ok || !unitDefined d.mtr.units c.arg
      busy := d.outBusy c.ch
      makesRecord := true }
  effect _ c n d := d.docQueue 3 c.arg c n

/-- `ATTEST` (R364). -/
def execAttest (c : Cmd) (s : State) := onDev (fun d => d.cmd 0x012 3 attest c) s
/-- `CERTIFY` (R366). -/
def execCertify (c : Cmd) (s : State) := onDev (fun d => d.cmd 0x012 4 certify c) s

/-- Parts laid out over `n` bytes from `off`. -/
def partBytes (ps : List Part) (off n : Nat) : List Nat := (List.range n).map fun k => partByte ps (off + k)

/-- The body of an attestation (R365). -/
def Dev.attestBody (d : Dev) : List Part :=
  [⟨168, 1, d.get PWR_PSTATE_state⟩,
   ⟨169, 1, b2n (!d.flag OTP_STATUS_restrictive) + 2 * d.get LDG_STATUS_cert_loaded + 4 * d.get LDG_STATUS_coalescing⟩,
   ⟨170, 1, d.otp.generation 0⟩, ⟨171, 1, d.otp.generation 1⟩, ⟨172, 1, d.get CUS_KEY_SLOTS_programmed⟩,
   ⟨176, 4, d.get CUS_SESSION_ID_id⟩, ⟨180, 8, d.ldgAck⟩, hashPart 188 (d.holderHash 0 0), hashPart 236 (d.holderHash 1 0)]

/-- The body of a health certificate (R366). -/
def Dev.certBody (d : Dev) (u : Nat) : List Part :=
  let a := d.unitAcc u
  let h := d.unitHealth u
  let bins : List Part := (List.range 13).map fun k => ⟨224 + 4 * k, 4, min (2 ^ 32 - 1) (a.histo.getD k 0 / 36_000)⟩
  let last := d.ldg.unitDef.get u 0
  [⟨168, 2, u⟩, ⟨170, 2, sat16 h.cells⟩, ⟨172, 2, sat16 h.stale⟩, ⟨174, 2, sat16 h.failed⟩, ⟨176, 2, sat16 h.unlearned⟩,
   ⟨180, 8, a.eIn / perMWh⟩, ⟨188, 8, a.eOut / perMWh⟩, ⟨196, 8, (a.thru / 3_600_000).floor.toNat⟩,
   ⟨204, 4, (a.efc * 100).floor.toNat⟩, ⟨208, 2, h.meanCap⟩, ⟨210, 2, h.minCap⟩, ⟨212, 2, h.meanGrow⟩, ⟨214, 2, h.maxGrow⟩,
   ⟨216, 8, if last = 0 then seqNone else last - 1⟩] ++ bins

/-- Bytes 0–415 of a document (R364). -/
def Dev.docHead (d : Dev) (j : SigJob) : List Nat :=
  let sq := d.ldgSealSeq
  let h := if sq = seqNone then 0 else (d.ldg.ring.get (sq % ldgSlots) LdgRec.zero).hash
  let body := if j.kind = 2 then d.attestBody else d.certBody j.unit
  [1, 0, j.kind - 1, 0, 0, 0, 0, 0] ++ beBytes 48 d.deviceKeyId ++ j.data ++ leBytes 2 d.epoch ++ leBytes 6 d.tick ++
    leBytes 6 d.frameRec ++ [0, 0] ++ leBytes 8 (d.get2 LDG_HEAD_LO_lo LDG_HEAD_HI_hi) ++ leBytes 8 sq ++ beBytes 48 h ++
    partBytes body 168 248

/-- The signature engine finishes a document (R364). -/
def Dev.docSigned (d : Dev) : Dev :=
  match d.isl.docs with
  | [] => d
  | j :: rest =>
    if d.isl.current != 3 || !(j.kind == 2 || j.kind == 3) then d
    else
      let head := d.docHead j
      let doc := head ++ beBytes 96 (Config.ecdsaSign d.isl.priv (Config.sha384 head))
      let d := { d with isl := { d.isl with docs := rest } }
      let d := each (List.range 128) (fun w (d : Dev) => d.put LDG_OUT_data (leNat ((doc.drop (4 * w)).take 4)) (j.ch * 128 + w)) d
      let d := if j.kind = 3 then d.record 0x25 0 [⟨24, 2, j.unit⟩, hashPart 32 (Config.sha384 head)] else d
      (((d.put LDG_OUT_STATUS_state 2 j.ch).done j.ticket).pageIrq 0x012 4).engineFree

end Sys2Proof.Machine
end

