-- ==== Sys2Proof/Machine/Flight.lean ====
section
/-!
DEFINITION. Machine/Flight.lean: the flight recorder (R330–R334): its ring of slots in attached memory, its triggers and
its commands.
-/
namespace Sys2Proof.Machine

/-- The slots of the ring: ⌊G × 8,192 / L⌋ (R330). -/
def Dev.flrSlots (d : Dev) : Nat :=
  if d.get FLR_LANES_N_count = 0 then 0 else d.get FLR_SIZE_gib * 8192 / d.get FLR_LANES_N_count

/-- `FLR_SLOTS` follows its size and list. -/
def Dev.flrSettle (d : Dev) : Dev := d.put FLR_SLOTS_slots d.flrSlots

/-- The listed lanes. -/
def Dev.flrLanes (d : Dev) : List Nat :=
  (List.range (d.get FLR_LANES_N_count)).map fun i =>
    if i % 2 = 0 then d.get FLR_LANE_even (i / 2) else d.get FLR_LANE_odd (i / 2)

/-- The recorder takes slot for a frame: the one the frame has, or the next (R330); none where the frame is not
recorded. -/
def Dev.flrSlot (d : Dev) (frame : Nat) : Option Nat × Dev :=
  let st := d.get FLR_STATUS_state
  if (st ≠ 1 ∧ st ≠ 2) ∨ frame % max 1 (d.get FLR_CFG_decimate) ≠ 0 then (none, d)
  else match d.flr.recent.find? fun (p : Nat × Nat) => p.1 == frame with
    | some p => (some p.2, d)
    | none =>
      if st = 2 ∧ d.flr.left = 0 then (none, d)
      else
        let w := d.get FLR_WR_SLOT_slot
        let d := d.put FLR_WR_SLOT_slot ((w + 1) % max 1 (d.get FLR_SLOTS_slots))
        (some w, { d with flr := {
          left := if st = 2 then d.flr.left - 1 else d.flr.left
          filled := d.flr.filled + 1
          recent := ((frame, w) :: d.flr.recent).take 8 } })

/-- Write a record of 131,072 bytes (R330, R331). -/
def Dev.flrWrite (d : Dev) (addr : Nat) (rec_ : Nat → Nat) : Dev :=
  each (List.range 2048) (fun i (d : Dev) =>
    (d.memWrite (addr / 64 + i) ((List.range 64).map fun k => (k, rec_ (64 * i + k)))).2) d

/-- A frame of a listed lane is recorded, or dropped when the recorder's queue of 64 is full (`FLR_RECORD`, R330). -/
def Dev.flrRecord (d : Dev) (l frame : Nat) (full : Bool) (rec_ : Nat → Nat) : Dev :=
  match d.flrIndex l with
  | none => d
  | some i =>
    match d.flrSlot frame with
    | (none, d) => d
    | (some w, d) =>
      if full then d.bumpS FLR_DROPS_count FLR_DROPS_sat
      else d.flrWrite (d.get FLR_BASE_gib * 2 ^ 30 + (w * d.get FLR_LANES_N_count + i) * 131_072) rec_

/-- The first 64 bytes of a record (R331): frame, lane, time of receipt, lane state, flags, counts and the map in force. -/
def Dev.flrHead (d : Dev) (l num : Nat) (missing hdrOk : Bool) (uncorr corr : Nat) : List Nat :=
  let flags := b2n missing + 2 * b2n hdrOk + 4 * d.get LNK_STATUS_cw_lock l + 8 * d.get LNK_STATUS_frame_lock l
  let head := leBytes 6 num ++ leBytes 2 l ++ leBytes 2 d.epoch ++ leBytes 6 d.tick ++ [d.laneState l, flags] ++
    leBytes 2 uncorr ++ leBytes 2 (min corr 0xFFFF) ++ leBytes 2 (d.get FRM_L_MAP_in_force l)
  head ++ List.replicate (64 - head.length) 0

/-- The record of a frame that does not arrive. -/
def Dev.flrAbsent (d : Dev) (l num : Nat) (full : Bool) : Dev :=
  d.flrRecord l num full fun k => (d.flrHead l num true false 0 0).getD k 0

/-- A lane's upstream frames arrive or are missed one by one: it has frame alignment (R134, R185). -/
def Dev.flrFramed (d : Dev) (l : Nat) : Bool :=
  d.laneOn l && (decide (3 ≤ d.laneState l ∧ d.laneState l ≤ 5) || (d.laneState l == 2 && d.flag LNK_STATUS_frame_lock l))

/-- Each recorded frame fills the next slot, with one record for every listed lane (R330): as a frame begins, the one before it is
recorded as missing on the listed lanes that have no frame alignment. -/
def Dev.flrIdle (d : Dev) (f : Nat) : Dev :=
  if f = 0 then d
  else each (d.flrLanes.filter fun l => !d.flrFramed l) (fun l (d : Dev) => d.flrAbsent l (f - 1) false) d

/-- `ARM` (R334). -/
def flrArm : CmdDef where
  verdict _ c d :=
    let st := d.get FLR_STATUS_state
    { Verdict.ok with
      badArg := c.arg != 0 || !decide (d.flrLanes.Nodup)
      badState := (st == 1 || st == 2) || !d.flag FLR_CFG_en || decide (d.flrSlots = 0) ||
        decide (d.memU < (d.get FLR_BASE_gib + d.get FLR_SIZE_gib) * 2 ^ 30) }
  effect _ _ n d :=
    let d := (d.flrSettle.put FLR_STATUS_state 1).put FLR_WR_SLOT_slot 0
    ({ d with flr := Flr.init }).done n

/-- `TRIGGER` (R334). -/
def flrTriggerCmd : CmdDef where
  verdict _ c d := { Verdict.ok with badArg := c.arg != 0, badState := d.get FLR_STATUS_state != 1 }
  effect _ _ n d := (d.flrTrigger 1 0).done n

/-- `STOP` (R334). -/
def flrStop : CmdDef where
  verdict _ c d := { Verdict.ok with badArg := c.arg != 0, badState := d.get FLR_STATUS_state == 0 }
  effect _ _ n d := (d.put FLR_STATUS_state 0).done n

/-- The recorder freezes after its last frame of `POST`; `FLR_FIRST_SLOT` names the oldest slot recorded (R332). -/
def Dev.flrFreeze (d : Dev) : Dev :=
  if d.get FLR_STATUS_state = 2 ∧ d.flr.left = 0 then
    let d := (d.put FLR_STATUS_state 3).put FLR_FIRST_SLOT_slot
      (if d.flr.filled < d.get FLR_SLOTS_slots then 0 else d.get FLR_WR_SLOT_slot)
    (d.pageIrq 0x019 1).raise F_FLR_FROZEN 0x019 0
  else d

/-- The recorder's domain goes. -/
def Dev.flrOff (d : Dev) : Dev := { d with flr := Flr.init }

/-- `FLR_ARM` (R334). -/
def execFlrArm (c : Cmd) (s : State) := onDev (fun d => d.cmd 0x019 1 flrArm c) s
/-- `FLR_TRIGGER` (R332, R334): the command; the other triggers act where they arise. -/
def execFlrTrigger (c : Cmd) (s : State) := onDev (fun d => d.cmd 0x019 2 flrTriggerCmd c) s
/-- `FLR_STOP` (R334). -/
def execFlrStop (c : Cmd) (s : State) := onDev (fun d => d.cmd 0x019 3 flrStop c) s
/-- `FLR_FREEZE` (R332). -/
def execFlrFreeze (s : State) := onDev (fun d => d.flrFreeze) s

end Sys2Proof.Machine
end

