-- ==== Sys2Proof/Machine/Frame.lean ====
section
/-!
DEFINITION. Machine/Frame.lean: what the device does as a frame begins (R53–R61, R45, R170, R190, R200–R203), and the
assembly of plans (R44, R45).
-/
namespace Sys2Proof.Machine

/-- A device epoch that waits is taken (R170). -/
def Dev.epochDue (d : Dev) : Dev :=
  if d.epochPend = 0 then d else { d.put FRM_EPOCH_epoch (d.epochPend - 1) with epochPend := 0 }

/-- Lanes whose map was acknowledged enter RUN (R190). -/
def Dev.lanesEnterRun (d : Dev) : Dev :=
  each ((d.frms.filter fun e => e.2.runNext).map (·.1)) (fun l (d : Dev) =>
    if d.laneState l = 3 then d.enterRun l else d) d

/-- Lanes with an accepted `SAFE` enter SAFE (R148); a lane that has left RUN otherwise closes the ticket `PARTIAL`. -/
def Dev.lanesEnterSafe (d : Dev) : Dev :=
  each ((d.lanes.filter fun e => e.2.safeTkt != 0).map (·.1)) (fun l (d : Dev) =>
    let x := d.lane l
    let d := d.putLane l { x with safeTkt := 0, safeMore := [] }
    let run := d.laneState l == 4
    let d := if run then d.laneEnter l 5 1 else d
    each (x.safeTkt :: x.safeMore) (fun n (d : Dev) => if run then d.done n else d.partialDone n) d) d

/-- As frame f begins, a lane whose plan for frame f + 1 is not assembled transmits without it (R45). -/
def Str.judge (f : Nat) (x : Str) : Str :=
  match x.plans with
  | (n, _) :: _ =>
    if n = f + 1 ∧ x.assembled = false then { x with missed := true, missDue := true, misses := x.misses + 1 }
    else { x with missed := false, misses := 0 }
  | [] => { x with missed := false, misses := 0 }

/-- The plans of the lanes that launch at the boundary are judged; an advanced lane's is judged at its launch (R143). -/
def Dev.judgePlans (d : Dev) (f : Nat) : Dev :=
  { d with sch := { d.sch with strs := d.sch.strs.map fun e => (e.1, if (d.lane e.1).advance = 0 then e.2.judge f else e.2) } }

/-- Some lane missed its deadline in the frame in progress. -/
def Dev.anyMissed (d : Dev) : Bool := d.sch.strs.any fun e => e.2.missed

/-- Ages of readings in frames go on (R185). -/
def Dev.ageFrame (d : Dev) : Dev :=
  let s := d.sch
  let d := { d with
    sch := { s with
      cells := s.cells.map fun (e : Nat × Cell) => (e.1, { e.2 with vAge := e.2.vAge + 1 })
      temps := s.temps.map fun (e : Nat × Temp) => (e.1, { e.2 with age := e.2.age + 1 })
      strs := s.strs.map fun (e : Nat × Str) => (e.1, { e.2 with curAge := e.2.curAge + 1 }) }
    flt := { d.flt with tripFresh := d.flt.tripFresh - 1 } }
  d

/-- The ages of the hatch points go on as a frame begins, before what exchanges at its boundary resets them (R64). -/
def Dev.ageHatch (d : Dev) : Dev :=
  let d := { d with hatch := { d.hatch with clock := d.hatch.clock + 1 } }
  (d.bumpS GEN_HATCH_LT_AGE_frames GEN_HATCH_LT_AGE_sat).bumpS GEN_HATCH_MT_AGE_frames GEN_HATCH_MT_AGE_sat

/-- A frame whose number is a multiple of 3,000,000 begins: a minute boundary with its time (R263). -/
def Dev.minuteMark (d : Dev) (f : Nat) : Dev :=
  if f % 3_000_000 = 0 ∨ d.ck.stepAt = f + 1 then { d with imp := { d.imp with minute := some (f, d.epoch, d.tick) } } else d

/-- Frame `f` begins: the epoch, lanes entering RUN, tables and modes, the judgement of the plans for f + 1, and the
plans for f + 2. -/
def Dev.beginFrame (d : Dev) (f : Nat) : Dev :=
  let d := (d.put2 CLK_FRAME_LO_frame_lo CLK_FRAME_HI_frame_hi f).ageHatch.epochDue
  let d := (d.minuteMark f).lanesEnterSafe.lanesEnterRun
  let d := (d.schBoundary).judgePlans f
  (if d.railGood 12 then d.computePlans (f + 2) else d).ageFrame

/-- `LANE_ENTER_RUN` (R190): a lane whose map is loaded enters RUN at the boundary. -/
def execLaneEnterRun (lane : Nat) (s : State) :=
  onDev (fun d => if (d.frm lane).runNext && d.k03 && d.laneState lane == 3 then d.enterRun lane else d) s

/-- `PLAN_ASSEMBLED` (R44). -/
def execPlanAssembled (lane : Nat) (s : State) :=
  onDev (fun d => if d.sch.strs.has lane && d.k03 then d.strUpd lane fun x => { x with assembled := true } else d) s

/-- `FRAME_DEADLINE_MISS` (R45): counted and recorded; the third in a row on a lane is `DEADLINE_MISS_3`. -/
def Dev.deadlineMiss (d : Dev) (l : Nat) : Dev :=
  let x := d.str l
  if x.missDue then
    let d := d.strUpd l fun x => { x with missDue := false }
    let d := (d.bump GEN_DEADLINE_MISS_count).raise F_DEADLINE_MISS 0x000 l
    if x.misses = 3 then d.raise F_DEADLINE_MISS_3 0x000 l else d
  else d

/-- `FRAME_DEADLINE_MISS` (R45). -/
def execFrameDeadlineMiss (lane : Nat) (s : State) := onDev (fun d => d.deadlineMiss lane) s

end Sys2Proof.Machine
end

