-- ==== Sys2Proof/Machine/Rtc.lean ====
section
/-!
DEFINITION. Machine/Rtc.lean: device time (R410–R421): the tick count and its trim, epochs, `SET`, the alarms, `SQW`, the
switch-over stamp and the trim measurement.
-/
namespace Sys2Proof.Machine

/-! ## Epochs (R410–R413) -/

/-- An open trim gate is abandoned and counted (R415). -/
def Dev.trimAbort (d : Dev) : Dev :=
  if d.flag RTC_TRIM_STATUS_running then (d.put RTC_TRIM_STATUS_running 0).bump RTC_TRIM_STATUS_aborts else d

/-- The run condition of trim gates (R415). -/
def Dev.trimRuns (d : Dev) : Bool :=
  let src := d.get RTC_TRIM_CFG_src
  if src = 1 then d.railGood 9 && d.flag SCH_GV_STATUS_locked (d.get RTC_TRIM_CFG_gv)
  else if src = 2 then d.railGood 10 && d.clk == 3
  else false

/-- A gate opens when its run condition holds, and is abandoned when it fails (R415). -/
def Dev.trimSettle (d : Dev) : Dev :=
  if d.trimRuns then d.put RTC_TRIM_STATUS_running 1 else d.trimAbort

/-- Any epoch change disarms both alarms (R411, R413, R416). -/
def Dev.disarmAlarms (d : Dev) : Dev :=
  each [0, 1] (fun a (d : Dev) => (d.put RTC_ALM_HI_arm 0 a).put RTC_ALM_HI_lost 1 a) d

/-- The epoch increases by 1: the trim accumulator clears, the alarms are disarmed, a trim gate is cut, and every custody
session closes with its nonces (R88, R411, R413). A gate that ends on the same edge is aborted: the next one opens with the next edge (R421). The
pantry mirror follows while D03 is on (R410). Times of different epochs are not
comparable (R9): the checkpoint period (R293) counts anew from the change (DESIGN CHOICE, assumption 25). -/
def Dev.newEpoch (d : Dev) : Dev :=
  let e := (d.epoch + 1) % 2 ^ 16
  let d := d.put RTC_TICK_HI_epoch e
  let d := { d with
    rtc := { d.rtc with acc := 0, epochMirror := if d.railGood 3 then e else d.rtc.epochMirror }
    est := { d.est with ckptTick := d.tick } }
  d.disarmAlarms.trimAbort.cusNewEpoch

/-- Set the 48-bit tick count. -/
def Dev.putTick (d : Dev) (v : Nat) : Dev := d.put2 RTC_TICK_LO_tick_lo RTC_TICK_HI_tick_hi v

/-- A `SET` in progress takes its edge: the count is loaded and the epoch increases (R413). While D00 is held off no ticket closes
(R543). -/
def Dev.setApply (d : Dev) : Dev :=
  if d.flag RTC_STATUS_set_pending then
    let t := if d.down = 0 then d.rtc.setTkt else 0
    let d := (d.put RTC_STATUS_set_pending 0).putTick (d.get2 RTC_SET_LO_tick_lo RTC_SET_HI_tick_hi)
    ({ d.newEpoch with rtc := { d.newEpoch.rtc with setTkt := 0 } }).done t
  else d

/-- `SET_EDGE_APPLY` (R413). -/
def execSetEdgeApply (s : State) := onDev (fun d => if d.flag RTC_STATUS_osc_running then d.setApply else d) s

/-- `OSC_STOPPED` reaches the collector with interrupt source 135 (R411). -/
def Dev.raiseOscStopped (d : Dev) : Dev := (d.raise F_OSC_STOPPED 0x008 0).irqEdge 135

/-- The oscillator stops (R411): one epoch increase; a `SET` that waits is abandoned (R421). While D00 is held off, D02
keeps the fault for the next cold start. -/
def Dev.oscStop (d : Dev) : Dev :=
  let t := if d.flag RTC_STATUS_set_pending && d.down == 0 then d.rtc.setTkt else 0
  let d := (d.put RTC_STATUS_set_pending 0).abandon t
  let d := { d with rtc := { d.rtc with setTkt := 0 } }
  let d := ((d.put RTC_STATUS_osc_running 0).put RTC_STATUS_osc_stopped 1).newEpoch
  let d := (d.bump RTC_STOPS_count).pageIrq 0x008 0
  if d.down = 0 then d.raiseOscStopped else { d with rtc := { d.rtc with flags := setBit d.rtc.flags 2 } }

/-- `OSC_STOP` (R411). -/
def execOscStop (s : State) := onAny (fun d => if d.rtc.d02Held || !d.flag RTC_STATUS_osc_running then d else d.oscStop) s

/-- The mirrored settings are restored from the pantry, or take their reset values while D03 is off (R411). -/
def Dev.rtcSettings (d : Dev) : Dev :=
  let m := if d.railGood 3 then d.rtc.mirror else [0, 0, 0, 0, 0, 0]
  let d := ((d.put RTC_TRIM_ppb (m.getD 0 0)).put RTC_SQW_en (m.getD 1 0)).put RTC_SQW_freq (m.getD 2 0)
  ((d.put RTC_TRICKLE_en (m.getD 3 0)).put RTC_TRICKLE_float (m.getD 4 0)).put RTC_TRICKLE_current (m.getD 5 0)

/-- Everything that D02 holds loses its content. -/
def Dev.rtcClear (d : Dev) : Dev :=
  let d := { d with regs := d.regs.filter fun e => e.1 / 2 ^ 17 != 8 }
  let d := (d.put PWR_STATUS_shorted_seen 0).put PWR_STATUS_collapse_seen 0
  let d := { d with rtc := { d.rtc with acc := 0, setTkt := 0, flags := setBit 0 2 } }
  d.rtcSettings

/-- `D02_SUPPLY_LOST` (R418): D02 is held in power-on reset. -/
def execD02SupplyLost (s : State) :=
  onAny (fun d => if d.rtc.d02Held then d else
    let d := ((d.rtcClear).putWbit SEQ_RAIL_ON_on 2 false).putWbit SEQ_RAIL_GOOD_good 2 false
    { d with rtc := { d.rtc with d02Held := true } }) s

/-- `D02_POWER_ON_RESET` (R411): D02 leaves power-on reset with tick 0 and the epoch unset; `OSC_STOPPED` follows at the
next cold start. -/
def execD02PowerOnReset (s : State) :=
  onAny (fun d =>
    let d := ((d.rtcClear).putWbit SEQ_RAIL_ON_on 2 true).putWbit SEQ_RAIL_GOOD_good 2 true
    { d with rtc := { d.rtc with d02Held := false } }) s

/-- `OSC_START` (R412). -/
def execOscStart (s : State) := onAny (fun d => if d.rtc.d02Held then d else d.put RTC_STATUS_osc_running 1) s

/-! ## Ticks and trim (R414) -/

/-- The 48-bit trim in ppb. -/
def Dev.trimPpb (d : Dev) : Int := toSigned 32 (d.get RTC_TRIM_ppb)

/-- One raw edge counts under the trim (R414). -/
def Dev.countEdge (d : Dev) : Dev :=
  let acc := d.rtc.acc + d.trimPpb
  if 1_000_000_000 ≤ acc then
    { d.putTick (d.tick + 2) with rtc := { d.rtc with acc := acc - 1_000_000_000 } }
  else if acc ≤ -1_000_000_000 then { d with rtc := { d.rtc with acc := acc + 1_000_000_000 } }
  else { d.putTick (d.tick + 1) with rtc := { d.rtc with acc := acc } }

/-! ## Alarms and SQW (R416, R417) -/

/-- An alarm's 48-bit value. -/
def Dev.alarmValue (d : Dev) (a : Nat) : Nat := d.get2 RTC_ALM_LO_value_lo RTC_ALM_HI_value_hi a

/-- An armed alarm whose value the count has reached fires (R416). -/
def Dev.alarmFire (d : Dev) (a : Nat) : Dev :=
  if d.flag RTC_ALM_HI_arm a && d.get RTC_ALM_EPOCH_epoch a == d.epoch && decide (d.alarmValue a ≤ d.tick) then
    let d := d.put RTC_ALM_HI_fired 1 a
    let d := if d.down = 0 then (d.irqEdge (133 + a)).pageIrq 0x008 (1 + a) else d
    let p := d.get RTC_ALM_PERIOD_ticks a
    let d :=
      if p = 0 then d.put RTC_ALM_HI_arm 0 a
      else d.put2 RTC_ALM_LO_value_lo RTC_ALM_HI_value_hi (d.alarmValue a + p * ((d.tick - d.alarmValue a) / p + 1)) a
    if d.flag RTC_ALM_HI_wake a && d.down == 0 then d.wakeCause else d
  else d

/-- A write of `RTC_ALMa_HI` (R416): W1C flags, the value and wake bits, and, with arm = 1, the alarm armed in the current
epoch. -/
def Dev.alarmWrite (d : Dev) (a v : Nat) : Dev :=
  let d := if bit v 30 then d.put RTC_ALM_HI_fired 0 a else d
  let d := if bit v 29 then d.put RTC_ALM_HI_lost 0 a else d
  let d := ((d.putB RTC_ALM_HI_wake (bit v 28) a).put RTC_ALM_HI_value_hi v a).putB RTC_ALM_HI_arm (bit v 31) a
  if bit v 31 then d.put RTC_ALM_EPOCH_epoch d.epoch a else d

/-- The level of `SQW` while the raw oscillator stands at `raw` (R417): freq 0 and 1 follow the trimmed count, freq 2 the oscillator. It
stays low in `LOST` and until F_r (R406). -/
def Dev.sqwHigh (d : Dev) (raw : Bool) : Bool :=
  d.flag RTC_SQW_en && d.flag RTC_STATUS_osc_running && d.clk != 5 && d.ck.fr == 0 &&
    (if d.get RTC_SQW_freq = 0 then decide (d.tick % 2 ^ 15 < 16_384)
     else if d.get RTC_SQW_freq = 1 then decide (d.tick % 32 < 16) else raw)

/-- The float voltage of `VBACKUP` in mV: 3.0 V or 3.3 V (R418). -/
def Dev.trickleFloat (d : Dev) : Nat := if d.flag RTC_TRICKLE_float then 3_300 else 3_000

/-- The trickle charger feeds `VBACKUP` (R418): only while en = 1 and the `VBAT` node stands at least 300 mV above the float. -/
def Dev.trickleOn (d : Dev) : Bool := d.flag RTC_TRICKLE_en && decide (d.trickleFloat + 300 ≤ d.get PWR_NODE_mv)

/-- The trickle charger's current in µA: the programmed one within ±20 % while it feeds, else none (R418). -/
def Dev.trickleUa (d : Dev) : Nat :=
  let c := d.get RTC_TRICKLE_current
  if d.trickleOn then clamp (c * 4 / 5) (c * 6 / 5) (Config.trickleCurrent c) else 0

/-- One K00 edge: a `SET` that waits is applied, else the count goes on; then the alarms (R413, R414, R416, R421). -/
def Dev.rtcEdge (d : Dev) : Dev :=
  if d.rtc.d02Held || !d.flag RTC_STATUS_osc_running then d
  else
    let was := d.tick
    let d := if d.flag RTC_STATUS_set_pending then d.setApply else d.countEdge.trimSettle
    if d.tick = was then d else (d.alarmFire 0).alarmFire 1

/-- The next K00 edge changes the count and leaves it at or beyond the value of an armed alarm (R416): a `SET` that waits takes the edge
first (R421). -/
def Dev.edgeFires (d : Dev) (a : Nat) : Bool :=
  let t := d.countEdge.tick
  !d.rtc.d02Held && d.flag RTC_STATUS_osc_running && !d.flag RTC_STATUS_set_pending && decide (a < 2) && t != d.tick &&
    d.flag RTC_ALM_HI_arm a && d.get RTC_ALM_EPOCH_epoch a == d.epoch && decide (d.alarmValue a ≤ t)

/-! ## Commands (R413, R419) -/

/-- `SET`. -/
def rtcSet : CmdDef where
  verdict _ c d :=
    { Verdict.ok with
      denied := d.denies c scopeTIME, badArg := c.arg != 0, badState := !d.flag RTC_STATUS_osc_running
      busy := d.flag RTC_STATUS_set_pending, priv := true }
  effect _ _ n d := { d.put RTC_STATUS_set_pending 1 with rtc := { d.rtc with setTkt := n } }

/-- `ARM_SWITCH`. -/
def armSwitch : CmdDef where
  verdict _ c d := { Verdict.ok with denied := d.denies c scopeTIME, badArg := c.arg != 0, priv := true }
  effect _ _ n d := ((d.put RTC_SWITCH_stamped 0).put RTC_SWITCH_armed 1).done n

/-- `RTC_SET` (R413). -/
def execRtcSet (c : Cmd) (s : State) := onDev (fun d => d.cmd 0x008 1 rtcSet c) s
/-- `ARM_SWITCH` (R419). -/
def execArmSwitch (c : Cmd) (s : State) := onDev (fun d => d.cmd 0x008 2 armSwitch c) s

/-- A switch-over (R419). -/
def Dev.switchOver (d : Dev) : Dev :=
  let d := (d.bump RTC_SWITCH_COUNT_count).pageIrq 0x008 4
  let d :=
    if d.flag RTC_SWITCH_armed && !d.flag RTC_SWITCH_stamped then
      let d := ((d.put RTC_SWITCH_stamped 1).put RTC_SWITCH_armed 0).put RTC_SWITCH_epoch d.epoch
      (d.put2 RTC_SWITCH_TICK_LO_lo RTC_SWITCH_TICK_HI_hi d.tick).putB RTC_SWITCH_vbus_present (d.flag PWR_STATUS_vbus_ok)
    else d
  (d.raise F_BACKUP_SWITCH 0x008 0).irqEdge 136

/-! ## Trim measurement (R415) -/

/-- Raw edges of an ideal oscillator in a gate. -/
def Dev.trimIdeal (d : Dev) : Nat := 32_768 * 2 ^ d.get RTC_TRIM_CFG_g

/-- The measurement from the raw edges counted, ppb. -/
def trimMeas (e raw : Nat) : Int :=
  let n : Int := ((e : Int) - raw) * 1_000_000_000
  if 0 ≤ n then (2 * n + e) / (2 * e) else -((2 * (-n) + e) / (2 * e))

/-- A gate ends under its run condition with so many raw edges; with auto_apply the trim is written and recorded. -/
def Dev.trimGateEnd (d : Dev) (raw : Nat) : Dev :=
  if !d.flag RTC_TRIM_STATUS_running || !d.trimRuns then d.trimSettle
  else
    let m := trimMeas d.trimIdeal raw
    let d := ((d.put RTC_TRIM_MEAS_ppb (ofSigned 32 m)).put RTC_TRIM_STATUS_valid 1).bump RTC_TRIM_STATUS_completed
    let d := d.pageIrq 0x008 3
    if d.flag RTC_TRIM_CFG_auto_apply then
      let v := ofSigned 32 (clampI (-500_000) 500_000 m)
      let d := d.put RTC_TRIM_ppb v
      let d := if d.railGood 3 then { d with rtc := { d.rtc with mirror := d.rtc.mirror.set 0 v } } else d
      d.record 0x20 0 [⟨24, 4, 0xFFFF_FFFF⟩, ⟨28, 1, 4⟩, ⟨29, 1, 0⟩, ⟨30, 2, 0x008⟩, ⟨32, 4, 0x114⟩, ⟨36, 4, v⟩, ⟨46, 1, rOK⟩]
    else d

/-- `TRIM_GATE_END` (R415): the raw edges counted in the gate. -/
def execTrimGateEnd (raw : Nat) (s : State) := onDev (fun d => d.trimGateEnd raw) s

/-- A write of `RTC_TRIM_CFG` restarts gating (R415): g to its nearest limit, src 3 ignored. -/
def Dev.trimCfgWrite (d : Dev) (v : Nat) : Dev :=
  if bits v 0 2 = 3 then d
  else
    let d := d.trimAbort
    let d := ((d.putB RTC_TRIM_CFG_auto_apply (bit v 31)).put RTC_TRIM_CFG_g (clamp 6 16 (bits v 24 4))).put RTC_TRIM_CFG_gv (bits v 8 2)
    ((d.putB RTC_TRIM_CFG_f60 (bit v 2)).put RTC_TRIM_CFG_src (bits v 0 2)).trimSettle

end Sys2Proof.Machine
end

