-- ==== Sys2Proof/Machine/Clock.lean ====
section
/-!
DEFINITION. Machine/Clock.lean: the clock unit (R398–R409): gates, states, total loss and re-arming. Deviations and
corrections are in 0.001 ppm; the correction in use is held ten times finer, so that one gate's slew is exact.
-/
namespace Sys2Proof.Machine

/-! ## State changes (R402, R403, R408) -/

/-- The correction in use, 0.001 ppm. -/
def Dev.setCorr (d : Dev) (fine : Int) : Dev :=
  ({ d with ck := { d.ck with fine := fine } }).put CLK_CORR_corr (ofSigned 32 (fine / 10))

/-- The clock unit takes a state: interrupts, the `ADOPT` ticket, and the trim gate's run condition (R408, R409, R415). -/
def Dev.clkEnter (d : Dev) (s : Nat) : Dev :=
  if d.clk = s then d
  else
    let was := d.clk
    let d := (d.put CLK_STATUS_state s).pageIrq 0x007 0
    let d := if s = 4 then (({ d with ck := { d.ck with holdMs := 0 } }).put CLK_HOLD_S_s 0).pageIrq 0x007 1 else d
    let d := if s = 5 then d.pageIrq 0x007 2 else d
    let d :=
      if was = 2 then
        let t := d.ck.adoptTkt
        let d := { d with ck := { d.ck with adoptTkt := 0 } }
        if s = 3 then d.done t else d.abandon t
      else d
    d.trimSettle

/-- The frame number F_r: the lowest multiple of 3,000,000 above the last frame begun, and frame 0 at the first start after a cold start
(R407, R546). -/
def Dev.resumeFrame (d : Dev) : Nat := if d.ck.started then (d.ck.last / 3_000_000 + 1) * 3_000_000 else 0

/-- The failed flags of the records of cells that a `RETURN` returns are cleared (R287). -/
def Dev.clearFailed (d : Dev) (keys : List Nat) : Dev :=
  each keys (fun k (d : Dev) =>
    let (r, d) := d.recRead (k / 5120) (k % 5120)
    if r.fmt = 1 ∧ bit r.flags 4 then
      d.recWrite (k / 5120) (k % 5120) (d.recStamp (k / 5120) (k % 5120) { r with flags := clrBit r.flags 4 })
    else d) d

/-- Positions that a waiting `RETURN` names. -/
def Dev.returning (d : Dev) : List Nat :=
  if d.railGood 12 then (d.sch.entries.filter fun e => e.op == 2).map (·.pos) else []

/-- The steps in progress begin afresh at frame `f`: what they had summed is dropped (R407, R546). -/
def Dev.stepsAfresh (d : Dev) (f : Nat) : Dev :=
  each (d.est.lanes.map (·.1)) (fun l (d : Dev) =>
    let d := each (d.laneIdx l) (fun i (d : Dev) => d.estUpd l i fun c => { c with step := StepAcc.init }) d
    d.putEstLane l { d.estLane l with stepNo := f / 500 }) d

/-- The numbering steps to frame `f` (R382): the steps in progress close with the health interval that they make up. -/
def Dev.stepsTo (d : Dev) (f : Nat) : Dev :=
  each ((d.est.lanes.filter fun e => e.2.stepNo != f / 500).map (·.1)) (fun l (d : Dev) =>
    let d := d.stepClose l
    d.putEstLane l { d.estLane l with stepNo := f / 500 }) d

/-- Frame f begins and is remembered. Every 5,000 frames, and where the numbering steps, a metering boundary falls at it
(R53, R382, R407); before the first frame no interval is open. -/
def Dev.beginAt (d : Dev) (f : Nat) : Dev :=
  let stepped := d.ck.fresh
  let close := d.ck.started && (stepped || f % 5_000 == 0)
  let keys := d.returning
  let d := { d with ck := { d.ck with
    last := f, started := true, fresh := false, stepAt := if stepped then f + 1 else d.ck.stepAt } }.beginFrame f
  let d := d.clearFailed keys
  let d := if stepped then d.stepsTo f else d
  let d := if stepped then { d with frms := d.frms.map fun (e : Nat × Frm) => (e.1, { e.2 with placed := false }) } else d
  if close then d.meterBoundary else if f % 5_000 = 0 then d.meterLoad else d

/-- Lanes held by a loss, or enabled while K03 stood, transmit again (R406, R407). -/
def Dev.lanesRelease (d : Dev) : Dev :=
  each ((d.lanes.filter fun e => e.2.heldByClock).map (·.1)) (fun l (d : Dev) =>
    let d := d.putLane l { d.lane l with heldByClock := false }
    if d.laneState l = 1 then d.trainTell l else d) d

/-- K03 starts with frame `f`: lanes held while it stood transmit. After a stop the metering interval cut closes as a gap, and the others
begin afresh (R407, R546); the first start after a cold start cuts none. -/
def Dev.resumeAt (d : Dev) (f : Nat) : Dev :=
  let d := d.lanesRelease
  if d.ck.started then ({ d with ck := { d.ck with fresh := true, gap := true } }.stepsAfresh f).beginAt f else d.beginAt f

/-! ## Total loss (R406) -/

/-- A lane's transmitter is squelched by the loss; it enters TRAIN as on loss of signal and stays squelched. -/
def Dev.laneHeld (d : Dev) (l : Nat) : Dev :=
  let st := d.laneState l
  if st = 0 then d
  else
    let d :=
      if 2 ≤ st ∧ st ≤ 5 then
        let d := d.laneCount l LNK_LOL_count 3 1
        let d := d.putLane l { d.lane l with heldByClock := true }
        let d := if d.leaving l then d.enterDown l 1 else d.enterTrain l 6 false
        if st = 4 then d.raise F_LANE_LOCK_LOST (lanePageOf l) l else d
      else d
    if d.laneState l = 0 then d else d.putLane l { d.lane l with heldByClock := true }

/-- Lanes that a clock loss reaches: those that are not in DOWN. -/
def Dev.upLanes (d : Dev) : List Nat := (d.lanes.map (·.1)).filter fun l => d.laneOn l && d.laneState l != 0

/-- The memory channels enter self-refresh, their ladles flushed first and contents kept, or leave it (R316, R406). -/
def Dev.memSelfRefresh (d : Dev) (on : Bool) : Dev :=
  each (List.range 16) (fun k (d : Dev) =>
    if d.flag MEMC_STATUS_trained k then (if on then d.memFlushAll k else d).putB MEMC_STATUS_self_refresh on k else d) d

/-- Entry to `LOST` (R406): K03 stops, lanes squelch, loops on the synthesiser tri-state, working banks hold with cause 7,
memory enters self-refresh, and `ALL_SOURCES_LOST` is raised: it closes the SETVID tickets of the tri-stated loops and those of the
`MODE` commands that its hold overrides (R120). The lanes' own faults reach the collector after it (R107). -/
def Dev.clkLost (d : Dev) : Dev :=
  if d.clk = 5 then d
  else
    let tkts := (d.lostLoops.filter fun l => (d.loop l).kind == 2).map fun l => (d.loop l).tkt
    let d := (d.clkEnter 5).bumpS CLK_LOSSES_count CLK_LOSSES_sat
    let rt := d.ck.rearmTkt
    let d := { d with ck := { d.ck with fr := 0, rearmTkt := 0, recRun := 0, devs := [] } }.abandon rt
    let d := ((d.put CLK_STATUS_rec_qualified 0).put CLK_STATUS_twin_ref 0).loopsTristate.adaptStop
    let lost := (List.range 16).flatMap fun b => d.overridden b false
    let locks := d.lockHolds
    let d := each (List.range 16) (fun b (d : Dev) => (d.dropOverridden b false).stopBank b) d
    let d := (d.memSelfRefresh true).raiseWith F_ALL_SOURCES_LOST 0x007 0 0 (tkts ++ lost) false
    let d := d.lockFaults locks
    let d := each d.upLanes (fun l (d : Dev) => d.laneHeld l) d
    each [0, 1, 2, 3] (fun l (d : Dev) =>
      if d.loopState l = 6 ∧ (d.loop l).kind = 2 then
        (d.ticketDetail (d.loop l).tkt (d.loopDetail l)).putLoop l { d.loop l with tkt := 0, kind := 0 }
      else d) d

/-- The oscillator is lost (R400, R403): in `LOCKED` only osc_ok clears. -/
def Dev.oscLost (d : Dev) : Dev :=
  let d := { d.put CLK_STATUS_osc_ok 0 with ck := { d.ck with oscRun := 0, recRun := 0 } }
  if d.clk = 1 ∨ d.clk = 2 ∨ d.clk = 4 then d.clkLost else d

/-! ## The recovered reference (R401, R405) -/

/-- The reference is offered: a twin lane in RUN under R382, else the designated lane meets R133. -/
def Dev.refOffered (d : Dev) : Bool :=
  if d.flag CLK_STATUS_twin_ref then (List.range 4).any fun k => d.laneState (512 + k) == 4
  else if d.flag CLK_TIME_SRC_valid then
    let l := if d.flag CLK_TIME_SRC_twin then 512 + d.get CLK_TIME_SRC_lane else d.get CLK_TIME_SRC_lane
    d.laneOn l && decide (1 ≤ d.laneState l ∧ d.laneState l ≤ 5) && d.flag LNK_STATUS_rx_ready l && d.flag LNK_STATUS_far_ref_src l
  else false

/-- The mean deviation over the last 1,000 gates (R401). -/
def Dev.meanDev (d : Dev) : Int :=
  if d.ck.devs.isEmpty then 0 else (d.ck.devs.foldl (fun (a : Int) x => a + x) 0).tdiv (d.ck.devs.length : Int)

/-- Enter `HOLDOVER` with a held correction (R405); `fault`: `REF_OUT` is raised and counted. -/
def Dev.holdover (d : Dev) (held : Int) (fault : Bool) : Dev :=
  let d := ({ d with ck := { d.ck with held := held } }).setCorr (held * 10)
  let d := (d.clkEnter 4).trimSettle
  if fault then (d.bumpS CLK_REF_OUTS_count CLK_REF_OUTS_sat).raise F_REF_OUT 0x007 0 else d

/-- Judging of the reference starts again. -/
def Dev.refRestart (d : Dev) : Dev :=
  { d.put CLK_STATUS_rec_qualified 0 with ck := { d.ck with recRun := 0, devs := [] } }

/-- An adopted reference is left: by drift-out (the correction of 1 s before, within ±50 ppm), by withdrawal, or by a write
of `CLK_TIME_SRC`, which raises nothing (R403, R405). -/
def Dev.refLeave (d : Dev) (drift written : Bool) : Dev :=
  if d.clk = 2 ∨ d.clk = 3 then
    let held := if drift then clampI (-50_000) 50_000 (d.ck.corrs.getLastD (d.ck.fine / 10)) else d.ck.fine / 10
    let d := d.refRestart
    if d.flag CLK_STATUS_osc_ok then d.holdover held (!written) else d.clkLost
  else d

/-- An adopted reference whose offer has ended is withdrawn at once (R401). -/
def Dev.clockSettle (d : Dev) : Dev :=
  let off := d.refOffered
  let d := d.putB CLK_STATUS_rec_offered (off && d.railGood 10)
  if off then d else d.refLeave false false

/-- A write of `CLK_TIME_SRC` (R132, R401) withdraws whatever reference is adopted, a standby's too: BAD_ARG is judged by the caller. -/
def Dev.timeSrcWrite (d : Dev) (v : Nat) : Dev :=
  let d := ((d.putB CLK_TIME_SRC_valid (bit v 15)).putB CLK_TIME_SRC_twin (bit v 9)).put CLK_TIME_SRC_lane (bits v 0 9)
  let d := (d.refLeave false true).refRestart
  d.putB CLK_STATUS_rec_offered (d.refOffered && d.railGood 10)

/-- `K02_LOCK_LOST` (R401). -/
def execK02LockLost (s : State) := onDev (fun d => if d.railGood 10 then (d.refLeave false false).refRestart else d) s

/-! ## The gate (R400, R401, R403, R404) -/

/-- The oscillator's gate: its count against the ring's, within ±2 % of 156.25/200 (R400). -/
def Dev.oscGate (d : Dev) (osc ring : Nat) : Dev :=
  let diff : Int := 32 * (osc : Int) - 25 * (ring : Int)
  let d := d.put CLK_OSC_DEV_dev (ofSigned 16 ((diff * 10_000).tdiv (25 * (ring : Int))))
  if 2 * diff.natAbs ≤ ring ∧ 0 < ring then
    let n := min 16 (d.ck.oscRun + 1)
    let d := { d with ck := { d.ck with oscRun := n, oscFail := 0 } }
    if n = 16 then d.put CLK_STATUS_osc_ok 1 else d
  else
    let n := d.ck.oscFail + 1
    let d := { d with ck := { d.ck with oscRun := 0, oscFail := min n 4 } }
    if n = 4 ∧ d.flag CLK_STATUS_osc_ok then d.oscLost else d

/-- The recovered reference's gate (R401): measured only while offered and osc_ok; in `LOST` and until F_r nothing is judged (R407). -/
def Dev.recGate (d : Dev) (osc rec_ : Nat) : Dev :=
  let off := d.refOffered
  let d := d.putB CLK_STATUS_rec_offered off
  if d.clk = 5 ∨ d.ck.fr ≠ 0 then d
  else if !d.flag CLK_STATUS_osc_ok then { d with ck := { d.ck with recRun := 0 } }
  else if !off then (if d.clk = 2 ∨ d.clk = 3 then d else d.refRestart)
  else
    let dev : Int := (((rec_ : Int) - osc) * 1_000_000_000).tdiv (osc : Int)
    let d := { d with ck := { d.ck with
      devs := (dev :: d.ck.devs).take 1000, recRun := if dev.natAbs ≤ 50_000 then min 16 (d.ck.recRun + 1) else 0 } }
    let d := d.put CLK_REC_DEV_dev (ofSigned 32 d.meanDev)
    if d.ck.recRun = 16 ∧ !d.flag CLK_STATUS_rec_qualified then (d.put CLK_STATUS_rec_qualified 1).pageIrq 0x007 3
    else if d.ck.recRun = 0 ∧ !(d.clk == 2 || d.clk == 3) then d.put CLK_STATUS_rec_qualified 0
    else d

/-- The correction's slew in `ADOPTING` and its tracking in `LOCKED` (R404). -/
def Dev.corrGate (d : Dev) : Dev :=
  let dev := d.meanDev
  let d :=
    if d.clk = 2 then
      let by_ : Int := max 1 (d.get CLK_CFG_slew)
      let goal := dev * 10
      d.setCorr (if d.ck.fine ≤ goal then min goal (d.ck.fine + by_) else max goal (d.ck.fine - by_))
    else if d.clk = 3 ∧ d.flag CLK_STATUS_osc_ok then d.setCorr (dev * 10)
    else d
  { d with ck := { d.ck with corrs := (d.ck.fine / 10 :: d.ck.corrs).take 1001 } }

/-- The transitions a gate makes, in R403's order; a gate that starts K03 begins frame 0, or F_r on a later start. -/
def Dev.gateMove (d : Dev) : Dev :=
  let ok := d.flag CLK_STATUS_osc_ok
  if d.clk = 0 then
    if ok then
      let d := (d.setCorr 0).clkEnter 1
      d.resumeAt d.resumeFrame
    else d
  else if d.clk = 2 ∨ d.clk = 3 then
    if !d.refOffered then d.refLeave false false
    else if ok && decide (50_000 < d.meanDev.natAbs) then d.refLeave true false
    else if d.clk = 2 ∧ (d.ck.fine - d.meanDev * 10).natAbs ≤ 1_000 then d.clkEnter 3
    else d
  else if (d.clk = 1 ∨ d.clk = 4) && d.ck.fr == 0 && d.flag CLK_STATUS_rec_qualified && d.flag CLK_CFG_auto_adopt then
    { d with ck := { d.ck with held := 0 } }.clkEnter 2
  else d

/-- Seconds in `HOLDOVER` (R408). -/
def Dev.holdGate (d : Dev) : Dev :=
  if d.clk = 4 then
    let n := d.ck.holdMs + 1
    ({ d with ck := { d.ck with holdMs := n } }).put CLK_HOLD_S_s (min (n / 1000) 0xFFFF_FFFF)
  else d

/-- `CLOCK_GATE` (R400–R404): the counts of the oscillator, the ring and the recovered reference in 1 ms. -/
def execClockGate (osc ring rec_ : Nat) (s : State) :=
  onDev (fun d => if d.railGood 10 then ((((d.oscGate osc ring).recGate osc rec_).corrGate).gateMove).holdGate else d) s

/-- `OSC_EDGE_LOST` (R400). -/
def execOscEdgeLost (s : State) :=
  onDev (fun d => if d.railGood 10 then (if d.flag CLK_STATUS_osc_ok then d.oscLost
    else { d with ck := { d.ck with oscRun := 0 } }) else d) s

/-- `NONE_TIMEOUT` (R403). -/
def execNoneTimeout (s : State) :=
  onDev (fun d => if d.railGood 10 && d.clk == 0 && !d.flag CLK_STATUS_osc_ok then d.clkLost else d) s

/-! ## Commands (R407, R409) -/

/-- `ADOPT`. -/
def clkAdopt : CmdDef where
  verdict _ c d :=
    { Verdict.ok with
      badArg := c.arg != 0
      badState := !((d.clk == 1 || d.clk == 4) && d.ck.fr == 0 && d.flag CLK_STATUS_rec_qualified) }
  effect _ _ n d := ({ d with ck := { d.ck with held := 0, adoptTkt := n } }.clkEnter 2).progress n 0

/-- `REARM`: the synthesiser restarts; K03 follows at F_r. -/
def clkRearm : CmdDef where
  verdict _ c d := { Verdict.ok with badArg := c.arg != 0, badState := !(d.clk == 5 && d.flag CLK_STATUS_osc_ok) }
  effect _ _ n d :=
    let fr := d.resumeFrame
    let d := { d with ck := { d.ck with fr := fr + 1, rearmTkt := n } }
    ((d.setCorr (d.ck.held * 10)).clkEnter (if d.ck.held = 0 then 1 else 4)).progress n 0

/-- `ADOPT` (R409). -/
def execAdopt (c : Cmd) (s : State) := onDev (fun d => d.cmd 0x007 2 clkAdopt c) s
/-- `REARM` (R407, R409). -/
def execRearm (c : Cmd) (s : State) := onDev (fun d => d.cmd 0x007 1 clkRearm c) s

/-- Boundary F_r of an accepted `REARM` (R407); `pre` holds the pre-biases of loops A–D in µV. -/
def Dev.rearmRestart (d : Dev) (pre : List Nat) : Dev :=
  if d.ck.fr = 0 ∨ !d.flag CLK_STATUS_osc_ok then d
  else
    let f := d.ck.fr - 1
    let t := d.ck.rearmTkt
    let d := { d with ck := { d.ck with fr := 0, rearmTkt := 0 } }.refRestart
    let d := (d.memSelfRefresh false).loopsResume pre
    (d.resumeAt f).done t

/-- `REARM_RESTART` (R407). -/
def execRearmRestart (pre : List Nat) (s : State) := onDev (fun d => if d.railGood 10 then d.rearmRestart pre else d) s

/-! ## Grid-sense lock (R203) -/

/-- A frequency within 45–65 Hz, in mHz. -/
def gridBand (freq : Nat) : Bool := decide (45_000 ≤ freq ∧ freq ≤ 65_000)

/-- The least amplitude for lock, in mV. -/
def Dev.gridMin (d : Dev) : Nat := d.get SCH_GV_CFG_gv_min * 1000

/-- One tracker's reading (R203): its phase is carried from the frame just ended to the frame that plans will be computed for, three
frames on; its counts of cycles and of frames go on. -/
def Dev.gridTake (d : Dev) (r : GridReading) : Dev :=
  let g := r.input
  let step := r.freq * 2 ^ 32 / 50_000_000
  let weak := decide (r.amp < d.gridMin)
  let s := d.sch
  let good := match r.cycle with
    | some e => if e.natAbs ≤ 1_000 ∧ gridBand r.freq ∧ !weak then s.gvGood.get g 0 + 1 else 0
    | none => s.gvGood.get g 0
  let bad := match r.cycle with
    | some e => if 5_000 < e.natAbs then s.gvBad.get g 0 + 1 else 0
    | none => s.gvBad.get g 0
  let d := { d with sch := { s with
    gvPhase := s.gvPhase.put g ((r.phase + 3 * step) % 2 ^ 32)
    gvDelta := s.gvDelta.put g step
    gvGood := s.gvGood.put g good
    gvBad := s.gvBad.put g bad
    gvLow := s.gvLow.put g (if weak then s.gvLow.get g 0 + 1 else 0) } }
  (d.put SCH_GV_STATUS_freq r.freq g).put SCH_GV_AMP_amp r.amp g

/-- The trackers as a frame begins (R203): those that report give new values, the others run on. They need the scheduler's domain and
the grid-sense inputs of D09. -/
def Dev.gridFrame (d : Dev) (rs : List GridReading) : Dev :=
  let s := d.sch
  let d := { d with sch := { s with gvPhase := s.gvPhase.map fun (e : Nat × Nat) => (e.1, (e.2 + s.gvDelta.get e.1 0) % 2 ^ 32) } }
  if d.railGood 12 && d.railGood 9 then each (rs.filter fun r => decide (r.input < 4)) (fun r (d : Dev) => d.gridTake r) d else d

/-- What a tracker shows: its frequency in mHz, its amplitude in mV peak, and its phase for the frame that plans are being computed for
(R203). -/
def Dev.gridShown (d : Dev) (g : Nat) : Nat × Nat × Nat :=
  (d.get SCH_GV_STATUS_freq g, d.get SCH_GV_AMP_amp g, d.sch.gvPhase.get g 0)

/-- `GRID_LOCK_GAINED` (R203): a tracker declares lock after 25 cycles in a row with its frequency within 45–65 Hz, its phase error within
±1.0° and its amplitude at least gv_min. The event names what the tracker then shows. -/
def execGridLockGained (g freq amp phase : Nat) (s : State) :=
  onDev (fun d =>
    if d.railGood 12 && d.railGood 9 && decide (g < 4 ∧ 25 ≤ d.sch.gvGood.get g 0) && !d.flag SCH_GV_STATUS_locked g &&
        d.gridShown g == (freq, amp, phase) then
      ((d.put SCH_GV_STATUS_locked 1 g).pageIrq 0x015 0).trimSettle
    else d) s

/-- A tracker's condition for losing lock holds (R203): five cycles in a row beyond ±5.0°, a frequency outside 45–65 Hz, or an amplitude
below gv_min for 40 ms. -/
def Dev.gridFails (d : Dev) (g : Nat) : Bool :=
  decide (5 ≤ d.sch.gvBad.get g 0) || !gridBand (d.get SCH_GV_STATUS_freq g) || decide (2_000 ≤ d.sch.gvLow.get g 0)

/-- `GRID_LOCK_LOST` (R203). -/
def execGridLockLost (g : Nat) (s : State) := onDev (fun d =>
  if d.railGood 12 && d.gridFails g then (d.gridLost g 4).trimSettle else d) s

end Sys2Proof.Machine
end

