-- ==== Sys2Proof/Machine/LaneCmds.lean ====
section
/-!
DEFINITION. Machine/LaneCmds.lean: the lane commands and lane events (chapter 05). After each of them the clock unit sees
whether its reference is still offered (R401).
-/
namespace Sys2Proof.Machine

/-- A lane event, and what it does to the adopted reference. -/
def onLane (f : Dev → Dev) (s : State) : Host.Outcome State Fault Refusal := onDev (fun d => (f d).clockSettle) s

/-- `CODEWORD_RECEIVED` (R126, R127, R141, R151, R155): the 700 symbols that the receiver takes at its offset. -/
def execCodewordReceived (lane : Nat) (symbols : List Nat) (s : State) := onLane (fun d => d.codeword lane symbols) s

/-- `LOSS_OF_SIGNAL` (R153). -/
def execLossOfSignal (lane : Nat) (s : State) := onLane (fun d => d.lossOfSignal lane) s

/-- `LOSS_OF_SIGNAL_CLEAR` (R153). -/
def execLossOfSignalClear (lane : Nat) (s : State) := onLane (fun d => d.signalBack lane) s

/-- `TRAINING_BLOCK_RECEIVED` (R136). -/
def execTrainingBlockReceived (lane word : Nat) (s : State) := onLane (fun d => d.trainingBlock lane word) s

/-- `COEFF_TIMEOUT` (R138): training fails with reason 3. -/
def execCoeffTimeout (lane : Nat) (s : State) :=
  onLane (fun d =>
    let x := d.lane lane
    let waits := x.rqPreset != 0 || x.rqPre != 0 || x.rqMain != 0 || x.rqPost != 0
    if d.laneOn lane && d.laneState lane == 1 && !x.squelched && !x.heldByClock && waits then d.trainFail lane 3 else d) s

/-- The eye heights are measured (R158). -/
def Dev.eyePut (d : Dev) (l upper middle lower : Nat) : Dev :=
  ((d.put LNK_EYE_upper (min upper 255) l).put LNK_EYE_middle (min middle 255) l).put LNK_EYE_lower (min lower 255) l

/-- `RX_READY` (R139, R158): a report of the eye heights over 1 ms, in units of 2 mV. In TRAIN, when each stayed at 24 mV or above, this
end sets ready; while rx_ready is set every report updates `LNK_EYE`. -/
def execRxReady (lane upper middle lower : Nat) (s : State) :=
  onLane (fun d =>
    let x := d.lane lane
    if d.laneOn lane && d.flag LNK_STATUS_rx_ready lane then d.eyePut lane upper middle lower
    else if d.laneOn lane && d.laneState lane == 1 && !x.squelched && !x.heldByClock && decide (12 ≤ upper ∧ 12 ≤ middle ∧ 12 ≤ lower) then
      let told := d.coeffOut lane
      let d := ((d.eyePut lane upper middle lower).put LNK_STATUS_rx_ready 1 lane).putLane lane { x with sentReady := true }
      (d.trainRetell lane told).readyJudge lane
    else d) s

/-- `TRAINING_COMPLETE` (R139). -/
def execTrainingComplete (lane duration : Nat) (s : State) := onLane (fun d => d.trainDone lane duration) s

/-- The failure of a reason has its condition (R140): no signal, no marker, no status, not ready, no lock, no frame alignment, no valid
`INFO`. A delay is judged where it is measured (R143). -/
def Dev.failHolds (d : Dev) (l reason : Nat) : Bool :=
  let x := d.lane l
  let los := d.flag LNK_STATUS_los l
  if d.laneState l = 1 then
    if reason = 1 then los else if reason = 2 then !los && !x.marker
    else if reason = 3 then x.rqPreset != 0 || x.rqPre != 0 || x.rqMain != 0 || x.rqPost != 0
    else if reason = 8 then !x.infoValid else reason == 4
  else if d.laneState l = 2 then
    if reason = 5 then !d.flag LNK_STATUS_cw_lock l
    else reason == 6 && d.flag LNK_STATUS_cw_lock l && !d.flag LNK_STATUS_frame_lock l
  else false

/-- `TRAINING_FAIL` (R140): a time limit of training or alignment ends. -/
def execTrainingFail (lane reason : Nat) (s : State) :=
  onLane (fun d =>
    let x := d.lane lane
    if d.laneOn lane && !x.squelched && !x.heldByClock && d.failHolds lane reason then d.trainFail lane reason else d) s

/-- `SQUELCH_WAIT_END` (R140): training restarts from P1; the retry is counted. -/
def execSquelchWaitEnd (lane : Nat) (s : State) :=
  onLane (fun d =>
    let x := d.lane lane
    if d.laneOn lane && d.laneState lane == 1 && x.squelched then
      let d := d.putLane lane { x with squelched := false, rqPreset := 1, sentReady := false, coeffSeen := 0, infoSeen := 0 }
      ((d.txPreset lane 1).bump LNK_TRAIN_attempts lane).trainTell lane
    else d) s

/-- `DELAY_MEASURED` (R143). -/
def execDelayMeasured (lane rtt : Nat) (s : State) := onLane (fun d => d.delayMeasured lane rtt) s

/-- `LANE_ENABLE` (R148). -/
def execLaneEnable (twin : Bool) (c : Cmd) (s : State) := onLane (fun d => d.cmd (laneCmdPage twin c) 1 laneEnable c) s
/-- `LANE_DISABLE` (R149). -/
def execLaneDisable (twin : Bool) (c : Cmd) (s : State) := onLane (fun d => d.cmd (laneCmdPage twin c) 2 laneDisable c) s
/-- `LANE_SAFE` (R148). -/
def execLaneSafe (twin : Bool) (c : Cmd) (s : State) := onLane (fun d => d.cmd (laneCmdPage twin c) 3 laneSafe c) s
/-- `LANE_ENUMERATE` (R148). -/
def execLaneEnumerate (twin : Bool) (c : Cmd) (s : State) := onLane (fun d => d.cmd (laneCmdPage twin c) 4 laneEnumerate c) s
/-- `LANE_RETRAIN` (R148). -/
def execLaneRetrain (twin : Bool) (c : Cmd) (s : State) := onLane (fun d => d.cmd (laneCmdPage twin c) 5 laneRetrain c) s
/-- `LANE_LOOP` (R156). -/
def execLaneLoop (twin : Bool) (c : Cmd) (s : State) := onLane (fun d => d.cmd (laneCmdPage twin c) 6 laneLoop c) s
/-- `LOOP_EXIT` (R148). -/
def execLoopExit (twin : Bool) (c : Cmd) (s : State) := onLane (fun d => d.cmd (laneCmdPage twin c) 7 laneLoopExit c) s
/-- `LANE_CLEAR_COUNTERS` (R154). -/
def execLaneClearCounters (twin : Bool) (c : Cmd) (s : State) := onLane (fun d => d.cmd (laneCmdPage twin c) 8 laneClear c) s

/-- `AUTO_ENABLE` (R130, R546): the group's domain is on and its PLL, referred to the running timebase, locks; every
lane of the group in DOWN whose bit is set in `LNK_GRP_AUTO` receives an ENABLE from the device. `pll_lock` stays set until the
group's domain goes, also while the main synthesiser follows nothing, and a further event enables lanes again (R160 is silent; DESIGN
CHOICE, assumption 25). -/
def execAutoEnable (group : Nat) (s : State) :=
  onLane (fun d =>
    if d.railGood (32 + group) && d.k03 && decide (group < 32) then
      let d := d.put LNK_GRP_STATUS_pll_lock 1 group
      each ((bitList 16 (d.get LNK_GRP_AUTO_auto group)).zipIdx) (fun e d =>
        if (d : Dev).laneState (group * 16 + e.1) = 0 then
          d.cmd (0x40 + group) 1 laneEnable ⟨4, group, e.1, e.2 != 0⟩
        else d) d
    else d) s

/-- A die-to-die link is lost (R43): the die's lanes in RUN or ENUM go to SAFE, and `D2D_LOST` contains the die. -/
def Dev.dieLose (d : Dev) (die detail : Nat) : Dev :=
  if decide (die < 8) && !d.dieLost.testBit die && d.railGood 11 then
    let d := { d with dieLost := setBit d.dieLost die }
    let d := each (dieLanes die) (fun l d =>
      if (d : Dev).laneState l = 3 ∨ d.laneState l = 4 then
        (d.putFrm l { d.frm l with runNext := false }).laneEnter l 5 9
      else d) d
    d.raise F_D2D_LOST 0x000 die detail
  else d

/-- `D2D_LINK_LOST` (R43). -/
def execD2dLinkLost (die : Nat) (s : State) := onLane (fun d => d.dieLose die 0) s

/-- `D2D_RETRAIN` (R43): every 100 ms a lost link attempts to retrain. -/
def execD2dRetrain (die : Nat) (s : State) :=
  onLane (fun d =>
    if d.dieLost.testBit die && d.railGood 11 then { d with dieTraining := setBit d.dieTraining die } else d) s

/-- `D2D_LINK_RETRAINED` (R150): the link is back; lanes in SAFE by its loss return to ENUM. -/
def execD2dLinkRetrained (die : Nat) (s : State) :=
  onLane (fun d =>
    if d.dieLost.testBit die && d.dieTraining.testBit die then
      let d := { d with dieLost := clrBit d.dieLost die, dieTraining := clrBit d.dieTraining die }
      each (dieLanes die) (fun l d =>
        if (d : Dev).laneState l = 5 ∧ d.get LNK_HISTORY_reason l = 9 then d.enterEnum l 10 else d) d
    else d) s

end Sys2Proof.Machine
end

