-- ==== Sys2Proof/Machine/Pd.lean ====
section
/-!
DEFINITION. Machine/Pd.lean: the USB Type-C service port (chapter 17): Type-C states (R483, R484), contracts and limits
(R485–R490), the protocol layer and its policies (R491–R494), the alternate mode (R495–R498), the service link's packets and
keying (R499–R502) and the `PD` commands (R504). Message codes and the placing of bits inside PD messages are those of the
USB PD specification that R482 names (assumption 17).
-/
namespace Sys2Proof.Machine

/-- The Type-C state (R483). -/
def Dev.tc (d : Dev) : Nat := d.get PD_STATUS_tc_state

/-- Attached, as sink or as source. -/
def Dev.attached (d : Dev) : Bool := d.tc == 3 || d.tc == 6

/-- The Type-C state changes, with its interrupt bit (R503). -/
def Dev.tcEnter (d : Dev) (s : Nat) : Dev := if d.tc = s then d else (d.put PD_STATUS_tc_state s).pageIrq 0x010 0

/-- sl_state changes, with its interrupt bit (R503). -/
def Dev.slState (d : Dev) (s : Nat) : Dev :=
  if d.get PD_STATUS_sl_state = s then d else (d.put PD_STATUS_sl_state s).pageIrq 0x010 6

/-- The service link leaves `UP` or is switched off: its session closes, its keys are forgotten and requests that wait are dropped
(R88, R499). -/
def Dev.slEnd (d : Dev) (s : Nat) : Dev :=
  let d := (d.closeSession 1 4).dropWaiting 1
  { d with pd := { d.pd with slKey := 0, slRx := 0, slTx := 0, ephPriv := 0, nonce := 0, answers := [] } }.slState s

/-- The alternate mode is left (R498). -/
def Dev.altExit (d : Dev) : Dev :=
  if d.flag PD_STATUS_alt_entered then ((d.put PD_STATUS_alt_entered 0).pageIrq 0x010 5).slEnd 0 else d

/-- The alternate mode is entered: the pairs become the service link, which trains (R498). -/
def Dev.altEnter (d : Dev) : Dev :=
  if d.flag PD_STATUS_alt_entered then d
  else ((d.put PD_STATUS_alt_entered 1).pageIrq 0x010 5).slState 1

/-- A contract comes into force with its limit (R485). -/
def Dev.contractSet (d : Dev) (kind mv ma : Nat) : Dev :=
  let same := d.get PD_STATUS_contract == kind && d.get PD_CONTRACT_mv == mv && d.get PD_CONTRACT_ma == ma
  let d := ((d.put PD_STATUS_contract kind).put PD_CONTRACT_mv mv).put PD_CONTRACT_ma ma
  let d := d.put PD_ILIM_ma (min (min ma (15_000_000 / mv)) 3_000)
  if same then d else d.pageIrq 0x010 3

/-- The contract ends for a reason other than a Request of the port's own (R485, R490). -/
def Dev.contractEnd (d : Dev) : Dev :=
  let had := d.get PD_STATUS_contract != 0
  let d := ((d.put PD_STATUS_contract 0).put PD_CONTRACT_mv 0).put PD_CONTRACT_ma 0
  let d := { d.put PD_ILIM_ma 500 with pd := { d.pd with keep := false } }
  if had then (d.pageIrq 0x010 3).raise F_PD_CONTRACT_LOST 0x010 0 else d

/-! ## Sending (R491) -/

/-- The header as sent: MessageID, revision 3 and the port's roles filled in (R503). -/
def Dev.pdHeader (d : Dev) (h : Nat) : Nat :=
  (if bit h 15 then 2 ^ 15 else 0) + bits h 12 3 * 2 ^ 12 + d.pd.txId * 2 ^ 9 + d.get PD_STATUS_power_role * 2 ^ 8 + 2 * 2 ^ 6 +
    b2n d.pd.dfp * 2 ^ 5 + bits h 0 5

/-- Put the head of the send queue on the wire. -/
def Dev.pdTransmit (d : Dev) : Dev :=
  match d.pd.tx with
  | [] => d
  | m :: _ => d.emit .pd 0 (d.pdHeader m.header :: m.objs)

/-- Queue a message; it is sent at once when nothing else is being sent. -/
def Dev.pdSend (d : Dev) (header : Nat) (objs : List Nat) (ticket : Nat) : Dev :=
  let idle := d.pd.tx.isEmpty
  let d := { d with pd := { d.pd with tx := d.pd.tx ++ [⟨header, objs, ticket, 0⟩] } }
  if idle then d.pdTransmit else d

/-- A control message of the chip's own. -/
def Dev.pdControl (d : Dev) (type : Nat) : Dev := d.pdSend type [] 0

/-- A data message of the chip's own. -/
def Dev.pdData (d : Dev) (type : Nat) (objs : List Nat) : Dev := d.pdSend (objs.length * 2 ^ 12 + type) objs 0

/-- The message being sent ends: a `TX` closes `DONE`, or `ABANDONED` with its result in the detail field (R504). -/
def Dev.pdSent (d : Dev) (result : Nat) : Dev :=
  match d.pd.tx with
  | [] => d
  | m :: rest =>
    let d := { d with pd := { d.pd with tx := rest } }
    if m.ticket = 0 then d
    else
      let d := (d.put PD_TX_STATUS_result result).pageIrq 0x010 2
      if result = 1 then d.done m.ticket else (d.ticketDetail m.ticket result).abandon m.ticket

/-- Every message that waits is discarded (result 2). -/
def Dev.pdDiscard (d : Dev) : Dev := (List.range d.pd.tx.length).foldl (fun (d : Dev) (_ : Nat) => d.pdSent 2) d

/-- A message is a Request: data message type 2. -/
def isRequest (h : Nat) : Bool := !bit h 15 && bits h 12 3 != 0 && bits h 0 5 == 2

/-- GoodCRC of the message being sent. -/
def Dev.goodCrc (d : Dev) : Dev :=
  match d.pd.tx with
  | [] => d
  | m :: _ =>
    let d := { d with pd := { d.pd with txId := (d.pd.txId + 1) % 8 } }
    let d := if isRequest m.header then
        { d with pd := { d.pd with req := m.objs.headD 0, reqWait := true, accepted := false } } else d
    (d.pdSent 1).pdTransmit

/-- `GOODCRC_TIMEOUT` (R491): two retries after the first attempt, then the transmission has failed. -/
def Dev.goodCrcTimeout (d : Dev) : Dev :=
  match d.pd.tx with
  | [] => d
  | m :: rest =>
    if m.tries < 2 then { d with pd := { d.pd with tx := { m with tries := m.tries + 1 } :: rest } }.pdTransmit
    else
      let d := (d.bump PD_COUNTS_tx_failed)
      let d := { d with pd := { d.pd with txId := (d.pd.txId + 1) % 8 } }
      (d.pdSent 3).pdTransmit

/-! ## The policy (R492) -/

/-- An atomic message sequence is in progress. -/
def Dev.pdSequence (d : Dev) : Bool := !d.pd.tx.isEmpty || d.pd.reqWait || d.pd.accepted

/-- The unattached states alternate: drp_en, src_en and a valid `VIN_AUX` under host policy (R483). -/
def Dev.drpOn (d : Dev) : Bool :=
  d.flag PD_CFG_drp_en && d.flag PD_CFG_src_en && d.flag PWR_STATUS_vin_ok && d.flag PD_POLICY_host

/-- Standing judgements of the port: a waiting write of 1 to the policy takes effect after the sequence, and without the
conditions of DRP the port does not stay an unattached source. -/
def Dev.pdSettle (d : Dev) : Dev :=
  let d := if d.pd.policyReq && !d.pdSequence && d.railGood 5 then
      ({ d with pd := { d.pd with policyReq := false } }).put PD_POLICY_host 1 else d
  if (d.tc == 4 || d.tc == 5) && !d.drpOn then d.tcEnter 1 else d

/-- A write of `PD_POLICY.host` (R492). -/
def Dev.policyWrite (d : Dev) (v : Nat) : Dev :=
  if v % 2 = 1 then
    (if d.flag PD_POLICY_host then d else { d with pd := { d.pd with policyReq := true } }).pdSettle
  else (({ d with pd := { d.pd with policyReq := false } }).put PD_POLICY_host 0).pdSettle

/-! ## Attachment (R483, R484, R489) -/

/-- The port's protocol layer starts afresh. -/
def Dev.pdFresh (d : Dev) : Dev :=
  let d := d.pdDiscard.put PD_STATUS_waiting 0
  { d with pd := { d.pd with rxId := 0, txId := 0, caps := [], req := 0, reqWait := false, accepted := false, keep := false } }

/-- The partner is gone; the port goes to state `s`. -/
def Dev.detach (d : Dev) (s : Nat) : Dev :=
  let d := (d.contractEnd.altExit).pdFresh
  let d := { d with pd := { d.pd with vbusEn := false, hardWait := false, dfp := false, entered := 0 } }
  (((d.put PD_STATUS_rp_adv 0).put PD_STATUS_dead_battery 0).put PD_STATUS_power_role 0).tcEnter s |>.pdSettle

/-- What a received or sent hard reset does (R489): contract and alternate mode end, the receive FIFO is cleared (R505). -/
def Dev.hardReset (d : Dev) : Dev :=
  let d := (d.contractEnd.altExit).pdFresh
  let d := { d with pd := { d.pd with fifo := [], hardWait := d.tc == 3 } }
  let d := ((d.put PD_RX_STATUS_valid 0).put PD_RX_STATUS_count 0).put PD_RX_STATUS_header 0
  let d := each (List.range 8) (fun k (d : Dev) => d.put PD_RX_OBJ_obj 0 k) d
  ((d.bump PD_COUNTS_hard_resets).pageIrq 0x010 4).pdSettle

/-- `PARTNER_TERMINATION_SEEN` (R483): the ball, the partner's Rp (0 for Rd), and whether it was there before D05 came on. -/
def execPartnerTerminationSeen (cc rp : Nat) (before : Bool) (s : State) :=
  onDev (fun d =>
    if !d.railGood 5 then d
    else if d.tc = 1 ∧ 1 ≤ rp then
      ((((d.put PD_STATUS_orientation cc).put PD_STATUS_rp_adv rp).putB PD_STATUS_dead_battery before).tcEnter 2).pdSettle
    else if d.tc = 4 ∧ rp = 0 then ((d.put PD_STATUS_orientation cc).tcEnter 5).pdSettle
    else d) s

/-- `TYPEC_ATTACH` (R483, R484): 150 ms of an unchanged termination; as source, whether `VBUS` was found below 0.8 V. -/
def execTypecAttach (vbusLow : Bool) (s : State) :=
  onDev (fun d =>
    if !d.railGood 5 then d
    else if d.tc = 2 ∧ d.flag PWR_STATUS_vbus_ok then
      (({ d with pd := { d.pd with dfp := false } }).put PD_STATUS_power_role 0).tcEnter 3
    else if d.tc = 5 then
      (({ d with pd := { d.pd with dfp := true, vbusEn := vbusLow } }).put PD_STATUS_power_role 1).tcEnter 6
    else d) s

/-- `TYPEC_DETACH` (R483): the termination or `VBUS` is gone. -/
def execTypecDetach (s : State) :=
  onDev (fun d =>
    if !d.railGood 5 then d
    else if d.tc = 2 then d.detach 1
    else if d.tc = 5 then d.detach 4
    else if d.tc = 3 ∧ !d.flag PWR_STATUS_vbus_ok ∧ !d.pd.hardWait then d.detach 1
    else if d.tc = 6 then d.detach 1
    else d) s

/-- `DRP_TOGGLE` (R483). -/
def execDrpToggle (s : State) :=
  onDev (fun d =>
    if !d.railGood 5 || !d.drpOn then d
    else if d.tc = 1 then d.tcEnter 4
    else if d.tc = 4 then d.tcEnter 1
    else d) s

/-- `ERROR_RECOVERY_END` (R483). -/
def execErrorRecoveryEnd (s : State) := onDev (fun d => if d.railGood 5 ∧ d.tc = 7 then d.tcEnter 1 else d) s

/-- `VIN_AUX` is declared lost: a port that is source sends Hard Reset and recovers (R484). -/
def Dev.pdVinLost (d : Dev) : Dev :=
  if !d.railGood 5 then d
  else if d.tc = 6 then ((d.emit .hardReset 0 []).hardReset).detach 7
  else d.pdSettle

/-- `VBUS` is declared lost: an attached sink is detached, but within 1 s after a hard reset; a source that had found `VBUS` above 0.8 V
sets `VBUS_EN` once it reads below (R483, R484). -/
def Dev.pdVbusLost (d : Dev) : Dev :=
  if d.tc = 3 ∧ !d.pd.hardWait then d.detach 1
  else if d.tc = 6 ∧ d.get PWR_VBUS_mv < 800 then { d with pd := { d.pd with vbusEn := true } }
  else d

/-- D05 switches on: the digital Rd takes over (R483, R492). -/
def Dev.pdStart (d : Dev) : Dev := (d.put PD_STATUS_tc_state 1).put PD_POLICY_host 0

/-- D05 has gone: nothing of the port is left but the analog Rd (R483, R498). -/
def Dev.pdOff (d : Dev) : Dev :=
  let d := d.pdDiscard
  { d with pd := Pd.init }.put PD_STATUS_tc_state 0

/-- `HARD_RESET_RECEIVED` (R489). -/
def execHardResetReceived (s : State) := onDev (fun d => if d.railGood 5 && d.attached then d.hardReset else d) s

/-- `HARD_RESET_VBUS_WAIT_END` (R489): a port without `VBUS` is detached now. -/
def execHardResetVbusWaitEnd (s : State) :=
  onDev (fun d =>
    if d.railGood 5 && d.pd.hardWait then
      let d := { d with pd := { d.pd with hardWait := false } }
      if d.tc = 3 ∧ !d.flag PWR_STATUS_vbus_ok then d.detach 1 else d
    else d) s

/-! ## Receiving (R491, R493, R494) -/

/-- Control messages the port supports (assumption 17). -/
def pdControls : List Nat := [1, 3, 4, 5, 6, 7, 8, 9, 10, 12, 13, 16, 17, 18, 20]

/-- Data messages it supports; vendor-defined ones only when structured. -/
def pdDatas : List Nat := [1, 2, 3, 4, 15]

/-- The message is one the port supports (R482, R491): extended messages are Source_Capabilities_Extended, Status and
PPS_Status, in one chunk of 26 bytes. -/
def pdSupported (h : Nat) (objs : List Nat) : Bool :=
  let t := bits h 0 5
  if bit h 15 then t ∈ [1, 2, 12] && decide (bits (objs.headD 0) 0 9 ≤ 26)
  else if bits h 12 3 = 0 then t ∈ pdControls
  else t ∈ pdDatas && (t != 15 || bit (objs.headD 0) 15)

/-- Show the head of the receive FIFO (R503). -/
def Dev.rxShow (d : Dev) : Dev :=
  let m := d.pd.fifo.headD ⟨0, []⟩
  let d := ((d.putB PD_RX_STATUS_valid (!d.pd.fifo.isEmpty)).put PD_RX_STATUS_count d.pd.fifo.length).put PD_RX_STATUS_header m.header
  each (List.range 8) (fun k (d : Dev) => d.put PD_RX_OBJ_obj (m.objs.getD k 0) k) d

/-- Release the head entry (R503). -/
def Dev.rxRelease (d : Dev) : Dev := { d with pd := { d.pd with fifo := d.pd.fifo.drop 1 } }.rxShow

/-- A structured VDM header of the port's own answers: version 2.0; type 1 ACK, 2 NAK. -/
def vdmHeader (svid pos type cmd : Nat) : Nat := svid * 2 ^ 16 + 2 ^ 15 + 2 ^ 13 + pos * 2 ^ 8 + type * 2 ^ 6 + cmd

/-- The VDM responder of a UFP (R496, R497). -/
def Dev.vdmRespond (d : Dev) (v : Nat) : Dev :=
  let svid := bits v 16 16
  let pos := bits v 8 3
  let cmd := bits v 0 5
  let own := svid == d.get PD_SVID_vid
  let ack (objs : List Nat) (d : Dev) : Dev := d.pdData 15 (vdmHeader svid pos 1 cmd :: objs)
  let nak (d : Dev) : Dev := d.pdData 15 [vdmHeader svid pos 2 cmd]
  if bits v 6 2 ≠ 0 then d
  else if cmd = 1 then
    ack [0x5440_0000 + d.get PD_SVID_vid, d.factoryWord 2, 0x0512_0000 + bits (d.factoryWord 1) 16 16, 0x6100_0010] d
  else if cmd = 2 then ack [d.get PD_SVID_vid * 2 ^ 16] d
  else if cmd = 3 && own then ack [0x0000_0301] d
  else if cmd = 4 && own && pos == 1 then
    if d.flag PD_CFG_alt_en then (ack [] { d with pd := { d.pd with entered := 1 } }).altEnter
    else nak { d with pd := { d.pd with entered := 2 } }
  else if cmd = 5 && own then (ack [] d).altExit
  else nak (if cmd = 4 then { d with pd := { d.pd with entered := 2 } } else d)

/-- Sink_Capabilities (R486). -/
def Dev.sinkCaps (d : Dev) : List Nat :=
  [if d.flag PD_CFG_src_en then 0x2401_912C else 0x0401_912C, 0x0002_D0A7, 0xC0DC_211B]

/-- The Request of the `FIXED` policy: the 5 V fixed PDO (R493). -/
def fixedRequest (caps : List Nat) : Option Nat :=
  (caps.findIdx? fun p => bits p 30 2 == 0 && bits p 10 10 == 100).map fun i =>
    let offered := bits (caps.getD i 0) 0 10
    let cur := min offered 300
    (i + 1) * 2 ^ 28 + (if offered < 300 then 2 ^ 26 else 0) + 2 ^ 25 + 2 ^ 24 + cur * 2 ^ 10 + cur

/-- What a Request asks of the Source_Capabilities: the contract's kind, voltage in mV and current in mA (R485). -/
def contractOf (caps : List Nat) (req : Nat) : Option (Nat × Nat × Nat) :=
  let pos := bits req 28 4
  if pos = 0 ∨ caps.length < pos then none
  else
    let p := caps.getD (pos - 1) 0
    if bits p 30 2 = 0 then some (1, bits p 10 10 * 50, bits req 10 10 * 10)
    else if bits p 28 4 = 0xC then some (2, bits req 9 12 * 20, bits req 0 7 * 50)
    else none

/-- PS_RDY completes the contract that was accepted (R485). -/
def Dev.psReady (d : Dev) : Dev :=
  if !d.pd.accepted then d
  else
    let d := { d with pd := { d.pd with accepted := false } }
    match contractOf d.pd.caps d.pd.req with
    | some (k, mv, ma) => if mv = 0 then d else d.contractSet k mv ma
    | none => d

/-- What the chip follows of the answers to a Request, under either policy (R485, R487, R488). -/
def Dev.pdFollow (d : Dev) (t : Nat) : Dev :=
  if t = 3 ∧ d.pd.reqWait then { d with pd := { d.pd with reqWait := false, accepted := true, keep := false } }
  else if t = 6 then d.psReady
  else if t = 12 ∧ d.pd.reqWait then
    ({ d with pd := { d.pd with reqWait := false, keep := false } }.put PD_STATUS_waiting 1).bump PD_COUNTS_waits
  else if t = 4 ∧ d.pd.reqWait then
    let keep := d.pd.keep
    let d := { d with pd := { d.pd with reqWait := false, keep := false } }
    if keep then d.contractEnd else d
  else d

/-- The `FIXED` policy's action on a supported message (R493). -/
def Dev.fixedPolicy (d : Dev) (t : Nat) (data : Bool) (objs : List Nat) : Dev :=
  if data then
    if t = 1 then
      match fixedRequest objs with
      | some r => (d.put PD_STATUS_waiting 0).pdData 2 [r]
      | none => d
    else if t = 3 ∨ t = 15 then d
    else d.pdControl 16
  else if t ∈ [3, 4, 6, 12] then d
  else if t = 8 then d.pdData 4 d.sinkCaps
  else if t = 9 ∨ t = 10 then d.pdControl 4
  else if t = 16 then d
  else d.pdControl 16

/-- An acknowledged message other than GoodCRC takes its effect (R491–R494, R496). BIST Carrier Mode sends the carrier, message 1 of kind `pd`
here (assumption 17). -/
def Dev.pdHandle (d : Dev) (h : Nat) (objs : List Nat) : Dev :=
  let t := bits h 0 5
  let ext := bit h 15
  let data := !ext && bits h 12 3 != 0
  let ctrl := !ext && !data
  let d := if d.flag PD_POLICY_host then
      ({ d with pd := { d.pd with fifo := d.pd.fifo ++ [(⟨h, objs⟩ : PdMsg)] } }.rxShow).pageIrq 0x010 1 else d
  let d := if ctrl && d.tc == 3 then d.pdFollow t else d
  let d := if data && t == 1 then { d with pd := { d.pd with caps := objs } } else d
  let d := if data && t == 3 && bits (objs.headD 0) 28 4 == 5 then d.emit .pd 1 [] else d
  if ctrl && t == 11 && !d.flag PD_POLICY_host then d.pdControl 4
  else if !pdSupported h objs then d.pdControl 16
  else if data && t == 15 then (if d.pd.dfp then d else d.vdmRespond (objs.headD 0))
  else if d.flag PD_POLICY_host then d
  else if ext then d.pdControl 16
  else d.fixedPolicy t data objs

/-- `PD_MESSAGE_RECEIVED` (R491, R494, R505). -/
def Dev.pdReceive (d : Dev) (h : Nat) (objs : List Nat) : Dev :=
  if !d.railGood 5 || !d.attached then d
  else if !bit h 15 && bits h 12 3 == 0 && bits h 0 5 == 1 then
    (if bits h 9 3 = d.pd.txId then d.goodCrc else d).pdSettle
  else if d.flag PD_POLICY_host && decide (4 ≤ d.pd.fifo.length) then d
  else
    let d := d.emit .pd 0 [d.pdHeader 1 - d.pd.txId * 2 ^ 9 + bits h 9 3 * 2 ^ 9]
    if d.pd.rxId = bits h 9 3 + 1 then d
    else
      let d := { d with pd := { d.pd with rxId := bits h 9 3 + 1 } }
      (d.pdDiscard.pdHandle h objs).pdSettle

/-- `PD_MESSAGE_RECEIVED`: the header and the objects. -/
def execPdMessageReceived (header : Nat) (objs : List Nat) (s : State) := onDev (fun d => d.pdReceive header objs) s

/-- `GOODCRC_TIMEOUT` (R491). -/
def execGoodcrcTimeout (s : State) := onDev (fun d => if d.railGood 5 then d.goodCrcTimeout.pdSettle else d) s

/-- `PPS_KEEPALIVE` (R487, R505): the wait-and-retry timer's re-send stands before it. -/
def execPpsKeepalive (s : State) :=
  onDev (fun d =>
    if d.railGood 5 && d.tc == 3 && d.get PD_STATUS_contract == 2 && !d.flag PD_STATUS_waiting && !d.pdSequence then
      let d := d.put PD_COUNTS_keepalives (d.get PD_COUNTS_keepalives + 1)
      { d with pd := { d.pd with keep := true } }.pdData 2 [d.pd.req]
    else d) s

/-- `PPS_KEEPALIVE_TIMEOUT` (R487). -/
def execPpsKeepaliveTimeout (s : State) :=
  onDev (fun d =>
    if d.railGood 5 && d.pd.keep then
      ({ d with pd := { d.pd with reqWait := false, keep := false } }.contractEnd).pdSettle
    else d) s

/-- `WAIT_RETRY_EXPIRY` (R488). -/
def execWaitRetryExpiry (s : State) :=
  onDev (fun d =>
    if d.railGood 5 && d.tc == 3 && d.flag PD_STATUS_waiting then (d.put PD_STATUS_waiting 0).pdData 2 [d.pd.req] else d) s

/-! ## Commands (R504) -/

/-- The port takes no `PD` command: not under host policy, or not attached. -/
def Dev.pdNotReady (d : Dev) : Bool := !d.flag PD_POLICY_host || !d.attached

/-- The objects of a message that `PD_TX_HDR` describes. -/
def Dev.txObjs (d : Dev) : List Nat := (List.range (bits (d.get PD_TX_HDR_header) 12 3)).map fun k => d.get PD_TX_OBJ_obj k

/-- `TX` (R494, R504): as DFP the port sends no VDMs (R496). A Request disarms the wait-and-retry timer (R488). -/
def pdTx : CmdDef where
  verdict _ c d :=
    let h := d.get PD_TX_HDR_header
    { Verdict.ok with
      badArg := c.arg != 0 || !pdSupported h d.txObjs || (!bit h 15 && bits h 12 3 != 0 && bits h 0 5 == 15 && d.pd.dfp)
      badState := d.pdNotReady
      busy := d.pd.tx.any fun m => m.ticket != 0 }
  effect _ _ n d :=
    let h := d.get PD_TX_HDR_header
    let d := if isRequest h then
        { d.put PD_STATUS_waiting 0 with pd := { d.pd with req := d.txObjs.headD 0, keep := false } } else d
    (d.progress n 0).pdSend h d.txObjs n

/-- `HARD_RESET` (R489, R504). -/
def pdHardReset : CmdDef where
  verdict _ c d := { Verdict.ok with badArg := c.arg != 0, badState := d.pdNotReady }
  effect _ _ n d := ((d.emit .hardReset 0 []).hardReset).done n

/-- `ROLE` (R494, R504): the electrical part of a power-role swap; a sink contract ends when the port becomes source. `VBUS_EN`
follows R484. -/
def pdRole : CmdDef where
  verdict _ c d :=
    { Verdict.ok with
      badArg := decide (1 < c.arg)
      badState := d.pdNotReady || c.arg == d.get PD_STATUS_power_role || (c.arg == 1 && !d.flag PD_CFG_src_en) }
  effect _ c n d :=
    let d := d.put PD_STATUS_power_role c.arg
    if c.arg = 1 then
      let d := d.contractEnd
      (({ d with pd := { d.pd with vbusEn := decide (d.get PWR_VBUS_mv < 800), hardWait := false } }).tcEnter 6).done n
    else (({ d with pd := { d.pd with vbusEn := false } }).tcEnter 3).done n

/-- `PD_TX` (R504). -/
def execPdTx (c : Cmd) (s : State) := onDev (fun d => (d.cmd 0x010 1 pdTx c).pdSettle) s
/-- `PD_HARD_RESET` (R504). -/
def execPdHardReset (c : Cmd) (s : State) := onDev (fun d => (d.cmd 0x010 2 pdHardReset c).pdSettle) s
/-- `PD_ROLE` (R494). -/
def execPdRole (c : Cmd) (s : State) := onDev (fun d => (d.cmd 0x010 3 pdRole c).pdSettle) s

/-! ## The service link (R499–R502) -/

/-- The link is `UP`. -/
def Dev.slUp (d : Dev) : Bool := d.railGood 5 && decide (2 ≤ d.get PD_STATUS_sl_state)

/-- `SERVICE_LINK_UP` (R499): interrupts of target 7 that waited go out (R96, R505). -/
def execServiceLinkUp (s : State) :=
  onDev (fun d =>
    if d.railGood 5 && d.get PD_STATUS_sl_state == 1 then
      let d := d.slState 2
      each (List.range 768) (fun q (d : Dev) => if d.irqTarget q = 7 then d.irqDeliver q else d) d
    else d) s

/-- `SERVICE_LINK_DOWN` (R499): the link retrains at once. -/
def execServiceLinkDown (s : State) := onDev (fun d => if d.slUp then d.slEnd 1 else d) s

/-- `SL_PING_SEND` (R499). -/
def execSlPingSend (s : State) := onDev (fun d => if d.slUp then d.slSend (slHeader 0x04 0 0 0 0 0) [] else d) s

/-- A request as it arrived: its header's parts and its payload. -/
structure SlReq where
  header : List Nat
  payload : List Nat
  deriving DecidableEq, Repr

/-- Type of a request. -/
def SlReq.type (r : SlReq) : Nat := r.header.getD 0 0
/-- Its tag. -/
def SlReq.tag (r : SlReq) : Nat := r.header.getD 1 0
/-- Its count. -/
def SlReq.count (r : SlReq) : Nat := leNat ((r.header.drop 4).take 4)
/-- Its address. -/
def SlReq.addr (r : SlReq) : Nat := leNat ((r.header.drop 8).take 8)

/-- A packet's bytes are checked: its CRC-32 before keying, its tag and its place in the count after it (R500–R502). -/
def Dev.slCheck (d : Dev) (bytes : List Nat) : Option SlReq × Dev :=
  let hdr := bytes.take 16
  let body := bytes.drop 16
  if d.get PD_STATUS_sl_state = 3 then
    let got := Config.gcmOpen d.pd.slKey (d.pd.slRx * 2 ^ 32) hdr body
    let d := { d with pd := { d.pd with slRx := d.pd.slRx + 1 } }
    if 16 ≤ bytes.length then (got.map fun p => ⟨hdr, p⟩, d) else (none, d)
  else if 20 ≤ bytes.length ∧ crc32 (bytes.take (bytes.length - 4)) = leNat (bytes.drop (bytes.length - 4)) then
    (some ⟨hdr, body.take (body.length - 4)⟩, d)
  else (none, d)

/-- Answer a request and keep the answer among the last 32 (R500, R501). -/
def Dev.slAnswer (d : Dev) (r : SlReq) (type status flags : Nat) (payload : List Nat) : Dev :=
  let h := slHeader type r.tag status flags payload.length r.addr
  let d := { d with pd := { d.pd with answers := ((⟨r.header, h, payload⟩ : SlAnswer) :: d.pd.answers).take 32 } }
  d.slSend h payload

/-- A packet arrives that its event takes for a request of this type: a bad one is counted, a repeated header gets the stored
answer again, any other type is not this event's; else it is served (R501). -/
def Dev.slReceive (d : Dev) (type : Nat) (bytes : List Nat) (serve : SlReq → Dev → Dev) : Dev :=
  if !d.slUp then d
  else
    match d.slCheck bytes with
    | (none, d) => d.bump PD_SL_STATUS_bad
    | (some r, d) =>
      match d.pd.answers.find? fun a => a.request == r.header with
      | some a => d.slSend a.header a.payload
      | none => if r.type = type then serve r d else d

/-- The reply to a `KEY_INIT`, and the session key from it (R502): the tool's key and nonce stand in `tool`. -/
def Dev.keyReply (d : Dev) (r : SlReq) (tool : List Nat) (unsigned : Bool) : Dev :=
  let toolKey := tool.take 97
  let toolNonce := (tool.drop 97).take 32
  let eph := beBytes 97 (Config.publicKey d.pd.ephPriv)
  let mine := beBytes 32 (d.pd.nonce - 1)
  let sig := if unsigned then 0 else Config.ecdsaSign d.isl.priv (Config.sha384 (eph ++ toolKey ++ toolNonce ++ mine))
  let d := (d.putB PD_SL_STATUS_unsigned unsigned).slAnswer r 0x90 0 (b2n unsigned)
    (beBytes 97 d.deviceKey ++ eph ++ mine ++ beBytes 96 sig)
  let info := beNat [0x41, 0x47, 0x4E, 0x41, 0x53, 0x2D, 0x53, 0x56, 0x43]
  let key := Config.deriveKey d.pd.ephPriv (beNat toolKey) (beNat (toolNonce ++ mine)) info
  ({ d with pd := { d.pd with slKey := key, slRx := 0, slTx := 0 } }).slState 3

/-- `KEY_INIT` on a link that is not keyed (R502): the signature is queued; without an identity the reply goes out unsigned. -/
def Dev.keyInit (d : Dev) (r : SlReq) : Dev :=
  if d.get PD_STATUS_sl_state ≠ 2 ∨ r.payload.length ≠ 129 ∨ d.isl.docs.any (fun j => j.kind == 7) then d
  else
    let eph := Config.entropy d.freeCtr 384
    let nonce := Config.entropy (d.freeCtr + 1) 256
    let d := { d with freeCtr := d.freeCtr + 2, pd := { d.pd with ephPriv := eph, nonce := nonce % 2 ^ 256 + 1 } }
    if d.flag LDG_STATUS_ident_ok then
      let j : SigJob := { kind := 7, ch := 1, unit := 0, ticket := 0, data := r.header ++ r.payload }
      { d with isl := { d.isl with docs := d.isl.docs ++ [j] } }.engineNext
    else d.keyReply r r.payload true

/-- `KEY_INIT` (R502). -/
def execKeyInit (bytes : List Nat) (s : State) := onDev (fun d => d.slReceive 0x10 bytes fun r d => d.keyInit r) s

/-- `KEY_REPLY` (R502): the signature completes. A reply for a link that has gone down since is not sent. -/
def Dev.keySigned (d : Dev) : Dev :=
  match d.isl.docs with
  | [] => d
  | j :: rest =>
    if d.isl.current != 3 || j.kind != 7 then d
    else
      let d := { d with isl := { d.isl with docs := rest } }.engineFree
      if d.slUp && d.get PD_STATUS_sl_state == 2 && d.pd.nonce != 0 then
        d.keyReply ⟨j.data.take 16, j.data.drop 16⟩ (j.data.drop 16) false
      else d

/-- `KEY_REPLY` (R502). -/
def execKeyReply (s : State) := onDev (fun d => d.keySigned) s

end Sys2Proof.Machine
end

