-- ==== Sys2Proof/Machine/Twin.lean ====
section
/-!
DEFINITION. Machine/Twin.lean: twin operation (chapter 12): twin frames and pairing (R374–R378), heartbeats and shared timing
(R379–R383), roles (R384–R388), configuration snapshots (R389–R392), the exchange of seals (R394) and the `TWN` commands (R396).
-/
namespace Sys2Proof.Machine

/-- Paired. -/
def Dev.paired (d : Dev) : Bool := d.get TWN_STATUS_pair_state == 3

/-- Twin operation is on: D07 and en. -/
def Dev.twinOn (d : Dev) : Bool := d.railGood 7 && d.flag TWN_CFG_en

/-- pair_state changes, with its interrupt (R395). -/
def Dev.pairState (d : Dev) (s : Nat) : Dev :=
  if d.get TWN_STATUS_pair_state = s then d else (d.put TWN_STATUS_pair_state s).pageIrq 0x011 3

/-- The partner's device key ID as `TWN_PARTNER_ID` names it. -/
def Dev.partnerId (d : Dev) : Nat := beNat ((List.range 12).flatMap fun k => leBytes 4 (d.get TWN_PARTNER_ID_data k))

/-- The custody digest (R378). -/
def Dev.custodyDigest (d : Dev) : Nat :=
  Config.sha384 (beBytes 48 (d.holderHash 0 0) ++ beBytes 48 (d.holderHash 1 0) ++ [d.otp.generation 0, d.otp.generation 1])

/-- Queue a block for the partner. -/
def Dev.twnSend (d : Dev) (kind part : Nat) (content : List Nat) : Dev :=
  { d with twn := { d.twn with out := d.twn.out ++ [⟨kind, part, content⟩] } }

/-- The signature engine's operations for a pairing that has ended are dropped. -/
def Dev.pairJobsDrop (d : Dev) : Dev :=
  { d with isl := { d.isl with docs := d.isl.docs.filter fun j => !(j.kind == 5 || j.kind == 6 || j.kind == 8 || j.kind == 9) } }.engineNext

/-- Pairing is sought (again): a fresh nonce, nothing known of the partner (R378). -/
def Dev.twnSeek (d : Dev) : Dev :=
  let v := Config.entropy d.freeCtr 96 % 2 ^ 96
  let d := { d with
    freeCtr := d.freeCtr + 1
    twn := { d.twn with nonce := v + 1, pNonce := 0, keyParts := [], xsealParts := [], key := 0, encFrom := 0, hbParts := [], adopt := false
                        out := [], xsent := 0 } }.pairJobsDrop
  d.pairState (if d.flag TWN_CFG_en then 1 else 0)

/-- D07 has switched on, or en was set: pairing is sought; D07 enables the twin lanes (R374); the wait of R387 runs from the cold start or
from the setting of en. -/
def Dev.twnStart (d : Dev) (lanes : Bool) : Dev :=
  if !d.twinOn then d
  else
    let d := (if lanes then d else { d with twn := { d.twn with since := d.time } }).twnSeek
    if lanes then each (List.range 4) (fun k (d : Dev) => d.cmd 0x011 1 laneEnable ⟨4, 0, k, k != 0⟩) d else d

/-! ## Role changes (R384, R385, R393) -/

/-- Epochs on offer from the upstream headers in use of lanes in RUN (R384). -/
def Dev.heardEpochs (d : Dev) : List Nat :=
  ((d.frms.map (·.1)).filter fun l => d.laneState l == 4 && d.flag FRM_L_HEAD_emax_valid l).map fun l => d.get FRM_L_HEAD_emax l

/-- The `TAKEOVER` record (R393); `f` is the first frame sent in the new role. -/
def Dev.takeoverRecord (d : Dev) (cause f : Nat) : Dev :=
  d.record 0x31 0 [⟨24, 1, cause⟩, ⟨26, 2, d.get FRM_EPOCH_epoch⟩, ⟨28, 2, d.get TWN_PARTNER_EPOCH_epoch⟩,
    ⟨32, 8, d.get2 TWN_CFG_SEQ_LO_lo TWN_CFG_SEQ_HI_hi⟩, ⟨40, 6, d.get2 TWN_SNAP_FRAME_LO_lo TWN_SNAP_FRAME_HI_hi⟩,
    ⟨46, 6, d.twn.lastTicket⟩, ⟨52, 6, f⟩, ⟨58, 6, d.twn.heard - 1⟩, ⟨64, 8, d.twn.pSeal⟩]

/-- An incomplete snapshot is discarded whole (R391). -/
def Dev.snapDrop (d : Dev) : Dev :=
  if d.twn.bytes.isEmpty then d
  else
    let d := { d with twn := { d.twn with bytes := [] } }
    ((d.raise F_TWIN_SNAPSHOT_DROP 0x011 0).bump TWN_SNAP_STATUS_drops).pageIrq 0x011 2

/-- The device becomes active (R382, R403, R405): the boundaries go on in holdover with the correction at entry, or in `FREE` where that
is zero, without `REF_OUT`, and `CLK_TIME_SRC`'s reference is judged. -/
def Dev.twinRefEnd (d : Dev) : Dev :=
  if d.flag CLK_STATUS_twin_ref then
    let d := d.put CLK_STATUS_twin_ref 0
    if d.clk = 3 && d.flag CLK_STATUS_osc_ok && d.ck.fine / 10 == 0 then
      { d.setCorr 0 with ck := { d.ck with fine := 0, held := 0 } }.clkEnter 1 |>.refRestart
    else (d.refLeave false true).refRestart
  else d

/-- Pairing ends for a standby that does not take over: the twin lane's reference is withdrawn (R401, R405). -/
def Dev.twinRefLost (d : Dev) : Dev :=
  if d.flag CLK_STATUS_twin_ref then ((d.put CLK_STATUS_twin_ref 0).refLeave false false).refRestart else d

/-- Why a device holds its role: which role, in which frame it first sends in it. -/
def Dev.becomeActive (d : Dev) (cause f ticket : Nat) : Dev :=
  if d.latched 4 then ((d.put TWN_STATUS_no_takeover 1).abandon ticket)
  else
    let own := d.get FRM_EPOCH_epoch
    let later (a b : Nat) : Nat := if laterEpoch b a then b else a
    let partner := if d.twn.epochHeard then [d.get TWN_PARTNER_EPOCH_epoch] else []
    let top := (partner ++ d.heardEpochs).foldl later own
    let d := (d.put FRM_EPOCH_epoch (top + 1)).put TWN_STATUS_role 1
    let d := ({ d with epochPend := 0, twn := { d.twn with echoPlans := 5, orphan := 0 } }.snapDrop).twinRefEnd
    let d := ((d.takeoverRecord cause (f + 1)).bumpS TWN_TAKEOVERS_count TWN_TAKEOVERS_sat).pageIrq 0x011 1
    let d := if cause = 1 then d.raise F_TWIN_TAKEOVER 0x011 0 else d
    (d.done ticket).rejudge

/-- An active device becomes standby at frame `f` (R385). -/
def Dev.becomeStandby (d : Dev) (cause f ticket : Nat) : Dev :=
  let d := (d.put TWN_STATUS_role 0).takeoverRecord cause (f + 1)
  let d := { d with twn := { d.twn with orphan := 0, adopt := d.paired } }
  ((d.pageIrq 0x011 1).done ticket).rejudge

/-- A role change takes place at frame `f`, where the device does not hold that role already; its ticket closes `DONE`. -/
def Dev.roleRun (d : Dev) (f : Nat) (r : RoleDue) : Dev :=
  if r.active then (if d.flag TWN_STATUS_role then d.done r.ticket else d.becomeActive r.cause f r.ticket)
  else if d.flag TWN_STATUS_role then d.becomeStandby r.cause f r.ticket
  else d.done r.ticket

/-- The waiting role changes that have fallen due by frame `f` and that `p` names take place, in their order. -/
def Dev.rolesRun (d : Dev) (f : Nat) (p : RoleDue → Bool) : Dev :=
  let now (r : RoleDue) : Bool := decide (r.frame ≤ f) && p r
  each (d.twn.due.filter now) (fun r (d : Dev) => d.roleRun f r)
    { d with twn := { d.twn with due := d.twn.due.filter fun r => !now r } }

/-- The role changes that have fallen due by frame `f`. -/
def Dev.roleDue (d : Dev) (f : Nat) : Dev := d.rolesRun f fun _ => true

/-- Set a role change. -/
def Dev.setDue (d : Dev) (r : RoleDue) : Dev := { d with twn := { d.twn with due := d.twn.due ++ [r] } }

/-- Pairing ends (R378, R381): `TWIN_HEARTBEAT`; a handover in progress is abandoned (R397). `takenOver`: a takeover follows at once, and
ends the standby's timing itself. -/
def Dev.pairEnd (d : Dev) (takenOver : Bool) : Dev :=
  let d := (d.raise F_TWIN_HEARTBEAT 0x011 0).snapDrop
  let given := d.twn.due.filter fun r => r.cause == 6
  let d := { d with twn := { d.twn with due := d.twn.due.filter fun r => r.cause != 6 } }
  let d := each given (fun r (d : Dev) => d.abandon r.ticket) d
  let d := if d.standby && !takenOver then d.twinRefLost else d
  d.twnSeek

/-- No twin lane is in RUN any more: pairing ends (R378). One that was still exchanging keys ends without a fault (DESIGN CHOICE,
assumption 25). -/
def Dev.twinSettle (d : Dev) : Dev :=
  if d.get TWN_STATUS_lanes = 0 then
    if d.paired then d.pairEnd false
    else if d.get TWN_STATUS_pair_state = 2 then (if d.standby then d.twinRefLost else d).twnSeek
    else d
  else d

/-- `HEARTBEAT_MISS` (R381, R385): no heartbeat of the frame before has authenticated by this boundary. -/
def Dev.heartbeatMiss (d : Dev) : Dev :=
  if d.twinOn && d.k03 && d.paired && decide (d.twn.heard < d.frame) && d.twn.judged != d.frame + 1 then
    let d := { d.bump TWN_STATUS_missed with twn := { d.twn with judged := d.frame + 1 } }
    if 3 ≤ d.get TWN_STATUS_missed then
      let stby := d.standby
      let f := d.frame
      let d := d.pairEnd (stby && !d.latched 4)
      if stby then (if d.latched 4 then d.put TWN_STATUS_no_takeover 1 else d.setDue ⟨f, true, 1, 0⟩) else d
    else d
  else d

/-- `HEARTBEAT_MISS` (R381). -/
def execHeartbeatMiss (s : State) := onDev (fun d => d.heartbeatMiss) s

/-- `BECOME_ACTIVE` (R385): a change to active that is due. -/
def execBecomeActive (s : State) :=
  onDev (fun d => if d.k03 then d.rolesRun d.frame fun r => r.active else d) s

/-- `DEMOTE` (R386): a change to standby that is due. -/
def execDemote (s : State) :=
  onDev (fun d => if d.k03 then d.rolesRun d.frame fun r => !r.active else d) s

/-- The upstream header in use of a lane in RUN shows a rival that is obeyed (R386). -/
def Dev.rivalObeyed (d : Dev) (l : Nat) : Bool :=
  d.flag TWN_CFG_en && d.flag TWN_STATUS_role && d.laneState l == 4 && !d.flag FRM_L_HEAD_obeyed l &&
    ((d.flag FRM_L_HEAD_emax_valid l && laterEpoch (d.get FRM_L_HEAD_emax l) (d.get FRM_EPOCH_epoch)) ||
      (d.get FRM_L_HEAD_emax l == d.get FRM_EPOCH_epoch && !d.flag TWN_CFG_pref_role))

/-- An active device that sees it will demote itself at the next boundary (R386). A case counts once, when its demotion is set, however
many lanes report it; a handover in progress goes on, and its ticket closes at F_h (assumption 16). -/
def Dev.splitJudge (d : Dev) (l : Nat) : Dev :=
  if d.rivalObeyed l && !d.twn.due.any (fun r => r.cause == 5) then
    (d.bumpS TWN_SPLIT_count TWN_SPLIT_sat).setDue ⟨d.frame + 1, false, 5, 0⟩
  else d

/-- Some lane in RUN reports the plant unobeyed, or obeyed with bad frames (R387). -/
def Dev.unobeyed (d : Dev) : Bool :=
  (d.frms.map (·.1)).any fun l => d.laneState l == 4 && !d.flag FRM_L_HEAD_obeyed l &&
    (!d.flag FRM_L_HEAD_emax_valid l || d.get FRM_L_HEAD_bad_count l != 0)

/-- `ORPHAN_TAKEOVER` (R387). -/
def execOrphanTakeover (s : State) :=
  onDev (fun d =>
    let hold := if d.flag TWN_CFG_pref_role then 4 else 100
    if d.twinOn && d.standby && !d.paired && d.k03 && decide (hold ≤ d.twn.orphan) &&
        decide (d.twn.since + max 1 (d.get TWN_CFG_pair_wait) * 3_276_800_000 ≤ d.time)
    then d.becomeActive 3 d.frame 0 else d) s

/-! ## Snapshots (R389–R391) -/

/-- Register fields that a snapshot carries: those `RW` in either view on the `FLT`, `FRM`, `SCH`, `IMP`, `EST` and `MTR` pages and in
`LNK_CFG`, without memory-region bases, selections and mailboxes (R389). -/
def snapFields : List Field := [
  FLT_TRIP_CFG_open, LNK_CFG_rx_invert, LNK_CFG_tx_invert, LNK_CFG_posture_count, LNK_CFG_posture_open, FRM_L_CUR_TOL_tol,
  FRM_WAKE_CFG_threshold, SCH_AGE_CFG_t_age_max, SCH_AGE_CFG_i_age_max, SCH_AGE_CFG_v_age_max, SCH_BLIND_blind_gain,
  SCH_GV_CFG_gv_min, IMP_CFG_spectra_en, IMP_CFG_refresh_period, IMP_SPECTRA_CFG_cells] ++ [
  EST_HIB_CFG_en, EST_HIB_CFG_t_idle, EST_HIB_CFG_i_idle, EST_PROBE_CFG_period, EST_PROBE_CFG_length, EST_PART_CFG_headroom,
  EST_CKPT_CFG_period, MTR_REC_CFG_summary, MTR_REC_CFG_interval, MTR_DISC_CFG_eff_hi, MTR_DISC_CFG_eff_lo, MTR_DISC_WIN_window,
  MTR_DISC_WIN_e_min, MTR_CAL_CFG_cal_tol, MTR_CAL_CFG_period, MTR_CH_GAIN_gain, MTR_CH_OFFSET_offset]

/-- The pages of which a snapshot carries every writable field, and the writable fields of their headers (R389). -/
def snapPages : List Nat := [0x004, 0x013, 0x014, 0x015, 0x016, 0x017]
/-- See `snapPages`. -/
def snapHeader : List Field := [PAGE_CTRL_enable, PAGE_CTRL_hibernate, PAGE_IRQ_EN_en]

/-- One entry of the image: kind, key, value, in 2, 6 and 8 bytes (the layout is the device's own, R389). -/
def snapEntry (kind key v : Nat) : List Nat := leBytes 2 kind ++ leBytes 6 key ++ leBytes 8 v

/-- The entries of a sparse map. -/
def snapMap (kind : Nat) (m : SMap Nat) : List Nat := m.flatMap fun (e : Nat × Nat) => snapEntry kind e.1 e.2

/-- A partition's mask in words of 32 bits, and its rate. -/
def snapPart (p : Nat) (x : EstPart) : List Nat :=
  (List.range 16).flatMap (fun w => snapEntry 4 (p * 32 + w) (bits x.mask (32 * w) 32)) ++ snapEntry 4 (p * 32 + 16) x.rate

/-- Entries of one register field: string-lane instances only of `LNK` fields. -/
def Dev.snapField (d : Dev) (k : Nat) (f : Field) : List Nat :=
  ((d.regs.get f.code []).filter fun (e : Nat × Nat) => decide (f.code / 2 ^ 17 ≠ 0x40 ∨ e.1 < 512)).flatMap
    fun (e : Nat × Nat) => snapEntry 8 (k * 2 ^ 16 + e.1) e.2

/-- Entries of the pages' headers. -/
def Dev.snapHeads (d : Dev) : List Nat :=
  (snapHeader.zipIdx).flatMap fun (e : Field × Nat) => snapPages.flatMap fun page => snapEntry 9 (e.2 * 2 ^ 16 + page) (d.get e.1 page)

/-- The image of the snapshot content (R389). -/
def Dev.snapImage (d : Dev) : List Nat :=
  snapMap 1 d.sch.active ++ (List.range 16).flatMap (fun b => snapEntry 2 b (d.bankMode b)) ++ snapMap 3 d.est.host ++
    d.est.parts.flatMap (fun (e : Nat × EstPart) => snapPart e.1 e.2) ++ snapMap 5 d.imp.staged ++ snapMap 6 d.imp.force ++
    snapMap 7 d.mtr.units ++ d.snapHeads ++ (snapFields.zipIdx).flatMap fun (e : Field × Nat) => d.snapField e.2 e.1

/-- The entries of one kind in an image (fuel: its length). -/
def snapRead (kind : Nat) : Nat → List Nat → List (Nat × Nat)
  | 0, _ => []
  | n + 1, b =>
    if b.length < 16 then []
    else
      let rest := snapRead kind n (b.drop 16)
      if leNat (b.take 2) = kind then (leNat ((b.drop 2).take 6), leNat ((b.drop 8).take 8)) :: rest else rest

/-- The map of one kind. -/
def snapOf (kind : Nat) (img : List Nat) : SMap Nat :=
  (snapRead kind img.length img).foldl (fun (m : SMap Nat) (e : Nat × Nat) => m.put e.1 e.2) []

/-- The highest-numbered ticket that has closed `DONE`. -/
def Dev.lastDone (d : Dev) : Nat :=
  d.tkt.rail.foldl (fun (a : Nat) (e : Nat × Ticket) => if e.2.state = 4 then max a e.2.ticket else a) 0

/-- Cut an image into `SNAP` blocks of 120 bytes (fuel: its length). -/
def snapBlocks : Nat → Nat → List Nat → List TwnBlock
  | 0, _, _ => []
  | n + 1, off, b =>
    if b.isEmpty then [] else ⟨4, 0, leBytes 4 off ++ b.take 120⟩ :: snapBlocks n (off + 120) (b.drop 120)

/-- The active takes a snapshot at a health boundary and, while paired, queues its blocks (R389, R390). -/
def Dev.snapTake (d : Dev) : Dev :=
  if d.twinOn && !d.standby then
    let img := d.snapImage
    let seq := d.get2 TWN_CFG_SEQ_LO_lo TWN_CFG_SEQ_HI_hi + b2n (decide (img ≠ d.twn.image))
    let t := d.lastDone
    let d := (d.put2 TWN_CFG_SEQ_LO_lo TWN_CFG_SEQ_HI_hi seq).put2 TWN_SNAP_FRAME_LO_lo TWN_SNAP_FRAME_HI_hi d.frame
    let blocks := snapBlocks img.length 0 img
    let sealB : TwnBlock := ⟨5, 0, leBytes 8 seq ++ leBytes 6 d.frame ++ leBytes 6 t ++ leBytes 4 img.length ++
      beBytes 48 (Config.sha384 img)⟩
    let keep := d.twn.out.filter fun b => b.kind != 4 && b.kind != 5
    { d with twn := { d.twn with image := img, lastTicket := t, out := if d.paired then keep ++ blocks ++ [sealB] else d.twn.out } }
  else d

/-- The register fields of an image take effect; instances that the image does not list go back to their reset value. -/
def Dev.snapRegs (d : Dev) (img : List Nat) : Dev :=
  let es := snapRead 8 img.length img
  each (snapFields.zipIdx) (fun (e : Field × Nat) (d : Dev) =>
    let code := e.1.code
    let kept := (d.regs.get code []).filter fun (i : Nat × Nat) => decide (code / 2 ^ 17 = 0x40 ∧ 512 ≤ i.1)
    let new := ((es.filter fun (x : Nat × Nat) => x.1 / 2 ^ 16 == e.2).foldl
      (fun (m : SMap Nat) (x : Nat × Nat) => m.put (x.1 % 2 ^ 16) (x.2 % 2 ^ e.1.width)) kept)
    { d with regs := d.regs.put code new }) d

/-- The headers' fields of an image take effect. -/
def Dev.snapHeadsApply (d : Dev) (img : List Nat) : Dev :=
  each (snapRead 9 img.length img) (fun (x : Nat × Nat) (d : Dev) =>
    match snapHeader[x.1 / 2 ^ 16]? with
    | some f => if x.1 % 2 ^ 16 ∈ snapPages then d.put f x.2 (x.1 % 2 ^ 16) else d
    | none => d) d

/-- Partition masks and rates of an image. -/
def Dev.snapParts (d : Dev) (img : List Nat) : Dev :=
  let m := snapOf 4 img
  let mask (p : Nat) : Nat := (List.range 16).foldl (fun (n w : Nat) => n + m.get (p * 32 + w) 0 * 2 ^ (32 * w)) 0
  let ps := (m.map fun (e : Nat × Nat) => e.1 / 32).eraseDups
  each ps (fun p (d : Dev) =>
    let x := d.est.parts.get p EstPart.init
    { d with est := { d.est with parts := d.est.parts.put p { x with mask := mask p, rate := m.get (p * 32 + 16) x.rate } } }) d

/-- Bin plans of an image: changes of the plans in force as by `PLAN_APPLY`, then the staged copy. -/
def Dev.snapBins (d : Dev) (img : List Nat) : Dev :=
  let force := snapOf 6 img
  let d := { d with imp := { d.imp with staged := force } }
  let d := each (d.plannedLanes.filter fun l => d.groupOn l) (fun l (d : Dev) => d.applyLane 0 l) d
  { d with imp := { d.imp with staged := snapOf 5 img } }

/-- Lease units of an image whose definition differs are queued for the next metering boundary, with session ID all ones. -/
def Dev.snapUnits (d : Dev) (img : List Nat) : Dev :=
  let t := snapOf 7 img
  let us := ((t.map fun (e : Nat × Nat) => e.1 / 0x400) ++ (d.mtr.units.map fun (e : Nat × Nat) => e.1 / 0x400)).eraseDups
  let changed := us.filter fun u => decide (unitWords t u ≠ unitWords d.unitsNext u)
  { d with mtr := { d.mtr with
    defs := d.mtr.defs ++ changed.map fun u => ⟨u, unitWords t u, 0xFFFF_FFFF, 0⟩ } }

/-- A bank's mode as the image has it: R200 is not judged, but a class 4 latch of its own holds the standby's banks tripped. -/
def Dev.snapModes (d : Dev) (img : List Nat) : Dev :=
  each (snapOf 2 img) (fun (e : Nat × Nat) (d : Dev) =>
    if d.latched 4 then d else ((d.putBank e.1 { d.bank e.1 with pend := [], forceHold := 0 }).setMode e.1 e.2 1 false).bankPending e.1) d

/-- The standby applies the sealed snapshot (R389, R391). -/
def Dev.snapApply (d : Dev) : Dev :=
  match d.twn.sealed_ with
  | none => d
  | some x =>
    let img := d.twn.sealedImage
    let lim := snapOf 1 img
    let d := { d with
      sch := { d.sch with active := lim, shadow := lim }
      est := { d.est with host := snapOf 3 img }
      twn := { d.twn with sealed_ := none, sealedImage := [], lastTicket := x.ticket } }
    let d := each (List.range 16) (fun b (d : Dev) => d.countStrings b) (d.snapModes img)
    let d := (((((d.snapParts img).snapBins img).snapUnits img).snapRegs img).snapHeadsApply img).memJudge
    let d := (d.put2 TWN_CFG_SEQ_LO_lo TWN_CFG_SEQ_HI_hi x.seq).put2 TWN_SNAP_FRAME_LO_lo TWN_SNAP_FRAME_HI_hi x.frame
    d.put TWN_SNAP_STATUS_age 0

/-- The sealed snapshot waits for the first frame boundary after its seal; `f` is the frame that has begun. -/
def Dev.snapDue (d : Dev) (f : Nat) : Dev :=
  match d.twn.sealed_ with
  | some x => if x.at_ < f then d.snapApply else d
  | none => d

/-- `SNAPSHOT_APPLY` (R391). -/
def execSnapshotApply (s : State) := onDev (fun d => if d.k03 then d.snapDue d.frame else d) s

/-! ## Blocks of a twin frame (R376) -/

/-- `HELLO` content (R376). -/
def Dev.hello (d : Dev) : List Nat :=
  [d.get PAGE_VER_major 0x011, d.get TWN_STATUS_role, d.get TWN_CFG_pref_role, 0] ++ leBytes 2 (d.get FRM_EPOCH_epoch) ++ [0, 0] ++
    leBytes 6 d.frame ++ [0, 0] ++ beBytes 48 d.deviceKeyId ++ beBytes 48 d.custodyDigest ++ beBytes 12 (d.twn.nonce - 1)

/-- The two nonces, the lower device key ID's first (R378). -/
def Dev.nonces (d : Dev) : List Nat :=
  let mine := beBytes 12 (d.twn.nonce - 1)
  let other := beBytes 12 d.twn.pNonce
  if d.deviceKeyId < d.twn.pId then mine ++ other else other ++ mine

/-- A job of the third kind for the pairing is queued in the signature engine (R339, R378). -/
def Dev.pairJob (d : Dev) (kind unit : Nat) (data : List Nat) : Dev :=
  let j : SigJob := { kind := kind, ch := 4, unit := unit, ticket := 0, data := data }
  { d with isl := { d.isl with docs := d.isl.docs ++ [j] } }.engineNext

/-- The signature of the own `KEY` has been made: the device sends it (R378). -/
def Dev.sendKey (d : Dev) : Dev :=
  let v := Config.entropy d.freeCtr 384
  let d := { d with freeCtr := d.freeCtr + 1, twn := { d.twn with ephPriv := v } }
  let eph := beBytes 97 (Config.publicKey v)
  let sig := Config.ecdsaSign d.isl.priv (Config.sha384 (eph ++ d.nonces))
  let m := beBytes 97 d.deviceKey ++ eph ++ beBytes 96 sig
  each [0, 1, 2] (fun p (d : Dev) => d.twnSend 2 p ((m.drop (124 * p)).take 124)) d

/-- The engine finishes the signature of the own `KEY`, or a document (R364, R378). -/
def Dev.engineSigned (d : Dev) : Dev :=
  match d.isl.docs with
  | [] => d
  | j :: rest =>
    if d.isl.current = 3 ∧ j.kind = 8 then
      let d := { d with isl := { d.isl with docs := rest } }.engineFree
      if d.get TWN_STATUS_pair_state = 2 then d.sendKey else d
    else d.docSigned

/-- `DOCUMENT_SIGNED` (R364, R378): the signature engine has finished a document or the own `KEY`. -/
def execDocumentSigned (s : State) := onDev (fun d => d.engineSigned) s

/-- The device holds the active role, or a `TAKE` that makes it active waits for its boundary (R397). -/
def Dev.willBeActive (d : Dev) : Bool := d.flag TWN_STATUS_role || d.twn.due.any fun r => r.cause == 4

/-- The roles are settled (R378); `theirs`: the partner's `HELLO` claims the active role. A device with a `TAKE` waiting is kept active
(R397), and a standby with class 4 latched is not made active (R385). R385's table has no cause for a role so settled: its `TAKEOVER`
record carries cause 0, and the epoch stays, as R384 has it change only by that table (DESIGN CHOICE, assumption 25). -/
def Dev.settleRoles (d : Dev) (theirs : Bool) : Dev :=
  let mine := d.willBeActive
  let new := if mine != theirs then mine else d.flag TWN_CFG_pref_role
  if d.twn.due.any (fun r => r.cause == 4) || new == d.flag TWN_STATUS_role then d
  else if new && d.latched 4 then d.put TWN_STATUS_no_takeover 1
  else
    let d := ((d.putB TWN_STATUS_role new).pageIrq 0x011 1).takeoverRecord 0 (d.frame + 1)
    let d := if new then
        { d.bumpS TWN_TAKEOVERS_count TWN_TAKEOVERS_sat with twn := { d.twn with echoPlans := 5, orphan := 0 } }
      else { d with twn := { d.twn with orphan := 0 } }
    d.rejudge

/-- What a pairing in progress holds of its keys is given up, and with it the partner's timing (R378, R401). -/
def Dev.keysDrop (d : Dev) : Dev :=
  let out := d.twn.out.filter fun b => b.kind != 2
  let d := { d with twn := { d.twn with pNonce := 0, keyParts := [], key := 0, encFrom := 0, adopt := false, out := out } }.pairJobsDrop
  if d.standby then d.twinRefLost else d

/-- The partner's epoch as last heard (R384). -/
def Dev.epochHear (d : Dev) (e : Nat) : Dev :=
  { d.put TWN_PARTNER_EPOCH_epoch e with twn := { d.twn with epochHeard := true } }

/-- A `HELLO` arrives (R378). -/
def Dev.helloIn (d : Dev) (b : List Nat) : Dev :=
  let id := beNat ((b.drop 16).take 48)
  let nonce := beNat ((b.drop 112).take 12)
  if d.paired then d
  else if id ≠ d.partnerId ∨ b.getD 0 0 ≠ d.get PAGE_VER_major 0x011 ∨ beNat ((b.drop 64).take 48) ≠ d.custodyDigest then
    (d.put TWN_STATUS_mismatch 1).keysDrop.pairState 1
  else
    let d := (d.put TWN_STATUS_mismatch 0).epochHear (leNat ((b.drop 4).take 2))
    if d.get TWN_STATUS_pair_state = 2 ∧ d.twn.pNonce = nonce ∧ d.twn.pId = id then d
    else if !d.flag LDG_STATUS_ident_ok then d.put TWN_STATUS_no_ident 1
    else
      let d := { d with twn := { d.twn with pNonce := nonce, pId := id, keyParts := [], encFrom := 0 } }.pairJobsDrop
      let d := d.settleRoles (bit (b.getD 1 0) 0)
      let d := { d with twn := { d.twn with adopt := !d.willBeActive } }
      (d.pairJob 8 0 []).pairState 2

/-- A `KEY` part arrives; the complete message waits for the signature engine. -/
def Dev.keyIn (d : Dev) (part : Nat) (b : List Nat) : Dev :=
  if d.get TWN_STATUS_pair_state ≠ 2 ∨ 3 ≤ part ∨ d.twn.encFrom ≠ 0 then d
  else
    let was := d.twn.keyParts.length
    let d := { d with twn := { d.twn with keyParts := d.twn.keyParts.put part b } }
    if was < 3 ∧ d.twn.keyParts.length = 3 then
      d.pairJob 5 0 (([0, 1, 2].flatMap fun p => d.twn.keyParts.get p []).take 290)
    else d

/-- The partner's `KEY` has been checked (R378): the identity key against `TWN_PARTNER_ID`, then the signature. The ECDH follows as an
operation of its own; the second boundary after the keys verify begins frame `frame + 2`. -/
def Dev.keyChecked (d : Dev) (j : SigJob) : Dev :=
  let key := j.data.take 97
  let eph := (j.data.drop 97).take 97
  let sig := beNat ((j.data.drop 194).take 96)
  if Config.sha384 key = d.partnerId ∧ Config.ecdsaVerify (beNat key) (Config.sha384 (eph ++ d.nonces)) sig then
    { d with twn := { d.twn with pKey := beNat key } }.pairJob 9 (d.frame + 3) eph
  else (if d.standby then d.twinRefLost else d).twnSeek

/-- The session key has been derived (R378): encrypted frames begin as the verification set, or with the next frame where that is later. -/
def Dev.keyDerived (d : Dev) (j : SigJob) : Dev :=
  let info := beNat [0x41, 0x47, 0x4E, 0x41, 0x53, 0x2D, 0x54, 0x57, 0x49, 0x4E]
  { d with twn := { d.twn with
    key := Config.deriveKey d.twn.ephPriv (beNat j.data) (beNat d.nonces) info, encFrom := max j.unit (d.frame + 2) } }

/-- The signature engine finishes a pairing's verification, or its ECDH (R339, R378). The ECDH needs the own ephemeral key: it waits in
the engine behind the own `KEY`, which the `HELLO` queued first. -/
def Dev.keyVerified (d : Dev) : Dev :=
  match d.isl.docs with
  | [] => d
  | j :: rest =>
    if d.isl.current != 3 || !(j.kind == 5 || j.kind == 9) then d
    else
      let d := { d with isl := { d.isl with docs := rest } }.engineFree
      if d.get TWN_STATUS_pair_state ≠ 2 then d
      else if j.kind = 5 then d.keyChecked j else d.keyDerived j

/-- `PAIRING_KEY_VERIFIED` (R378). -/
def execPairingKeyVerified (s : State) := onDev (fun d => if d.twinOn then d.keyVerified else d) s

/-- A heartbeat of frame k is complete (R380, R381). -/
def Dev.heartbeat (d : Dev) (k : Nat) (b : List Nat) : Dev :=
  if d.twn.heard = k + 1 then d
  else
    let d := { d with twn := { d.twn with heard := k + 1, hb := b, pSeal := leNat ((b.drop 26).take 8) } }
    (d.put TWN_STATUS_missed 0).epochHear (leNat ((b.drop 6).take 2))

/-- A part of frame k's heartbeat. -/
def Dev.hbIn (d : Dev) (k part : Nat) (b : List Nat) : Dev :=
  let old := if d.twn.hbFrame = k then d.twn.hbParts else []
  let ps : SMap (List Nat) := old.put part b
  let d := { d with twn := { d.twn with hbParts := ps, hbFrame := k } }
  if ps.has 0 && ps.has 1 && ps.has 2 then d.heartbeat k ([0, 1, 2].flatMap fun p => ps.get p []) else d

/-- Image bytes arrive (R376). -/
def Dev.snapIn (d : Dev) (b : List Nat) : Dev :=
  if !d.pairedStandby then d
  else
    let off := leNat (b.take 4)
    let m := ((b.drop 4).zipIdx).foldl (fun (m : SMap Nat) (e : Nat × Nat) => m.put (off + e.2) e.1) d.twn.bytes
    { d with twn := { d.twn with bytes := m } }

/-- The seal arrives (R391): the image must be whole, its hash must match, and its health boundary must be the last one. -/
def Dev.snapSealIn (d : Dev) (b : List Nat) : Dev :=
  if !d.pairedStandby then d
  else
    let n := leNat ((b.drop 20).take 4)
    let f := leNat ((b.drop 8).take 6)
    let img := (List.range n).map fun i => d.twn.bytes.get i 0
    let whole := (List.range n).all fun i => d.twn.bytes.has i
    if whole && Config.sha384 img == beNat ((b.drop 24).take 48) && f / 5_000 == d.frame / 5_000 then
      { d with twn := { d.twn with
        bytes := [], sealedImage := img, sealed_ := some ⟨leNat (b.take 8), f, leNat ((b.drop 14).take 6), d.frame⟩ } }
    else
      let d := { d with twn := { d.twn with bytes := [] } }
      ((d.raise F_TWIN_SNAPSHOT_DROP 0x011 0).bump TWN_SNAP_STATUS_drops).pageIrq 0x011 2

/-- A part of the partner's seal (R394). -/
def Dev.xsealIn (d : Dev) (part : Nat) (b : List Nat) : Dev :=
  if 2 ≤ part then d
  else
    let ps : SMap (List Nat) := d.twn.xsealParts.put part b
    if ps.has 0 && ps.has 1 then
      let j : SigJob := { kind := 6, ch := 4, unit := 0, ticket := 0, data := (ps.get 0 [] ++ ps.get 1 []).take 152 }
      let d := { d with twn := { d.twn with xsealParts := [] }, isl := { d.isl with docs := d.isl.docs ++ [j] } }
      d.engineNext
    else { d with twn := { d.twn with xsealParts := ps } }

/-- Verified partner seals become records, unless R360 keeps them waiting; each is acknowledged (R394). -/
def Dev.sealRecords (d : Dev) : Dev :=
  if d.ldgReserve then d
  else
    let ws := d.twn.sealWait
    each ws (fun (w : Nat × Nat) (d : Dev) =>
      (d.record 0x30 0 [⟨24, 8, w.1⟩, hashPart 32 w.2]).twnSend 7 0 (leBytes 8 w.1)) { d with twn := { d.twn with sealWait := [] } }

/-- The partner's seal has been checked (R394). One that was recorded before, and is resent as its acknowledgement was lost, is
acknowledged again. -/
def Dev.xsealVerified (d : Dev) : Dev :=
  match d.isl.docs with
  | [] => d
  | j :: rest =>
    if d.isl.current != 3 || j.kind != 6 then d
    else
      let n := leNat (j.data.take 8)
      let h := (j.data.drop 8).take 48
      let d := { d with isl := { d.isl with docs := rest } }.engineFree
      let known := d.twn.xgotId == d.twn.pId && decide (n < d.twn.xgot)
      if !Config.ecdsaVerify d.twn.pKey (Config.sha384 h) (beNat ((j.data.drop 56).take 96)) then d.bump TWN_XSIGN_failures
      else if known then (if d.twn.sealWait.any (fun w => w.1 == n) then d else d.twnSend 7 0 (leBytes 8 n))
      else
        { d with twn := { d.twn with
          sealWait := d.twn.sealWait ++ [(n, beNat h)], xgotId := d.twn.pId, xgot := n + 1 } }.sealRecords

/-- `XSEAL_VERIFIED` (R394). -/
def execXsealVerified (s : State) := onDev (fun d => if d.twinOn then d.xsealVerified else d) s

/-- An acknowledged seal leaves the queue. -/
def Dev.xsealAck (d : Dev) (n : Nat) : Dev :=
  let q := d.twn.xq.filter fun e => e.1 != n
  ({ d with twn := { d.twn with xq := q } }).put TWN_XSIGN_queued q.length

/-- An `IRQ` block (R395): recorded and acknowledged. -/
def Dev.peerIrq (d : Dev) (src : Nat) : Dev :=
  let d := (d.put TWN_PEER_IRQ_count (d.get TWN_PEER_IRQ_count + 1)).put TWN_PEER_IRQ_source src
  (d.pageIrq 0x011 0).twnSend 10 0 (leBytes 2 src)

/-- One block of a frame with number k; `enc` says that it came authenticated (R376, R377). -/
def Dev.twnBlock (d : Dev) (k : Nat) (enc : Bool) (b : List Nat) : Dev :=
  let kind := b.getD 0 0
  let part := b.getD 1 0
  let len := leNat ((b.drop 2).take 2)
  let c := (b.drop 4).take (min len 124)
  if 124 < len then d
  else if kind = 1 then (if enc then d else d.helloIn c)
  else if kind = 2 then (if enc then d else d.keyIn part c)
  else if !enc then d
  else if kind = 3 then d.hbIn k part c
  else if kind = 4 then d.snapIn c
  else if kind = 5 then d.snapSealIn c
  else if kind = 6 then d.xsealIn part c
  else if kind = 7 then d.xsealAck (leNat (c.take 8))
  else if kind = 8 then (if d.standby then d.setDue ⟨leNat (c.take 6), true, 2, 0⟩ else d)
  else if kind = 9 then d.peerIrq (leNat (c.take 2) % 2 ^ 10)
  else if kind = 10 then (if d.irqTarget (leNat (c.take 2)) = 4 then d.irqClear (leNat (c.take 2)) else d)
  else d

/-- The 976 blocks of a frame's bytes 20–124,947. -/
def twnBlocks (p : List Nat) : List (List Nat) := (List.range 976).map fun k => (p.drop (128 * k)).take 128

/-- A frame that fails its tag is discarded whole and counted (R377). -/
def Dev.twnSlip (d : Dev) (l : Nat) : Dev := d.laneCount l LNK_SLIPS_count 4 1

/-- The IV of a frame from the partner (R377). -/
def Dev.twnIv (d : Dev) (k t : Nat) : Nat :=
  k * 2 ^ 48 + t * 2 ^ 40 + (if d.twn.pId < d.deviceKeyId then 0 else 1) * 2 ^ 32

/-- Interrupt sources with target 4 that are pending when pairing completes are sent to the partner (R96). -/
def Dev.irqSend (d : Dev) : Dev :=
  each ((List.range 768).filter fun s => d.irqLive s && d.irqTarget s == 4) (fun s (d : Dev) => d.twnSend 9 0 (leBytes 2 s)) d

/-- Block k of a twin frame has a bit in an uncorrectable codeword. -/
def blockHit (bad : List Nat) (k : Nat) : Bool :=
  bad.any fun c => decide ((160 + 1_024 * k) / 1_250 ≤ c ∧ c ≤ (160 + 1_024 * k + 1_023) / 1_250)

/-- A twin frame arrives on lane TWt (R375–R377); `bytes` are its 125,000 payload bytes, `bad` its
uncorrectable codewords: a block in clear with a bit of one is not used (R151). In ALIGN its header serves frame
alignment (R374); in RUN a failed one counts, and four in a row lose the lock (R152). -/
def Dev.twinFrame (d : Dev) (t : Nat) (bytes bad : List Nat) : Dev :=
  let l := 512 + t
  let head := bytes.take 20
  let hdr := beNat head
  let good := !(decide (0 ∈ bad)) && hdrGood hdr && hdrField hdr 0 3 == 6
  let k := hdrField hdr 4 51
  if decide (4 ≤ t) || !d.laneOn l || !d.flag LNK_STATUS_cw_lock l || !(d.laneState l == 2 || d.laneState l == 4) then d
  else if !d.flag LNK_STATUS_frame_lock l then d.alignHeader l good k (2 ^ 48)
  else if !good then d.headerFailed l
  else if d.laneState l = 2 ∨ !d.twinOn then d.putLane l { d.lane l with hdrBad := 0 }
  else
    let d := d.putLane l { d.lane l with hdrBad := 0 }
    let d := { d with twn := { d.twn with pFrame := k } }
    if hdrField hdr 69 69 = 1 then
      if d.twn.encFrom = 0 then d.twnSlip l
      else match Config.gcmOpen d.twn.key (d.twnIv k t) head (bytes.drop 20) with
        | none => d.twnSlip l
        | some p =>
          let d := if d.paired then d else
            (({ d with twn := { d.twn with heard := d.frame, judged := 0 } }.put TWN_STATUS_missed 0).pairState 3).irqSend
          each (twnBlocks p) (fun b (d : Dev) => d.twnBlock k true b) d
    else if d.paired then d.twnSlip l
    else each ((twnBlocks (bytes.drop 20)).zipIdx.filter fun e => !blockHit bad e.2) (fun e (d : Dev) => d.twnBlock k false e.1) d

/-- The 125,000 bytes of a frame's payload. -/
def frameBytes (payload : Nat) : List Nat :=
  beBytes 20 (payload / 2 ^ 999_840) ++ (List.range 976).flatMap (fun k => beBytes 128 (bits payload (1_000_000 - 160 - 1_024 * (k + 1)) 1_024)) ++
    beBytes 52 (payload % 2 ^ 416)

/-- `TWIN_FRAME_RECEIVED` (R376): the event names the frame's payload bytes, which must be those that the last 800 codewords form. -/
def execTwinFrameReceived (lane : Nat) (bytes : List Nat) (s : State) :=
  onLane (fun d =>
    match d.rxFrame (512 + lane) with
    | some (payload, bad, _) => if bytes = frameBytes payload then (d.rxTake (512 + lane)).twinFrame lane bytes bad else d
    | none => d) s

/-! ## Twin frames sent (R375, R380) -/

/-- Heartbeat content of frame k (R380). -/
def Dev.heartbeatOf (d : Dev) (k : Nat) : List Nat :=
  let applied := d.standby && d.get2 TWN_SNAP_FRAME_LO_lo TWN_SNAP_FRAME_HI_hi == k / 5_000 * 5_000
  let banks := (List.range 16).flatMap fun b =>
    let x := d.bankAhead b
    leBytes 4 x.1 ++ leBytes 4 x.2.1 ++ leBytes 4 x.2.2
  let head := leBytes 6 k ++ leBytes 2 (d.get FRM_EPOCH_epoch) ++
    [d.get TWN_STATUS_role, d.get PWR_PSTATE_state, d.get FLT_STATUS_latched, b2n applied + 2 * b2n (d.latched 4)]
  head ++ leBytes 8 (d.get2 TWN_CFG_SEQ_LO_lo TWN_CFG_SEQ_HI_hi) ++ leBytes 6 (d.nextTicket - 1) ++ leBytes 8 d.ldgSealSeq ++ [0, 0] ++
    banks ++ List.replicate 144 0

/-- A block's bytes. -/
def TwnBlock.bytes (b : TwnBlock) : List Nat :=
  [b.kind, b.part] ++ leBytes 2 b.content.length ++ b.content ++ List.replicate (124 - b.content.length) 0

/-- The blocks that lead every frame: `HELLO` unpaired, the heartbeat from the first encrypted frame on. -/
def Dev.leadBlocks (d : Dev) (f : Nat) (enc : Bool) : List TwnBlock :=
  if enc then
    let h := d.heartbeatOf f
    [0, 1, 2].map fun p => ⟨3, p, (h.drop (124 * p)).take 124⟩
  else [⟨1, 0, d.hello⟩]

/-- Bytes 20–124,999 of a frame with these blocks: sealed with the session key while paired, in clear with a zero tag otherwise
(R377). -/
def Dev.twnSealed (d : Dev) (f t : Nat) (enc : Bool) (head body : List Nat) : List Nat :=
  let plain := body ++ List.replicate (124_964 - body.length) 0
  if enc then
    let dir := if d.twn.pId < d.deviceKeyId then 1 else 0
    Config.gcmSeal d.twn.key (f * 2 ^ 48 + t * 2 ^ 40 + dir * 2 ^ 32) head plain
  else plain ++ List.replicate 16 0

/-- The 20 header bytes of a twin frame (R375). -/
def Dev.twnHead (d : Dev) (f t : Nat) (enc : Bool) : List Nat :=
  let w := packFields [(4, 6), (48, f), (16, d.get FRM_EPOCH_epoch), (1, d.get TWN_STATUS_role), (1, b2n enc), (2, t), (72, 0), (16, 0)]
  beBytes 20 (w + crc16Header w)

/-- The fields of a twin frame: the header, then the rest in pieces of 128 bytes. -/
def twnFields (head rest : List Nat) : List PayField :=
  (0, 160, beNat head) :: (List.range 977).map fun k =>
    let b := (rest.drop (128 * k)).take 128
    (160 + 1_024 * k, 8 * b.length, beNat b)

/-- Frame f leaves on every twin lane in ALIGN and RUN (R128, R375); lanes in ALIGN carry no block of a pair, and none leaves
with blocks while the twin function is off (assumption 23). One record holds the header's fields and the blocks before encryption,
another the symbols. -/
def Dev.twnLaunch (d : Dev) (f : Nat) : Dev :=
  let enc := d.twn.encFrom != 0 && decide (d.twn.encFrom ≤ f + 1)
  let lead := if d.twinOn then d.leadBlocks f enc else []
  each ((List.range 4).filter fun t => d.laneOn (512 + t) && (d.laneState (512 + t) == 4 || d.laneState (512 + t) == 2))
    (fun t (d : Dev) =>
      let run := d.laneState (512 + t) == 4 && d.twinOn
      let lead := if run || !enc then lead else []
      let take := if run then d.twn.out.take (976 - lead.length) else []
      let body := (lead ++ take).flatMap TwnBlock.bytes
      let d := { d with twn := { d.twn with out := d.twn.out.drop take.length } }
      let enc := enc && d.twinOn
      let head := d.twnHead f t enc
      let d := d.emit .twin t ([6, f, d.get FRM_EPOCH_epoch, d.get TWN_STATUS_role, b2n enc, t] ++ body)
      d.lineSend (512 + t) (twnFields head (d.twnSealed f t enc head body))) d

/-- Own seals are sent once in a pairing, so that those not acknowledged are resent after the next (R394): one message each while none
is on its way. -/
def Dev.xsealSend (d : Dev) : Dev :=
  if d.paired && !(d.twn.out.any fun b => b.kind == 6) then
    match d.twn.xq.find? fun e => decide (d.twn.xsent ≤ e.1) with
    | none => d
    | some (n, h, sig) =>
      let m := leBytes 8 n ++ beBytes 48 h ++ beBytes 96 sig
      let d := (d.twnSend 6 0 (m.take 124)).twnSend 6 1 (m.drop 124)
      { d with twn := { d.twn with xsent := n + 1 } }
  else d

/-- What a frame boundary brings before the frame begins: the snapshot that waits, then a role change (R397). -/
def Dev.twnBefore (d : Dev) (f : Nat) : Dev :=
  if d.twinOn then ((d.twinSettle).snapDue f).roleDue f else d

/-- The number of the frame that begins after `f`: the standby steps once to the active's numbering (R378, R382). -/
def Dev.twnFrame (d : Dev) (f : Nat) : Nat × Dev :=
  if d.twinOn && d.standby && d.twn.adopt then
    let d := { d.put CLK_STATUS_twin_ref 1 with twn := { d.twn with adopt := false }, ck := { d.ck with held := 0 } }
    let d := (d.refRestart.clkEnter 3).putB CLK_STATUS_rec_offered (d.refOffered && d.railGood 10)
    let g := d.twn.pFrame + 1
    if g = f then (f, d) else (g, { d with ck := { d.ck with fresh := true, gap := true } })
  else (f, d)

/-- What a frame boundary brings after the frame has begun: heartbeat values, health boundaries, the blocks sent. -/
def Dev.twnAfter (d : Dev) : Dev :=
  let f := d.frame
  if !d.twinOn then d.twnLaunch f
  else
    let d := { d with twn := { d.twn with orphan := if d.unobeyed then d.twn.orphan + 1 else 0 } }
    let d := d.sealRecords
    let d := if f % 5_000 = 0 then
        let d := if d.standby then (d.snapDrop).bump TWN_SNAP_STATUS_age else d
        d.snapTake
      else d
    (d.xsealSend).twnLaunch f

/-! ## Commands (R396) -/

/-- `HANDOVER`. -/
def twnHandoverCmd : CmdDef where
  verdict _ c d :=
    let h := d.twn.hb
    { Verdict.ok with
      denied := d.denies c scopeOPS
      badArg := c.arg != 0
      badState := d.standby || !d.flag TWN_CFG_en || !d.paired || !bit (h.getD 11 0) 0 ||
        leNat ((h.drop 12).take 8) != d.get2 TWN_CFG_SEQ_LO_lo TWN_CFG_SEQ_HI_hi
      priv := true }
  effect _ _ n d :=
    let f := d.frame + 8
    ((d.twnSend 8 0 (leBytes 6 f ++ leBytes 2 (d.get FRM_EPOCH_epoch))).setDue ⟨f, false, 6, n⟩).progress n 0

/-- `TAKE`. -/
def twnTakeCmd : CmdDef where
  verdict _ c d :=
    { Verdict.ok with
      denied := d.denies c scopeOPS, badArg := c.arg != 0, badState := !d.standby || d.paired, priv := true }
  effect _ _ n d := (d.setDue ⟨d.frame + 1, true, 4, n⟩).progress n 0

/-- `HANDOVER` (R396). -/
def execTwnHandover (c : Cmd) (s : State) := onDev (fun d => d.cmd 0x011 0x10 twnHandoverCmd c) s
/-- `TAKE` (R396). -/
def execTwnTake (c : Cmd) (s : State) := onDev (fun d => d.cmd 0x011 0x11 twnTakeCmd c) s

/-- The twin lanes' domain goes: nothing of a pairing is left; own seals stay queued, as `TWN_XSIGN` shows (R394). -/
def Dev.twinOff (d : Dev) : Dev :=
  let t := d.twn
  let d := { d with twn := { Twn.init with
    xq := t.xq, sealWait := t.sealWait, xgotId := t.xgotId, xgot := t.xgot, since := t.since } }.pairJobsDrop
  d.put TWN_XSIGN_queued t.xq.length

end Sys2Proof.Machine
end

