-- ==== Sys2Proof/Machine/Domains.lean ====
section
/-!
DEFINITION. Machine/Domains.lean: what a power domain takes with it when its supply goes (R47, R48, R88, R120, R445, R546).
The registers of its pages start again from their reset values; what the pantry or OTP holds stays.
-/
namespace Sys2Proof.Machine

/-- A lane's counters and their sticky flags (R154). -/
def laneCounters : List Field := [
  LNK_CORR_LO_count_lo, LNK_CORR_HI_count_hi, LNK_UNCORR_count, LNK_HDR_CRC_count, LNK_LOL_count, LNK_SLIPS_count, LNK_PRBS_ERR_count,
  LNK_SAT_flags]

/-- Fields whose content stands in the pantry, in OTP shadows or in the fault collector, not in the domain of their page:
those whose reset value the register tables give as `pantry`, `mirror`, `OTP` or `sense`. -/
def pantryFields : List Field := [
  CUS_KEY_SLOTS_programmed, LNK_GRP_STATUS_otp_enabled, LNK_GRP_AUTO_auto, FRM_EPOCH_epoch,
  EST_CKPT_GEN_LO_gen_lo, EST_CKPT_GEN_HI_gen_hi, MEMC_MARK_marked, MEMC_MARK_device, LDG_STATUS_cert_loaded,
  LDG_STATUS_coalescing, LDG_HEAD_LO_lo, LDG_HEAD_HI_hi, LDG_SEAL_LO_lo, LDG_SEAL_HI_hi, LDG_ACK_LO_lo, LDG_ACK_HI_hi,
  LDG_UNACKED_count, LDG_BOOT_count, LDG_KEY_GEN_gen_a, LDG_KEY_GEN_gen_b, LDG_CERT_LEN_bytes, LDG_CERT_DATA_data,
  LDG_DEVKEY_data, LDG_DEVKEY_ID_data] ++ [
  MTR_STATUS_retired, MTR_BANK_EOUT_LO_lo, MTR_BANK_EOUT_HI_hi, MTR_BANK_EIN_LO_lo, MTR_BANK_EIN_HI_hi,
  MTR_UNIT_STATUS_defined, MTR_UNIT_STATUS_ranges, MTR_UNIT_EOUT_LO_lo, MTR_UNIT_EOUT_HI_hi, MTR_UNIT_EIN_LO_lo,
  MTR_UNIT_EIN_HI_hi, MTR_UNIT_THRU_LO_lo, MTR_UNIT_THRU_HI_hi, MTR_UNIT_EFC_efc, MTR_UNLEASED_EOUT_LO_lo,
  MTR_UNLEASED_EOUT_HI_hi, MTR_UNLEASED_EIN_LO_lo, MTR_UNLEASED_EIN_HI_hi, TWN_CFG_pref_role, TWN_CFG_pair_wait, TWN_CFG_en,
  TWN_PARTNER_ID_data] ++ [
  FLT_NEXT_SEQ_LO_seq_lo, FLT_NEXT_SEQ_HI_seq_hi, FLT_PINS_ack_pins, TKT_NEXT_LO_next_lo, TKT_NEXT_HI_next_hi, TKT_ALLOC_index,
  PWR_CHG_CFG_en, PWR_CHG_CFG_float, BRN_PHASES_populated, PWR_PS_CFG_hib_recipes, PWR_PS_CFG_auto_up, THM_STATUS_sd_latched,
  THM_LIMITS_sd_c, THM_SHUTDOWNS_count, WDT_CAPTURES_count, PD_SVID_vid, BRN_HIST_last_stop]

/-- Fields that outlive their page: those of the pantry, and the counters of the lanes and of their engines, which clear only with their lane
group's domain or by `CLEAR_COUNTERS` (R154, R265). -/
def keptFields : List Field := pantryFields ++ [
  IMP_L_FORCED_sat, IMP_L_FORCED_count, IMP_L_SATWIN_sat, IMP_L_SATWIN_count, IMP_L_OVRWIN_sat, IMP_L_OVRWIN_count,
  IMP_L_GAPWIN_sat, IMP_L_GAPWIN_count, IMP_L_DROPPED_sat, IMP_L_DROPPED_count, IMP_L_TWERR_err] ++ laneCounters

/-- The codes of the fields that the pantry holds. -/
def pantryCodes : List Nat := pantryFields.map Field.code

/-- The codes of the fields that outlive their page. -/
def keptCodes : List Nat := keptFields.map Field.code

/-- Instances of a field on one page of a block that has many pages; 0 for a field that the block's tables do not list. -/
def perPage (block code : Nat) : Nat :=
  ((blockRows block).filter fun r => r.fld.code == code).foldl (fun n r => max n (r.count * r.mul)) 0

/-- The page's own registers take their reset values (R48, R78), but for what is kept elsewhere. -/
def Dev.resetOwn (d : Dev) (page : Nat) : Dev :=
  let b := blockOf page
  let many := b == 0x20 || b == 0x30 || b == 0x40
  let one (e : Nat × SMap Nat) : List (Nat × SMap Nat) :=
    if e.1 / 2 ^ 17 ≠ b ∨ e.1 / 32 % 4096 < 0x100 ∨ e.1 ∈ keptCodes then [e]
    else if many then
      let n := perPage b e.1
      let lo := (page - b) * n
      [(e.1, e.2.filter fun (i : Nat × Nat) => !decide (lo ≤ i.1 ∧ i.1 < lo + n))]
    else []
  { d with regs := d.regs.flatMap one }

/-- The header's writable registers of a page take their reset values. `PAGE_CMD_STATUS` and `PAGE_TICKET_HI` belong to the channels
and keep their values until D00 is reset (R79 says 'since reset' and not which; DESIGN CHOICE, assumption 25). -/
def Dev.resetHeader (d : Dev) (page : Nat) : Dev :=
  (((d.put PAGE_CTRL_enable (if page = 0x17 then 0 else 1) page).put PAGE_CTRL_hibernate 0 page).put PAGE_IRQ_RAW_raw 0 page).put
    PAGE_IRQ_EN_en 0 page

/-- A page whose domain has lost its supply starts afresh; a channel stays contained until the class is acknowledged (R103). -/
def Dev.resetPage (d : Dev) (page : Nat) : Dev :=
  let d := (d.resetOwn page).resetHeader page
  if blockOf page = 0x30 then d.putB MEMC_STATUS_contained (d.chanContained (page - 0x30)) (page - 0x30) else d

/-- Twin-lane registers (instances 512–515 of the lane registers) but for the lanes' counters. -/
def Dev.resetTwinLanes (d : Dev) : Dev :=
  { d with
    regs := d.regs.map fun (e : Nat × SMap Nat) =>
      if e.1 / 2 ^ 17 = 0x40 ∧ !laneCounters.any (fun f => f.code == e.1) then
        (e.1, e.2.filter fun (i : Nat × Nat) => !decide (512 ≤ i.1 ∧ i.1 < 516)) else e
    lanes := d.lanes.filter fun (e : Nat × Lane) => !decide (512 ≤ e.1 ∧ e.1 < 516) }

/-- The clock unit's domain goes: K03 stops, working banks hold, and an `ADOPT` or `REARM` in progress is abandoned (R46, R200, R403,
R409). Accepted `MODE` commands wait for the first
boundary after K03 starts (R200). -/
def Dev.clkOff (d : Dev) : Dev :=
  let d := (d.abandon d.ck.adoptTkt).abandon d.ck.rearmTkt
  let d := (d.resetPage 0x007).trimSettle.adaptStop
  let d := { d with ck := { Clk.init with started := d.ck.started, last := d.ck.last, gap := true, held := d.ck.held } }
  (each (List.range 16) (fun b (d : Dev) => d.stopBank b) d).lockFaults d.lockHolds

/-- The scheduler's domain goes: both copies of its tables, its commits and its banks are lost (R229). What the control taps and
the selectors hold stands in the lane engines and stays (R41, R213). -/
def Dev.schOff (d : Dev) : Dev :=
  let d := { d with sch := { Sch.init with strs := d.sch.strs, cells := d.sch.cells, temps := d.sch.temps } }
  (each (List.range 17) (fun k (d : Dev) => d.resetPage (if k = 16 then 0x015 else 0x020 + k)) d).put GEN_HATCH_STATUS_lt_pending 0

/-- The banks as D12 comes up: in `IDLE`, or in `TRIPPED` while class 4 is latched (R113, R229). -/
def Dev.banksUp (d : Dev) : Dev :=
  each (List.range 16) (fun b (d : Dev) => d.put BNK_STATUS_mode (if d.latched 4 then 5 else 0) b) d

/-- A lane group starts afresh: its lanes are squelched and in DOWN; its pages and its copies of the health-weight table start afresh
(R55, R130, R148). A cell's BENCH_FAILED stays: only `RETURN` changes it (R213). A listed lane that so leaves RUN triggers the recorder
(R332). -/
def Dev.groupReset (d : Dev) (g : Nat) : Dev :=
  let mine (l : Nat) : Bool := decide (l / 16 = g)
  let left := ((List.range 16).map fun k => g * 16 + k).any fun l => d.laneState l == 4 && (d.flrIndex l).isSome
  let d := if left && d.flag FLR_TRIG_CFG_lane_en then d.flrTrigger 4 0 else d
  let d := { d with
    lanes := d.lanes.filter fun (e : Nat × Lane) => !mine e.1
    frms := d.frms.filter fun (e : Nat × Frm) => !mine e.1
    sch := { d.sch with
      strs := d.sch.strs.filter fun (e : Nat × Str) => !mine e.1
      cells := (d.sch.cells.filter fun (e : Nat × Cell) => !mine (e.1 / 5120) || e.2.failed).map fun (e : Nat × Cell) =>
        if mine (e.1 / 5120) then (e.1, { Cell.init with failed := true }) else e
      temps := d.sch.temps.filter fun (e : Nat × Temp) => !mine (e.1 / 10240) }
    hatch := { d.hatch with
      front := d.hatch.front.filter fun (e : Nat × Nat) => !mine (e.1 / 5120)
      back := d.hatch.back.filter fun (e : Nat × Nat) => !mine (e.1 / 5120)
      complete := d.hatch.complete.filter fun l => !mine l } }
  (d.resetPage (0x040 + g)).impGroupReset g

/-- A lane group's domain goes: the group starts afresh, and its lanes' counters go with it (R154, R265). -/
def Dev.groupOff (d : Dev) (g : Nat) : Dev :=
  each ((List.range 16).map fun k => g * 16 + k) (fun l (d : Dev) => (d.clearLaneCounters l).impCountersOff l) (d.groupReset g)

/-- The host link's domain goes: its custody session closes, and the function's configuration is lost (R70, R88, R492). -/
def Dev.hostOff (d : Dev) : Dev :=
  let d := (d.closeSession 0 5).resetPage 0x001
  ({ d with msixTable := [], d3hot := false, pd := { d.pd with policyReq := false } }).put PD_POLICY_host 0

/-- The twin lanes and their page start afresh. -/
def Dev.twinReset (d : Dev) : Dev := (d.resetTwinLanes.resetPage 0x011).twinOff

/-- What goes with a domain's supply. -/
def Dev.domainLost (d : Dev) (r : Nat) : Dev :=
  if r = 1 then (((d.closeSession 0 5).closeSession 1 5).resetPage 0x002).resetPage 0x012
  else if r = 5 then ((d.closeSession 1 5).resetPage 0x010).pdOff
  else if r = 6 then d.hostOff.dmaOff.dropPosted
  else if r = 7 then each [512, 513, 514, 515] (fun l (d : Dev) => d.clearLaneCounters l) d.twinReset
  else if r = 8 then (d.loopsOff 6).resetPage 0x00B
  else if r = 9 then
    let d := each (List.range 4) (fun g (d : Dev) => d.gridLost g 6) d
    let d := each ((List.range 16).filter fun b => d.bankMode b == 2) (fun b (d : Dev) => d.holdBank b 6) d
    ((({ d with ck := { d.ck with gap := true } }.mtrOff).resetPage 0x013).calRestore).trimSettle
  else if r = 10 then d.clkOff
  else if r = 11 then ((d.resetPage 0x014).resetPage 0x016).memJudge
  else if r = 12 then d.schOff
  else if r = 13 then (d.resetPage 0x006).dmaLost
  else if r = 14 then (d.flrOff.resetPage 0x019).memJudge
  else if r = 15 then ((d.memOff.estOff).resetPage 0x017).resetPage 0x018
  else if 16 ≤ r ∧ r ≤ 23 then
    let k := 2 * (r - 16)
    let d := (((d.memPairOff (r - 16)).resetPage (0x030 + k)).resetPage (0x031 + k)).memQualPut
    if d.memPairOn then d else d.filtersLost
  else if 24 ≤ r ∧ r ≤ 31 then d.clusterOff (r - 24)
  else if 32 ≤ r ∧ r ≤ 63 then d.groupOff (r - 32)
  else d

/-- A domain is lost; the clock's reference, the trim gate and the power state are judged again. -/
def Dev.domainOff (d : Dev) (r : Nat) : Dev := ((d.domainLost r).clockSettle).rejudge

end Sys2Proof.Machine
end

