-- ==== Sys2Proof/Machine/Rails.lean ====
section
/-!
DEFINITION. Machine/Rails.lean: the 96 rails (R464, R465), their dependencies (R466, R467), dependants-only shutdown (R468,
R469), and enabling and disabling.
-/
namespace Sys2Proof.Machine

/-! ## Dependencies (R466, R467) -/

/-- A mask of rails. -/
def railMask (rs : List Nat) : Nat := rs.foldl (fun m r => setBit m r) 0

/-- The dependency masks at first start (R467). -/
def firstDeps (r : Nat) : Nat :=
  if r = 7 then railMask [10, 11] else if r = 9 then railMask [10] else if r = 10 then railMask [8]
  else if r = 11 then railMask [8, 10] else if r = 12 ∨ r = 13 ∨ r = 15 then railMask [11]
  else if r = 14 ∨ (16 ≤ r ∧ r ≤ 31) then railMask [15]
  else if 32 ≤ r ∧ r ≤ 63 then railMask [10, 11] else 0

/-- The dependency mask of a rail as stored. -/
def Dev.depMask (d : Dev) (r : Nat) : Nat := d.seq.deps.get r (firstDeps r)

/-- Rails that a rail needs: itself, D00 and D02 count as satisfied (R466). -/
def Dev.deps (d : Dev) (r : Nat) : List Nat :=
  (List.range 96).filter fun x => bit (d.depMask r) x && x != r && x != 0 && x != 2

/-- Rails that need a rail. -/
def Dev.dependants (d : Dev) (r : Nat) : List Nat := (List.range 96).filter fun x => r ∈ d.deps x

/-- Every rail that depends on a rail of `m`, with those of `m`, by so many rounds. -/
def Dev.reachFrom (d : Dev) : Nat → Nat → Nat
  | 0, m => m
  | n + 1, m =>
    let m' := (List.range 96).foldl (fun (a : Nat) r => if (d.deps r).any fun x => bit m x then setBit a r else a) m
    if m' = m then m else Dev.reachFrom d n m'

/-- The dependant set of a rail: every enabled rail that depends on it, directly or through others (R468). -/
def Dev.dependantSet (d : Dev) (r : Nat) : List Nat :=
  (bitList 96 (d.reachFrom 96 (2 ^ r))).filter fun x => x != r && x != 0 && x != 2 && d.railOn x

/-- One round of depths within a set: 1 more than the deepest rail of the set (or the root, at 0) that it needs. -/
def Dev.depthRound (d : Dev) (l : List (Nat × Nat)) : List (Nat × Nat) :=
  l.map fun e => (e.1, ((l.filter fun x => x.1 ∈ d.deps e.1).map fun x => x.2 + 1).foldl max e.2)

/-- Depths after so many rounds. -/
def Dev.depthRounds (d : Dev) : Nat → List (Nat × Nat) → List (Nat × Nat)
  | 0, l => l
  | n + 1, l =>
    let l' := d.depthRound l
    if l' = l then l else Dev.depthRounds d n l'

/-- The depths of a set of rails: the longest chain of dependencies from the root within the set (R468). -/
def Dev.depths (d : Dev) (set : List Nat) : List (Nat × Nat) := d.depthRounds 96 (set.map fun r => (r, 1))

/-- A write of a rail's mask: ignored and counted when it would close a chain of two or more masks (R466). -/
def Dev.depWrite (d : Dev) (r mask : Nat) : Dev :=
  let d' := { d with seq := { d.seq with deps := d.seq.deps.put r mask } }
  let from_ := (d'.dependants r).foldl (fun (m : Nat) x => setBit m x) 0
  if bit (d'.reachFrom 96 from_) r && from_ != 0 then d.bumpS SEQ_REJ_COUNT_count SEQ_REJ_COUNT_sat else d'

/-! ## Switching (R464, R473) -/

/-- A rail is switched off. -/
def Dev.railDrop (d : Dev) (r : Nat) : Dev :=
  if r = 0 ∨ r = 2 ∨ !d.railOn r then d
  else
    let was := d.railGood r
    let d := (d.putWbit SEQ_RAIL_ON_on r false).putWbit SEQ_RAIL_GOOD_good r false
    let d := { d with seq := { d.seq with running := clrBit d.seq.running r } }
    if was then d.domainOff r else d.rejudge

/-- A rail is switched on; its good is judged from then on (R465). -/
def Dev.railRaise (d : Dev) (r : Nat) : Dev := if d.railOn r then d else d.putWbit SEQ_RAIL_ON_on r true

/-- Every dependency of a rail is good. -/
def Dev.depsGood (d : Dev) (r : Nat) : Bool := (d.deps r).all fun x => d.railGood x

/-- Some rail may not be enabled: a dependency is not good, or a thermal shutdown holds it off (R473, R512). -/
def Dev.enableBad (d : Dev) (rs : List Nat) : Bool :=
  rs.any fun r => !d.depsGood r || (d.flag THM_STATUS_sd_latched && !(r == 1 || (decide (3 ≤ r) && decide (r ≤ 6))))

/-- Some rail may not be disabled: it has an enabled dependant outside those named (R473). -/
def Dev.disableBad (d : Dev) (rs : List Nat) : Bool :=
  rs.any fun r => (d.dependants r).any fun x => d.railOn x && !(x ∈ rs)

/-- Rails deepest first, the highest index first on a tie (R473). -/
def Dev.deepestFirst (d : Dev) (rs : List Nat) : List Nat :=
  let l := d.depths rs
  (List.range 97).reverse.flatMap fun k => ((l.filter fun e => e.2 == k).map (·.1)).reverse

/-- Disable rails in that order. -/
def Dev.disableRails (d : Dev) (rs : List Nat) : Dev := each (d.deepestFirst rs) (fun r (d : Dev) => d.railDrop r) d

/-- Enable rails in ascending order. -/
def Dev.enableRails (d : Dev) (rs : List Nat) : Dev := each rs (fun r (d : Dev) => d.railRaise r) d

/-! ## Dependants-only shutdown (R468) -/

/-- The rails of a shutdown's present depth are disabled at once and marked shed. -/
def Dev.shedRails (d : Dev) (rs : List Nat) : Dev :=
  each rs (fun r (d : Dev) => if d.railOn r then (d.putWbit SEQ_SHED_shed r true).railDrop r else d) d

/-- Show whether a shutdown is in progress. -/
def Dev.shutdownBusy (d : Dev) : Dev := d.putB SEQ_SHED_ROOT_busy (!d.seq.shutdowns.isEmpty)

/-- A shutdown takes its next depth: the greatest that is left. -/
def Dev.shutdownStep (d : Dev) (x : Shutdown) : Dev :=
  let k := x.left.foldl (fun (a : Nat) e => max a e.2) 0
  let now := (x.left.filter fun e => e.2 == k).map (·.1)
  let x' : Shutdown := { x with left := x.left.filter fun e => e.2 != k, depth := k }
  let others := d.seq.shutdowns.filter fun y => y.root != x.root
  let d := { d with seq := { d.seq with shutdowns := others ++ [x'] } }
  (d.shedRails now).shutdownBusy

/-- Rails that already belong to a shutdown in progress. -/
def Dev.inShutdown (d : Dev) (r : Nat) : Bool := d.seq.shutdowns.any fun x => x.left.any fun e => e.1 == r

/-- The dependant set of rail R is shut down, deepest first; rails that belong to another shutdown are left to it. -/
def Dev.startShutdown (d : Dev) (r : Nat) : Dev :=
  let set := d.dependantSet r
  let d := (((d.put SEQ_SHED_ROOT_root r).put SEQ_SHED_ROOT_count set.length).pageIrq 0x00A 2)
  let mine := (d.depths set).filter fun e => !d.inShutdown e.1
  let more := (d.seq.shutdowns.filter fun x => x.root == r).flatMap (·.left)
  if mine.isEmpty then d else d.shutdownStep ⟨r, more ++ mine, 0⟩

/-- `SHUTDOWN_DEPTH_ADVANCE` (R468): the depth of R's shutdown has lost good, or 1 ms has passed. -/
def execShutdownDepthAdvance (root : Nat) (s : State) :=
  onDev (fun d =>
    match d.seq.shutdowns.find? fun x => x.root == root with
    | some x =>
      if x.left.isEmpty then
        ({ d with seq := { d.seq with shutdowns := d.seq.shutdowns.filter fun y => y.root != root } }).shutdownBusy
      else d.shutdownStep x
    | none => d) s

/-! ## Good (R465, R469) -/

/-- `RAIL_GOOD` (R464): an enabled rail becomes good, and is running. With D12 come the banks: in IDLE, or in TRIPPED while class 4
is latched (R113, R229); with D15 what its page shows of the channels and of the regions. -/
def execRailGood (rail : Nat) (s : State) :=
  onDev (fun d =>
    if rail < 96 ∧ d.railOn rail ∧ !d.railGood rail then
      let d := d.putWbit SEQ_RAIL_GOOD_good rail true
      let d := ({ d with seq := { d.seq with running := setBit d.seq.running rail } }).rejudge
      if rail = 7 then d.twnStart true else if rail = 5 then d.pdStart
      else if rail = 12 then d.banksUp
      else if rail = 15 then d.memUp
      else d
    else d) s

/-- The loops a domain draws from (R441). -/
def feeders (r : Nat) : List Nat :=
  if r = 7 ∨ (32 ≤ r ∧ r ≤ 63) then [0, 1] else if r = 9 ∨ r = 10 then [0, 3] else if r = 11 then [0, 1, 2]
  else if (12 ≤ r ∧ r ≤ 14) ∨ (24 ≤ r ∧ r ≤ 31) then [0] else if 15 ≤ r ∧ r ≤ 23 then [0, 2] else []

/-- A loss of good is explained (R469): by a rail it depends on, or by a loop that feeds it. -/
def Dev.explained (d : Dev) (r : Nat) : Bool :=
  (d.deps r).any (fun x => !d.railGood x) ||
    (feeders r).any fun l => d.loopState l == 0 || d.loopState l == 5 || d.loopState l == 6

/-- A running rail loses good (R465, R468, R469). -/
def Dev.lossOfGood (d : Dev) (r : Nat) : Dev :=
  if !d.railRunning r || !d.railGood r || decide (r = 0) || decide (r = 2) then d
  else
    let why := d.explained r
    let d := (((d.putWbit SEQ_RAIL_GOOD_good r false).bumpS SEQ_PG_LOST_count SEQ_PG_LOST_sat).pageIrq 0x00A 3)
    let d := if 64 ≤ r then d.irqEdge (96 + (r - 64)) else d
    let d := d.domainOff r
    (if why then d else d.raise F_RAIL_LOST 0x00A r).startShutdown r

/-- `LOSS_OF_GOOD` (R465). -/
def execLossOfGood (rail : Nat) (s : State) := onDev (fun d => if rail < 96 then d.lossOfGood rail else d) s

/-! ## Commands (R479) -/

/-- The rail of `RAIL_ON` and `RAIL_OFF`. -/
def cmdRail (c : Cmd) : Nat := bits c.arg 0 7

/-- The argument names no switchable rail, or has another bit. -/
def railBadArg (c : Cmd) : Bool := bits c.arg 7 17 != 0 || decide (95 < cmdRail c) || cmdRail c == 0 || cmdRail c == 2

/-- `RAIL_ON`. -/
def railOnCmd : CmdDef where
  verdict _ c d :=
    { Verdict.ok with denied := d.denies c scopeOPS, badArg := railBadArg c, badState := d.enableBad [cmdRail c], priv := true }
  effect _ c n d := (d.enableRails [cmdRail c]).done n

/-- `RAIL_OFF`. -/
def railOffCmd : CmdDef where
  verdict _ c d :=
    { Verdict.ok with denied := d.denies c scopeOPS, badArg := railBadArg c, badState := d.disableBad [cmdRail c], priv := true }
  effect _ c n d := (d.disableRails [cmdRail c]).done n

/-- `RAIL_ON` (R479). -/
def execRailOn (c : Cmd) (s : State) := onDev (fun d => d.cmd 0x00A 3 railOnCmd c) s
/-- `RAIL_OFF` (R479). -/
def execRailOff (c : Cmd) (s : State) := onDev (fun d => d.cmd 0x00A 4 railOffCmd c) s

end Sys2Proof.Machine
end

