-- ==== Sys2Proof/Machine/Recipes.lean ====
section
/-!
DEFINITION. Machine/Recipes.lean: the recipe book, the two recipe engines and their steps (R470–R480).
-/
namespace Sys2Proof.Machine

/-! ## The recipe book (R472, R476) -/

/-- Word k of a slot. -/
def Dev.bookWord (d : Dev) (slot k : Nat) : Nat := d.seq.book.get (slot * 0x1200 + 4 * k) 0

/-- A recipe as an engine loads it: its steps and its masks. -/
structure Recipe where
  steps : List Nat
  masks : List Nat
  deriving DecidableEq, Repr

/-- The slot's recipe, its header and its check passed over. -/
def Dev.bookRecipe (d : Dev) (slot len : Nat) : Recipe :=
  { steps := (List.range len).map fun k => d.bookWord slot (64 + k)
    masks := (List.range 16).map fun m =>
      d.bookWord slot (4 + 3 * m) + 2 ^ 32 * d.bookWord slot (5 + 3 * m) + 2 ^ 64 * d.bookWord slot (6 + 3 * m) }

/-- Opcode of a step. -/
def stepOp (w : Nat) : Nat := bits w 28 4

/-- The condition's argument is in its range (R474). -/
def checkArgOk (cond arg : Nat) : Bool :=
  if cond = 1 ∨ cond = 2 then decide (arg ≤ 95) else if cond = 3 then decide (arg ≤ 3)
  else if cond = 4 ∨ cond = 5 ∨ cond = 7 ∨ cond = 8 then arg == 0
  else if cond = 6 then decide (arg ≤ 4) else if cond = 9 then decide (arg ≤ 15) else decide (cond = 10 ∧ arg ≤ 31)

/-- A step is well-formed within a recipe of `len` steps (R473, R476). -/
def stepOk (len w : Nat) : Bool :=
  let op := stepOp w
  if op = 0 then bits w 17 11 == 0
  else if op = 1 ∨ op = 2 then
    bits w 7 20 == 0 &&
      (if bit w 27 then bits w 4 3 == 0 else decide (bits w 0 7 ≤ 95) && bits w 0 7 != 0 && bits w 0 7 != 2)
  else if op = 3 then true
  else if op = 4 then decide (bits w 14 10 < len)
  else if op = 5 then checkArgOk (bits w 22 6) (bits w 10 11) && decide (bits w 0 10 < len)
  else if op = 6 then bits w 10 18 == 0 && decide (bits w 0 10 < len)
  else if op = 7 then
    !bit w 10 && (bits w 11 9 == 0x1FF || decide (bits w 11 9 ≤ lastCode (bits w 20 2))) && decide (bits w 0 10 < len)
  else if op = 8 then bits w 16 12 == 0
  else false

/-- Load and check a slot (R476). -/
def Dev.loadRecipe (d : Dev) (slot : Nat) : Option Recipe :=
  let h := d.bookWord slot 0
  let len := bits h 16 16
  if bits h 0 16 ≠ 1 ∨ len = 0 ∨ 1024 < len then none
  else
    let r := d.bookRecipe slot len
    let words := (List.range (62 + len)).map fun k => d.bookWord slot (2 + k)
    if crc32 (words.flatMap (leBytes 4)) = d.bookWord slot 1 ∧ r.steps.all (stepOk len) then some r else none

/-! ## Engines (R470, R478) -/

/-- Engine e's hidden state. -/
def Dev.eng (d : Dev) (e : Nat) : Engine := if e = 0 then d.seq.eng0 else d.seq.eng1

/-- Write engine e's hidden state. -/
def Dev.putEng (d : Dev) (e : Nat) (x : Engine) : Dev :=
  { d with seq := if e = 0 then { d.seq with eng0 := x } else { d.seq with eng1 := x } }

/-- Engine e's state: IDLE 0, RUNNING 1, WAITING 2. -/
def Dev.engState (d : Dev) (e : Nat) : Nat := d.get SEQ_ENG_STATUS_state e

/-- The step in progress of engine e; words past the recipe are zero. -/
def Dev.engStep (d : Dev) (e : Nat) : Nat := (d.eng e).steps.getD (d.get SEQ_ENG_STATUS_pc e) 0

/-- The rails of a mask of engine e's recipe. -/
def Dev.maskRails (d : Dev) (e m : Nat) : List Nat := bitList 96 ((d.eng e).masks.getD m 0)

/-- A run begins at step 0 (R470): `purpose` and `cmd` are what the run is for and the command ticket it closes. -/
def Dev.startRun (d : Dev) (e slot purpose cmd n : Nat) (r : Recipe) : Dev :=
  let d := ((d.put SEQ_ENG_STATUS_state 1 e).put SEQ_ENG_STATUS_recipe slot e).put SEQ_ENG_STATUS_pc 0 e
  let d := (d.bumpS SEQ_ENG_RUNS_count SEQ_ENG_RUNS_sat e).put SEQ_ENG_STEP_word (r.steps.getD 0 0) e
  let d := d.putEng e { Engine.init with steps := r.steps, masks := r.masks, tkt := n, purpose := purpose, cmdTkt := cmd }
  (d.ticketTotal n r.steps.length).progress n 0

/-- What follows the end of a run that the power-state logic started: `how` is the run's last_end, `res` its last_result;
0 and a code for a run that was refused (R545, R551, R555). Purposes: 1 `POWER_UP`, 2 `POWER_DOWN`, 3 `HIBERNATE`, 4 `WAKE`,
5 `REBOOT`. -/
def Dev.runEnded (d : Dev) (purpose cmd how res : Nat) : Dev :=
  let ok := how == 1
  if purpose = 1 then
    let d := d.put PWR_PS_LAST_UP_ms (min ((d.time - d.pwr.d00At) / 3_276_800) 0xFFFF)
    let d := if ok then d.done cmd else d.partialDone cmd
    let d := { d with pwr := { d.pwr with upTkt := 0 } }
    if how = 2 ∨ how = 0 then ({ d with pwr := { d.pwr with upFailed := true } }).pageIrq 0x009 6 else d
  else if purpose = 2 then
    if ok then d.done cmd else ((d.partialDone cmd).ticketDetail cmd (16 * how + res)).pageIrq 0x009 6
  else if purpose = 3 then (if how = 0 then d.pageIrq 0x009 6 else d)
  else if purpose = 4 then
    let d := { d with wake := 3 }
    if how = 0 then d.pageIrq 0x009 6 else d
  else if purpose = 5 then d.rebootSeal
  else d

/-- Engine e's run ends: last_end, last_result and the closing of its ticket (R470, R473); a `SETVID` that
waits for its ticket goes with it. -/
def Dev.endRun (d : Dev) (e how res st : Nat) (seq : Nat := 0) : Dev :=
  let x := d.eng e
  let d := ((d.put SEQ_ENG_STATUS_state 0 e).put SEQ_ENG_STATUS_last_end how e).put SEQ_ENG_STATUS_last_result res e
  let d := { d with tkt := { d.tkt with held := d.tkt.held.filter fun h => h.cmd.ch != 2 + e } }
  let d := ((d.close x.tkt st seq).putEng e { Engine.init with steps := x.steps, masks := x.masks }).pageIrq 0x00A e
  if x.purpose = 0 then d else d.runEnded x.purpose x.cmdTkt how res

/-- A note goes to the run ticket's detail and to `SEQ_ENG_NOTE` (R473). -/
def Dev.noteRun (d : Dev) (e note : Nat) : Dev := (d.ticketDetail (d.eng e).tkt note).put SEQ_ENG_NOTE_note note e

/-- The step in progress is complete: the run ticket counts it, and the run goes on at `target`; past step 1,023 it halts. -/
def Dev.goTo (d : Dev) (e target : Nat) : Dev :=
  let x := d.eng e
  let d := (d.put SEQ_ENG_STATUS_state 1 e).progress x.tkt (d.get SEQ_ENG_STATUS_pc e + 1)
  let d := d.putEng e { x with waiting := 0, waitMask := 0, target := 0, loopTkt := 0, waitEnd := 0 }
  if 1024 ≤ target then (d.noteRun e 0).endRun e 1 0 4
  else (d.put SEQ_ENG_STATUS_pc target e).put SEQ_ENG_STEP_word (x.steps.getD target 0) e

/-- On to the next step. -/
def Dev.nextStep (d : Dev) (e : Nat) : Dev := d.goTo e (d.get SEQ_ENG_STATUS_pc e + 1)

/-- A refused step ends the run (R476). -/
def Dev.refuseStep (d : Dev) (e res : Nat) : Dev := d.endRun e 4 res 3

/-- Engine e is at a step with this opcode. -/
def Dev.atStep (d : Dev) (e op : Nat) : Bool := decide (e < 2) && d.engState e == 1 && stepOp (d.engStep e) == op

/-- Microseconds in `Dev.time`. -/
def usTime (us : Nat) : Nat := us * 16_384 / 5

/-- Engine e waits (R470): 1 `WAIT`, 2 `WAITPG`, 3 `SETVID`. -/
def Dev.waitStep (d : Dev) (e kind mask target us : Nat) : Dev :=
  let x := d.eng e
  (d.put SEQ_ENG_STATUS_state 2 e).putEng e
    { x with waiting := kind, waitMask := mask, target := target, waitEnd := d.time + usTime us }

/-! ## Steps (R473, R474) -/

/-- `HALT`. -/
def Dev.stepHalt (d : Dev) (e : Nat) : Dev :=
  let w := d.engStep e
  let fail := bit w 16
  let d := (d.noteRun e (bits w 0 16)).progress (d.eng e).tkt (d.get SEQ_ENG_STATUS_pc e + 1)
  d.endRun e (if fail then 2 else 1) 0 (if fail then 3 else 4)

/-- The rails an `ENABLE` or `DISABLE` step names. -/
def Dev.stepRails (d : Dev) (e w : Nat) : List Nat := if bit w 27 then d.maskRails e (bits w 0 4) else [bits w 0 7]

/-- `ENABLE`. -/
def Dev.stepEnable (d : Dev) (e : Nat) : Dev :=
  let rs := d.stepRails e (d.engStep e)
  if d.enableBad rs then d.refuseStep e rBadState else (d.enableRails rs).nextStep e

/-- `DISABLE`. -/
def Dev.stepDisable (d : Dev) (e : Nat) : Dev :=
  let rs := d.stepRails e (d.engStep e)
  if d.disableBad rs then d.refuseStep e rBadState else (d.disableRails rs).nextStep e

/-- `WAITPG`'s interval in µs. -/
def waitpgUs (w : Nat) : Nat := bits w 0 12 * [1, 10, 100, 1000].getD (bits w 12 2) 1

/-- A `WAITPG` times out: `PG_TIMEOUT` names the lowest rail that is not good; its containment shuts down that rail's
dependant set; the run goes on at the target (R473). -/
def Dev.pgTimeout (d : Dev) (e : Nat) (rails : List Nat) (target : Nat) : Dev :=
  match rails.find? fun r => !d.railGood r with
  | none => d.nextStep e
  | some r =>
    let before := d.nextSeq
    let d := (d.pageIrq 0x00A 4).raise F_PG_TIMEOUT 0x00A r
    let d := if d.nextSeq ≠ before then d.startShutdown r else d
    d.goTo e target

/-- `WAITPG`: a count of 0 judges once. -/
def Dev.stepWaitpg (d : Dev) (e : Nat) : Dev :=
  let w := d.engStep e
  let rs := d.maskRails e (bits w 24 4)
  if rs.all fun r => d.railGood r then d.nextStep e
  else if bits w 0 12 = 0 then d.pgTimeout e rs (bits w 14 10)
  else d.waitStep e 2 (bits w 24 4) (bits w 14 10) (waitpgUs w)

/-- A `CHECK` condition (R474). -/
def Dev.checkHolds (d : Dev) (cond arg : Nat) : Bool :=
  if cond = 1 then d.railOn arg else if cond = 2 then d.railGood arg
  else if cond = 3 then d.loopState arg == 3
  else if cond = 4 then d.flag PWR_STATUS_vin_ok else if cond = 5 then d.flag PWR_STATUS_vbus_ok
  else if cond = 6 then d.latched arg else if cond = 7 then d.k03
  else if cond = 8 then d.flag OTP_STATUS_restrictive
  else if cond = 9 then bit (d.get SEQ_FLAGS_flags) arg
  else d.flag LNK_GRP_STATUS_otp_enabled arg

/-- `CHECK`. -/
def Dev.stepCheck (d : Dev) (e : Nat) : Dev :=
  let w := d.engStep e
  if d.checkHolds (bits w 22 6) (bits w 10 11) != bit w 21 then d.goTo e (bits w 0 10) else d.nextStep e

/-- `HALT` (R473). -/
def execRecipeHalt (e : Nat) (s : State) := onDev (fun d => if d.atStep e 0 then d.stepHalt e else d) s
/-- `ENABLE` (R473). -/
def execRecipeEnable (e : Nat) (s : State) := onDev (fun d => if d.atStep e 1 then d.stepEnable e else d) s
/-- `DISABLE` (R473). -/
def execRecipeDisable (e : Nat) (s : State) := onDev (fun d => if d.atStep e 2 then d.stepDisable e else d) s
/-- `WAIT` (R473): 0 is one handshake pass. -/
def execRecipeWait (e : Nat) (s : State) :=
  onDev (fun d =>
    if d.atStep e 3 then
      (if bits (d.engStep e) 0 28 = 0 then d.nextStep e else d.waitStep e 1 0 0 (bits (d.engStep e) 0 28))
    else d) s
/-- `WAIT_EXPIRY` (R471). -/
def execWaitExpiry (e : Nat) (s : State) :=
  onDev (fun d => if d.engState e = 2 ∧ (d.eng e).waiting = 1 then d.nextStep e else d) s
/-- `WAITPG` (R473). -/
def execRecipeWaitPg (e : Nat) (s : State) := onDev (fun d => if d.atStep e 4 then d.stepWaitpg e else d) s
/-- `WAITPG_SATISFIED` (R471): every rail of the mask is good. -/
def execWaitpgSatisfied (e : Nat) (s : State) :=
  onDev (fun d =>
    if d.engState e = 2 ∧ (d.eng e).waiting = 2 ∧ (d.maskRails e (d.eng e).waitMask).all (fun r => d.railGood r)
    then d.nextStep e else d) s
/-- `WAITPG_TIMEOUT` (R473). -/
def execWaitpgTimeout (e : Nat) (s : State) :=
  onDev (fun d =>
    if d.engState e = 2 ∧ (d.eng e).waiting = 2 then d.pgTimeout e (d.maskRails e (d.eng e).waitMask) (d.eng e).target else d) s
/-- `CHECK` (R474). -/
def execRecipeCheck (e : Nat) (s : State) := onDev (fun d => if d.atStep e 5 then d.stepCheck e else d) s
/-- `JUMP` (R473). -/
def execRecipeJump (e : Nat) (s : State) :=
  onDev (fun d => if d.atStep e 6 then d.goTo e (bits (d.engStep e) 0 10) else d) s
/-- `MARK` (R473). -/
def execRecipeMark (e : Nat) (s : State) :=
  onDev (fun d => if d.atStep e 8 then (d.noteRun e (bits (d.engStep e) 0 16)).nextStep e else d) s

/-! ## `SETVID` (R448, R475) -/

/-- A ticket's state. -/
def Dev.ticketState (d : Dev) (n : Nat) : Nat := match d.ticketAt n with
  | some (_, t) => t.state
  | none => 0

/-- What a recipe's loop command is refused with, or OK (R448): START in `OFF` and `FAULT`, SETVID in `RUN`, `STOP` for
code 0x1FF. -/
def Dev.recipeLoopVerdict (d : Dev) (l code : Nat) : Verdict :=
  let off := !d.railGood 8
  if code = 0x1FF then { Verdict.ok with badState := off || d.loopState l == 0 }
  else if d.loopState l = 3 then
    { Verdict.ok with badState := off || d.setvidBad l, total := d.setvidTotal l code }
  else { Verdict.ok with badState := off || d.startBad l }

/-- The command's effect. -/
def Dev.recipeLoopDo (d : Dev) (l code n : Nat) : Dev :=
  if code = 0x1FF then (d.loopStop l).done n
  else if d.loopState l = 3 then d.loopSetvid l code n
  else (d.loopStart l code n).progress n 0

/-- The loop command's ticket has closed (state 3 to 5): DONE goes on, the others go to the target (R475). -/
def Dev.setvidResume (d : Dev) (e n target : Nat) : Dev :=
  if d.ticketState n = 4 then d.nextStep e else d.goTo e target

/-- `SETVID` is judged and taken: a refused command ends the run; with a timeout the engine waits for the ticket. -/
def Dev.stepSetvid (d : Dev) (e : Nat) : Dev :=
  let w := d.engStep e
  let l := bits w 20 2
  let code := bits w 11 9
  let v := d.recipeLoopVerdict l code
  let r := d.verdictResult 0x00B v
  if r ≠ rOK then ((if r = rBusy then d.busyCounts 0x00B v else d).report 0x00B (2 + e) r 0).refuseStep e r
  else
    let op := if code = 0x1FF then 2 else if d.loopState l = 3 then 3 else 1
    let (n, d) := d.issue (2 + e) 0x00B op (l + 256 * (if code = 0x1FF then 0 else code)) v.total
    let d := (d.report 0x00B (2 + e) rOK n).recipeLoopDo l code n
    if bits w 22 6 = 0 then d.nextStep e
    else if 3 ≤ d.ticketState n then d.setvidResume e n (bits w 0 10)
    else
      let d := d.waitStep e 3 0 (bits w 0 10) (2000 * bits w 22 6)
      d.putEng e { d.eng e with loopTkt := n, loop := l }

/-- The `SETVID` step in its turn: a `STOP` of a loop whose controller has no supply has nothing left to do (R556). -/
def Dev.stepLoopNow (d : Dev) (e : Nat) : Dev :=
  if bits (d.engStep e) 11 9 = 0x1FF ∧ !d.railGood 8 then d.nextStep e else d.stepSetvid e

/-- The `SETVID` step: behind commands that wait for their tickets, or too soon after the last, it waits too (R118). -/
def Dev.stepLoop (d : Dev) (e : Nat) : Dev :=
  if d.ownHeld (2 + e) e then d
  else if d.spaced then d.stepLoopNow e
  else d.holdOwn 0x00B (2 + e) e 0

/-- `RECIPE_SETVID` (R475). -/
def execRecipeSetvid (e : Nat) (s : State) := onDev (fun d => if d.atStep e 7 then d.stepLoop e else d) s

/-- Engine e waits for a loop command. -/
def Dev.waitsSetvid (d : Dev) (e : Nat) : Bool := d.engState e == 2 && (d.eng e).waiting == 3

/-- `SETVID_STEP_RESUME` (R475). -/
def execSetvidStepResume (e : Nat) (s : State) :=
  onDev (fun d =>
    let x := d.eng e
    if d.waitsSetvid e && decide (3 ≤ d.ticketState x.loopTkt) then d.setvidResume e x.loopTkt x.target else d) s

/-- The loop command that engine e waits for is abandoned, unless its ticket has closed or passed to another command. -/
def Dev.abandonSetvid (d : Dev) (e : Nat) : Dev :=
  let x := d.eng e
  if d.waitsSetvid e && decide (d.ticketState x.loopTkt < 3) && (d.loop x.loop).tkt == x.loopTkt then d.loopAbandon x.loop else d

/-- `SETVID_TIMEOUT` (R475, R480): a ticket that has closed stands. -/
def execSetvidTimeout (e : Nat) (s : State) :=
  onDev (fun d =>
    let x := d.eng e
    if !d.waitsSetvid e then d
    else if 3 ≤ d.ticketState x.loopTkt then d.setvidResume e x.loopTkt x.target
    else (d.abandonSetvid e).goTo e x.target) s

/-! ## Runs (R476, R477, R479) -/

/-- An `ABORT`: the run's ticket closes `PARTIAL`, and a waiting SETVID is abandoned. -/
def Dev.abortRun (d : Dev) (e : Nat) : Dev := (d.abandonSetvid e).endRun e 3 0 3

/-- `RUN`. -/
def seqRun : CmdDef where
  verdict _ c d :=
    { Verdict.ok with
      denied := d.denies c scopeOPS
      badArg := bits c.arg 5 19 != 0 || (d.loadRecipe (bits c.arg 0 4)).isNone
      badState := d.engState (bits c.arg 4 1) != 0
      priv := true }
  effect _ c n d :=
    match d.loadRecipe (bits c.arg 0 4) with
    | some r => d.startRun (bits c.arg 4 1) (bits c.arg 0 4) 0 0 n r
    | none => d

/-- `ABORT`. -/
def seqAbort : CmdDef where
  verdict _ c d :=
    { Verdict.ok with
      denied := d.denies c scopeOPS
      badArg := bits c.arg 0 4 != 0 || bits c.arg 5 19 != 0
      badState := d.engState (bits c.arg 4 1) == 0
      priv := true }
  effect _ c n d := (d.abortRun (bits c.arg 4 1)).done n

/-- `SEQ_RUN` (R479). -/
def execSeqRun (c : Cmd) (s : State) := onDev (fun d => d.cmd 0x00A 1 seqRun c) s
/-- `SEQ_ABORT` (R479). -/
def execSeqAbort (c : Cmd) (s : State) := onDev (fun d => d.cmd 0x00A 2 seqAbort c) s

/-- The run of a device recipe on engine 0 is judged and taken, on ticket channel 4; a refused run is not made (R472, R479, R551). -/
def Dev.runNow (d : Dev) (slot purpose cmd : Nat) : Dev :=
  let v : Verdict := { Verdict.ok with badArg := (d.loadRecipe slot).isNone, badState := d.engState 0 != 0 }
  let r := d.verdictResult 0x00A v
  match d.loadRecipe slot with
  | some x =>
    if r = rOK then
      let (n, d) := d.issue 4 0x00A 1 slot 1
      (d.report 0x00A 4 rOK n).startRun 0 slot purpose cmd n x
    else ((if r = rBusy then d.busyCounts 0x00A v else d).report 0x00A 4 r 0).runEnded purpose cmd 0 r
  | none => (d.report 0x00A 4 r 0).runEnded purpose cmd 0 r

/-- The power-state logic has a device recipe run once its ticket can be issued: behind commands that wait, or 5 µs after the ticket of the
command that asked for it (R118). -/
def Dev.deviceRun (d : Dev) (slot purpose cmd : Nat) : Dev :=
  if d.spaced then d.runNow slot purpose cmd else d.holdOwn 0x00A 4 purpose (slot + 16 * cmd)

/-- A held command of the device's own is taken. -/
def Dev.takeOwn (d : Dev) (h : HeldCmd) : Dev :=
  if h.page = 0x00A then d.runNow (h.cmd.arg % 16) h.cmd.inst (h.cmd.arg / 16)
  else if h.page = 0x006 then d.descTake h.cmd.inst h.cmd.arg
  else if d.atStep h.cmd.inst 7 then d.stepLoopNow h.cmd.inst
  else d

/-- Run tickets of the engines that are not idle. -/
def Dev.runTickets (d : Dev) : List Nat :=
  ([0, 1].filter fun e => d.engState e != 0).map fun e => (d.eng e).tkt

/-- `SEQ_TIMER_MISMATCH` (R477): both engines stop; their tickets carry the fault's sequence number. -/
def Dev.seqMismatch (d : Dev) : Dev :=
  let seq := d.nextSeq
  let busy := [0, 1].filter fun e => d.engState e != 0
  let d := each busy (fun e (d : Dev) => d.abandonSetvid e) d
  let d := d.raiseWith F_SEQ_TIMER_MISMATCH 0x00A 0 0 d.runTickets false
  each busy (fun e (d : Dev) => d.endRun e 5 0 5 seq) d

/-- `SEQ_TIMER_MISMATCH` (R477). -/
def execSeqTimerMismatch (s : State) := onDev (fun d => d.seqMismatch) s

end Sys2Proof.Machine
end

