-- ==== Sys2Proof/Machine/Supply.lean ====
section
/-!
DEFINITION. Machine/Supply.lean: supply inputs, the charger, the power warning and input collapse (R422–R439), and the
standing judgement whether a `POWER_UP` run is asked for (R545).
-/
namespace Sys2Proof.Machine

/-! ## The power-up request (R545) -/

/-- Step 4 of the cold start is complete: `START` has been appended, and no identity waits (R544, R545). -/
def Dev.step4 (d : Dev) : Bool :=
  d.pwr.booted && !(d.ldg.queue.any fun r => r.kind == 0x01) && !(d.isl.entropyWait.any fun w => w.1 == 2)

/-- Something asks for a `POWER_UP` run: an accepted command, or auto_up while the hub is down, unless a run has failed or been made. -/
def Dev.upAsked (d : Dev) : Bool :=
  d.pwr.booted && (d.pwr.upCmd || (!d.hubUp && !d.pwr.upStarted && d.flag PWR_PS_CFG_auto_up && !d.pwr.upFailed))

/-- Show whether a run is asked for. -/
def Dev.upJudge (d : Dev) : Dev :=
  let d := if d.hubUp then { d with pwr := { d.pwr with upStarted := false } } else d
  d.putB PWR_PSTATE_up_pending d.upAsked

/-! ## The charger (R427–R434) -/

/-- The charger's state: OFF 0, DETECT 1, PRECHARGE 2, FAST 3, TAPER 4, DONE 5, TEMP_HOLD 6, BATTERYLESS 7, STOPPED 8. -/
def Dev.chg (d : Dev) : Nat := d.get PWR_STATUS_chg_state

/-- Charging states: those in which the safety timer advances (R429). -/
def charging (s : Nat) : Bool := decide (2 ≤ s ∧ s ≤ 4)

/-- A command that ran through `DETECT` is `DONE` when `DETECT` ends (R438). -/
def Dev.chgClose (d : Dev) : Dev := { d.done d.pwr.chgTkt with pwr := { d.pwr with chgTkt := 0 } }

/-- The converter brings the node to a level that the spec gives within so many thousandths: a free value between the two. -/
def Dev.nodeHeld (d : Dev) (mv tol : Nat) : Dev :=
  let (r, d) := d.free
  d.put PWR_NODE_mv (clamp (mv - mv * tol / 1_000) (mv + mv * tol / 1_000) r)

/-- The float voltage, mV (R427). -/
def Dev.floatMv (d : Dev) : Nat := if d.flag PWR_CHG_CFG_float then 4200 else 4100

/-- The charger takes a state (R428, R434, R437); `cause` is the stop_cause of `STOPPED`. `TAPER` holds the node at float within 0.5 %,
`BATTERYLESS` at 3.90 V within 1 % (R427). -/
def Dev.chgEnter (d : Dev) (s cause : Nat) : Dev :=
  let was := d.chg
  if was = s then d
  else
    let d := (((d.put PWR_STATUS_chg_state s).put PWR_STATUS_stop_cause (if s = 8 then cause else 0)).putB PWR_CHG_TIMER_running
      (charging s)).pageIrq 0x009 0
    let d := if was = 1 then d.chgClose else d
    let d := if s = 4 then d.nodeHeld d.floatMv 5 else if s = 7 then d.nodeHeld 3_900 10 else d
    let d := d.putB PWR_STATUS_batteryless (s == 7)
    if s = 7 then (d.pageIrq 0x009 2).raise F_CELL_MISSING 0x009 0 else d

/-- A new cycle clears the safety timer and takes its limit (R428, R429). -/
def Dev.newCycle (d : Dev) : Dev :=
  let d := (d.put PWR_CHG_TIMER_count 0).put PWR_CHG_TIMER_half_speed 0
  { d with pwr := { d.pwr with sub := 0, sub4 := 0, count4 := 0, timerH := d.get PWR_CHG_CFG_timer_h } }

/-- Charging is enabled: restrictive defaults read it as 0 (R433). -/
def Dev.chgEn (d : Dev) : Bool := d.flag PWR_CHG_CFG_en && !d.flag OTP_STATUS_restrictive

/-- Entry to `DETECT`, with the state before `TEMP_HOLD` when it comes from there. -/
def Dev.chgDetect (d : Dev) (held : Nat) : Dev := { d with pwr := { d.pwr with heldFrom := held } }.chgEnter 1 0

/-- The charger is judged against its enable and input (R428, R433): off without them, `DETECT` from `OFF` with both. -/
def Dev.chgJudge (d : Dev) : Dev :=
  if !(d.flag PWR_STATUS_vin_ok && d.chgEn) then d.chgEnter 0 0
  else if d.chg = 0 then d.chgDetect 0
  else d

/-- A present cell: where `DETECT` goes by the node's voltage (R428). -/
def Dev.cellPresent (d : Dev) (node : Nat) : Dev :=
  let held := d.pwr.heldFrom
  let d := { d with pwr := { d.pwr with heldFrom := 0 } }
  if charging held then
    d.chgEnter (if node < 3000 then 2 else if node < d.floatMv - 100 then 3 else 4) 0
  else if node < 3000 then d.newCycle.chgEnter 2 0
  else if node < d.floatMv - 100 then d.newCycle.chgEnter 3 0
  else d.chgEnter 5 0

/-- The power warning (R435): `SHUTDOWN` and an early seal (R357); a second warning before the first has cleared has no
further effect. -/
def Dev.powerWarning (d : Dev) : Dev :=
  if d.flag PWR_STATUS_warning then d
  else
    let d := (d.put PWR_STATUS_warning 1).pageIrq 0x009 1
    if d.railGood 1 then d.ldgShutdown 1 else d

/-- The warning clears with a valid input and the node above v_warn + 100 mV (R435). -/
def Dev.warnSettle (d : Dev) : Dev :=
  if (d.flag PWR_STATUS_vin_ok || d.flag PWR_STATUS_vbus_ok) && decide (d.get PWR_WARN_CFG_v_warn + 100 < d.get PWR_NODE_mv)
  then d.put PWR_STATUS_warning 0 else d

/-- What feeds the node (R422): `VIN_AUX`; without it `VBUS`, once the node has come down to 3.40 V; else the cell. The start regulator
hands over to the path that takes the node (R425). -/
def Dev.sourceSettle (d : Dev) : Dev :=
  let s := if d.flag PWR_STATUS_vin_ok then 1 else if d.flag PWR_STATUS_vbus_ok && decide (d.get PWR_NODE_mv ≤ 3_400) then 2 else 0
  let d := d.put PWR_STATUS_source s
  if s = 0 then d else { d with pwr := { d.pwr with starter := false } }

/-- A pulse test ends (R430): the node's rise and its voltage after, mV. -/
def Dev.pulseEnd (d : Dev) (rise peak node : Nat) : Dev :=
  if d.chg ≠ 1 then d
  else
    let d := ((d.put PWR_PULSE_rise rise).bump PWR_PULSE_tests).put PWR_NODE_mv node
    if 150 ≤ rise ∨ 4300 ≤ peak then d.chgEnter 7 0 else d.cellPresent node

/-- `PULSE_TEST_END` (R430): the node's rise, its peak and its voltage afterwards, in mV. -/
def execPulseTestEnd (rise peak node : Nat) (s : State) := onDev (fun d => (d.pulseEnd rise peak node).warnSettle) s

/-- `PULSE_TEST_PERIODIC` (R430). -/
def execPulseTestPeriodic (s : State) := onDev (fun d => if d.chg = 5 ∨ d.chg = 7 then d.chgDetect 0 else d) s

/-- `PRECHARGE_COMPLETE` (R428). -/
def execPrechargeComplete (s : State) := onDev (fun d => if d.chg = 2 then d.chgEnter 3 0 else d) s

/-- `PRECHARGE_TIMEOUT` (R428): `STOPPED` with cause 3, and `CELL_SHORTED`. -/
def execPrechargeTimeout (s : State) :=
  onDev (fun d => if d.chg = 2 then (d.chgEnter 8 3).raise F_CELL_SHORTED 0x009 0 else d) s

/-- `FLOAT_REACHED` (R428). -/
def execFloatReached (s : State) :=
  onDev (fun d => if d.chg = 3 then (d.chgEnter 4 0).warnSettle else d) s

/-- `RECHARGE` (R428): a new cycle. -/
def execRecharge (s : State) := onDev (fun d => if d.chg = 5 then d.newCycle.chgEnter 3 0 else d) s

/-- The cell's temperature leaves the charge window (R428, R431). -/
def Dev.chgTempOut (d : Dev) : Dev :=
  let was := d.chg
  if 2 ≤ was ∧ was ≤ 5 then { d with pwr := { d.pwr with heldFrom := was } }.chgEnter 6 0 else d

/-- Input regulation: `VIN_AUX` is below vin_reg, or its current reaches i_in_lim (R432). -/
def Dev.inputReg (d : Dev) : Bool :=
  decide (d.get PWR_VIN_mv < 100 * d.get PWR_CHG_REG_vin_reg) || decide (d.get PWR_CHG_REG_i_in_lim ≤ Config.vinCurrent d.time)

/-- Thermal regulation: the die temperature at the charger exceeds t_reg (R432). -/
def Dev.thermalReg (d : Dev) : Bool := decide ((d.get PWR_CHG_REG_t_reg : Int) < Config.chargerTemp d.time)

/-- A regulation reduces the cell current (R432). -/
def Dev.regulating (d : Dev) : Bool := d.inputReg || d.thermalReg

/-- The least and the most cell current of the charger's state without regulation, mA (R427, R430): i_chg within 10 % in `FAST`, at most
that in `TAPER`, the pulse in `DETECT`, and 0 where it is held at 0. -/
def Dev.cellSpan (d : Dev) : Int × Int :=
  let i : Int := (d.get PWR_CHG_CFG_i_chg : Nat)
  if d.chg = 1 then (0, 200)
  else if d.chg = 2 then (50, 50)
  else if d.chg = 3 then (9 * i, 11 * i)
  else if d.chg = 4 then (0, 11 * i)
  else (0, 0)

/-- The cell current in mA, positive into the cell. From `VIN_AUX`: what the charger's state asks for, reduced (never below 0) under
regulation; where the converter cannot carry the node load, the cell supplies the difference (R432). From `VBUS`: at most 50 mA
within the charge window, 0 ± 10 mA outside it (R424). From the start regulator: at most its 50 mA ± 20 % (R425). Else the cell carries
the node. Within these bounds it is what the supply measures. -/
def Dev.cellNow (d : Dev) : Int :=
  let m := toSigned 16 (Config.cellCurrent d.time)
  if d.flag PWR_STATUS_vin_ok then
    if 0 < Config.nodeShortfall d.time then -(min (Config.nodeShortfall d.time) 32_768 : Nat)
    else if d.regulating then clampI 0 d.cellSpan.2 m
    else clampI d.cellSpan.1 d.cellSpan.2 m
  else if d.get PWR_STATUS_source = 2 then (if d.flag PWR_STATUS_th_ok then clampI (-32_768) 50 m else clampI (-10) 10 m)
  else clampI (-32_768) (if d.pwr.starter then 60 else 0) m

/-- The `VBUS` path's input current in mA (R424): what is measured while it feeds the node, at most the service port's limit. -/
def Dev.vbusNow (d : Dev) : Nat :=
  if d.get PWR_STATUS_source = 2 then min (d.get PD_ILIM_ma) (Config.vbusCurrent d.time) else 0

/-- Half speed: regulation holds the cell current below 50 % of i_chg while the timer advances (R429, R432). -/
def Dev.halfSpeed (d : Dev) : Bool :=
  charging d.chg && d.regulating && decide (2 * d.cellNow < 10 * (d.get PWR_CHG_CFG_i_chg : Int))

/-- The safety timer's limit, counts. -/
def Dev.timerLimit (d : Dev) : Nat := d.pwr.timerH * 3600

/-- The safety timer expires (R429): `STOPPED` with cause 1, and `CHG_TIMER`. -/
def Dev.timerExpire (d : Dev) : Dev :=
  let d := { d with pwr := { d.pwr with expired := d.time + 1 } }
  ((d.put PWR_CHG_TIMER_count d.timerLimit).chgEnter 8 1).raise F_CHG_TIMER 0x009 0

/-- The timer's counters disagree (R429): `STOPPED` with cause 2, and the fault of that name on `THM`, whose code it carries. -/
def Dev.timerMismatch (d : Dev) : Dev := (d.chgEnter 8 2).raise F_CHG_TIMER_MISMATCH 0x00C 0

/-- The second in progress is the safety timer's last. -/
def Dev.timerLast (d : Dev) : Bool := charging d.chg && decide (d.timerLimit ≤ d.get PWR_CHG_TIMER_count + 1)

/-- What a count brings: the counters are compared, and the limit stops the charger (R429). -/
def Dev.timerJudge (d : Dev) : Dev :=
  let n := d.get PWR_CHG_TIMER_count
  if n + 1 < d.pwr.count4 ∨ d.pwr.count4 + 1 < n then d.timerMismatch
  else if d.timerLimit ≤ n then d.timerExpire
  else d

/-- 1/32768 s passes for the safety timer (R429): the counter that K04 steps goes on, and the one that K00 steps while that oscillator
runs, which `PWR_CHG_TIMER` shows. -/
def Dev.chgTick (d : Dev) : Dev :=
  if !charging d.chg then d
  else
    let half := d.halfSpeed
    let n := if half then 65_536 else 32_768
    let d := d.putB PWR_CHG_TIMER_half_speed half
    let k := b2n (d.flag RTC_STATUS_osc_running)
    let c4 := decide (n ≤ d.pwr.sub4 + 1)
    let c0 := decide (n ≤ d.pwr.sub + k)
    let d := { d with pwr := { d.pwr with
      sub4 := if c4 then 0 else d.pwr.sub4 + 1, count4 := d.pwr.count4 + b2n c4, sub := if c0 then 0 else d.pwr.sub + k } }
    let d := if c0 then d.put PWR_CHG_TIMER_count (min (d.get PWR_CHG_TIMER_count + 1) 0xFFFF) else d
    if c4 || c0 then d.timerJudge else d

/-- `SAFETY_TIMER_EXPIRY` (R429): the second ends that brings the timer to its limit. -/
def execSafetyTimerExpiry (s : State) := onDev (fun d => if d.timerLast then d.timerExpire else d) s

/-- `CHG_TIMER_MISMATCH` (R429): the counter that K04 steps is found more than 1 count ahead of the other. -/
def execChgTimerMismatch (s : State) :=
  onDev (fun d =>
    if charging d.chg then { d with pwr := { d.pwr with count4 := d.get PWR_CHG_TIMER_count + 2 } }.timerJudge else d) s

/-- `TAPER_TERMINATION` (R428): `DONE`, then `DETECT` at once; in the second in which the timer expires, the timer is taken first
(R439). -/
def execTaperTermination (s : State) :=
  onDev (fun d => if d.chg = 4 then (if d.timerLast then d.timerExpire else (d.chgEnter 5 0).chgDetect 0) else d) s

/-! ## Charger commands (R438) -/

/-- `RESTART`. -/
def chgRestart : CmdDef where
  verdict _ c d :=
    { Verdict.ok with
      denied := d.denies c scopeOPS, badArg := c.arg != 0
      badState := d.chg != 8 || (d.get PWR_STATUS_stop_cause == 2 && d.latched 3), priv := true }
  effect _ _ n d := ({ d with pwr := { d.pwr with chgTkt := n } }.chgDetect 0).progress n 0

/-- `STOP`. Together with the timer's expiry it is taken, and the timer gives the cause (R439): together is the instant of the expiry, and
the second that ends with it (DESIGN CHOICE, assumption 25). -/
def chgStop : CmdDef where
  verdict _ c d :=
    { Verdict.ok with
      denied := d.denies c scopeOPS, badArg := c.arg != 0
      badState := d.chg == 0 || (d.chg == 8 && !(d.get PWR_STATUS_stop_cause == 1 && d.pwr.expired == d.time + 1)), priv := true }
  effect _ _ n d := (if d.chg = 8 then d else if d.timerLast then d.timerExpire else d.chgEnter 8 4).done n

/-- `PULSE_TEST`. -/
def pulseTest : CmdDef where
  verdict _ c d := { Verdict.ok with badArg := c.arg != 0, badState := !(d.chg == 3 || d.chg == 4 || d.chg == 5 || d.chg == 7) }
  effect _ _ n d := ({ d with pwr := { d.pwr with chgTkt := n } }.chgDetect 0).progress n 0

/-- `CHG_RESTART` (R438). -/
def execChgRestart (c : Cmd) (s : State) := onDev (fun d => d.cmd 0x009 1 chgRestart c) s
/-- `CHG_STOP` (R438). -/
def execChgStop (c : Cmd) (s : State) := onDev (fun d => d.cmd 0x009 2 chgStop c) s
/-- `PULSE_TEST` (R438). -/
def execPulseTest (c : Cmd) (s : State) := onDev (fun d => d.cmd 0x009 3 pulseTest c) s

/-! ## Inputs (R423, R547) -/

/-- `VIN_AUX` is declared valid within 9.0–16.0 V, and stays so within 8.5–16.5 V (R423, R428, R545). -/
def Dev.vinValid (d : Dev) (mv node : Nat) : Dev :=
  let ok := d.flag PWR_STATUS_vin_ok
  if (if ok then mv < 8_500 ∨ 16_500 < mv else mv < 9_000 ∨ 16_000 < mv) then d
  else
  let d := (d.put PWR_VIN_mv mv).put PWR_NODE_mv node
  if ok then d.warnSettle
  else
    let d := (d.put PWR_STATUS_vin_ok 1).pageIrq 0x009 3
    let d := { d with pwr := { d.pwr with upStarted := false, upFailed := false } }
    ((d.sourceSettle.chgJudge).warnSettle).upJudge

/-- `VIN_AUX_VALID` (R423): the input and the node, mV. -/
def execVinAuxValid (mv node : Nat) (s : State) := onDev (fun d => d.vinValid mv node) s

/-- Every enabled rail numbered 7–95 is disabled by the power-state logic itself: no order, no shutdown (R547). -/
def Dev.dropBurnerRails (d : Dev) : Dev := each ((List.range 89).map (· + 7)) (fun r (d : Dev) => d.railDrop r) d

/-- The instant at which an input was declared lost (R425). -/
def Dev.inputGone (d : Dev) : Dev := { d with pwr := { d.pwr with inputAt := d.time } }

/-- `VIN_AUX` is declared lost: the switch-over, the burners' tickets and rails, and the aborted run (R419, R423, R456,
R547). -/
def Dev.vinLost (d : Dev) : Dev :=
  if !d.flag PWR_STATUS_vin_ok then d
  else
    let batteryless := d.chg == 7
    let d := ((d.put PWR_STATUS_vin_ok 0).pageIrq 0x009 3).bumpS PWR_VIN_LOSSES_count PWR_VIN_LOSSES_sat
    let (r, d) := d.free
    let v := r % 2 ^ 16
    let d := (d.put PWR_VIN_mv (if 8_500 ≤ v ∧ v ≤ 16_500 then v % 8_500 else v)).inputGone
    let d := (d.chgEnter 0 0).sourceSettle
    let open_ := ((List.range 4).map fun l => (d.loop l).tkt).filter (· != 0)
    let d := (d.switchOver.raiseWith F_VIN_AUX_LOST 0x009 0 0 open_ false).irqEdge 130
    let d := d.loopsAbandon 0
    let p := d.eng 0
    let d := if d.engState 0 ≠ 0 ∧ (p.purpose = 1 ∨ p.purpose = 4) then d.abortRun 0 else d
    let d := (d.loopsOff 6).dropBurnerRails
    let d := if batteryless && !d.flag PWR_STATUS_vbus_ok then d.powerWarning else d
    d.pdVinLost.upJudge

/-- `VIN_AUX_LOST` (R423). -/
def execVinAuxLost (s : State) := onDev (fun d => d.vinLost) s

/-- `VBUS_VALID` (R423): the input and the node, mV. It is declared valid above 4.0 V and stays so down to 3.5 V. -/
def execVbusValid (mv node : Nat) (s : State) :=
  onDev (fun d =>
    let ok := d.flag PWR_STATUS_vbus_ok
    if mv ≤ (if ok then 3_499 else 4_000) then d
    else
      let d := (d.put PWR_VBUS_mv mv).put PWR_NODE_mv node
      let d := if ok then d else ((d.put PWR_STATUS_vbus_ok 1).pageIrq 0x009 4).irqEdge 131
      d.sourceSettle.warnSettle) s

/-- `VBUS_LOST` (R423): what the register then reads is a free value below 3.5 V. -/
def execVbusLost (s : State) :=
  onDev (fun d =>
    if d.flag PWR_STATUS_vbus_ok then
      let (r, d) := d.free
      ((((((d.put PWR_VBUS_mv (r % 3_500)).inputGone).put PWR_STATUS_vbus_ok 0).pageIrq 0x009 4).irqEdge 132).sourceSettle).pdVbusLost
    else d) s

/-! ## The node (R425, R435, R436) -/

/-- `POWER_WARNING` (R435): the node's voltage, mV, below v_warn while no input is valid. -/
def execPowerWarning (node : Nat) (s : State) :=
  onDev (fun d =>
    let d := (d.put PWR_NODE_mv node).sourceSettle
    if node < d.get PWR_WARN_CFG_v_warn ∧ !d.flag PWR_STATUS_vin_ok ∧ !d.flag PWR_STATUS_vbus_ok then d.powerWarning else d) s

/-- Every `XENnn` output and every burner output is released to its pull-down (R436, R543). -/
def Dev.releaseOutputs (d : Dev) : Dev :=
  let d := each (List.range 4) (fun l (d : Dev) => if d.loopState l = 0 then d else d.loopEnter l 0) d
  each ((List.range 32).map (· + 64)) (fun r (d : Dev) => d.railDrop r) d

/-- An engine stops without further action; its ticket stays open for the next cold start (R436, R477). -/
def Dev.engineCut (d : Dev) (e : Nat) : Dev :=
  if d.engState e = 0 then d
  else ((d.put SEQ_ENG_STATUS_state 0 e).put SEQ_ENG_STATUS_last_end 6 e).putEng e Engine.init

/-- A pantry append of the ledger, the drip tray or the ticket rail is queued or in progress (R436): the ticket rail's takes 5 µs from the
ticket's issue (R118). -/
def Dev.pantryBusy (d : Dev) : Bool := !d.ldg.queue.isEmpty || !d.flt.queue.isEmpty || !d.spaced

/-- Input collapse (R436, R549): no ticket closes. -/
def Dev.inputCollapse (d : Dev) : Dev :=
  let busy := d.engState 0 != 0 || d.engState 1 != 0 || d.pantryBusy
  let d := ((d.releaseOutputs).engineCut 0).engineCut 1
  let d := { d with pwr := { d.pwr with upCmd := false } }
  let d := (d.put PWR_PSTATE_collapse_block 1).bumpS PWR_COLLAPSES_count PWR_COLLAPSES_sat
  let d := if busy then d.raise F_INPUT_COLLAPSE 0x009 0 else d
  d.upJudge

/-- `INPUT_COLLAPSE` (R436). -/
def execInputCollapse (s : State) := onDev (fun d => d.inputCollapse) s

/-- D00 is held off: every domain but D02 with it (R425, R543); a trim gate loses its run condition with D09 and D10 (R415). No ticket
closes. -/
def Dev.holdOff (d : Dev) (why : Nat) : Dev :=
  let keep := if d.rtc.d02Held then 0 else 4
  let cut := (d.epoch, d.tick, d.frameRec)
  let d := d.trimAbort
  let d := ((((((d.put SEQ_RAIL_ON_on keep 0).put SEQ_RAIL_ON_on 0 1).put SEQ_RAIL_ON_on 0 2).put SEQ_RAIL_GOOD_good keep 0).put
    SEQ_RAIL_GOOD_good 0 1).put SEQ_RAIL_GOOD_good 0 2)
  { d with down := why, seq := { d.seq with running := keep }, ldg := { d.ldg with cutAt := cut } }

/-- `ALWAYS_ON_RAIL_STOP` (R425): the node has then fallen through 2.95 V too, so that a collapse not yet taken is taken first; one whose
fault is not yet recorded leaves its flag in D02 (R436). -/
def execAlwaysOnRailStop (s : State) :=
  onAny (fun d =>
    let d := if d.down = 0 ∧ !d.flag PWR_PSTATE_collapse_block then d.inputCollapse else d
    let lost := d.flt.queue.any fun r => r.source == F_INPUT_COLLAPSE
    let d := if lost && !d.rtc.d02Held then { d with rtc := { d.rtc with flags := setBit d.rtc.flags 1 } } else d
    d.holdOff 3) s

/-- `PRECHARGE_SHORTED` (R425): only before D00 runs; D02 keeps the flag for the next cold start. -/
def execPrechargeShorted (s : State) :=
  onAny (fun d =>
    if (d.down = 3 ∨ !d.pwr.booted) ∧ !d.pwr.shorted then
      { d with pwr := { d.pwr with shorted := true, starter := false }, rtc := { d.rtc with flags := setBit d.rtc.flags 0 } }
    else d) s

/-- `SHORTED_LATCH_CLEAR` (R425): every input has been absent for 1 s. What D00 has declared of the inputs must agree while it runs; while
it does not, nothing but the stage itself judges them. -/
def execShortedLatchClear (s : State) :=
  onAny (fun d =>
    let present := d.flag PWR_STATUS_vin_ok || d.flag PWR_STATUS_vbus_ok || decide (d.time < d.pwr.inputAt + secondTime)
    if d.down = 0 && d.pwr.booted && present then d else { d with pwr := { d.pwr with shorted := false } }) s

end Sys2Proof.Machine
end

