-- ==== Sys2Proof/Machine/Power.lean ====
section
/-!
DEFINITION. Machine/Power.lean: the power-state logic's recipes and commands (R545–R556). The cold start itself stands in
Machine/Cold.lean.
-/
namespace Sys2Proof.Machine

/-- Everything that a `POWER_UP` run needs (R545). -/
def Dev.upReady (d : Dev) : Bool :=
  d.upAsked && d.step4 && !d.hubUp && !d.pwr.upStarted && d.flag PWR_STATUS_vin_ok && !d.flag PWR_PSTATE_collapse_block && !d.flag THM_STATUS_sd_latched &&
    d.engState 0 == 0

/-- The `POWER_UP` run starts (R545). -/
def Dev.upRun (d : Dev) : Dev :=
  let t := d.pwr.upTkt
  let d := { d with pwr := { d.pwr with upStarted := true, upCmd := false } }
  ((d.progress t 0).deviceRun 0 1 t).upJudge

/-- `POWER_UP_RUN_START` (R545). -/
def execPowerUpRunStart (s : State) := onDev (fun d => if d.upReady then d.upRun else d) s

/-- `POWER_UP`: legal in `KEEP` with `VIN_AUX` valid (R555). It asks for the run of R545, which comes when all of R545's conditions hold. -/
def powerUp : CmdDef where
  verdict _ c d :=
    { Verdict.ok with
      denied := d.denies c scopeOPS, badArg := c.arg != 0
      badState := d.judgedState != 2 || !d.flag PWR_STATUS_vin_ok || d.flag PWR_PSTATE_up_pending ||
        d.flag PWR_PSTATE_collapse_block || d.flag THM_STATUS_sd_latched
      priv := true }
  effect _ _ n d := ({ d with pwr := { d.pwr with upCmd := true, upTkt := n } }).upJudge

/-- A bank is in a working mode. -/
def Dev.anyWorking (d : Dev) : Bool := (List.range 16).any fun b => workingMode (d.bankMode b)

/-- `POWER_DOWN`: slot 1 on engine 0. -/
def powerDown : CmdDef where
  verdict _ c d :=
    { Verdict.ok with
      denied := d.denies c scopeOPS, badArg := c.arg != 0, badState := !d.hubUp || d.anyWorking
      busy := d.engState 0 != 0, priv := true }
  effect _ _ n d := (d.progress n 0).deviceRun 1 2 n

/-- `REBOOT`: slot 1 first when the hub is up; then the seal and the reset. -/
def reboot : CmdDef where
  verdict _ c d :=
    { Verdict.ok with
      denied := d.denies c scopeOPS, badArg := c.arg != 0, busy := d.engState 0 != 0 || d.pwr.reboot != 0, priv := true }
  effect _ _ n d :=
    let d := ({ d with pwr := { d.pwr with reboot := 1, rebootTkt := n } }).progress n 0
    if d.hubUp then d.deviceRun 1 5 n else d.rebootSeal

/-- `POWER_UP` (R555). -/
def execPowerUp (c : Cmd) (s : State) := onDev (fun d => d.cmd 0x009 4 powerUp c) s
/-- `POWER_DOWN` (R555). -/
def execPowerDown (c : Cmd) (s : State) := onDev (fun d => d.cmd 0x009 5 powerDown c) s
/-- `REBOOT` (R555). -/
def execReboot (c : Cmd) (s : State) := onDev (fun d => d.cmd 0x009 6 reboot c) s

/-- Once the reboot's seal is signed, its ticket closed, the device holds its reset (R543, R555). -/
def Dev.rebootSettle (d : Dev) : Dev :=
  if d.pwr.reboot = 2 ∧ 3 ≤ d.ticketState d.pwr.rebootTkt then
    ({ d with pwr := { d.pwr with reboot := 0, rebootTkt := 0 } }).holdOff 2
  else d

/-- `SEAL_SIGNED` (R352). -/
def execSealSigned (s : State) := onDev (fun d => d.sealSigned.rebootSettle) s

/-- `LEDGER_APPEND` (R357): the engine in D01 with the pantry on. -/
def execLedgerAppend (s : State) :=
  onDev (fun d => if d.railGood 1 && d.railGood 3 then d.ldgStep.rebootSettle else d) s

/-- `RESET_N_ASSERT` (R543): nothing is recorded, no ticket closes. A device whose always-on rail has stopped has nothing to hold. -/
def execResetNAssert (s : State) := onAny (fun d => if d.down = 3 then d else d.holdOff 1) s

/-- `HIBERNATE_RECIPE_START` (R551): the tiles have written their state, and hib_recipes is set; a busy engine makes the
recipe wait. -/
def execHibernateRecipeStart (s : State) :=
  onDev (fun d =>
    if d.flag EST_STATUS_hibernated && d.flag PWR_PS_CFG_hib_recipes && d.wake == 0 && d.engState 0 == 0 &&
        d.pwr.hibRun != d.est.hibTime + 1 then
      ({ d with pwr := { d.pwr with hibRun := d.est.hibTime + 1 } }).deviceRun 2 3 0
    else d) s

/-- `WAKE_RECIPE_START` (R551): a wake cause is at work, and hib_recipes is set. -/
def execWakeRecipeStart (s : State) :=
  onDev (fun d =>
    if d.wake = 1 ∧ d.flag PWR_PS_CFG_hib_recipes ∧ d.engState 0 = 0 then ({ d with wake := 2 }).deviceRun 3 4 0 else d) s

end Sys2Proof.Machine
end

