-- ==== Sys2Proof/Machine/Health.lean ====
section
/-!
DEFINITION. Machine/Health.lean: health boundaries (R56): drains and weights (R272, R273, R286), the `EST` commands and
checkpoints (R291–R293), partitions (R294–R296), hibernation (R298–R301).
-/
namespace Sys2Proof.Machine

/-! ## Drains, weights and the back copies (R272, R273, R285, R286) -/

/-- Drain a cell's accumulator (R272, R273). -/
def Dev.drain (d : Dev) (l idx : Nat) (r : LRec) : Dev :=
  let q : Rat := (d.qUse l idx r : Rat) * 3_600_000
  d.estUpd l idx fun x =>
    let dd : Rat := (x.acc : Rat)
    let s := if x.started ∧ q ≠ 0 then keepNum (x.s - (dd - x.used) / q) else x.s
    let x' := { x with acc := 0, s := s, used := 0, stepQ := 0, ctot := x.ctot + x.acc,
                       efc := if q = 0 then x.efc else x.efc + ratAbs dd / (2 * q) }
    if x.accSat then
      { x' with
        accSat := false, valid := false, anchor := none, aSat := true
        cov := mkCov fun i j => if i = 0 ∧ j = 0 then 4 / 100 else cov x.cov i j }
    else x'

/-- A cell's weight target (R286). -/
def Dev.weightTarget (d : Dev) (l idx : Nat) (r : LRec) : Nat :=
  let c := classOf d.sch.active l idx
  let (cap, gr) := d.healthFigures l idx r
  let g := min cap 1 / max gr 1
  let f := d.clsQ c 0x12C 24 8 / 256
  if d.isStale l idx || !(r.fmt == 1 && (bit r.flags 1 || bit r.flags 2)) then 128
  else if g ≤ f then 0
  else (clampI 1 255 (roundRat (255 * (g - f) / (1 - f)))).toNat

/-- Move a weight toward its target. -/
def weightMove (w target step : Nat) : Nat := if w < target then min target (w + step) else max target (w - step)

/-- A health-weight entry (R55). -/
def healthEntry (soc weight : Nat) (stale valid present : Bool) : Nat :=
  soc * 2 ^ 16 + weight * 2 ^ 8 + 4 * b2n stale + 2 * b2n valid + b2n present

/-- Write an entry of a lane's back copy. -/
def Dev.backPut (d : Dev) (l idx v : Nat) : Dev :=
  { d with hatch := { d.hatch with back := d.hatch.back.put (posKey l idx) v } }

/-- The tile's work after the step at a health boundary for one cell: drain, weight, back-copy entry (R272, R286). -/
def Dev.cellHealth (d : Dev) (l idx : Nat) : Dev :=
  let (r, d) := d.recRead l idx
  let d := d.drain l idx r
  let t := d.weightTarget l idx r
  let st := d.clsF (classOf d.sch.active l idx) 0x12C 16 8
  let d := d.estUpd l idx fun x => { x with weight := weightMove x.weight t st }
  let x := d.estCell l idx
  d.backPut l idx (healthEntry (socUnits x.s) x.weight (d.isStale l idx) x.valid true)

/-- Positions of a lane whose cell has left the inventory and that a copy still lists. -/
def Dev.leftIdx (d : Dev) (l : Nat) : List Nat :=
  let here := d.laneIdx l
  (((d.hatch.front ++ d.hatch.back).filter fun (e : Nat × Nat) => e.1 / 5120 == l).map fun e => e.1 % 5120).eraseDups.filter
    fun i => i ∉ here

/-- The back copy's entries of positions without a cell: present 0 (R14, R286). -/
def Dev.backLeft (d : Dev) (l : Nat) : Dev :=
  each (d.leftIdx l) (fun i (d : Dev) =>
    let x := d.estCell l i
    d.backPut l i (healthEntry (socUnits x.s) x.weight (d.isStale l i) x.valid false)) d

/-- A lane's back copy is complete. -/
def Dev.backComplete (d : Dev) (l : Nat) : Dev :=
  if l ∈ d.hatch.complete then d else { d with hatch := { d.hatch with complete := d.hatch.complete ++ [l] } }

/-- A lane without running filters: its engine writes the back copy blind (R267). -/
def Dev.backBlind (d : Dev) (l : Nat) : Dev :=
  let d := each (d.laneIdx l) (fun i (d : Dev) => d.backPut l i (healthEntry 0x8000 0x80 (d.isStale l i) false true)) d
  (each (d.leftIdx l) (fun i (d : Dev) => d.backPut l i (healthEntry 0x8000 0x80 (d.isStale l i) false false)) d).backComplete l

/-- `HEALTH_WEIGHT_WRITE_COMPLETE` (R272, R286): after the step at a health boundary, the tile drains, moves the weights,
writes the back copy and marks it complete. -/
def execHealthWeightWriteComplete (lane : Nat) (s : State) :=
  onDev (fun d =>
    let x := d.estLane lane
    if x.health && d.stepRun lane && d.filtersOn lane then
      ((each (d.laneIdx lane) (fun i (d : Dev) => d.cellHealth lane i)
        (d.putEstLane lane { x with health := false })).backLeft lane).backComplete lane
    else d) s

/-- A lane's copies exchange where the back copy is complete; a skip is counted (R56). -/
def Dev.hatchSwap (d : Dev) (l : Nat) : Dev :=
  if l ∈ d.hatch.complete then
    let mine (e : Nat × Nat) : Bool := decide (e.1 / 5120 = l)
    let f := d.hatch.front.filter mine
    let b := d.hatch.back.filter mine
    let put (m : SMap Nat) (xs : SMap Nat) : SMap Nat :=
      xs.foldl (fun (m : SMap Nat) (e : Nat × Nat) => m.put e.1 e.2) (m.filter fun e => !mine e)
    { d with hatch := { d.hatch with
      front := put d.hatch.front b, back := put d.hatch.back f, complete := d.hatch.complete.filter (· != l)
      last := d.hatch.last.put l d.hatch.clock } }
  else d.bumpS GEN_HATCH_HW_SKIPS_count GEN_HATCH_STATUS_skips_sat

/-! ## Partitions (R29–R31, R294–R296) -/

/-- Lanes of a mask. -/
def maskLanes (m : Nat) : List Nat := bitList 512 m

/-- The plant partition's strings (R30). -/
def Dev.plantLanes (d : Dev) : List Nat :=
  (d.frms.map (·.1)).filter fun l => decide (l < 512) && d.laneState l == 4 && !(d.laneIdx l).isEmpty

/-- A partition. -/
def Dev.part (d : Dev) (p : Nat) : EstPart := d.est.parts.get p EstPart.init

/-- Write a partition. -/
def Dev.putPart (d : Dev) (p : Nat) (x : EstPart) : Dev := { d with est := { d.est with parts := d.est.parts.put p x } }

/-- A cell contributes (R294). -/
def Dev.contributes (d : Dev) (l idx : Nat) : Bool := d.cellStatus l idx == 0 && (d.estCell l idx).valid

/-- A string's contributing cells. -/
def Dev.contrib (d : Dev) (l : Nat) : List Nat := (d.laneIdx l).filter fun i => d.contributes l i

/-- A string's shut-down state s*, in 1/65,536 (R294). -/
def Dev.shutState (d : Dev) (l : Nat) : Nat :=
  let b := d.stringBank l
  if 16 ≤ b ∨ d.reqPeak b = 0 then 0
  else
    let req : Rat := (d.reqPeak b * (256 + d.get EST_PART_CFG_headroom) : Nat) / 256 / 1000
    let cells := (d.contrib l).map fun i => (classOf d.sch.active l i, ((d.estCell l i).tUsed : Rat) / 64)
    let sum (k : Nat) : Rat := (cells.map fun x => (d.ocv x.1 ((k : Rat) / 65_536) x.2).1).foldl (· + ·) 0
    ((List.range 65_537).find? fun k => decide (req ≤ sum k)).getD 65_536

/-- What a partition sums over a cell: Q in mAh, s, s* and nameplate figures. -/
structure PartCell where
  q : Rat
  s : Rat
  sStar : Rat
  qNp : Rat
  growth : Rat
  deriving DecidableEq, Repr

/-- The contributing cells of a list of strings, with what they count for. -/
def Dev.partCells (d : Dev) (lanes : List Nat) : List PartCell :=
  lanes.flatMap fun l =>
    let st : Rat := (d.shutState l : Rat) / 65_536
    (d.contrib l).map fun i =>
      let r := (d.recRead l i).1
      let c := classOf d.sch.active l i
      { q := (d.qUse l i r : Rat), s := (d.estCell l i).s, sStar := st, qNp := d.clsQ c 0x100 0 32, growth := (d.healthFigures l i r).2 }

/-- Move toward a target by at most a step. -/
def moveTo (x target step : Nat) : Nat := if x < target then min target (x + step) else max target (x - step)

/-- One partition at a health boundary (R29, R295, R296): without strings every value is zero. The reported SoC has 32 bits of fraction. -/
def Dev.partStep (d : Dev) (p : Nat) : Dev :=
  let x := d.part p
  let lanes := if p = 64 then d.plantLanes else maskLanes x.mask
  let resc := decide (p < 64) && decide (lanes.length ≤ 32)
  let changed := decide (p < 64 ∧ x.mask ≠ x.inForce)
  let cells := d.partCells lanes
  let all := (lanes.map fun l => (d.laneIdx l).length).sum
  let x := { x with inForce := x.mask, counted := cells.length, uncounted := all - cells.length }
  let x := { x with converging := x.converging || (x.started && (changed || resc != x.rescaled)), rescaled := resc }
  if lanes.isEmpty then
    d.putPart p { EstPart.init with
      mask := x.mask, inForce := x.inForce, rate := x.rate, rescaled := x.rescaled, started := x.started }
  else if cells.isEmpty then d.putPart p x
  else
    let cp := sumQ (cells.map (·.q))
    let true_ := if cp = 0 then 0 else sumQ (cells.map fun c => c.q * c.s) / cp
    let u := sumQ (cells.map fun c => c.q * max 0 (c.s - c.sStar))
    let den := sumQ (cells.map fun c => c.q * (1 - c.sStar))
    let target : Rat := if resc then (if den = 0 then 0 else u / den) else true_
    let t32 := (clampI 0 (65_535 * 2 ^ 32 : Nat) (target * (65_536 * 2 ^ 32 : Nat)).floor).toNat
    let step := x.rate * 65_536 * 2 ^ 32 / 6_000_000
    let rep := if !x.started then t32
      else if resc && !x.converging then t32
      else moveTo x.rep t32 step
    let conv := x.converging && decide (rep ≠ t32)
    let sMin := (lanes.map fun l => d.shutState l).foldl min 65_535
    let usable : Rat := if resc then u else (rep : Rat) / (65_536 * 2 ^ 32 : Nat) * cp
    let np := sumQ (cells.map (·.qNp))
    d.putPart p { x with
      started := true, rep := rep, converging := conv
      trueSoc := socUnits true_, sMin := sMin
      usable := (max 0 usable.floor).toNat, cap := (max 0 cp.floor).toNat
      ratio := if np = 0 then 0 else socUnits (cp / np)
      growth := (clampI 0 65_535 (sumQ (cells.map (·.growth)) / (cells.length : Rat) * 256).floor).toNat }

/-- The partitions in use: those written, and P. -/
def Dev.partsStep (d : Dev) : Dev := each ((d.est.parts.map (·.1)).filter (· != 64) ++ [64]) (fun p (d : Dev) => d.partStep p) d

/-! ## Hibernation (R298–R301) -/

/-- Every bank is in IDLE or HOLD. -/
def Dev.banksQuiet (d : Dev) : Bool := (List.range 16).all fun b => d.bankMode b == 0 || d.bankMode b == 4

/-- Lanes whose group is on. -/
def Dev.poweredLanes (d : Dev) : List Nat := (List.range 512).filter fun l => d.groupOn l

/-- The estimator hibernates (R298, R299): its page reads so, impedance arithmetic stops, and each lane's two copies hold what its
front copy holds, the back copy complete from this boundary on, so that the exchanges that follow change nothing. -/
def Dev.hibernate (d : Dev) : Dev :=
  let d := d.impHibernate
  let d := (((d.put EST_STATUS_hibernated 1).put EST_STATUS_probing 0).pageIrq 0x017 0)
  let d := { d with
    est := { d.est with hibFrame := d.frame, hibTime := d.time }, hatch := { d.hatch with back := d.hatch.front }, wake := 0 }
  let clear (x : EstLane) : EstLane := { x with health := false }
  let d := { d with est := { d.est with lanes := d.est.lanes.map fun (e : Nat × EstLane) => (e.1, clear e.2) } }
  (each d.poweredLanes (fun l (d : Dev) => d.backComplete l) d).rejudge

/-- Hibernation is judged at a health boundary (R298, R300). -/
def Dev.hibJudge (d : Dev) : Dev :=
  if d.flag EST_STATUS_hibernated || !d.railGood 15 || !d.flag PAGE_CTRL_enable 0x17 then d
  else if d.flag EST_STATUS_probing then
    if d.time < d.est.probeEnd then d
    else if d.banksQuiet && !d.est.probeWoken && d.flag EST_HIB_CFG_en then d.hibernate
    else d.put EST_STATUS_probing 0
  else if d.flag EST_HIB_CFG_en && d.banksQuiet && decide (d.est.idleFrom + d.get EST_HIB_CFG_t_idle * secondTime ≤ d.time) then
    d.hibernate
  else d

/-- `PROBE` (R300): every period minutes of hibernation; it wakes the estimator for length × 0.1 s. -/
def Dev.probe (d : Dev) : Dev :=
  if d.flag EST_STATUS_hibernated && d.wake == 0 && d.get EST_PROBE_CFG_period != 0 &&
      decide (d.est.hibTime + d.get EST_PROBE_CFG_period * 60 * secondTime ≤ d.time) then
    let d := d.wakeCause
    ({ d with est := { d.est with
      probeEnd := d.time + d.get EST_PROBE_CFG_length * 327_680_000, probeWoken := false } }).put EST_STATUS_probing 1
  else d

/-- `PROBE` (R300). -/
def execHibProbe (s : State) := onDev (fun d => d.probe) s

/-- `PAGE_ACCESS_WAKE` (R300). -/
def execPageAccessWake (s : State) := onDev (fun d => d.wakeCause) s

/-- The filter over the hibernated interval: one prediction with zero current; rest timers have run on (R299, R301). -/
def Dev.cellWake (d : Dev) (frames l idx : Nat) : Dev :=
  let (r, d) := d.recRead l idx
  let p := d.cellPar l idx r
  let dt : Rat := (frames : Rat) / 50_000
  d.estUpd l idx fun x =>
    let x := { x with rest := x.rest + frames / 500, resting := true }
    if x.started then d.predict p dt 0 0 x else x

/-- `ESTIMATOR_READY` (R301, R551): the wake recipe, where there is one, has ended. -/
def Dev.estReady (d : Dev) : Dev :=
  if !d.flag EST_STATUS_hibernated || d.wake == 0 || d.wake == 2 || (d.wake == 1 && d.flag PWR_PS_CFG_hib_recipes) then d
  else
    let frames := d.frame - d.est.hibFrame
    let d := { (d.put EST_STATUS_hibernated 0).pageIrq 0x017 1 with wake := 0 }.impWake
    let d := each (d.est.lanes.map (·.1)) (fun l (d : Dev) =>
      if d.filtersOn l then each (d.laneIdx l) (fun i (d : Dev) => d.cellWake frames l i) d else d) d
    d.rejudge

/-- `ESTIMATOR_READY` (R301). -/
def execEstimatorReady (s : State) := onDev (fun d => d.estReady) s

/-! ## The health boundary (R53, R56) -/

/-- Clusters that run filters. -/
def Dev.clustersOn (d : Dev) : Nat := (List.range 8).foldl (fun (n m : Nat) => if d.filtersOn (64 * m) then setBit n m else n) 0

/-- Soc of a string's present ACTIVE cells with est_valid = 1, from the front copy (R207). -/
def Dev.activeSocs (d : Dev) (l : Nat) : List Nat :=
  ((d.laneIdx l).filter fun i => d.cellStatus l i == 0 && bit (d.healthWord l i) 1).map fun i => bits (d.healthWord l i) 16 16

/-- The mean soc of every string and of every bank, published at a health boundary (R207), truncated to R55 units. -/
def Dev.meansPublish (d : Dev) : Dev :=
  let d := each d.poweredLanes (fun l (d : Dev) =>
    let s := d.activeSocs l
    if s.isEmpty && !d.sch.strs.has l then d
    else d.strUpd l fun x => { x with meanSum := s.sum, meanCnt := s.length }) d
  each (List.range 16) (fun b (d : Dev) => d.bankMean b) d

/-- `HEALTH_BOUNDARY` (R56, R267, R295, R298): copies exchange, tables are reloaded, the tiles' work falls due, partitions
are computed, and hibernation is judged. -/
def Dev.healthBoundary (d : Dev) : Dev :=
  let d := each d.poweredLanes (fun l (d : Dev) => d.hatchSwap l) d
  let d := if d.railGood 12 then d.meansPublish else d
  let d := if d.railGood 15 then d.tablesReload else d
  let d := { d with est := { d.est with reloaded := d.est.reloaded ++ d.est.reload, reload := [] } }
  let hib := d.flag EST_STATUS_hibernated
  let d := each d.poweredLanes (fun l (d : Dev) =>
    if hib then d.backComplete l
    else if d.filtersOn l then d.putEstLane l { d.estLane l with health := true }
    else d.backBlind l) d
  let d := if d.railGood 15 && !hib then d.partsStep else d
  d.hibJudge

/-- The frame in progress begins at a health boundary: a multiple of 5,000 (R53), or the frame that the numbering stepped to (R382). -/
def Dev.atHealth (d : Dev) : Bool := d.frame % 5_000 == 0 || d.ck.stepAt == d.frame + 1

/-- `HEALTH_BOUNDARY` (R56). -/
def execHealthBoundary (s : State) :=
  onDev (fun d => if d.k03 && d.atHealth && d.railGood 11 then d.healthBoundary else d) s

/-! ## Commands on learned data (R291) -/

/-- The node and cell a command names: `PAGE_CMD` [31:14] lane and node, [13:9] cell or 0x1F. -/
def estPos (c : Cmd) : Option (Nat × Nat × Nat) :=
  let a := c.arg
  let cell := bits a 1 5
  let node := bits a 6 9
  if bit a 0 || decide (319 < node) || (decide (15 < cell) && cell != 0x1F) then none else some (bits a 15 9, node, cell)

/-- The cell indices named. -/
def estCells (cell : Nat) : List Nat := if cell = 0x1F then List.range 16 else [cell]

/-- A position's import record (R269). -/
def Dev.importBytes (d : Dev) (l idx : Nat) : List Nat := (d.memReadSpan (d.stateAddr l idx + 64) 64).1

/-- What reading a position's import record leaves in the memory pair: its errors are noted (R312, R327). -/
def Dev.importRead (d : Dev) (l idx : Nat) : Dev := (d.memReadSpan (d.stateAddr l idx + 64) 64).2.2

/-- An import record is refused (R291): a format other than 0 and 1, or one of format 1 with a failed CRC, another position,
a class above 15, or a learned q outside 10–200 % of its class's q_np. -/
def Dev.importBad (d : Dev) (l idx : Nat) : Bool :=
  let b := d.importBytes l idx
  let r := LRec.parse b
  if r.fmt = 0 then false
  else
    r.fmt != 1 || crc32 (b.take 60) != leNat (b.drop 60) || r.pos != packedPos l idx || decide (15 < r.cls) ||
      (bit r.flags 1 && (decide (r.q * 10 < d.clsF r.cls 0x100 0 32) || decide (2 * d.clsF r.cls 0x100 0 32 < r.q)))

/-- The import records that an `IMPORT` is judged by are read (R291). -/
def Dev.importReads (d : Dev) (op : Nat) (c : Cmd) : Dev :=
  match estPos c with
  | some (l, m, k) =>
    if op = 1 ∧ !d.denies c scopeLEARN then each (estCells k) (fun i (d : Dev) => d.importRead l (m * 16 + i)) d else d
  | none => d

/-- `IMPORT`, `CLEAR_STALE`, `RESET_LEARNED` (R291). -/
def learnCmd (op : Nat) : CmdDef where
  verdict _ c d :=
    { Verdict.ok with
      denied := d.denies c scopeLEARN
      badArg := match estPos c with
        | none => true
        | some (l, m, k) => op == 1 && (estCells k).any fun i => d.importBad l (m * 16 + i)
      total := match estPos c with
        | none => 1
        | some (_, _, k) => (estCells k).length
      priv := true }
  effect _ c n d :=
    let d := d.importReads op c
    match estPos c with
    | none => d
    | some (l, m, k) => { d with est := { d.est with cmds := d.est.cmds ++ [⟨op, l, m, k, n, d.frame⟩] } }
  refused _ c d := d.importReads op c

/-- `IMPORT` (R291). -/
def execEstImport (c : Cmd) (s : State) := onDev (fun d => d.wakingCmd 0x017 1 (learnCmd 1) c) s
/-- `CLEAR_STALE` (R291). -/
def execClearStale (c : Cmd) (s : State) := onDev (fun d => d.wakingCmd 0x017 2 (learnCmd 2) c) s
/-- `RESET_LEARNED` (R291). -/
def execResetLearned (c : Cmd) (s : State) := onDev (fun d => d.wakingCmd 0x017 3 (learnCmd 3) c) s

/-- A position returns to nameplate (R291); what the step that ends at that boundary would still learn of it is discarded (R303). -/
def Dev.resetLearned (d : Dev) (l idx : Nat) : Dev :=
  let r := LRec.parse []
  (((d.setStale l idx 0).estInit l idx).recWrite l idx r).estUpd l idx fun x =>
    { x with anchor := none, restDue := none, declDue := 0, rLast := none, freshQ := false, freshR := false, freshP := false }

/-- One position of an accepted command (R291). -/
def Dev.learnApply (d : Dev) (op l idx : Nat) : Dev :=
  if op = 1 then
    let r := LRec.parse (d.importBytes l idx)
    let d := d.importRead l idx
    if r.fmt = 0 then d.resetLearned l idx
    else
      let d := (d.setStale l idx 0).recWrite l idx { r with flags := clrBit r.flags 0, pos := packedPos l idx }
      (d.efcPut l idx ((r.efc : Rat) / 100)).estUpd l idx fun x => { x with
        restDue := none, declDue := 0, freshQ := false, freshR := false, freshP := false }
  else if op = 2 then
    let (r, d) := d.recRead l idx
    let d := (d.setStale l idx 0).estUpd l idx fun x => { x with freshQ := false, freshR := false, freshP := false }
    if r.fmt = 0 then d else d.recWrite l idx (d.recStamp l idx { r with flags := clrBit r.flags 0, staleQ := 0, staleR := 0 })
  else d.resetLearned l idx

/-- A command accepted before the latest health boundary takes effect there, last of all: once the filter step that ends at that
boundary has run on its lane (R291, R303). -/
def Dev.estDue (d : Dev) (c : EstCmd) : Bool :=
  decide (c.at_ < d.frame / 5_000 * 5_000) && (!d.filtersOn c.lane || !d.est.lanes.has c.lane || d.stepRun c.lane)

/-- One accepted command. -/
def Dev.estApply (d : Dev) (c : EstCmd) : Dev :=
  (each (estCells c.cell) (fun i (d : Dev) => d.learnApply c.op c.lane (c.node * 16 + i)) d).done c.ticket

/-- Accepted commands in order of acceptance, up to one that is not due or a `CKPT_LOAD` (R303). -/
def Dev.estRun (d : Dev) : List EstCmd → Dev
  | [] => { d with est := { d.est with cmds := [] } }
  | c :: rest =>
    if c.op = 5 ∨ d.estDue c = false then { d with est := { d.est with cmds := c :: rest } }
    else (d.estApply c).estRun rest

/-- `EST_COMMAND_APPLY` (R291). -/
def execEstCommandApply (s : State) := onDev (fun d => if d.k03 && d.railGood 15 then d.estRun d.est.cmds else d) s

/-! ## Checkpoints (R292, R293) -/

/-- Positions of the state region, in window-4 order. -/
def allPositions : Nat := 2_621_440

/-- The checkpoint region's start. -/
def Dev.ckptAddr (d : Dev) : Nat := d.get EST_CKPT_BASE_gib * 2 ^ 30

/-- The pantry's generation count. -/
def Dev.ckptGen (d : Dev) : Nat := d.get2 EST_CKPT_GEN_LO_gen_lo EST_CKPT_GEN_HI_gen_hi

/-- `CHECKPOINT` (R293). -/
def checkpointCmd : CmdDef where
  verdict _ c d :=
    { Verdict.ok with
      badArg := c.arg != 0
      badState := !d.flag LDG_STATUS_ident_ok
      busy := d.est.ckpt != 0
      makesRecord := true }
  effect _ _ n d := ({ d with est := { d.est with ckpt := 1, ckptTkt := n, ckptTick := d.tick } }).put EST_CKPT_STATUS_state 1

/-- `CHECKPOINT` (R293). -/
def execCheckpoint (c : Cmd) (s : State) := onDev (fun d => d.wakingCmd 0x017 4 checkpointCmd c) s

/-- `CHECKPOINT_PERIOD` (R293): the period since the last checkpoint has passed, in RTC ticks. -/
def execCheckpointPeriod (s : State) :=
  onDev (fun d =>
    if d.railGood 15 && d.get EST_CKPT_CFG_period != 0 && d.est.ckpt == 0 &&
        decide (d.est.ckptTick + d.get EST_CKPT_CFG_period * 117_964_800 ≤ d.tick) then
      d.cmd 0x017 4 checkpointCmd { ch := 4, inst := 0, arg := 0, soon := false }
    else d) s

/-- Copy the in-use record of position k into the region; a line that cannot be read gives R269's record. -/
def Dev.ckptCopy (d : Dev) (k : Nat) : List Nat × Dev :=
  let (r, d) := d.recRead (k / 5120) (k % 5120)
  (r.bytes, d.memWriteSpan (d.ckptAddr + 256 + 64 * k) r.bytes)

/-- `CHECKPOINT_SNAPSHOT` (R292, R293): at a health boundary every in-use record is copied and hashed, the generation goes up
by 1, and the header waits for its signature. -/
def Dev.ckptSnapshot (d : Dev) : Dev :=
  let acc := (List.range allPositions).foldl (fun (a : List Nat × Dev) k =>
    let (b, d) := a.2.ckptCopy k
    (a.1 ++ b, d)) ([], d)
  let d := acc.2
  let gen := d.ckptGen + 1
  let d := d.put2 EST_CKPT_GEN_LO_gen_lo EST_CKPT_GEN_HI_gen_hi gen
  let head := leBytes 2 1 ++ List.replicate 6 0 ++ leBytes 8 gen ++ leBytes 2 d.epoch ++ leBytes 6 d.tick ++ leBytes 6 d.frame ++
    [0, 0] ++ beBytes 48 d.deviceKeyId ++ beBytes 48 (Config.sha384 acc.1)
  let d := d.memWriteSpan d.ckptAddr (head ++ List.replicate 128 0)
  let d := { d with
    est := { d.est with ckpt := 2, ckptHead := head }
    isl := { d.isl with docs := d.isl.docs ++ [({ kind := 4, ch := 4, unit := 0, ticket := d.est.ckptTkt, data := [] } : SigJob)] } }
  d.engineNext

/-- `CHECKPOINT_SNAPSHOT` (R293). -/
def execCheckpointSnapshot (s : State) :=
  onDev (fun d => if d.k03 && d.frame % 5_000 == 0 && d.railGood 15 && d.est.ckpt == 1 then d.ckptSnapshot else d) s

/-- `CHECKPOINT_SIGNED` (R293): the signature is written, the ledger record appended, and the ticket is done. -/
def Dev.ckptSigned (d : Dev) : Dev :=
  match d.isl.docs with
  | [] => d
  | j :: rest =>
    if d.isl.current != 3 || j.kind != 4 then d
    else
      let sig := Config.ecdsaSign d.isl.priv (Config.sha384 d.est.ckptHead)
      let d := d.memWriteSpan (d.ckptAddr + 128) (beBytes 96 sig)
      let d := d.record 0x23 0 [⟨24, 8, d.ckptGen⟩, ⟨32, 48, leNat (d.est.ckptHead.drop 80)⟩]
      let d := { d with est := { d.est with ckpt := 0, ckptTkt := 0 }, isl := { d.isl with docs := rest } }
      (((d.put EST_CKPT_STATUS_state 2).done j.ticket).pageIrq 0x017 2).engineFree

/-- `CHECKPOINT_SIGNED` (R293). -/
def execCheckpointSigned (s : State) := onDev (fun d => d.ckptSigned) s

/-- The checkpoint region's header. -/
def Dev.ckptHeader (d : Dev) : List Nat := (d.memReadSpan d.ckptAddr 256).1

/-- The region's checks (R293): format, device key ID, signature under the device's own key, and records hash. -/
def Dev.ckptGood (d : Dev) : Bool :=
  let h := d.ckptHeader
  let recs := d.memReadSpan (d.ckptAddr + 256) (64 * allPositions)
  leNat (h.take 2) == 1 && recs.2.1 && (h.drop 32).take 48 == beBytes 48 d.deviceKeyId &&
    (h.drop 80).take 48 == beBytes 48 (Config.sha384 recs.1) &&
    Config.ecdsaVerify (Config.publicKey d.isl.priv) (Config.sha384 (h.take 128)) (beNat ((h.drop 128).take 96))

/-- What reading the header and the records of the region leaves in the memory pairs (R312, R327). -/
def Dev.ckptRead (d : Dev) : Dev :=
  ((d.memReadSpan d.ckptAddr 256).2.2.memReadSpan (d.ckptAddr + 256) (64 * allPositions)).2.2

/-- `CKPT_LOAD` (R293). -/
def ckptLoadCmd : CmdDef where
  verdict _ c d :=
    let gen := leNat ((d.ckptHeader.drop 8).take 8)
    let good := d.ckptGood
    let lower := good && decide (gen < d.ckptGen)
    { Verdict.ok with
      denied := lower && d.denies c scopeLEARN
      badArg := c.arg != 0 || !good || decide (d.ckptGen < gen)
      busy := d.est.ckpt != 0
      total := allPositions
      priv := lower }
  effect _ _ n d :=
    let d := d.ckptRead
    { d with est := { d.est with ckpt := 3, ckptTkt := n, cmds := d.est.cmds ++ [⟨5, 0, 0, 0, n, d.frame⟩] } }
  refused _ _ d := if d.est.ckpt = 0 then d.ckptRead else d

/-- `CKPT_LOAD` (R293). A region outside D15's power cannot be read, and the page is then not reached. -/
def execCkptLoad (c : Cmd) (s : State) :=
  onDev (fun d => d.wakingCmd 0x017 5 ckptLoadCmd c) s

/-- One position of a load (R293): records that have learned since start stay; a record's stale mark and cycle count come into use with
it, and a recorded identity that differs makes the position STALE. -/
def Dev.ckptPlace (d : Dev) (k : Nat) : Dev :=
  let l := k / 5120
  let idx := k % 5120
  let (old, d) := d.recRead l idx
  if bit old.flags 5 then d
  else
    let (b, _, d) := d.memReadSpan (d.ckptAddr + 256 + 64 * k) 64
    let r := LRec.parse b
    let key := l * 320 + idx / 16
    let differs := r.fmt == 1 && d.identities.has key && d.identities.get key 0 != r.identity
    let d := d.recWrite l idx { r with flags := clrBit r.flags 5 }
    let stale := bit r.flags 0
    let d := if r.fmt = 0 then d else
      ((d.setStale l idx (if stale then 2 else 0)).efcPut l idx ((r.efc : Rat) / 100)).estUpd l idx fun x => { x with
      freshQ := stale && r.staleQ == 0, freshR := stale && r.staleR == 0
      freshP := stale && r.staleR == 0 }
    if differs then d.setStale l idx 1 else d

/-- The load takes effect when the commands accepted before it have (R293, R303). -/
def Dev.ckptLoadRun (d : Dev) : Dev :=
  let d := d.estRun d.est.cmds
  match d.est.cmds with
  | c :: rest =>
    if c.op = 5 ∧ c.at_ < d.frame / 5_000 * 5_000 then
      let d := each (List.range allPositions) (fun k (d : Dev) => d.ckptPlace k) { d with est := { d.est with cmds := rest } }
      (({ d with est := { d.est with ckpt := 0, ckptTkt := 0 } }.put EST_CKPT_STATUS_state 3).done c.ticket).pageIrq 0x017 2
    else d
  | [] => d

/-- `CKPT_LOAD_APPLY` (R293). -/
def execCkptLoadApply (s : State) :=
  onDev (fun d => if d.k03 && d.railGood 15 && d.est.ckpt == 3 then d.ckptLoadRun else d) s

end Sys2Proof.Machine
end

