-- ==== Sys2Proof/Machine/Thermal.lean ====
section
/-!
DEFINITION. Machine/Thermal.lean: thermal supervision (R506–R515) and the kitchen timer (R516–R523).
-/
namespace Sys2Proof.Machine

/-! ## Inputs (R506–R509) -/

/-- An input's state. -/
def Dev.thmIn (d : Dev) (i : Nat) : ThmIn := d.thm.ins.get i ThmIn.init

/-- Write an input's state. -/
def Dev.putThm (d : Dev) (i : Nat) (x : ThmIn) : Dev := { d with thm := { d.thm with ins := d.thm.ins.put i x } }

/-- The input is converted (R507). -/
def Dev.thmEn (d : Dev) (i : Nat) : Bool := decide (i < 64) || d.flag THM_TH_CFG_en (i - 64)

/-- Next to each other in a row or column of a grid of so many columns. -/
def adjacent (cols a b : Nat) : Bool :=
  absDiff (a / cols) (b / cols) + absDiff (a % cols) (b % cols) == 1

/-- The neighbours of an input: its die's grid, or the thermistor's mask (R509). -/
def Dev.thmNbrs (d : Dev) (i : Nat) : List Nat :=
  if i < 48 then ((List.range 6).filter fun k => adjacent 3 (i % 6) k).map (· + i / 6 * 6)
  else if i < 64 then ((List.range 16).filter fun k => adjacent 4 (i - 48) k).map (· + 48)
  else ((List.range 16).filter fun m => bit (d.get THM_TH_CFG_nbr (i - 64)) m && m != i - 64).map (· + 64)

/-- The input is valid in this sample (R509). -/
def Dev.thmValid (d : Dev) (i : Nat) : Bool := d.thmEn i && (d.thmIn i).kind == 0 && !(d.thmIn i).broken

/-- A T code's reading in units of 1/64 °C (R180). -/
def tRead (code : Nat) : Int := toSigned 16 code

/-- The readings of an input's valid neighbours. -/
def Dev.nbrReads (d : Dev) (i : Nat) : List Int := ((d.thmNbrs i).filter fun n => d.thmValid n).map fun n => tRead (d.thmIn n).raw

/-- The tolerance of an input, in units of 1/64 °C. -/
def Dev.thmTol (d : Dev) (i : Nat) : Int := 64 * (if i < 64 then d.get THM_LIMITS_die_tol else d.get THM_LIMITS_th_tol : Nat)

/-- A reading lies within the tolerance of a median given doubled. -/
def withinTol (tol m2 r : Int) : Bool := decide (2 * r - m2 ≤ 2 * tol ∧ m2 - 2 * r ≤ 2 * tol)

/-- A valid input disagrees with its neighbours (R509). -/
def Dev.disagrees (d : Dev) (i : Nat) : Bool :=
  let rs := d.nbrReads i
  let m2 := median2 rs
  d.thmValid i && decide (2 ≤ rs.length) && !withinTol (d.thmTol i) m2 (tRead (d.thmIn i).raw) && rs.all (withinTol (d.thmTol i) m2)

/-- The value in use of an input and whether it is a substitute (R509); `r` (0 or 1) rounds a median between two codes
(assumption 4). -/
def Dev.thmUsed (d : Dev) (r : Int) (i : Nat) : Nat × Bool :=
  if d.thmValid i then ((d.thmIn i).raw, false)
  else if !d.thmEn i then (0x8000, false)
  else
    let rs := d.nbrReads i
    if 2 ≤ rs.length then (ofSigned 16 ((median2 rs + r) / 2), true) else (0x8000, false)

/-- Every value in use is taken afresh. -/
def Dev.thmTakeUsed (d : Dev) (r : Int) : Dev :=
  each ((List.range 80).map fun i => (i, d.thmUsed r i)) (fun (e : Nat × Nat × Bool) (d : Dev) =>
    d.putThm e.1 { d.thmIn e.1 with used := e.2.1, subst := e.2.2 }) d

/-! ## Shutdown (R511–R513) -/

/-- The shutdown threshold as a T code. -/
def Dev.sdCode (d : Dev) : Nat := d.get THM_LIMITS_sd_c * 64

/-- A shutdown record (R513). -/
def Dev.sdRecord (d : Dev) (n sensor path : Nat) : List Part :=
  let nb := d.thmNbrs sensor
  [⟨0, 8, n⟩, ⟨8, 2, d.epoch⟩, ⟨10, 6, d.tick⟩, ⟨16, 6, d.frameRec⟩, ⟨22, 1, sensor⟩, ⟨23, 1, path⟩,
   ⟨24, 2, (d.thmIn sensor).raw⟩, ⟨26, 2, d.sdCode⟩, ⟨28, 1, nb.length⟩] ++
    (List.range 4).flatMap fun k =>
      let n := nb.getD k 0xFF
      [⟨32 + k, 1, n⟩, ⟨36 + 2 * k, 2, if k < nb.length then (d.thmIn n).raw else 0x8000⟩]

/-- Detection on the second path within 2 ms: both paths stand in the record (R513). -/
def Dev.sdBoth (d : Dev) (path : Nat) : Dev :=
  let i := d.get THM_SHUTDOWNS_count % 8
  let ps := (d.thm.recs.get i []).map fun (p : Part) => if p.off = 23 then { p with val := p.val ||| path } else p
  if d.time ≤ d.thm.sdAt + 6_553_600 then { d with thm := { d.thm with recs := d.thm.recs.put i ps } } else d

/-- Shutdown is detected at a sensor on a path: 1 comparator, 2 ADC (R512). While sd_latched is set only the second path of the same
detection is noted. -/
def Dev.shutdownDetect (d : Dev) (sensor path : Nat) : Dev :=
  if d.flag THM_STATUS_sd_latched then d.sdBoth path
  else
    let n := d.get THM_SHUTDOWNS_count + 1
    let r := d.sdRecord n sensor path
    let d := (d.put THM_STATUS_sd_latched 1).put THM_SHUTDOWNS_count n
    let d := { d with thm := { d.thm with recs := d.thm.recs.put (n % 8) r, sdAt := d.time, sdSeq := d.nextSeq } }
    ((d.pageIrq 0x00C 3).raise F_THERMAL_SHUTDOWN 0x00C 0 n).rejudge

/-- A die sensor's comparator is masked (R511). -/
def Dev.compMasked (d : Dev) (i : Nat) : Bool := decide (i < 64) && ((d.thmIn i).kind != 0 || (d.thmIn i).broken)

/-- `COMPARATOR_TRIP` (R511). -/
def execComparatorTrip (sensor : Nat) (s : State) :=
  onDev (fun d => if sensor < 64 ∧ !d.compMasked sensor then d.shutdownDetect sensor 1 else d) s

/-- A loop is stopped as by `STOP`, by the shutdown, whose record its open ticket names (R120, R448, R512). -/
def Dev.loopShut (d : Dev) (l : Nat) : Dev := (d.loopClose l 5 d.thm.sdSeq).loopOff l 4

/-- `SHUTDOWN_RAIL_STOP` (R512): every loop at once, and every `XEN` output low. -/
def execShutdownRailStop (s : State) :=
  onDev (fun d =>
    if d.flag THM_STATUS_sd_latched then
      let d := each (List.range 4) (fun l (d : Dev) => d.loopShut l) d
      each ((List.range 32).map (· + 64)) (fun r (d : Dev) => d.railDrop r) d
    else d) s

/-! ## A scan (R507–R511) -/

/-- An input takes its reading: `kind` is 0, 1 open or 2 shorted; a thermistor is clamped to −40 to +125 °C (R508). -/
def Dev.thmTake (d : Dev) (i raw kind : Nat) : Dev :=
  let x := d.thmIn i
  if !d.thmEn i then d.putThm i { x with raw := 0x8000, kind := 0 }
  else
    let v := if i < 64 then raw % 2 ^ 16 else ofSigned 16 (clampI (-2560) 8000 (tRead raw))
    let d := if kind ≠ 0 ∧ x.kind ≠ kind then d.pageIrq 0x00C 1 else d
    d.putThm i { x with raw := if kind = 0 then v else 0x8000, kind := kind }

/-- The ADC path (R511): scans in a row with the value in use at or above the threshold. -/
def Dev.thmAdc (d : Dev) : Dev :=
  let d := each (List.range 64) (fun i (d : Dev) =>
    let x := d.thmIn i
    let hot := x.used != 0x8000 && decide (tRead d.sdCode ≤ tRead x.used)
    d.putThm i { x with hot := if hot then min 2 (x.hot + 1) else 0 }) d
  match (List.range 64).find? fun i => decide (2 ≤ (d.thmIn i).hot) with
  | some i => d.shutdownDetect i 2
  | none => d

/-- The masks of broken inputs, as the registers show them (R515). -/
def Dev.thmShow (d : Dev) : Dev :=
  let mask (lo n : Nat) (p : ThmIn → Bool) : Nat :=
    (List.range n).foldl (fun (m k : Nat) => if p (d.thmIn (lo + k)) then setBit m k else m) 0
  let d := (d.put THM_BROKEN_DIE0_broken (mask 0 32 (·.broken))).put THM_BROKEN_DIE1_broken (mask 32 16 (·.broken))
  (d.put THM_BROKEN_TH_broken (mask 64 16 (·.broken))).put THM_BROKEN_TH_nosig (mask 64 16 (fun x => x.kind != 0))

/-- Every input is judged (R509); 16 scans of disagreement in a row declare it broken. -/
def Dev.thmJudge (d : Dev) : Dev :=
  let bad := (List.range 80).filter fun i => d.disagrees i
  let d := each (List.range 80) (fun i (d : Dev) =>
    let x := d.thmIn i
    d.putThm i { x with dis := if i ∈ bad then x.dis + 1 else 0 }) d
  let gone := (List.range 80).filter fun i => decide (16 ≤ (d.thmIn i).dis) && !(d.thmIn i).broken
  let d := each gone (fun i (d : Dev) => d.putThm i { d.thmIn i with broken := true, dis := 0 }) d
  (each gone (fun i (d : Dev) => (d.pageIrq 0x00C 1).raise F_SENSOR_BROKEN 0x00C 0 i) d).thmShow

/-- The die sensor with the highest value in use. -/
def Dev.thmHottest (d : Dev) : Nat × Int :=
  (List.range 64).foldl (fun (a : Nat × Int) i =>
    let v := (d.thmIn i).used
    if v ≠ 0x8000 ∧ a.2 < tRead v then (i, tRead v) else a) (0, -32768)

/-- Warmth (R510), and the hottest die sensor. -/
def Dev.thmWarm (d : Dev) : Dev :=
  let h := d.thmHottest
  let d := (d.put THM_STATUS_hottest h.1).put THM_STATUS_hottest_t (ofSigned 16 h.2)
  let at_ : Int := 64 * (d.get THM_LIMITS_warn_c : Nat)
  if d.flag THM_STATUS_warm then (if h.2 < at_ - 192 then d.put THM_STATUS_warm 0 else d)
  else if at_ ≤ h.2 then
    let d := ((d.put THM_STATUS_warm 1).bumpS THM_WARM_EVENTS_count THM_WARM_EVENTS_sat).pageIrq 0x00C 0
    (d.raise F_DIE_WARM 0x00C 0).irqEdge 137
  else d

/-- Every raw die reading there is lies below sd_c − 15 °C (R514). -/
def Dev.thmCool (d : Dev) : Bool :=
  (List.range 64).all fun i =>
    let x := d.thmIn i
    x.kind != 0 || x.broken || x.raw == 0x8000 || decide (tRead x.raw < tRead d.sdCode - 960)

/-- The charger's window is judged on the raw reading of `TH00` (R431). -/
def Dev.thmCharge (d : Dev) : Dev :=
  let x := d.thmIn 64
  let ok := d.thmValid 64 && decide (0 ≤ tRead x.raw ∧ tRead x.raw ≤ 45 * 64)
  let inner := d.thmValid 64 && decide (2 * 64 ≤ tRead x.raw ∧ tRead x.raw ≤ 43 * 64)
  let from_ := if inner then (if d.pwr.innerFrom = 0 then d.time + 1 else d.pwr.innerFrom) else 0
  let d := { d.putB PWR_STATUS_th_ok ok with pwr := { d.pwr with innerFrom := from_ } }
  if ok then d else d.chgTempOut

/-- `CELL_TEMP_RECOVERED` (R431): the raw reading has stayed within 2–43 °C for 10 s; the charger goes through `DETECT`, and returns to the
cycle in progress. -/
def execCellTempRecovered (s : State) :=
  onDev (fun d =>
    if d.chg = 6 ∧ d.pwr.innerFrom ≠ 0 ∧ d.pwr.innerFrom - 1 + 10 * secondTime ≤ d.time then d.chgDetect d.pwr.heldFrom else d) s

/-- Since when each broken input's reading has stayed within the tolerance of its neighbours' median (R509). -/
def Dev.thmNear (d : Dev) : Dev :=
  each (List.range 80) (fun i (d : Dev) =>
    let x := d.thmIn i
    let rs := d.nbrReads i
    let ok := x.broken && d.thmEn i && x.kind == 0 && decide (2 ≤ rs.length) && withinTol (d.thmTol i) (median2 rs) (tRead x.raw)
    d.putThm i { x with near := if ok then (if x.near = 0 then d.time + 1 else x.near) else 0 }) d

/-- Since when the dies have been cool; cooled clears with the first warm reading (R514). -/
def Dev.thmCooling (d : Dev) : Dev :=
  if d.thmCool then { d with thm := { d.thm with coolFrom := if d.thm.coolFrom = 0 then d.time + 1 else d.thm.coolFrom } }
  else { d with thm := { d.thm with coolFrom := 0 } }.put THM_STATUS_cooled 0

/-- `THERMAL_SCAN` (R507–R511, R514): the 80 readings as T codes, and the inputs found open (1) or shorted (2). The threshold
is judged before disagreement (R524). -/
def Dev.thermalScan (d : Dev) (raw : List Nat) (bad : List (Nat × Nat)) : Dev :=
  let (v, d) := d.free
  let r : Int := (v % 2 : Nat)
  let d := each (List.range 80) (fun i (d : Dev) => d.thmTake i (raw.getD i 0x8000) (SMap.get bad i 0)) d
  (((((((d.thmTakeUsed r).thmAdc).thmJudge).thmTakeUsed r).thmNear).thmWarm).thmCooling).thmCharge

/-- `THERMAL_SCAN`. -/
def execThermalScan (raw : List Nat) (bad : List (Nat × Nat)) (s : State) := onDev (fun d => d.thermalScan raw bad) s

/-- `SENSOR_RESTORE` (R509): the reading has stayed within the tolerance of its neighbours' median for 10 s. -/
def Dev.sensorRestore (d : Dev) (i : Nat) : Dev :=
  let x := d.thmIn i
  if x.broken && x.near != 0 && decide (x.near - 1 + 10 * secondTime ≤ d.time) then
    ((d.putThm i { x with broken := false, dis := 0, near := 0, used := x.raw, subst := false }).thmShow).pageIrq 0x00C 2
  else d

/-- `SENSOR_RESTORE` (R509). -/
def execSensorRestore (input : Nat) (s : State) := onDev (fun d => if input < 80 then d.sensorRestore input else d) s

/-- Cooled rises (R514); during a cold start that waits for it, sd_latched clears and R545 is judged again (R552). -/
def Dev.cooledRise (d : Dev) : Dev :=
  let d := (d.put THM_STATUS_cooled 1).pageIrq 0x00C 4
  if d.flag PWR_PSTATE_sd_wait then (((d.put THM_STATUS_sd_latched 0).put PWR_PSTATE_sd_wait 0).rejudge).upJudge else d

/-- `COOLED_SET` (R514). -/
def execCooledSet (s : State) :=
  onDev (fun d =>
    if d.thm.coolFrom ≠ 0 ∧ d.thm.coolFrom - 1 + 10 * secondTime ≤ d.time ∧ !d.flag THM_STATUS_cooled then d.cooledRise else d) s

/-! ## The kitchen timer (R516–R523) -/

/-- A period begins with what the registers hold (R516). -/
def Dev.wdtBegin (d : Dev) : Dev :=
  let d := (d.put WDT_DONE_done 0).put WDT_EARLY_early 0
  { d with wdt := { d.wdt with
    start := d.time, period := d.get WDT_CFG_period_ms, window := d.get WDT_CFG_window, en := d.get WDT_SLOT_EN_en } }

/-- The timer stops; the period in progress is not judged (R523). -/
def Dev.wdtHalt (d : Dev) : Dev :=
  if d.flag WDT_CFG_running then ((d.put WDT_CFG_running 0).put WDT_DONE_done 0).put WDT_EARLY_early 0 else d

/-- The slots that have not checked in. -/
def Dev.wdtMissing (d : Dev) : Nat := maskOff d.wdt.en (d.get WDT_DONE_done)

/-- The timer's registers take the values of a start mode (R519). -/
def Dev.wdtDefaults (d : Dev) (hw : Bool) : Dev :=
  let d := (d.putB WDT_CFG_hw_start hw).put WDT_CFG_window 0
  let d := (d.put WDT_CFG_period_ms (if hw then 2_000 else 1_000)).put WDT_SLOT_EN_en (if hw then 1 else 0)
  if hw then d else d.wdtHalt

/-- A capture (R520): its cause, and what the blocks in it were doing. -/
def Dev.wdtCapture (d : Dev) (cause : Nat) : Dev :=
  let n := d.get WDT_CAPTURES_count + 1
  let pcs := (List.range 9).map fun k => if d.railGood (if k = 8 then 12 else 24 + k) then Config.free (d.freeCtr + k) % 2 ^ 16 else 0
  let valid := 3 + (List.range 8).foldl (fun (a k : Nat) => if d.railGood (24 + k) then a + 2 ^ (k + 2) else a) 0 +
    (if d.railGood 12 then 2 ^ 10 else 0)
  let ps : List Part := [⟨0, 8, n⟩, ⟨8, 2, d.epoch⟩, ⟨10, 6, d.tick⟩, ⟨16, 6, d.frameRec⟩, ⟨22, 1, cause⟩, ⟨24, 4, d.wdtMissing⟩,
    ⟨28, 4, d.get WDT_EARLY_early⟩, ⟨32, 4, d.wdt.en⟩, ⟨36, 2, d.wdt.period⟩, ⟨38, 2, valid⟩, ⟨40, 2, d.get SEQ_ENG_STATUS_pc 0⟩,
    ⟨42, 2, d.get SEQ_ENG_STATUS_pc 1⟩]
  let est : List Part := (List.range 9).map fun k => ⟨44 + 2 * k, 2, pcs.getD k 0⟩
  let kicks : List Part := (List.range 32).map fun s =>
    let t := d.wdt.last.get s (0, 0)
    ⟨64 + 8 * s, 8, t.1 + 2 ^ 16 * t.2⟩
  let d := { d with freeCtr := d.freeCtr + 9, wdt := { d.wdt with caps := d.wdt.caps.put (n % 8) (ps ++ est ++ kicks) } }
  d.put WDT_CAPTURES_count n

/-- The detail of the timer's faults: the capture's count and the missing mask (R520). -/
def Dev.wdtDetail (d : Dev) (missing : Nat) : Nat := d.get WDT_CAPTURES_count + 2 ^ 64 * missing

/-- A period ends and is judged (R518); a mismatch at the same instant shares its capture (R524). -/
def Dev.wdtEnd (d : Dev) (mism : Bool) : Dev :=
  let miss := d.wdtMissing
  let early := d.get WDT_EARLY_early
  let expired := decide (miss ≠ 0 ∨ early ≠ 0)
  let cause := (if miss = 0 then 0 else 1) + (if early = 0 then 0 else 2) + (if mism then 4 else 0)
  let d := if expired || mism then d.wdtCapture cause else d
  let d := if expired then
      (((d.bumpS WDT_EXPIRIES_count WDT_EXPIRIES_sat).pageIrq 0x00D 0).raise F_WDT_EXPIRY 0x00D 0 (d.wdtDetail miss)).irqEdge 142
    else d
  let d := if mism then
      ({ d with wdt := { d.wdt with mismatch := true } }.pageIrq 0x00D 1).raise F_WDT_TIMER_MISMATCH 0x00D 0 (d.wdtDetail miss) else d
  d.wdtBegin

/-- `WDT_PERIOD_END` (R518): whether a mismatch falls on the same instant. -/
def execWdtPeriodEnd (mismatch : Bool) (s : State) :=
  onDev (fun d => if d.flag WDT_CFG_running then d.wdtEnd mismatch else d) s

/-- `WDT_TIMER_MISMATCH` (R521): the period runs on. -/
def execWdtTimerMismatch (s : State) :=
  onDev (fun d =>
    if d.flag WDT_CFG_running then
      let d := { d.wdtCapture 4 with wdt := { (d.wdtCapture 4).wdt with mismatch := true } }
      (d.pageIrq 0x00D 1).raise F_WDT_TIMER_MISMATCH 0x00D 0 (d.wdtDetail d.wdtMissing)
    else d) s

/-- The window of the period in progress is open (R516): a millisecond is 3,276,800 units of time. -/
def Dev.wdtOpen (d : Dev) : Bool := decide (d.wdt.window * d.wdt.period * 3_276_800 ≤ 16 * (d.time - d.wdt.start))

/-- A check-in (R517). -/
def Dev.wdtKick (d : Dev) (v : Nat) : Dev :=
  let slot := v % 32
  if d.flag WDT_CFG_running ∧ v = 0x5A00 + slot ∧ bit d.wdt.en slot then
    if d.wdtOpen then
      let d := { d with wdt := { d.wdt with last := d.wdt.last.put slot (d.epoch, d.tick) } }
      d.put WDT_DONE_done (setBit (d.get WDT_DONE_done) slot)
    else d.put WDT_EARLY_early (setBit (d.get WDT_EARLY_early) slot)
  else d.bumpS WDT_BAD_KICKS_count WDT_BAD_KICKS_sat

/-- `START` (R523). -/
def wdtStart : CmdDef where
  verdict _ c d :=
    { Verdict.ok with
      denied := d.denies c scopeOPS, badArg := c.arg != 0
      badState := d.flag WDT_CFG_running || d.get WDT_SLOT_EN_en == 0, priv := true }
  effect _ _ n d := ((d.put WDT_CFG_running 1).wdtBegin).done n

/-- `STOP` (R523). -/
def wdtStop : CmdDef where
  verdict _ c d :=
    { Verdict.ok with
      denied := d.denies c scopeOPS, badArg := c.arg != 0
      badState := !d.flag WDT_CFG_running || d.flag WDT_CFG_hw_start, priv := true }
  effect _ _ n d := d.wdtHalt.done n

/-- `WDT_START` (R523). -/
def execWdtStart (c : Cmd) (s : State) := onDev (fun d => d.cmd 0x00D 1 wdtStart c) s
/-- `WDT_STOP` (R523). -/
def execWdtStop (c : Cmd) (s : State) := onDev (fun d => d.cmd 0x00D 2 wdtStop c) s

/-- Byte `k` of a pantry record of `n` bytes that ends in the CRC-32 of what stands before it (R513, R520). -/
def recordByte (ps : List Part) (n k : Nat) : Nat :=
  if k < n - 4 then partByte ps k
  else bits (crc32 ((List.range (n - 4)).map fun i => partByte ps i)) (8 * (k - (n - 4))) 8

end Sys2Proof.Machine
end

