-- ==== Sys2Proof/Machine/Reads.lean ====
section
/-!
DEFINITION. Machine/Reads.lean: what a register reads (R7, R68, R74–R77): which instance a word of a page shows to a channel, the
fields the device computes when they are read, `SNAP` latches, and what a page that is off or lost shows.
-/
namespace Sys2Proof.Machine

/-! ## Which instance a word shows -/

/-- Fields of which every channel has its own instance, in one word (R68, R89, R124, R236, R265, R302, R367, R370, R515, R522, R539). -/
def channelFields : List Field := [
  FRM_SEL_lane, SCH_CELL_SEL_pos, SCH_STR_SEL_lane, IMP_SEL_lane, IMP_CELL_SEL_pos, EST_CELL_SEL_pos, EST_PART_SEL_part,
  MTR_CH_SEL_ch, MTR_BANK_SEL_bank, MTR_UNIT_SEL_unit, THM_SEL_input, THM_SD_SEL_back, WDT_CAP_SEL_back, TKT_LOOKUP_LO_ticket_lo,
  TKT_LOOKUP_HI_ticket_hi, TKT_LOOKUP_RESULT_found, TKT_LOOKUP_RESULT_state, TKT_LOOKUP_RESULT_index, OTP_ADDR_word, OTP_DATA_data] ++ [
  CUS_STATUS_last_error, CUS_STATUS_lockout, CUS_STATUS_verify_busy, CUS_STATUS_both_required, CUS_STATUS_holder_b_ok,
  CUS_STATUS_holder_a_ok, CUS_STATUS_phase, CUS_SCOPE_scope, CUS_REMAIN_seconds, CUS_DENIED_WRITES_count, LDG_OUT_STATUS_kind,
  LDG_OUT_STATUS_state]

/-- Fields of which every channel has its own words: the field and its words. -/
def channelWords : List (Field × Nat) := [
  (CUS_NONCE_nonce, 8), (CUS_MAILBOX_REQ_data, 24), (CUS_MAILBOX_KEY_data, 25), (CUS_MAILBOX_SIG_data, 24), (LDG_OUT_data, 128)]

/-- The instance that a selector of the page puts at an offset, if one does: the lane, channel or bank that the reading channel has
selected (R195, R236, R265, R370). -/
def Dev.selected (d : Dev) (ch page off : Nat) : Option Nat :=
  if page = 0x14 ∧ 0x104 ≤ off ∧ off < 0x134 then some (d.get FRM_SEL_lane ch)
  else if page = 0x15 ∧ 0x144 ≤ off ∧ off < 0x160 then some (d.get SCH_STR_SEL_lane ch)
  else if page = 0x16 ∧ 0x114 ≤ off ∧ off < 0x134 then some (d.get IMP_SEL_lane ch)
  else if page = 0x13 ∧ 0x11C ≤ off ∧ off < 0x130 then some (d.get MTR_CH_SEL_ch ch)
  else if page = 0x13 ∧ off = 0x154 then some (d.get MTR_BANK_SEL_bank ch)
  else none

/-- The rows that lie at an offset of a page, each with the number of its word. The twin page shows the lane registers of its four
lanes from 0x400 on (R393); every page begins with the header. -/
def rowsAt (page off : Nat) : List (RegField × Nat) :=
  let hit (o : Nat) (rows : List RegField) : List (RegField × Nat) :=
    (rows.filter fun f => decide (f.off ≤ o) && decide ((o - f.off) % f.stride = 0) && decide ((o - f.off) / f.stride < f.count)).map
      fun f => (f, (o - f.off) / f.stride)
  if off < 0x100 then hit off rowsPAGE
  else if page = 0x11 ∧ 0x400 ≤ off ∧ off < 0x500 then hit (off - 0x300) (rowsLNK.filter fun f => f.stride == 64)
  else hit off (blockRows (blockOf page))

/-- The instance of a row's word `k`, seen through a channel. -/
def Dev.fieldIndex (d : Dev) (ch page off : Nat) (f : RegField) (k : Nat) : Nat :=
  let b := blockOf page
  let i := k * f.mul + f.add
  if off < 0x100 then (if f.fld.reg = 0x18 ∨ f.fld.reg = 0x1C then chPage page ch else page)
  else if page = 0x11 ∧ 0x400 ≤ off then 512 + i
  else if b = 0x20 ∨ b = 0x30 ∨ b = 0x40 then (page - b) * perPage b f.fld.code + i
  else if f.fld ∈ channelFields then ch
  else if f.fld = LDG_CERT_DATA_data then d.get LDG_CERT_SEL_part * 256 + i
  else match channelWords.find? fun w => w.1 == f.fld with
    | some w => ch * w.2 + i
    | none => (d.selected ch page off).getD i

/-! ## Fields computed when they are read -/

/-- The page's state (R77): OFF 0, READY 2, BUSY 3, HIBERNATE 4, DISABLED 5, LOST 6, FAULT 7. -/
def Dev.pageState (d : Dev) (page : Nat) : Nat :=
  if !(page == 0x0E || d.pageOn page) then 0
  else if d.pageLost page then 6
  else if d.flt.contained.any (fun p => p.1 == page) then 7
  else if !d.flag PAGE_CTRL_enable page then 5
  else if (page == 0x16 || page == 0x17) && d.flag EST_STATUS_hibernated then 4
  else if d.tkt.rail.any (fun (e : Nat × Ticket) => e.2.open_ && e.2.page == page) then 3
  else 2

/-- Pages that accept `PAGE_CMD` or a named command field (R76, R79). -/
def cmdPages : List Nat :=
  [0x02, 0x04, 0x07, 0x08, 0x09, 0x0A, 0x0B, 0x0D, 0x0E, 0x10, 0x11, 0x12, 0x13, 0x14, 0x15, 0x16, 0x17, 0x18, 0x19]

/-- Pages whose block raises interrupts: those for which a chapter names a bit of `PAGE_IRQ_RAW`. -/
def irqPages : List Nat :=
  [0x04, 0x05, 0x07, 0x08, 0x09, 0x0A, 0x0B, 0x0C, 0x0D, 0x0E, 0x10, 0x11, 0x12, 0x13, 0x14, 0x15, 0x16, 0x17, 0x18, 0x19]

/-- The common header's computed fields (R76, R77). `PAGE_CAPS.priv` is judged from the block's own rows: `block_reset`, which every
header has, does not count (DESIGN CHOICE, assumption 25). -/
def Dev.readHeader (d : Dev) (ch page : Nat) (f : Field) (i : Nat) : Nat :=
  let b := blockOf page
  if f = PAGE_ID_block then b
  else if f = PAGE_ID_instance then page - b
  else if f = PAGE_CAPS_block_caps then Config.blockCaps page
  else if f = PAGE_CAPS_hib then b2n (page == 0x16 || page == 0x17)
  else if f = PAGE_CAPS_irq then b2n (decide (page ∈ irqPages) || decide (0x20 ≤ page))
  else if f = PAGE_CAPS_cmd then b2n (decide (page ∈ cmdPages) || decide (0x20 ≤ page))
  else if f = PAGE_CAPS_priv then b2n ((blockRows b).any fun r => r.unpriv != r.priv)
  else if f = PAGE_STATE_priv_open then b2n (decide (ch < 2) && d.covers ch (pageScope page))
  else if f = PAGE_STATE_block_state then Config.blockState page d.time
  else if f = PAGE_STATE_state then d.pageState page
  else if f = PAGE_IRQ_PEND_pend then d.pagePend page
  else d.get f i

/-- Frames since a lane's copies last exchanged (R64). -/
def Dev.hatchAge (d : Dev) (l : Nat) : Nat := d.hatch.clock - d.hatch.last.get l 0

/-- The lane with the oldest front copy among the powered lanes, the lowest-numbered on a tie (R64). -/
def Dev.hatchOldest (d : Dev) : Option Nat :=
  d.poweredLanes.foldl (fun (a : Option Nat) l => match a with
    | none => some l
    | some m => if d.hatchAge m < d.hatchAge l then some l else a) none

/-- `GEN`'s computed fields (R64). -/
def Dev.readGen (d : Dev) (f : Field) (i : Nat) : Nat :=
  let age := match d.hatchOldest with
    | some l => d.hatchAge l
    | none => 0
  if f = GEN_HATCH_HW_AGE_frames then min age (2 ^ 31 - 1)
  else if f = GEN_HATCH_HW_AGE_sat then b2n (decide (2 ^ 31 ≤ age))
  else if f = GEN_HATCH_HW_LANE_lane then d.hatchOldest.getD 0
  else if f = GEN_HATCH_STATUS_hw_blind then
    let here := d.hatch.front.filter fun (e : Nat × Nat) => d.groupOn (e.1 / 5120)
    b2n (here.isEmpty || here.any fun (e : Nat × Nat) => bit e.2 0 && !bit e.2 1)
  else d.get f i

/-- `IRQ`'s computed fields (R97). -/
def Dev.readIrq (d : Dev) (f : Field) (i : Nat) : Nat :=
  if f = IRQ_TGT_PEND_pend then (List.range 8).foldl (fun (n t : Nat) => if (d.irqNext t).isSome then n + 2 ^ t else n) 0
  else if f = IRQ_NEXT_valid then b2n (d.irqNext i).isSome
  else if f = IRQ_NEXT_source then (d.irqNext i).getD 0
  else d.get f i

/-- `FRM`'s computed fields (R195). -/
def Dev.readFrm (d : Dev) (f : Field) (i : Nat) : Nat :=
  let a := unpackEndpoint (d.get FRM_B_ADDR_addr)
  if f = FRM_EPOCH_role then b2n (!d.standby)
  else if f = FRM_B_DATA_up then match a with
    | some p => (d.frm p.lane).bUp.get (p.node * 32 + p.cell) 0
    | none => 0
  else if f = FRM_B_DATA_down then match a with
    | some p => (d.frm p.lane).bDown.get (p.node * 32 + p.cell) 0
    | none => 0
  else d.get f i

/-- The place of a position in a rank order. -/
def placeIn (order : List Nat) (idx : Nat) : Nat := if idx ∈ order then (order.takeWhile (· != idx)).length else 0

/-- The cell a selector names, if a cell stands there: lane and position index. -/
def Dev.cellAt (d : Dev) (w : Nat) : Option (Nat × Nat) :=
  match unpackCell w with
  | some p => if p.idx ∈ d.laneIdx p.lane then some (p.lane, p.idx) else none
  | none => none

/-- `SCH_CELL_INFO`, `SCH_CELL_RANK` and `SCH_CELL_SWITCHES` of a cell (R236). -/
def Dev.readSchCell (d : Dev) (l idx : Nat) (f : Field) : Nat :=
  let x := d.cell l idx
  if f = SCH_CELL_INFO_present then 1
  else if f = SCH_CELL_INFO_status then d.cellStatus l idx
  else if f = SCH_CELL_INFO_stale then b2n (d.isStale l idx)
  else if f = SCH_CELL_INFO_t_subst then b2n x.tSubst
  else if f = SCH_CELL_INFO_class then classOf d.sch.active l idx
  else if f = SCH_CELL_INFO_withdrawn then b2n (withdrawnIn d.sch.active l idx)
  else if f = SCH_CELL_INFO_stir then b2n ((d.str l).slots.any fun s => slotHolds s idx)
  else if f = SCH_CELL_INFO_role then x.role
  else if f = SCH_CELL_INFO_inh_chg then b2n (!d.eligible l idx 1 (d.lastPolarity l))
  else if f = SCH_CELL_INFO_inh_dis then b2n (!d.eligible l idx 0 (d.lastPolarity l))
  else if f = SCH_CELL_INFO_cur_inh then b2n x.curInh
  else if f = SCH_CELL_RANK_rank_chg then placeIn (d.str l).orderChg idx
  else if f = SCH_CELL_RANK_rank_dis then placeIn (d.str l).orderDis idx
  else x.switches

/-- `SCH`'s computed fields (R236). -/
def Dev.readSch (d : Dev) (ch off : Nat) (f : Field) (i : Nat) : Nat :=
  if 0x124 ≤ off ∧ off < 0x130 then match d.cellAt (d.get SCH_CELL_SEL_pos ch) with
    | some p => d.readSchCell p.1 p.2 f
    | none => 0
  else d.get f i

/-- `IMP`'s cell registers (R265): a position that is no served cell shows zeros. -/
def Dev.readImpCell (d : Dev) (l idx : Nat) (f : Field) (i : Nat) : Nat :=
  let x := d.impLane l
  if idx ∉ x.cells then 0
  else
    let o := placeIn x.cells idx
    let t := x.temps.get idx ⟨0, false, 0⟩
    if f = IMP_CELL_INFO_served then 1
    else if f = IMP_CELL_INFO_t_valid then b2n (d.tintValid l idx)
    else if f = IMP_CELL_INFO_t_clamped then b2n t.clamped
    else if f = IMP_CELL_INFO_ordinal then o
    else if f = IMP_CELL_INFO_t_int then t.t
    else if f = IMP_CELL_TAGE_s then (if x.temps.has idx then min 0xFFFF (d.tintAge l idx) else 0)
    else x.prev.get (o * 16 + i) 0

/-- `IMP`'s computed fields (R265). -/
def Dev.readImp (d : Dev) (ch off : Nat) (f : Field) (i : Nat) : Nat :=
  if 0x144 ≤ off ∧ off < 0x1C0 then match unpackCell (d.get IMP_CELL_SEL_pos ch) with
    | some p => d.readImpCell p.lane p.idx f i
    | none => 0
  else
    let x := d.impLane (d.get IMP_SEL_lane ch)
    if f = IMP_L_STATUS_hibernated then d.get EST_STATUS_hibernated
    else if f = IMP_L_STATUS_plan_pending then b2n (!x.pend.isEmpty)
    else if f = IMP_L_STATUS_cells then x.cells.length
    else if f = IMP_L_STATUS_bins then x.bins
    else if f = IMP_L_REFRESH_AGE_ms then (if x.bins = 0 then 0 else min 0xFFFF ((d.frame - x.refreshed) / 50))
    else d.get f i

/-- `EST`'s registers of one cell (R302). A read of the learned record here disturbs nothing (assumption 18). -/
def Dev.readEstCell (d : Dev) (l idx : Nat) (f : Field) : Nat :=
  let x := d.estCell l idx
  let r := (d.recRead l idx).1
  if f = EST_CELL_STATE_soc then (if x.started then socUnits x.s else 0)
  else if f = EST_CELL_STATE_est_valid then b2n x.valid
  else if f = EST_CELL_STATE_stale then b2n (d.isStale l idx)
  else if f = EST_CELL_STATE_full then b2n x.full
  else if f = EST_CELL_STATE_empty then b2n x.empty
  else if f = EST_CELL_STATE_q_learned then b2n (r.fmt == 1 && bit r.flags 1)
  else if f = EST_CELL_STATE_r_learned then b2n (r.fmt == 1 && bit r.flags 2)
  else if f = EST_CELL_STATE_accum_sat then b2n x.accSat
  else if f = EST_CELL_STATE_resting then b2n x.resting
  else if f = EST_CELL_STATE_weight then x.weight
  else if f = EST_CELL_SD_relearn then 25 * min r.staleQ 2 + 50 * min r.staleR 16 / 16
  else if f = EST_CELL_SD_soc_sd then min 0xFFFF (isqrt 24 ((clampI 0 (2 ^ 48 - 1) (x.cov.getD 0 0 * 2 ^ 32).floor).toNat))
  else if f = EST_CELL_Q_q then d.qUse l idx r
  else if f = EST_CELL_ROHM_r_ohm_25 then d.rOhmUse l idx r
  else if f = EST_CELL_RPOL_r_pol_25 then d.rPolUse l idx r
  else if f = EST_CELL_HYST_h then ofSigned 16 (clampI (-32_768) 32_767 (x.h * 1_000_000 / 150).floor)
  else if f = EST_CELL_HYST_t_used then ofSigned 16 x.tUsed
  else if f = EST_CELL_CTOT_LO_ctot_lo then ofSigned 64 x.ctot % 2 ^ 32
  else ofSigned 64 x.ctot / 2 ^ 32

/-- `EST`'s registers of one partition (R29, R302). -/
def Dev.readEstPart (d : Dev) (p : Nat) (f : Field) : Nat :=
  let x := d.part p
  if f = EST_PART_STATUS_empty then b2n (if p = 64 then d.plantLanes.isEmpty else x.inForce == 0)
  else if f = EST_PART_STATUS_rescaled then b2n x.rescaled
  else if f = EST_PART_STATUS_converging then b2n x.converging
  else if f = EST_PART_STATUS_rep_soc then min 0xFFFF (x.rep / 2 ^ 32)
  else if f = EST_PART_TRUE_s_min then x.sMin
  else if f = EST_PART_TRUE_true_soc then x.trueSoc
  else if f = EST_PART_USABLE_LO_lo then x.usable
  else if f = EST_PART_USABLE_HI_hi then x.usable / 2 ^ 32
  else if f = EST_PART_CAP_LO_lo then x.cap
  else if f = EST_PART_CAP_HI_hi then x.cap / 2 ^ 32
  else if f = EST_PART_SOH_cap_ratio then x.ratio
  else if f = EST_PART_SOH_r_growth then x.growth
  else if f = EST_PART_CELLS_counted then x.counted
  else x.uncounted

/-- `EST`'s computed fields (R302): a position without a cell shows zeros and the reset weight. -/
def Dev.readEst (d : Dev) (ch off : Nat) (f : Field) (i : Nat) : Nat :=
  if f = EST_STATUS_clusters then d.clustersOn
  else if 0x144 ≤ off ∧ off < 0x164 then match d.cellAt (d.get EST_CELL_SEL_pos ch) with
    | some p => d.readEstCell p.1 p.2 f
    | none => f.reset
  else if 0x184 ≤ off ∧ off < 0x1A8 then d.readEstPart (d.get EST_PART_SEL_part ch) f
  else d.get f i

/-- `MTR`'s computed fields (R345, R348, R370). -/
def Dev.readMtr (d : Dev) (ch : Nat) (f : Field) (i : Nat) : Nat :=
  let b := d.bankAcc (d.get MTR_BANK_SEL_bank ch)
  let n := d.get MTR_UNIT_SEL_unit ch
  let u := d.unitAcc n
  let z := d.unitAcc unleased
  let thru := (u.thru / 3_600_000).floor.toNat
  if f = MTR_BANK_EOUT_LO_lo then b.ePos / perMWh
  else if f = MTR_BANK_EOUT_HI_hi then b.ePos / perMWh / 2 ^ 32
  else if f = MTR_BANK_EIN_LO_lo then b.eNeg / perMWh
  else if f = MTR_BANK_EIN_HI_hi then b.eNeg / perMWh / 2 ^ 32
  else if f = MTR_UNIT_STATUS_defined then b2n (unitDefined d.mtr.units n)
  else if f = MTR_UNIT_STATUS_ranges then (if unitDefined d.mtr.units n then (unitRanges d.mtr.units n).length else 0)
  else if f = MTR_UNIT_STATUS_cells then (if unitDefined d.mtr.units n then (d.unitCells d.mtr.units n).length else 0)
  else if f = MTR_UNIT_EOUT_LO_lo then u.eOut / perMWh
  else if f = MTR_UNIT_EOUT_HI_hi then u.eOut / perMWh / 2 ^ 32
  else if f = MTR_UNIT_EIN_LO_lo then u.eIn / perMWh
  else if f = MTR_UNIT_EIN_HI_hi then u.eIn / perMWh / 2 ^ 32
  else if f = MTR_UNIT_THRU_LO_lo then thru
  else if f = MTR_UNIT_THRU_HI_hi then thru / 2 ^ 32
  else if f = MTR_UNIT_EFC_efc then (u.efc * 100).floor.toNat
  else if f = MTR_UNLEASED_EOUT_LO_lo then z.eOut / perMWh
  else if f = MTR_UNLEASED_EOUT_HI_hi then z.eOut / perMWh / 2 ^ 32
  else if f = MTR_UNLEASED_EIN_LO_lo then z.eIn / perMWh
  else if f = MTR_UNLEASED_EIN_HI_hi then z.eIn / perMWh / 2 ^ 32
  else d.get f i

/-- `PWR`'s computed fields (R433, R437); the cell current reads its reset value until time has passed for a first measurement. -/
def Dev.readPwr (d : Dev) (f : Field) (i : Nat) : Nat :=
  if f = PWR_STATUS_restrictive then d.get OTP_STATUS_restrictive
  else if f = PWR_NODE_i_cell then (if d.time = d.pwr.d00At then 0 else ofSigned 16 d.cellNow)
  else if f = PWR_VBUS_i_in then d.vbusNow
  else if f = PWR_CELL_T_t then (d.thmIn 64).raw
  else if f = PWR_CHG_CFG_en then b2n d.chgEn
  else if f = PWR_CHG_TIMER_half_speed then b2n d.halfSpeed
  else d.get f i

/-- The record that stands `back` places behind the latest one, as a word (R513, R520). -/
def recordWord (recs : SMap (List Part)) (count back bytes w : Nat) : Nat :=
  if count ≤ back then 0
  else match recs.get ((count - back) % 8) [] with
    | [] => 0
    | ps => leNat ((List.range 4).map fun k => recordByte ps bytes (4 * w + k))

/-- `THM`'s computed fields (R511, R515). -/
def Dev.readThm (d : Dev) (ch : Nat) (f : Field) (i : Nat) : Nat :=
  let n := d.get THM_SEL_input ch
  let x := d.thmIn n
  if f = THM_IN_raw then x.raw
  else if f = THM_IN_used then x.used
  else if f = THM_IN_FLAGS_comp_masked then b2n (d.compMasked n)
  else if f = THM_IN_FLAGS_shorted then b2n (x.kind == 2)
  else if f = THM_IN_FLAGS_open then b2n (x.kind == 1)
  else if f = THM_IN_FLAGS_subst then b2n x.subst
  else if f = THM_IN_FLAGS_broken then b2n x.broken
  else if f = THM_SD_REC_data then recordWord d.thm.recs (d.get THM_SHUTDOWNS_count) (d.get THM_SD_SEL_back ch) 64 i
  else d.get f i

/-- `WDT`'s computed fields (R516, R522). -/
def Dev.readWdt (d : Dev) (ch : Nat) (f : Field) (i : Nat) : Nat :=
  if f = WDT_LEFT_us then
    (if d.flag WDT_CFG_running then (d.wdt.start + d.wdt.period * 3_276_800 - d.time) * 10 / 32_768 else 0)
  else if f = WDT_CAP_data then recordWord d.wdt.caps (d.get WDT_CAPTURES_count) (d.get WDT_CAP_SEL_back ch) 512 i
  else d.get f i

/-- Seconds left in a channel's open session, from the RTC ticks since its `OPEN` (R88, R89); the part of a second is dropped
(DESIGN CHOICE, assumption 25). -/
def Dev.cusRemain (d : Dev) (ch : Nat) : Nat :=
  if d.get CUS_STATUS_phase ch = 3 then (d.get CUS_REMAIN_seconds ch * 32_768 - (d.tick - d.isl.opened.get ch 0)) / 32_768 else 0

/-- A field as it reads, instance `i`, through a channel. -/
def Dev.fieldRead (d : Dev) (ch page off : Nat) (f : Field) (i : Nat) : Nat :=
  let v :=
    if off < 0x100 then d.readHeader ch page f i
    else if page = 0x00 then d.readGen f i
    else if page = 0x03 then d.readIrq f i
    else if page = 0x14 then d.readFrm f i
    else if page = 0x15 then d.readSch ch off f i
    else if page = 0x16 then d.readImp ch off f i
    else if page = 0x17 then d.readEst ch off f i
    else if page = 0x13 then d.readMtr ch f i
    else if page = 0x09 then d.readPwr f i
    else if page = 0x0C then d.readThm ch f i
    else if page = 0x0D then d.readWdt ch f i
    else if page = 0x11 ∧ 0x400 ≤ off ∧ off % 0x40 = 0x04 then 0
    else if f = SEQ_ENG_WAIT_us then (((if i = 0 then d.seq.eng0 else d.seq.eng1).waitEnd) - d.time) * 10 / 32_768
    else if f = CUS_REMAIN_seconds then d.cusRemain i
    else if f = OTP_READ_data then d.otp.sh (d.get OTP_ADDR_word ch)
    else if f = BRN_STATUS_adapting then b2n (d.flag f i && d.adaptMay)
    else if f = BRN_ILIM_i_lim ∧ d.flag OTP_STATUS_restrictive then 10
    else if f.reg ∈ [BRN_ADAPT_band.reg, BRN_ADAPT_LIM_floor.reg] ∧ i ≠ 0 then 0
    else d.get f i
  v % 2 ^ f.width

/-! ## Words -/

/-- The part of a word that its fields of the wanted kinds make. -/
def Dev.wordOf (d : Dev) (ch : Nat) (priv : Bool) (page off : Nat) (want : Access → Bool) : Nat :=
  (rowsAt page off).foldl (fun (n : Nat) (r : RegField × Nat) =>
    if want (if priv then r.1.priv else r.1.unpriv) then
      n + d.fieldRead ch page off r.1.fld (d.fieldIndex ch page off r.1 r.2) * 2 ^ r.1.pos
    else n) 0

/-- Plainly read, or read through a latch. -/
def readable (a : Access) : Bool := a != .hidden && a != .wo
/-- Read through a latch. -/
def snapped (a : Access) : Bool := a == .snap

/-- The key of a high word's latch. -/
def snapKey (page off ch : Nat) : Nat := (page * 0x1000 + off) * 8 + ch

/-- The word at an offset is the high half of a `SNAP` pair: pairs that follow one another stand low, high, low, high. `n` bounds
how many words below are looked at. -/
def snapHighIn (page : Nat) : Nat → Nat → Bool
  | 0, _ => false
  | n + 1, off =>
    decide (4 ≤ off) && ((rowsAt page off).any fun r => snapped r.1.unpriv) &&
      ((rowsAt page (off - 4)).any fun r => snapped r.1.unpriv) && !snapHighIn page n (off - 4)

/-- The word is the high half of a `SNAP` pair. -/
def snapHigh (page off : Nat) : Bool := snapHighIn page 8 off

/-- MSI-X words of the `HIF` page (R80): the table, and the pending bits. A table entry's vector control begins masked. -/
def Dev.msixWord (d : Dev) (off : Nat) : Nat :=
  if 0x800 ≤ off ∧ off < 0xC00 then d.msixTable.get ((off - 0x800) / 4) (if (off / 4) % 4 = 3 then 1 else 0)
  else if 0xC00 ≤ off ∧ off < 0xC08 then
    (List.range 32).foldl (fun (n b : Nat) => if (off - 0xC00) * 8 + b ∈ d.msixPend then n + 2 ^ b else n) 0
  else 0

/-- The page serves its block registers: it is on and not lost; `OTP` always (R48, R531). -/
def Dev.serves (d : Dev) (page : Nat) : Bool := page == 0x0E || (d.pageOn page && !d.pageLost page)

/-- What a word reads, without the read's effects: a word of a page that is off or lost reads zero but for its identity, version
and state (R48); an unassigned page reads all ones in `PAGE_ID` and zero elsewhere (R75). -/
def Dev.peek (d : Dev) (ch : Nat) (priv : Bool) (page off : Nat) : Nat :=
  if !assigned page then (if off = 0 then 0xFFFF_FFFF else 0)
  else if off ∈ [0x000, 0x004, 0x00C] then d.wordOf ch priv page off readable
  else if !d.serves page then 0
  else if page = 0x01 ∧ 0x800 ≤ off ∧ off < 0xC08 then d.msixWord off
  else if snapHigh page off then
    d.snap.get (snapKey page off ch) 0 + d.wordOf ch priv page off (fun a => readable a && !snapped a)
  else d.wordOf ch priv page off readable

/-- The effects of reading a word: its high half is latched for the channel (R7, R68), and a read of `SCH_REJ_COUNT` lets the next
ignored write signal again (R236). -/
def Dev.readEffect (d : Dev) (ch page off : Nat) : Dev :=
  if !assigned page || !d.serves page then d
  else
    let d := if (rowsAt page off).any (fun r => snapped r.1.unpriv) && !snapHigh page off then
        { d with snap := d.snap.put (snapKey page (off + 4) ch) (d.wordOf ch false page (off + 4) snapped) }
      else d
    if page = 0x15 ∧ off = 0x108 then { d with sch := { d.sch with rejSince := false } } else d

/-- A word of a page is read through a channel's view. -/
def Dev.readWord (d : Dev) (ch : Nat) (priv : Bool) (page off : Nat) : Nat × Dev :=
  (d.peek ch priv page off, d.readEffect ch page off)

end Sys2Proof.Machine
end

