-- ==== Sys2Proof/Machine/Windows.lean ====
section
/-!
DEFINITION. Machine/Windows.lean: the table windows (R74): what each table shows, and what a write to it does. Offsets are from the
table's start; `HIF_WIN_BASE` has been added.
-/
namespace Sys2Proof.Machine

/-- The page whose domain and scope a window has (R75). -/
def windowPage (w : Nat) : Nat := [0x15, 0x15, 0x17, 0x17, 0x17, 0x17, 0x16, 0x14, 0x12, 0x13, 0x05, 0x04, 0x0A].getD w 0x00

/-- The word at byte `o` of a list of bytes laid out as parts. -/
def partWord (ps : List Part) (o : Nat) : Nat := leNat ((List.range 4).map fun k => partByte ps (o + k))

/-- A ticket entry's bytes (R121). -/
def ticketParts (t : Ticket) : List Part :=
  [⟨0, 6, t.ticket⟩, ⟨6, 1, t.state + 8 * b2n t.open_ + 16 * b2n t.powerLost⟩, ⟨7, 1, t.result⟩, ⟨8, 1, t.channel⟩, ⟨9, 1, t.opcode⟩,
   ⟨10, 2, t.page⟩, ⟨12, 4, t.arg⟩, ⟨16, 4, t.done⟩, ⟨20, 4, t.total⟩, ⟨24, 2, t.issueEpoch⟩, ⟨26, 6, t.issueTick⟩,
   ⟨32, 2, t.endEpoch⟩, ⟨34, 6, t.endTick⟩, ⟨40, 6, t.issueFrame⟩, ⟨46, 6, t.endFrame⟩, ⟨52, 8, t.faultSeq⟩, ⟨60, 2, t.detail⟩]

/-- A drip-tray record's bytes (R115). -/
def Dev.dripParts (d : Dev) (r : DripRec) : List Part :=
  let ps : List Part :=
    [⟨0, 8, r.seq⟩, ⟨8, 1, r.kind⟩, ⟨9, 1, r.raised + 8 * r.effective + 64 * b2n r.escalated + 128 * b2n (d.pinned r.seq)⟩,
     ⟨10, 2, r.source⟩, ⟨12, 2, r.page⟩, ⟨14, 2, min 0xFFFF r.suppressed⟩, ⟨16, 4, r.location⟩, ⟨20, 2, r.epoch⟩, ⟨22, 6, r.tick⟩,
     ⟨28, 6, r.frame⟩, ⟨34, 6, r.ticket⟩, ⟨40, 16, r.detail⟩, ⟨56, 1, r.latched⟩, ⟨57, 1, r.overflow⟩]
  ps ++ [(⟨60, 4, crc32 ((List.range 60).map fun k => partByte ps k)⟩ : Part)]

/-- A word of the learned data of window 4 (R289): the in-use record, then the import record. -/
def Dev.learnedWord (d : Dev) (o : Nat) : Nat × Dev :=
  let pos := o / 0x80
  let r := o % 0x80
  if allPositions ≤ pos then (0, d)
  else
    let (l, idx) := (pos / 5120, pos % 5120)
    let (b, good, d') := d.memRead ((d.stateAddr l idx + r) / 64)
    if good then (leNat ((b.drop (r % 64)).take 4), d')
    else if r < 0x40 then
      let (x, d') := d.recRead l idx
      (leNat ((x.bytes.drop r).take 4), d')
    else (0xFFFF_FFFF, d')

/-- A word of window 5 (R297). -/
def Dev.partWindow (d : Dev) (o : Nat) : Nat :=
  let maskWord (m : Nat) : Nat := bits m (8 * (o % 0x40)) 32
  if o < 0x1000 then maskWord (d.part (o / 0x40)).mask
  else if o < 0x1040 then maskWord (d.plantLanes.foldl (fun (m l : Nat) => setBit m l) 0)
  else if 0x2000 ≤ o ∧ o < 0x2410 ∧ o % 0x10 = 0 then (d.part ((o - 0x2000) / 0x10)).rate
  else 0

/-- A word of window 7 (R193). -/
def Dev.mapWord (d : Dev) (o : Nat) : Nat :=
  let l := o / 0x1000
  let r := o % 0x1000
  let x := d.frm l
  let m := (r - 0x40) / 8
  if 512 ≤ l ∨ 0xA40 ≤ r then 0
  else if r = 0 then d.get FRM_L_MAP_built l
  else if r = 4 then d.get FRM_L_INV_node_count l
  else if r < 0x40 then 0
  else if r % 8 = 0 then x.upBase.get m 0
  else
    match d.node l m with
    | some n => 2 ^ 31 + n.profile * 2 ^ 20 + x.downBase.get m 0
    | none => x.downBase.get m 0

/-- A word of window 12 (R466, R471, R472). -/
def Dev.recipeBookWord (d : Dev) (o : Nat) : Nat :=
  if o < 0x1_2000 then d.seq.book.get o 0
  else if o < 0x1_2600 ∧ o % 0x10 < 0xC then bits (d.depMask ((o - 0x1_2000) / 0x10)) (8 * (o % 0x10)) 32
  else 0

/-- A word of window 3 as written (R260, R274). -/
def Dev.classTable (d : Dev) (o : Nat) : Nat :=
  if o < 0x2000 then (if o % 0x200 < 0x134 then d.est.host.get o (classReset (o % 0x200)) else 0)
  else if 0x1_0000 ≤ o ∧ o < 0x1_0800 ∧ o % 0x80 < 0x44 then
    d.est.host.get o (if o % 0x80 = 0 then 230 * 2 ^ 16 else 0)
  else 0

/-- A word of a window's table while its domain is on. -/
def Dev.tableWord (d : Dev) (w o : Nat) : Nat × Dev :=
  if w = 0 then (d.limRead d.sch.shadow o, d)
  else if w = 1 then (d.limRead d.sch.active o, d)
  else if w = 2 then (if o < 512 * 0x5000 ∧ d.groupOn (o / 0x5000) then d.healthWord (o / 0x5000) (o % 0x5000 / 4) else 0, d)
  else if w = 3 then (d.classTable o, d)
  else if w = 4 then d.learnedWord o
  else if w = 5 then (d.partWindow o, d)
  else if w = 6 then
    (if o < 0x2_0000 then d.imp.staged.get o 0 else if o < 0x4_0000 then d.imp.force.get (o - 0x2_0000) 0 else 0, d)
  else if w = 7 then (d.mapWord o, d)
  else if w = 8 then
    (if o < ldgSlots * 128 ∧ d.ldg.ring.has (o / 128) then
      leNat (((recBytes (d.ldg.ring.get (o / 128) LdgRec.zero)).drop (o % 128)).take 4) else 0, d)
  else if w = 9 then
    (if o < 0x40_0000 then d.mtr.staged.get o 0 else if o < 0x80_0000 then d.mtr.units.get (o - 0x40_0000) 0 else 0, d)
  else if w = 10 then
    (if o < 65_536 * 64 ∧ d.tkt.rail.has (o / 64) then partWord (ticketParts (d.tkt.rail.get (o / 64) Ticket.none)) (o % 64) else 0, d)
  else if w = 11 then
    (match d.flt.tray.find? fun (e : Nat × DripRec) => e.1 == o / 64 with
      | some e => partWord (d.dripParts e.2) (o % 64)
      | none => 0, d)
  else if w = 12 then (d.recipeBookWord o, d)
  else (0, d)

/-- Windows that show what stands in the pantry alone, which D03 supplies: the ledger, the ticket rail and the drip tray (R65). -/
def pantryWindows : List Nat := [8, 10, 11]

/-- A window's word is read (R48, R74). -/
def Dev.windowRead (d : Dev) (w o : Nat) : Nat × Dev :=
  if 13 ≤ w ∨ !d.pageOn (windowPage w) ∨ (w ∈ pantryWindows ∧ !d.railGood 3) then (0, d) else d.tableWord w o

/-! ## Writes -/

/-- A write to a class block breaks a stated range (R274). -/
def classBad (r v : Nat) : Bool :=
  if r = 0x10C then bits v 12 12 == 0 || bits v 0 12 == 0
  else if r = 0x11C then bits v 0 16 == 0
  else if r = 0x120 then bits v 0 16 == 0
  else if r = 0x124 then decide (bits v 0 16 < 10 ∨ 1_000 < bits v 0 16)
  else if r = 0x128 then bits v 0 8 == 0
  else if r = 0x12C then bits v 16 8 == 0
  else false

/-- A write to window 3: the new state if a word takes it. -/
def Dev.classWrite (d : Dev) (o v : Nat) : Bool × Dev :=
  let put (v : Nat) : Bool × Dev := (true, { d with est := { d.est with host := d.est.host.put o v } })
  if o < 0x2000 then
    let r := o % 0x200
    if 0x134 ≤ r then (false, d)
    else if classBad r v then (false, d.bumpS EST_REJ_COUNT_count EST_REJ_COUNT_sat)
    else put (if r = 0x130 then v / 2 ^ 16 * 2 ^ 16 else v)
  else if 0x1_0000 ≤ o ∧ o < 0x1_0800 then
    let r := o % 0x80
    if r = 0 then put (v &&& 0x80FF_0F0F) else if r < 0x44 then put v else (false, d)
  else (false, d)

/-- A 512-bit mask with 32 of its bits replaced. -/
def maskPut (m lo v : Nat) : Nat := maskOff m ((2 ^ 32 - 1) * 2 ^ lo) + v % 2 ^ 32 * 2 ^ lo

/-- A write to window 5 (R297). -/
def Dev.partWrite (d : Dev) (o v : Nat) : Bool × Dev :=
  if o < 0x1000 then
    let x := d.part (o / 0x40)
    (true, d.putPart (o / 0x40) { x with mask := maskPut x.mask (8 * (o % 0x40)) v })
  else if 0x2000 ≤ o ∧ o < 0x2410 ∧ o % 0x10 = 0 then
    let p := (o - 0x2000) / 0x10
    (true, d.putPart p { d.part p with rate := clamp 5 500 (v % 2 ^ 16) })
  else (false, d)

/-- A write to a slot map (R54, R193): only in the lane's `HELD` phase, else refused with BAD_STATE. -/
def Dev.mapWrite (d : Dev) (ch o v : Nat) : Bool × Dev :=
  let l := o / 0x1000
  let r := o % 0x1000
  let x := d.frm l
  let m := (r - 0x40) / 8
  if 512 ≤ l ∨ r < 0x40 ∨ 0xA40 ≤ r then (false, d)
  else if d.laneState l ≠ 3 ∨ d.get FRM_L_INV_phase l ≠ 4 then (false, (d.privRecord ch 1 7 o v 0 rBadState).report 0x014 ch rBadState 0)
  else if r % 8 = 0 then (true, d.putFrm l { x with upBase := x.upBase.put m (v % 2 ^ 20) })
  else (true, d.putFrm l { x with downBase := x.downBase.put m (v % 2 ^ 20) })

/-- A write to an import record (R289). -/
def Dev.importWrite (d : Dev) (o v : Nat) : Bool × Dev :=
  let pos := o / 0x80
  if allPositions ≤ pos ∨ o % 0x80 < 0x40 then (false, d)
  else (true, d.memWriteSpan (d.stateAddr (pos / 5120) (pos % 5120) + o % 0x80) (leBytes 4 v))

/-- A write to a staged lease-unit definition (R369). -/
def Dev.unitWrite (d : Dev) (o v : Nat) : Bool × Dev :=
  let r := o % 0x400
  if 0x40_0000 ≤ o ∨ r = 4 ∨ 0x208 ≤ r then (false, d)
  else (true, { d with mtr := { d.mtr with staged := d.mtr.staged.put o (if r = 0 then v &&& 0x8000_007F else v) } })

/-- A write to the recipe book or to a dependency mask (R466, R472). -/
def Dev.bookWrite (d : Dev) (o v : Nat) : Bool × Dev :=
  if o < 0x1_2000 then
    if o % 0x1200 < 0x1100 then (true, { d with seq := { d.seq with book := d.seq.book.put o v } }) else (false, d)
  else if o < 0x1_2600 ∧ o % 0x10 < 0xC then
    let r := (o - 0x1_2000) / 0x10
    let mask := maskPut (d.depMask r) (8 * (o % 0x10)) v
    let d' := d.depWrite r mask
    (d'.depMask r == mask, d')
  else (false, d)

/-- The writable bits of a staged bin plan entry's word (R242). -/
def planMask (o : Nat) : Nat := if o = 0 then 0xFF1F_FFFF else if o = 4 then 0xFFFF_1F1F else 0xFFFF

/-- A write to a window's table: whether a word took it, and the state after. `p`: the privileged view applies. -/
def Dev.tableWrite (d : Dev) (ch : Nat) (p : Bool) (w o v : Nat) : Bool × Dev :=
  if w = 0 then (limLegal o (d.limRead d.sch.shadow o) v && !(limFields o).isEmpty, d.shadowWrite o v)
  else if w = 1 then
    if p then (limLegal o (d.limRead d.sch.active o) v && !(limFields o).isEmpty, d.activeWrite o v) else (false, d)
  else if w = 3 then d.classWrite o v
  else if w = 4 then (if p then d.importWrite o v else (false, d))
  else if w = 5 then d.partWrite o v
  else if w = 6 then
    if o < 0x2_0000 ∧ o % 16 < 12 then (true, { d with imp := { d.imp with staged := d.imp.staged.put o (v &&& planMask (o % 16)) } })
    else (false, d)
  else if w = 7 then (if p then d.mapWrite ch o v else (false, d))
  else if w = 9 then (if p then d.unitWrite o v else (false, d))
  else if w = 12 then (if p then d.bookWrite o v else (false, d))
  else (false, d)

/-- Windows whose content is in a configuration snapshot (R389). -/
def snapWindows : List Nat := [0, 1, 3, 5, 6, 9]

/-- A write that a paired standby ignores (R392). -/
def Dev.standbyRefuses (d : Dev) : Dev := d.bumpS TWN_STBY_WRITES_count TWN_STBY_WRITES_sat

/-- A window's word is written (R48, R74, R82, R84, R360, R392): a write under the privileged view is recorded when a word took it,
and is ignored while the ledger is in reserve. -/
def Dev.windowWrite (d : Dev) (ch : Nat) (p : Bool) (w o v : Nat) : Dev :=
  if 13 ≤ w ∨ !d.pageOn (windowPage w) then d
  else if d.pairedStandby ∧ w ∈ snapWindows then d.standbyRefuses
  else if p ∧ d.ldgReserve then d.ldgRefusal
  else
    let (took, d) := d.tableWrite ch p w o v
    if took && p then d.privRecord ch 1 w o v 0 rOK else d

end Sys2Proof.Machine
end

