-- ==== Sys2Proof/Machine/Registers.lean ====
section
/-!
DEFINITION. Machine/Registers.lean: writes to registers (R6, R7, R73–R79, R82, R84): ranges of fields, registers with a behaviour of
their own, block resets, the commands of every page, and the accesses of the channels to BAR0.
-/
namespace Sys2Proof.Machine

/-! ## Ranges of fields -/

/-- What a write does to a value outside its field's range: the nearest limit is stored, the write is refused whole with BAD_ARG (R6),
or the write is ignored whole. -/
inductive Beyond where
  | nearest | refused | ignored
  deriving DecidableEq, Repr

/-- A field's range. -/
structure FieldRange where
  fld : Field
  beyond : Beyond
  lo : Nat
  hi : Nat
  deriving DecidableEq, Repr

/-- Fields that store the nearest limit. -/
def nearestRanges : List FieldRange := [
  ⟨HIF_BAR2_BASE_gib, .nearest, 0, 2_032⟩, ⟨DMA_RING_SIZE_log2, .nearest, 4, 16⟩, ⟨IMP_CFG_refresh_period, .nearest, 1, 10⟩,
  ⟨IMP_SPECTRA_CFG_cells, .nearest, 1, 5_120⟩, ⟨EST_PART_SEL_part, .nearest, 0, 64⟩, ⟨MEM_LADLE_CFG_age_us, .nearest, 1, 1_000⟩,
  ⟨MEM_LADLE_CFG_threshold, .nearest, 0, 64⟩, ⟨MEM_SCRUB_CFG_hours, .nearest, 1, 255⟩, ⟨MEM_ARB_w_e, .nearest, 1, 255⟩,
  ⟨FLR_CFG_decimate, .nearest, 1, 65_535⟩, ⟨FLR_SIZE_gib, .nearest, 0, 1_024⟩, ⟨FLR_LANES_N_count, .nearest, 0, 32⟩,
  ⟨FLR_TRIG_CFG_min_class, .nearest, 0, 4⟩, ⟨MTR_CH_SEL_ch, .nearest, 0, 39⟩, ⟨TWN_CFG_pair_wait, .nearest, 1, 255⟩] ++ [
  ⟨CLK_CFG_slew, .nearest, 1, 255⟩, ⟨RTC_TRICKLE_current, .nearest, 1, 200⟩, ⟨PWR_CHG_CFG_i_term, .nearest, 5, 25⟩,
  ⟨PWR_CHG_CFG_timer_h, .nearest, 1, 16⟩, ⟨PWR_CHG_CFG_i_chg, .nearest, 10, 200⟩, ⟨PWR_CHG_REG_t_reg, .nearest, 80, 120⟩,
  ⟨PWR_CHG_REG_vin_reg, .nearest, 88, 120⟩, ⟨PWR_CHG_REG_i_in_lim, .nearest, 500, 3_000⟩,
  ⟨PWR_WARN_CFG_v_warn, .nearest, 3_100, 3_500⟩, ⟨BRN_CFG_fsw, .nearest, 250, 2_000⟩, ⟨BRN_SLEW_rate, .nearest, 1, 128⟩,
  ⟨BRN_PHASES_min_phases, .nearest, 1, 16⟩, ⟨SEQ_CFG_pg_deglitch, .nearest, 1, 255⟩, ⟨PD_TIMERS_wait_retry, .nearest, 100, 1_000⟩,
  ⟨THM_LIMITS_die_tol, .nearest, 2, 40⟩, ⟨THM_LIMITS_th_tol, .nearest, 1, 40⟩, ⟨THM_SEL_input, .nearest, 0, 79⟩,
  ⟨WDT_CFG_period_ms, .nearest, 1, 64_000⟩]

/-- Fields whose reserved or out-of-range values are refused with BAD_ARG, the whole write with them (R6). -/
def refusedRanges : List FieldRange := [
  ⟨SCH_AGE_CFG_t_age_max, .refused, 1, 65_535⟩, ⟨SCH_AGE_CFG_i_age_max, .refused, 1, 255⟩, ⟨SCH_AGE_CFG_v_age_max, .refused, 1, 255⟩,
  ⟨EST_HIB_CFG_t_idle, .refused, 1, 32_767⟩, ⟨EST_PROBE_CFG_length, .refused, 1, 255⟩, ⟨MTR_REC_CFG_summary, .refused, 1, 255⟩,
  ⟨MTR_REC_CFG_interval, .refused, 1, 1_440⟩, ⟨MTR_DISC_WIN_window, .refused, 1, 3_600⟩, ⟨MTR_CAL_CFG_period, .refused, 2, 3_600⟩,
  ⟨MEMC_MARK_CFG_thresh, .refused, 1, 2 ^ 32⟩, ⟨MEMC_MARK_CFG_second, .refused, 1, 2 ^ 32⟩, ⟨LNK_CFG_posture_count, .refused, 1, 15⟩,
  ⟨MEM_HOST_SIZE_gib, .refused, 0, 2_048⟩]

/-- Fields of the `BRN` page whose out-of-range values are ignored, the whole write with them (R460). -/
def ignoredRanges : List FieldRange := [
  ⟨BRN_ILIM_i_shed, .ignored, 5, 60⟩, ⟨BRN_ILIM_i_lim, .ignored, 10, 60⟩, ⟨BRN_HICCUP_t_hiccup, .ignored, 1, 255⟩,
  ⟨BRN_HICCUP_n_cyc, .ignored, 1, 255⟩, ⟨BRN_PROT_pg_win, .ignored, 10, 100⟩, ⟨BRN_PROT_ovs, .ignored, 10, 200⟩,
  ⟨BRN_PROT_t_phase_max, .ignored, 80, 150⟩, ⟨BRN_ADAPT_band, .ignored, 1, 50⟩, ⟨BRN_ADAPT_margin, .ignored, 10, 150⟩,
  ⟨BRN_SCALE_imon_gain, .ignored, 1_000, 20_000⟩, ⟨RTC_SQW_freq, .ignored, 0, 2⟩]

/-- Every field with a range. -/
def fieldRanges : List FieldRange := nearestRanges ++ refusedRanges ++ ignoredRanges

/-- The range of a field in this state. `THM_LIMITS.warn_c` ends 5 °C below sd_c (R515). -/
def Dev.rangeOfField (d : Dev) (f : Field) : Option FieldRange :=
  if f = THM_LIMITS_warn_c then some ⟨f, .nearest, 60, d.get THM_LIMITS_sd_c - 5⟩ else fieldRanges.find? fun r => r.fld == f

/-- The value a field stores. `RTC_TRIM.ppb` is signed, held within ±500,000 (R414). -/
def Dev.storedValue (d : Dev) (f : Field) (v : Nat) : Nat :=
  if f = RTC_TRIM_ppb then ofSigned 32 (clampI (-500_000) 500_000 (toSigned 32 v))
  else match d.rangeOfField f with
    | some r => if r.beyond = .nearest then clamp r.lo r.hi v else v
    | none => v

/-- A changed value lies outside a range that a write may not leave. -/
def Dev.outOfRange (d : Dev) (kind : Beyond) (f : Field) (i v : Nat) : Bool :=
  match d.rangeOfField f with
  | some r => r.beyond == kind && !decide (r.lo ≤ v ∧ v ≤ r.hi) && v != d.get f i
  | none => false

/-! ## A register without behaviour of its own -/

/-- A row as a view may write it. -/
def rowAccess (p : Bool) (r : RegField) : Access := if p then r.priv else r.unpriv

/-- A field can be written. -/
def writable (a : Access) : Bool := a == .rw || a == .w1c || a == .wo

/-- The rows of a word that a view can write. -/
def writeRows (p : Bool) (page off : Nat) : List (RegField × Nat) := (rowsAt page off).filter fun r => writable (rowAccess p r.1)

/-- The MSI-X table on the `HIF` page. -/
def msixTableWord (page off : Nat) : Bool := page == 0x01 && decide (0x800 ≤ off ∧ off < 0xC00)

/-- A view lets a word be written. -/
def wordWritable (p : Bool) (page off : Nat) : Bool := !(writeRows p page off).isEmpty || msixTableWord page off

/-- One field of a word takes its part of the value. -/
def Dev.writeField (d : Dev) (ch : Nat) (p : Bool) (page off v : Nat) (r : RegField × Nat) : Dev :=
  let f := r.1.fld
  let i := d.fieldIndex ch page off r.1 r.2
  let x := bits v r.1.pos f.width
  match rowAccess p r.1 with
  | .rw => d.put f (d.storedValue f x) i
  | .w1c => d.put f (maskOff (d.get f i) x) i
  | _ => d

/-- A write refused with a result of R79: reported on the channel, and recorded where it is a privileged one (R84, R353). -/
def Dev.refuseWrite (d : Dev) (ch : Nat) (p : Bool) (page off v r : Nat) : Dev :=
  (if p then d.privRecord ch 0 page off v 0 r else d).report page ch r 0

/-- The fields of a word take the value: refused whole with BAD_ARG, ignored whole, or stored (R6, R7). Whether the write was
taken. -/
def Dev.writeFields (d : Dev) (ch : Nat) (p : Bool) (page off v : Nat) (rows : List (RegField × Nat)) : Bool × Dev :=
  let out (kind : Beyond) : Bool := rows.any fun r =>
    rowAccess p r.1 == .rw && d.outOfRange kind r.1.fld (d.fieldIndex ch page off r.1 r.2) (bits v r.1.pos r.1.fld.width)
  if out .refused then (false, d.refuseWrite ch p page off v rBadArg)
  else if out .ignored then (false, d)
  else (true, rows.foldl (fun (d : Dev) r => d.writeField ch p page off v r) d)

/-! ## Block resets (R76, R78) -/

/-- The block's chapter forbids a reset or a write of 0 to enable (R461, R523). -/
def Dev.resetForbidden (d : Dev) (page : Nat) : Bool :=
  if page = 0x0B then (List.range 4).any fun l => d.loopState l != 0 && d.loopState l != 5
  else if page = 0x0D then d.flag WDT_CFG_running && d.flag WDT_CFG_hw_start
  else false

/-- The writable configuration fields of a page take their reset values. -/
def Dev.resetConfig (d : Dev) (page : Nat) : Dev :=
  let b := blockOf page
  let cfg := ((blockRows b).filter fun r => (r.priv == .rw || r.unpriv == .rw) && !(r.fld.code ∈ keptCodes)).map fun r => r.fld.code
  { d with regs := d.regs.filter fun (e : Nat × SMap Nat) => !(e.1 ∈ cfg) }.resetHeader page

/-- The block's registers and state start afresh (R76). A block that has its power domain to itself does what the loss of that domain
does; blocks that share one start their own part afresh; the blocks of the always-on domains take the reset values of their
configuration (assumption 19). -/
def Dev.blockReset (d : Dev) (page : Nat) : Dev :=
  let d :=
    if page = 0x02 then ((d.closeSession 0 5).closeSession 1 5).resetPage page
    else if page = 0x14 ∨ page = 0x16 ∨ page = 0x12 then d.resetPage page
    else if page = 0x15 then d.schOff.banksUp
    else if 0x20 ≤ page ∧ page < 0x30 then
      -- what is counted and what waits stands in the scheduler
      let d := (((d.resetPage page).countStrings (page - 0x20)).bankPending (page - 0x20))
      if d.latched 4 then d.put BNK_STATUS_mode 5 (page - 0x20) else d
    else if 0x30 ≤ page ∧ page < 0x40 then
      let was := d.flag MEMC_STATUS_in_map (page - 0x30)
      let d := (d.resetPage page).memRequalify
      if was && d.flag MEM_STATUS_map_valid then d.memDissolve false else d
    else if page = 0x17 then d.filtersLost.estOff.resetPage page
    else if page = 0x18 then (d.memOff.resetPage page).memQualPut
    else if page = 0x0D then d.wdtHalt.resetConfig page
    else if page = 0x11 then d.twinReset
    else if page = 0x10 then if d.railGood 5 then (d.domainLost 5).pdStart else d
    else if 0x40 ≤ page ∧ page < 0x60 then d.groupReset (page - 0x40)
    else if pageDomain page = 0 ∨ pageDomain page = 2 ∨ pageDomain page = 3 then d.resetConfig page
    else d.domainLost (pageDomain page)
  (d.memJudge.clockSettle).rejudge

/-- A block reset would change the content of a configuration snapshot, which a paired standby refuses (R389, R392). -/
def Dev.resetsSnapshot (d : Dev) (page : Nat) : Bool :=
  d.pairedStandby && (decide (page ∈ snapPages) || decide (0x20 ≤ page ∧ page < 0x30) || decide (0x40 ≤ page ∧ page < 0x60))

/-- `PAGE_CTRL.block_reset` as a command: opcode 0, argument its register (R78, R79). -/
def resetCmd : CmdDef where
  verdict page _ d := { Verdict.ok with badState := d.resetForbidden page || d.resetsSnapshot page, priv := true }
  effect page _ n d := (d.blockReset page).done n

/-! ## The commands of the pages -/

/-- Commands of the power, clock and link pages. -/
def commandDef0 (page op : Nat) : Option CmdDef :=
  if page = 0x0B then [brnStart, brnStop, brnSetvid][op - 1]?
  else if page = 0x07 then [clkRearm, clkAdopt][op - 1]?
  else if page = 0x02 then [cusNonce, signIn, cusOpen, cusClose, rotate][op - 1]?
  else if page = 0x12 then [ldgAckCmd, ldgSealCmd, attest, certify, certLoad][op - 1]?
  else if page = 0x04 then [fltAck, fltTrip, releasePins][op - 1]?
  else if page = 0x19 then [flrArm, flrTriggerCmd, flrStop][op - 1]?
  else if page = 0x14 then [mapRelease, mapDefault, bSet, mbxSend, frmInventory][op - 1]?
  else if page = 0x17 then [learnCmd 1, learnCmd 2, learnCmd 3, checkpointCmd, ckptLoadCmd][op - 1]?
  else if page = 0x16 then [planApply][op - 1]?
  else if (0x40 ≤ page ∧ page < 0x60) ∨ (page = 0x11 ∧ op < 9) then
    [laneEnable, laneDisable, laneSafe, laneEnumerate, laneRetrain, laneLoop, laneLoopExit, laneClear][op - 1]?
  else if page = 0x11 then [twnHandoverCmd, twnTakeCmd][op - 0x10]?
  else none

/-- Commands of the other pages. -/
def commandDef1 (page op : Nat) : Option CmdDef :=
  if page = 0x18 then [memFence, memZero, memRemap][op - 1]?
  else if 0x30 ≤ page ∧ page < 0x40 then [memcMark, memcUnmark, memcClear][op - 1]?
  else if page = 0x13 then [mtrDefine][op - 1]?
  else if page = 0x0E then [otpProgram, otpSeal, otpIncrement, otpSense][op - 1]?
  else if page = 0x10 then [pdTx, pdHardReset, pdRole][op - 1]?
  else if page = 0x09 then [chgRestart, chgStop, pulseTest, powerUp, powerDown, reboot][op - 1]?
  else if page = 0x0A then [seqRun, seqAbort, railOnCmd, railOffCmd][op - 1]?
  else if page = 0x08 then [rtcSet, armSwitch][op - 1]?
  else if page = 0x15 then [positionCmd 1, positionCmd 2, assignCmd][op - 1]?
  else if 0x20 ≤ page ∧ page < 0x30 then [modeCmd][op - 1]?
  else if page = 0x0D then [wdtStart, wdtStop][op - 1]?
  else none

/-- An opcode that the page does not define. -/
def noCmd : CmdDef where
  verdict _ _ := noSuchOp
  effect _ _ _ d := d

/-- The command that an opcode of a page names; opcode 0 names none (R76). -/
def commandDef (page op : Nat) : CmdDef :=
  if op = 0 ∨ (page = 0x11 ∧ 9 ≤ op ∧ op < 0x10) then noCmd
  else ((commandDef0 page op).orElse fun _ => commandDef1 page op).getD noCmd

/-- The named command field that an argument stands for (R79): a block reset, `SCH_COMMIT.go` or `EST_RELOAD.go`. -/
def namedCmd (page arg : Nat) : CmdDef := if arg = 0x010 then resetCmd else if page = 0x15 then commitCmd else estReloadCmd

/-- The command of a held entry (R118). -/
def heldCmd (page op arg : Nat) : CmdDef := if op = 0 ∧ (arg = 0x010 ∨ arg = 0x100) then namedCmd page arg else commandDef page op

/-- A command that comes as a privileged write is recorded as one (R84). -/
def CmdDef.under (x : CmdDef) (p : Bool) : CmdDef :=
  { x with verdict := fun page c d => let v := x.verdict page c d; { v with priv := v.priv || p } }

/-- What follows a command on its page: the port and the clock's reference are judged again. -/
def Dev.afterCmd (d : Dev) (page : Nat) : Dev := if page = 0x10 then d.pdSettle else d.clockSettle

/-- A write of `PAGE_CMD`. -/
def Dev.pageCmd (d : Dev) (ch : Nat) (p soon : Bool) (page v : Nat) : Dev :=
  let op := v % 256
  (d.cmd page op ((commandDef page op).under p) ⟨ch, page - blockOf page, v / 256 % 2 ^ 24, soon⟩).afterCmd page

/-- A write of 1 to a named command field. -/
def Dev.fieldCmd (d : Dev) (ch : Nat) (p soon : Bool) (page off : Nat) : Dev :=
  d.cmd page 0 ((namedCmd page off).under p) ⟨ch, page - blockOf page, off, soon⟩

/-- `TICKET_WAIT_TAKE` (R118): the command that has waited longest is judged and taken. -/
def Dev.takeHeld (d : Dev) : Dev :=
  match d.tkt.held with
  | [] => d
  | h :: rest =>
    let d := { d with tkt := { d.tkt with held := rest } }
    if 2 ≤ h.cmd.ch then d.takeOwn h
    else if d.reaches h.cmd.ch h.page then
      let x := (heldCmd h.page h.op h.cmd.arg).under h.priv
      (d.take h.page h.op h.cmd (x.judge h.page h.op h.cmd d) (x.effect h.page h.cmd) (x.refused h.page h.cmd)).afterCmd h.page
    else d

/-! ## Registers with a behaviour of their own -/

/-- `PAGE_CTRL` (R76, R78): a refusal leaves the whole write without effect; a block reset is a command. `ops`: the block_reset field can
be written. -/
def Dev.ctrlWrite (d : Dev) (ch : Nat) (p ops soon : Bool) (page v : Nat) : Bool × Dev :=
  let en := bit v 0
  let rst := bit v 1 && ops
  let refusedEn := (!en && d.resetForbidden page) ||
    (en && page == 0x17 && decide (d.memU < d.get EST_STATE_BASE_gib * 2 ^ 30 + 5 * 2 ^ 28))
  if refusedEn || (rst && (d.resetForbidden page || d.resetsSnapshot page)) then (false, d.refuseWrite ch p page 0x010 v rBadState)
  else if d.pairedStandby ∧ page ∈ snapPages then (false, d.standbyRefuses)
  else
    let d := if page = 0x0D ∧ !en then d.wdtHalt else d
    let d := ((d.putB PAGE_CTRL_enable en page).putB PAGE_CTRL_hibernate (bit v 2) page).memJudge
    if rst then (false, d.fieldCmd ch p soon page 0x010) else (true, d)

/-- A write that its page ignores whole: registers locked by a state, malformed positions, and values no field takes. -/
def Dev.writeLocked (d : Dev) (page off v : Nat) : Bool :=
  let ring := (off - 0x100) / 32
  if page = 0x06 then decide (0x100 ≤ off ∧ off < 0x300 ∧ off % 32 < 12) && d.flag DMA_RING_CTRL_enable ring
  else if page = 0x15 then off == 0x120 && (unpackCell v).isNone
  else if page = 0x16 then
    ((off == 0x104 || off == 0x108) && d.flag IMP_CFG_spectra_en) || (off == 0x140 && (unpackCell v).isNone)
  else if page = 0x17 then
    (off == 0x104 && d.flag PAGE_CTRL_enable 0x17) || (off == 0x108 && d.est.ckpt != 0) || (off == 0x140 && (unpackCell v).isNone)
  else if page = 0x19 then
    (d.get FLR_STATUS_state == 1 || d.get FLR_STATUS_state == 2) && decide ((FLR_BASE_gib.reg % 0x1000 ≤ off ∧ off < FLR_TRIG_CFG_source.reg % 0x1000))
  else if page = 0x12 then
    (off == 0x400 || decide (0x800 ≤ off ∧ off < 0xC00)) && d.flag LDG_STATUS_cert_loaded
  else if page = 0x0D then off == 0x104 && v == 0 && d.flag WDT_CFG_hw_start
  else if page = 0x11 then decide (0x400 ≤ off)
  else false

/-- `BRN` writes that are ignored beside the ranges (R459, R460): the adaptive registers outside loop A, a floor above the ceiling, phases
that the loop does not have, `BRN_PHASES` outside `OFF`. -/
def Dev.brnIgnored (d : Dev) (off v : Nat) : Bool :=
  let l := (off - 0x100) / 0x40
  let o := (off - 0x100) % 0x40
  decide (l < 4) &&
    (((o == 0x24 || o == 0x28) && l != 0) ||
     (o == 0x28 && decide (bits v 16 9 < bits v 0 9)) ||
     (o == 0x10 && (d.loopState l != 0 || decide (2 ^ loopPhases l ≤ bits v 0 16))))

/-- What follows a write of a page's registers. -/
def Dev.afterWrite (d : Dev) (page off v : Nat) : Dev :=
  if page = 0x09 then
    if off = 0x114 then ({ d with pwr := { d.pwr with chgSet := true } }).chgJudge else if off = 0x120 then d.warnSettle else if off = 0x144 then d.upJudge else d
  else if page = 0x08 then
    if d.railGood 3 then { d with rtc := { d.rtc with mirror := [d.get RTC_TRIM_ppb, d.get RTC_SQW_en, d.get RTC_SQW_freq,
      d.get RTC_TRICKLE_en, d.get RTC_TRICKLE_float, d.get RTC_TRICKLE_current] } } else d
  else if page = 0x17 then d.memJudge
  else if page = 0x18 then (each (List.range 16) (fun c (d : Dev) => d.memThreshold c) d).memJudge
  else if page = 0x16 then d.memJudge
  else if 0x30 ≤ page ∧ page < 0x40 ∧ off = 0x10C then d.memMarkJudge (page - 0x30)
  else if page = 0x19 then d.flrSettle.memJudge
  else if page = 0x10 ∧ off = 0x104 then (if bit v 2 then d else d.altExit).pdSettle
  else d

/-- The value as its page lets it be stored: the charger's enable under restrictive defaults, thermistor 0's enable and the last bytes
of the key mailbox stay, and `adapt_en` is reserved outside loop A (R89, R433, R460, R515). -/
def Dev.writeMasked (d : Dev) (page off v : Nat) : Nat :=
  if page = 0x09 ∧ off = 0x114 ∧ d.flag OTP_STATUS_restrictive then v % 2 ^ 31 + d.get PWR_CHG_CFG_en * 2 ^ 31
  else if page = 0x0C ∧ off = 0x120 then v % 2 ^ 31 + 2 ^ 31
  else if page = 0x0B ∧ off ∈ [0x140, 0x180, 0x1C0] then clrBit v 20
  else if page = 0x02 ∧ off = 0x4E0 then v % 256
  else if page = 0x0B ∧ (off - 0x100) % 0x40 = 0x14 ∧ off < 0x200 ∧ d.flag OTP_STATUS_restrictive then
    v / 256 * 256 + d.get BRN_ILIM_i_lim ((off - 0x100) / 0x40)
  else v

/-- A write of `TWN_CFG` (R374, R378): setting en seeks a pairing, clearing it ends one. -/
def Dev.twnCfgWrite (d : Dev) (ch v : Nat) : Bool × Dev :=
  let was := d.flag TWN_CFG_en
  let (took, d) := d.writeFields ch true 0x11 0x100 v (writeRows true 0x11 0x100)
  let d := if d.flag TWN_CFG_en && !was then d.twnStart false else if was && !d.flag TWN_CFG_en then d.twnSeek else d
  (took, d.driveTrip.rejudge)

/-- Registers that are written by an operation of their own, apart from commands: the result, or none where the register is a plain
one. -/
def Dev.ownWrite (d : Dev) (ch : Nat) (p : Bool) (page off v : Nat) : Option (Bool × Dev) :=
  if msixTableWord page off then
    some (true, { d with msixTable := d.msixTable.put ((off - 0x800) / 4) v })
  else if page = 0x03 ∧ 0x100 ≤ off ∧ off < 0x180 then some (true, d.irqPendWrite ((off - 0x100) / 4) v)
  else if page = 0x03 ∧ 0x180 ≤ off ∧ off < 0x200 then some (true, d.irqEnWrite ((off - 0x180) / 4) v)
  else if page = 0x03 ∧ 0x200 ≤ off ∧ off < 0x400 then some (true, d.irqTargetWrite ((off - 0x200) / 4) v)
  else if page = 0x05 ∧ off = 0x124 then some (true, d.startLookup ch (v % 2 ^ 16))
  else if page = 0x06 ∧ 0x100 ≤ off ∧ off < 0x300 ∧ off % 32 = 0x0C then some (true, d.dmaTail ((off - 0x100) / 32) v)
  else if page = 0x06 ∧ 0x100 ≤ off ∧ off < 0x300 ∧ off % 32 = 0x14 then some (true, d.dmaEnable ((off - 0x100) / 32) v)
  else if page = 0x07 ∧ off = 0x100 ∧ p then
    if bit v 9 && decide (3 < bits v 0 9) then some (false, d.refuseWrite ch p page off v rBadArg) else some (true, d.timeSrcWrite v)
  else if page = 0x08 ∧ (off = 0x134 ∨ off = 0x144) then some (true, d.alarmWrite ((off - 0x134) / 16) v)
  else if page = 0x08 ∧ off = 0x118 ∧ p then some (bits v 0 2 != 3, d.trimCfgWrite v)
  else if page = 0x0D ∧ off = 0x108 then some (true, d.wdtKick v)
  else if page = 0x10 ∧ off = 0x108 then some (true, d.policyWrite v)
  else if page = 0x10 ∧ off = 0x160 then some (true, if bit v 31 then d.rxRelease else d)
  else if page = 0x11 ∧ off = 0x100 ∧ p then some (d.twnCfgWrite ch v)
  else none

/-- A write of a word of a page, the view already judged: whether it was taken, and the state after. -/
def Dev.wordWrite (d : Dev) (ch : Nat) (p : Bool) (page off v : Nat) : Bool × Dev :=
  let rows := writeRows p page off
  match d.ownWrite ch p page off v with
  | some r => r
  | none =>
    if rows.isEmpty then (false, d)
    else if d.pairedStandby && (rows.any (fun r => r.1.fld ∈ snapFields) || (off == 0x024 && decide (page ∈ snapPages))) then (false, d.standbyRefuses)
    else if d.writeLocked page off v || (page == 0x0B && d.brnIgnored off v) then
      (false, if page = 0x15 ∧ off = 0x120 then d.limReject 0 off else d)
    else
      let was := d.pagePend page
      let (took, d) := d.writeFields ch p page off (d.writeMasked page off v) rows
      let d := if off = 0x024 ∧ was = 0 ∧ d.pagePend page ≠ 0 then d.irqEdge page else d
      (took, if took then d.afterWrite page off v else d)

/-- A write reaches a word of a page (R7, R48, R78, R82, R84, R360): commands, `PAGE_CTRL`, and the other registers. An accepted privileged
write is recorded before its effect; it is ignored while the ledger is in reserve. `ops`: the privileged view with a session covering
OPS. -/
def Dev.pageWrite (d : Dev) (ch : Nat) (p ops soon : Bool) (page off v : Nat) : Dev :=
  if !assigned page || !d.serves page || off % 4 != 0 then d
  else if off = 0x014 then d.pageCmd ch p soon page v
  else if (page = 0x15 ∨ page = 0x17) ∧ off = 0x100 then (if v % 2 = 1 then d.fieldCmd ch p soon page 0x100 else d)
  else if p && d.ldgReserve && wordWritable p page off then d.ldgRefusal
  else
    let act (d : Dev) : Bool × Dev := if off = 0x010 then d.ctrlWrite ch p ops soon page v else d.wordWrite ch p page off v
    let r := act d
    if r.1 && p then (act (d.privRecord ch 0 page off v 0 rOK)).2 else r.2

/-! ## Accesses to BAR0 -/

/-- The table offset that a word of a window shows (R74). -/
def Dev.windowOffset (d : Dev) (w o : Nat) : Nat := d.get HIF_WIN_BASE_mib w * 2 ^ 20 + o

/-- Accesses to the estimator's and the impedance engine's pages and windows wake them (R300). -/
def wakesAt (area x : Nat) : Bool :=
  if area < 2 then x / 0x1000 == 0x16 || x / 0x1000 == 0x17 else decide (2 ≤ x / 2 ^ 20 ∧ x / 2 ^ 20 ≤ 6)

/-- The privileged view applies to a page or window for this access (R82): the privileged half, and a session covering its scope.
`TWN_PARTNER_ID` takes CUSTODY. -/
def Dev.privApplies (d : Dev) (ch area x : Nat) : Bool :=
  let page := if area < 2 then x / 0x1000 else windowPage (x / 2 ^ 20)
  let scope :=
    if area < 2 ∧ page = 0x11 ∧ 0x140 ≤ x % 0x1000 ∧ x % 0x1000 < 0x170 then scopeCUSTODY else pageScope page
  area % 2 == 1 && d.covers ch scope

/-- The access is a privileged write: the privileged view lets the word be written. -/
def Dev.privWrite (d : Dev) (ch area x : Nat) : Bool :=
  d.privApplies ch area x && (decide (2 ≤ area) || wordWritable true (x / 0x1000) (x % 0x1000))

/-- A 32-bit write of a channel to BAR0 (R72, R82, R84): it may have to wait at its link; a write through a privileged half without an open
session is ignored and counted; it is not counted while D01, which holds the counter, is off (DESIGN CHOICE, assumption 22). -/
def Dev.busWrite (d : Dev) (ch addr v : Nat) (soon : Bool := false) : Dev :=
  let area := addr / 2 ^ 24 % 4
  let x := addr % 2 ^ 24
  if !d.channelUp ch then d
  else if d.mustWait ch (d.privWrite ch area x) then d.linkHold addr v ch
  else
    let d := if wakesAt area x then d.wakeCause else d
    let p := d.privApplies ch area x
    if area % 2 = 1 ∧ d.get CUS_STATUS_phase ch ≠ 3 then
      onlyIf (d.pageOn 0x002) (fun (d : Dev) => d.bump CUS_DENIED_WRITES_count ch) d
    else if area < 2 then d.pageWrite ch p (area == 1 && d.covers ch scopeOPS) soon (x / 0x1000) (x % 0x1000) v
    else d.windowWrite ch p (x / 2 ^ 20) (d.windowOffset (x / 2 ^ 20) (x % 2 ^ 20)) v

/-- A 32-bit read of a channel from BAR0. -/
def Dev.busRead (d : Dev) (ch addr : Nat) : Nat × Dev :=
  let area := addr / 2 ^ 24 % 4
  let x := addr % 2 ^ 24
  if !d.channelUp ch then (0, d)
  else
    let d := if wakesAt area x then d.wakeCause else d
    if area % 2 = 1 ∧ d.get CUS_STATUS_phase ch ≠ 3 then (0, d)
    else if area < 2 then d.readWord ch (d.privApplies ch area x) (x / 0x1000) (x % 0x1000)
    else d.windowRead (x / 2 ^ 20) (d.windowOffset (x / 2 ^ 20) (x % 2 ^ 20))

/-- The size and alignment that BAR0 takes (R73): 4 bytes aligned to 4, 8 bytes aligned to 8. -/
def barAccess (addr size : Nat) : Bool := (size == 4 && addr % 4 == 0) || (size == 8 && addr % 8 == 0)

/-- An access of a wrong size or alignment is counted (R73). -/
def Dev.badAccess (d : Dev) : Dev := d.bump HIF_BAD_ACCESS_count

/-- A write of a size (R73): a 64-bit write is two 32-bit writes, the lower address first. One of a wrong size waits like any other behind
a write that waits at its link (R84). -/
def Dev.barWrite (d : Dev) (ch addr size v : Nat) (soon : Bool) : Dev :=
  if ch = 0 ∧ !d.hostDecodes then d
  else if !barAccess addr size then
    if d.mustWait ch false then
      { d with ldg := { d.ldg with privWait := d.ldg.privWait ++ [⟨2, addr, v, ch, [], []⟩] } }
    else d.badAccess
  else
    let d := d.busWrite ch addr (v % 2 ^ 32) soon
    if size = 8 then d.busWrite ch (addr + 4) (v / 2 ^ 32 % 2 ^ 32) soon else d

/-- A read of a size (R73): its value and the state after. -/
def Dev.barRead (d : Dev) (ch addr size : Nat) : Nat × Dev :=
  if !barAccess addr size then (0, d.badAccess)
  else
    let (lo, d) := d.busRead ch addr
    if size = 8 then
      let (hi, d) := d.busRead ch (addr + 4)
      (lo + hi * 2 ^ 32, d)
    else (lo, d)

/-- A word whose read has to wait: `PAGE_CMD_STATUS` while a command of the same channel waits for its ticket (R79), `TKT_LOOKUP_RESULT` while
the channel's lookup runs (R124). -/
def Dev.wordWaits (d : Dev) (ch addr : Nat) : Bool :=
  let x := addr % 2 ^ 24
  decide (addr / 2 ^ 24 % 4 < 2) &&
    ((x % 0x1000 == 0x018 && d.tkt.held.any fun h => h.cmd.ch == ch && h.page == x / 0x1000) || (x == 0x5128 && decide (ch ∈ d.tkt.lookups)))

/-- A read has to wait: for one of its words, or behind writes that wait at the channel's link (R79, R84). -/
def Dev.readWaits (d : Dev) (ch addr size : Nat) : Bool :=
  d.mustWait ch false ||
    (barAccess addr size && (d.wordWaits ch addr || (size == 8 && d.wordWaits ch (addr + 4))))

end Sys2Proof.Machine
end

