-- ==== Sys2Proof/Machine/DmaMove.lean ====
section
/-!
DEFINITION. Machine/DmaMove.lean: what a descriptor of the dumbwaiter moves, and how it completes (R91–R93, R318, R319).
-/
namespace Sys2Proof.Machine

/-- How a transfer ends: its status bits and result, whether it counts as an error (R93), and what its ticket takes: a fault's
sequence number when it is abandoned. -/
structure Move where
  dropped : Bool
  poisoned : Bool
  result : Nat
  error : Bool
  abandoned : Option Nat
  deriving DecidableEq, Repr

/-- All of it moved. -/
def Move.ok : Move := ⟨false, false, rOK, false, none⟩

/-- It is refused: nothing moves. -/
def Move.refused (result : Nat) : Move := ⟨false, false, result, true, none⟩

/-- The descriptor leaves its ring: its ticket closes, its status is written back (R91). A ticket's result is `OK` or `POISON_MERGE`
(R121): a refusal stands in the descriptor's status alone. -/
def Dev.descEnd (d : Dev) (r : Nat) (x : Desc) (m : Move) : Dev :=
  let d := d.putRing r (d.dmaRing r).tail
  let d := match m.abandoned with
    | some seq => d.abandon x.ticket seq
    | none =>
      if m.result = rOK then d.done x.ticket
      else if m.result = 6 then (d.ticketUpd x.ticket fun t => { t with result := 6 }).done x.ticket
      else d.partialDone x.ticket
  d.descWriteBack r x (descStatus m.dropped false m.poisoned m.result) m.error

/-- Descriptors of length 0 that have waited for the ones before them are written back (R92). -/
def Dev.descZeros (d : Dev) (r : Nat) : Dev :=
  let waiting := if d.ringLive r then (d.dmaRing r).takeWhile fun x => x.len == 0 else []
  each waiting (fun x (d : Dev) => d.descEnd r x Move.ok) d

/-- The ladles of the channels that a fenced transfer touches flush (R92). -/
def Dev.descFence (d : Dev) (x : Desc) : Dev :=
  let touched := (List.range (min 32 ((x.dev % 64 + x.len + 63) / 64))).map fun i => (d.memLocate (x.dev / 64 + i)).1
  each ((List.range 16).filter fun c => c ∈ touched) (fun c (d : Dev) => d.memFlushAll c) d

/-- The fault that contained a channel (R120). -/
def Dev.containSeq (d : Dev) (c : Nat) : Nat := d.flt.containedBy.get (0x20000 + c) 0

/-- The range lies in the host region in force (R81, R308). -/
def Dev.inHostRegion (d : Dev) (addr n : Nat) : Bool :=
  let lo := d.get MEM_HOST_BASE_gib * 2 ^ 30
  decide (lo ≤ addr ∧ addr + n ≤ lo + d.get MEM_HOST_SIZE_gib * 2 ^ 30 ∧ addr + n ≤ d.memU)

/-- A word of the unprivileged half of the table windows that the Unpriv column lets nobody write (R74): a whole window that is read-only
there, the mask of P (R297) and the bin plans in force (R242), where the window shows them. Reserved words of a writable table, and
offsets beyond its end, only ignore writes (R6, R74). -/
def Dev.windowForbids (d : Dev) (o : Nat) : Bool :=
  let w := o / 2 ^ 20
  let t := d.windowOffset w (o % 2 ^ 20)
  !(w ∈ [0, 3, 5, 6]) || (w == 5 && decide (0x1000 ≤ t ∧ t < 0x1040)) || (w == 6 && decide (0x2_0000 ≤ t ∧ t < 0x4_0000))

/-- The descriptor is refused as it starts (R91–R93): nothing of it moves. `BAD_ARG` for a table window's misaligned address or length
or a span past its 16 MiB, and for the ledger space with dir 1, are the model's: the spec gives these no result (DESIGN CHOICE,
assumption 22). -/
def Dev.descRefusal (d : Dev) (x : Desc) : Option Move :=
  if 1 < x.dir ∨ 2 < x.space ∨ 8 ≤ x.flags then some (Move.refused rBadArg)
  else if x.space = 1 then
    if x.dev % 4 ≠ 0 ∨ x.len % 4 ≠ 0 ∨ 2 ^ 24 < x.dev + x.len then some (Move.refused rBadArg)
    else if x.dir = 1 ∧ (List.range (x.len / 4)).any (fun k => d.windowForbids (x.dev + 4 * k)) then some (Move.refused rDenied)
    else none
  else if x.space = 2 then
    let n := x.len / 128
    if x.dir ≠ 0 ∨ x.len % 128 ≠ 0 ∨ d.ldg.next < x.dev + n ∨ x.dev + ldgSlots < d.ldg.next then some (Move.refused rBadArg)
    else none
  else if !d.memLive then some ⟨true, false, rBadState, true, some 0⟩
  else if x.dir = 1 ∧ !d.inHostRegion x.dev x.len then some ⟨true, false, rDenied, true, none⟩
  else none

/-- Bytes of the descriptor's next piece (R92): up to the next multiple of 4 KiB of the device address; 32 records of the ledger. -/
def descPiece (x : Desc) : Nat :=
  min (x.len - x.pos) (if x.space = 2 then 4_096 else 4_096 - (x.dev + x.pos) % 4_096)

/-- The descriptor has data left to move. -/
def Desc.moving (x : Desc) : Bool := !x.moved && decide (x.len ≠ 0)

/-- Rings take turns (R92): the ring that may move the next piece is the first after the one that moved last whose oldest descriptor has
data left; a ring that an error stopped has no turn (R93). -/
def Dev.dmaTurn (d : Dev) : Option Nat :=
  ((List.range 16).map fun k => (d.dma.last + 1 + k) % 16).find? fun r =>
    d.ringLive r && ((d.dmaRing r).headD (descParse [] 0 0)).moving

/-- A word of a ledger record to the host (R91): zeros while the ring's domain is off. -/
def Dev.ledgerBytes (d : Dev) (seq : Nat) : List Nat :=
  if d.pageOn 0x012 && d.railGood 3 then recBytes (d.ldg.ring.get (seq % ldgSlots) LdgRec.zero) else List.replicate 128 0

/-- The bytes of the descriptor's next piece, read for the host, and whether they came without poison. -/
def Dev.pieceRead (d : Dev) (x : Desc) (n : Nat) : List Nat × Bool × Dev :=
  if x.space = 0 then d.memReadSpan (x.dev + x.pos) n
  else if x.space = 1 then
    let out := (List.range (n / 4)).foldl (fun (a : List Nat × Dev) k =>
      let (v, d) := a.2.busRead 0 (2 ^ 25 + x.dev + x.pos + 4 * k)
      (a.1 ++ leBytes 4 v, d)) ([], d)
    (out.1, true, out.2)
  else ((List.range (n / 128)).flatMap fun k => d.ledgerBytes (x.dev + x.pos / 128 + k), true, d)

/-- What the lines of a write have met so far: a dropped line's channel, a merge with poison. -/
structure Moved where
  dropped : Option Nat
  merged : Bool
  deriving DecidableEq, Repr

/-- Write a piece's bytes line by line. -/
def Dev.moveLines (d : Dev) (x : Desc) (bytes : List Nat) : Moved × Dev :=
  let at_ := x.dev + x.pos
  (List.range ((at_ % 64 + bytes.length + 63) / 64)).foldl (fun (a : Moved × Dev) i =>
    let line := at_ / 64 + i
    let (w, d) := a.2.memWrite line (lineBytes at_ bytes line) x.ticket
    let m := match w with
      | .ok => a.1
      | .poisonMerge => { a.1 with merged := true }
      | .dropped => { a.1 with dropped := some (a.2.memLocate line).1 }
      | .held => a.1
    (m, d)) (⟨none, false⟩, d)

/-- The bytes of the descriptor's next piece go to the device. -/
def Dev.pieceWrite (d : Dev) (x : Desc) (bytes : List Nat) : Moved × Dev :=
  if x.space = 0 then d.moveLines x bytes
  else
    (⟨none, false⟩, each (List.range (bytes.length / 4)) (fun k (d : Dev) =>
      let o := x.dev + x.pos + 4 * k
      let w := o / 2 ^ 20
      (if wakesAt 2 o then d.wakeCause else d).windowWrite 0 false w (d.windowOffset w (o % 2 ^ 20))
        (leNat ((bytes.drop (4 * k)).take 4))) d)

/-- A write of the descriptor waits in a ladle. -/
def Dev.descHeld (d : Dev) (x : Desc) : Bool :=
  (List.range 16).any fun c => (d.memChan c).ladle.any fun (e : LadleEntry) => x.ticket ∈ e.writers

/-- All of the descriptor's data has moved and none of it waits in a ladle: how it ends (R93, R318). A read that met poison completes
with `OK`; a merge with poison is the result `POISON_MERGE`. -/
def Dev.descSettled (d : Dev) (x : Desc) : Move × Dev :=
  if x.dir = 0 then (if x.poisoned then ⟨false, true, rOK, true, none⟩ else Move.ok, d)
  else
    let bad := x.poisoned || decide (x.ticket ∈ d.mem.merged)
    (if bad then ⟨false, false, 6, true, none⟩ else Move.ok,
      { d with mem := { d.mem with merged := d.mem.merged.filter (· != x.ticket) } })

/-- The oldest descriptor of a ring as it now stands. -/
def Dev.putOldest (d : Dev) (r : Nat) (x : Desc) : Dev := d.putRing r (x :: (d.dmaRing r).tail)

/-- Move the next piece of a ring's oldest descriptor; none while it has to wait or has more to move. `data`: what the host's memory
holds for the piece. -/
def Dev.descPieceMove (d : Dev) (r : Nat) (x : Desc) (data : List Nat) : Option Move × Dev :=
  let n := descPiece x
  let d := { d with dma := { d.dma with last := r } }
  let d := if x.pos = 0 ∧ x.space = 0 ∧ bit x.flags 1 ∧ d.memN ≠ 0 then d.descFence x else d
  let (dropped, merged, d) :=
    if x.dir = 0 then
      let (bytes, good, d) := d.pieceRead x n
      ((none : Option Nat), !good, d.emit .hostWrite r ((x.host + x.pos) :: bytes))
    else
      let (m, d) := (d.emit .hostRead r [x.host + x.pos, n]).pieceWrite x ((List.range n).map fun k => data.getD k 0 % 256)
      (m.dropped, m.merged, d)
  let y := { x with pos := x.pos + n, moved := decide (x.len ≤ x.pos + n), poisoned := x.poisoned || merged }
  let d := (d.putOldest r y).progress x.ticket (descUnits x.space x.dev y.pos)
  match dropped with
  | some c => (some ⟨true, false, rBadState, true, some (d.containSeq c)⟩, d)
  | none =>
    if y.moved && !d.descHeld y then
      let (m, d) := d.descSettled y
      (some m, d)
    else (none, d)

/-- The transfer of a ring's oldest descriptor goes on. -/
def Dev.descMove (d : Dev) (r : Nat) (x : Desc) (data : List Nat) : Option Move × Dev :=
  if x.len = 0 then (some Move.ok, d)
  else if x.moved then
    if d.descHeld x then (none, d)
    else
      let (m, d) := d.descSettled x
      (some m, d)
  else if d.dmaTurn ≠ some r then (none, d)
  else match d.descRefusal x with
    | some m => (some m, d)
    | none => d.descPieceMove r x data

/-- `DESCRIPTOR_COMPLETE` (R91–R93): the ring's oldest descriptor moves its next piece of at most 4 KiB, in the ring's turn; with the last
it completes, once no line of it waits in a ladle. `data` are the bytes that the host's memory gave, `errs` the errors that the DRAM
shows. -/
def execDescriptorComplete (ring : Nat) (data : List Nat) (errs : List MemErr) (s : State) :=
  onDev (fun d =>
    match d.dmaRing ring with
    | [] => d
    | x :: _ =>
      if d.ringLive ring then
        match (d.memErrs errs).descMove ring x data with
        | (some m, d) => (d.descEnd ring x m).descZeros ring
        | (none, d) => d
      else d) s

end Sys2Proof.Machine
end

