-- ==== Sys2Proof/Machine/Hif.lean ====
section
/-!
DEFINITION. Machine/Hif.lean: the host link's own events (R71) and BAR2 (R81, R406).
-/
namespace Sys2Proof.Machine

/-- The function's configuration space (R70): one physical function without INTx, MSI, SR-IOV, ATS, PASID or ASPM L0s. -/
structure PcieFunction where
  vendorId : Nat
  deviceId : Nat
  revisionId : Nat
  classCode : Nat
  interruptPin : Nat
  bar0Bytes : Nat
  bar2Bytes : Nat
  msixVectors : Nat
  maxPayload : Nat
  tagBits : Nat
  flr : Bool
  aspmL1 : Bool
  aer : Bool
  powerD3hot : Bool
  serial : Nat
  deriving DecidableEq, Repr

/-- Vendor, revision and serial number stand in the `FACTORY` region (R70, R528). -/
def Dev.pcieFunction (d : Dev) : PcieFunction :=
  { vendorId := bits (d.factoryWord 0) 0 16, deviceId := 0x0512, revisionId := bits (d.factoryWord 0) 16 8, classCode := 0x11_8000
    interruptPin := 0, bar0Bytes := 2 ^ 26, bar2Bytes := 2 ^ 34, msixVectors := 64, maxPayload := 512, tagBits := 10
    flr := true, aspmL1 := true, aer := true, powerD3hot := true
    serial := d.factoryWord 4 + 2 ^ 32 * d.factoryWord 5 }

/-- Events of R71: loss of link, hot reset, FLR, entry to D3hot, `PE_PERST_N` low (R560). -/
def linkLoss : Nat := 0
/-- Hot reset. -/
def linkHotReset : Nat := 1
/-- Function level reset. -/
def linkFlr : Nat := 2
/-- Entry to D3hot. -/
def linkD3hot : Nat := 3
/-- `PE_PERST_N` low. -/
def linkPerst : Nat := 4

/-- The event can happen: the link's logic has supply and is up; a low `PE_PERST_N` needs no link. -/
def Dev.linkCan (d : Dev) (kind : Nat) : Bool :=
  d.railGood 6 && decide (kind ≤ linkPerst) && (kind == linkPerst || d.flag HIF_LINK_up) && !(kind == linkD3hot && d.d3hot)

/-- What every event of R71 does: the rings stop, posted writes go, the host link's session closes, the event is counted and raises
`HIF_LINK_LOST`, whose record the abandoned tickets name (R104, R120). -/
def Dev.linkReset (d : Dev) : Dev :=
  let open_ := d.dmaTickets
  ((d.dmaStop.dropPosted.closeSession 0 4).bump HIF_LINK_RESETS_count).raiseWith F_HIF_LINK_LOST 0x001 0 0 open_ false

/-- What an event does to the link itself (R71): an FLR and D3hot leave it up; the others leave the function in D0. While the link is
down, `HIF_LINK` keeps the last width and speed (R80 is silent; DESIGN CHOICE, assumption 25). -/
def Dev.linkAfter (d : Dev) (kind : Nat) : Dev :=
  if kind = linkD3hot then { d with d3hot := true }
  else if kind = linkFlr then { d with d3hot := false }
  else { d with d3hot := false }.put HIF_LINK_up 0

/-- `HIF_LINK_RESET` (R71). -/
def execHifLinkReset (kind : Nat) (s : State) := onDev (fun d => if d.linkCan kind then d.linkReset.linkAfter kind else d) s

/-- `PCIE_LINK_UP` (R71, R80): the link trains to L0 with a width and a speed. -/
def execPcieLinkUp (width speed : Nat) (s : State) :=
  onDev (fun d =>
    if d.railGood 6 ∧ width ∈ [1, 2, 4, 8] ∧ 1 ≤ speed ∧ speed ≤ 5 then
      ((d.put HIF_LINK_up 1).put HIF_LINK_width width).put HIF_LINK_speed speed
    else d) s

/-- `RETURN_TO_D0` (R71): BAR decoding resumes. -/
def execReturnToD0 (s : State) := onDev (fun d => { d with d3hot := false }) s

/-- The attached-memory address of an offset of BAR2 (R80). -/
def Dev.bar2Addr (d : Dev) (o : Nat) : Nat := d.get HIF_BAR2_BASE_gib * 2 ^ 30 + o

/-- `BAR2_READ` (R81, R406): data, or all ones with the EP bit. A read that spans a bad and a good line returns all ones with EP for the
whole completion (DESIGN CHOICE, assumption 22). -/
def Dev.bar2Read (d : Dev) (o n : Nat) (errs : List MemErr) : Dev :=
  if !d.hostDecodes ∨ 2 ^ 34 < o + n then d
  else if d.clk = 5 then d.emit .ep 0 (List.replicate n 0xFF)
  else
    let (bytes, good, d) := (d.memErrs errs).memReadSpan (d.bar2Addr o) n
    if good then d.emit .readData 0 ((2 ^ 26 + o) :: bytes) else d.emit .ep 0 (List.replicate n 0xFF)

/-- The enabled bytes of a write that fall into one line. -/
def enabledBytes (addr : Nat) (bytes : List (Nat × Nat)) (line : Nat) : SMap Nat :=
  bytes.foldl (fun (m : SMap Nat) (p : Nat × Nat) =>
    if (addr + p.1) / 64 = line then m.put ((addr + p.1) % 64) (p.2 % 256) else m) []

/-- `BAR2_WRITE` (R81, R406): enabled bytes by offset from the write's address; outside the host region in force it is dropped and
counted; one that straddles its edge is dropped whole and counts once (DESIGN CHOICE, assumption 22). -/
def Dev.bar2Write (d : Dev) (o : Nat) (bytes : List (Nat × Nat)) (errs : List MemErr) : Dev :=
  let n := bytes.foldl (fun (n : Nat) (p : Nat × Nat) => max n (p.1 + 1)) 0
  let a := d.bar2Addr o
  if !d.hostDecodes ∨ 2 ^ 34 < o + n then d
  else if d.clk = 5 ∨ !d.inHostRegion a n then d.bump HIF_BAR2_DROPS_count
  else
    each (List.range ((a % 64 + n + 63) / 64)) (fun i (d : Dev) =>
      (d.memWrite (a / 64 + i) (enabledBytes a bytes (a / 64 + i))).2) (d.memErrs errs)

end Sys2Proof.Machine
end

