-- ==== Sys2Proof/Machine/Cold.lean ====
section
/-!
DEFINITION. Machine/Cold.lean: the cold start (R543, R544) and what it restores (R111, R113, R120, R170, R337, R357, R411, R519).
-/
namespace Sys2Proof.Machine

/-! ## What outlives D00 -/

/-- Registers that a cold start finds as they were: those of D02, and those that the pantry, OTP or a mirror holds (R410). -/
def Dev.coldRegs (d : Dev) : Store :=
  (d.regs.filter fun (e : Nat × SMap Nat) => (e.1 / 2 ^ 17 == 8 && decide (0x100 ≤ e.1 / 32 % 4096)) || decide (e.1 ∈ pantryCodes)).foldl
    (fun (r : Store) (e : Nat × SMap Nat) => r.put e.1 e.2) resetRegs

/-- The ledger as the pantry holds it; records that waited are lost, and seals not yet signed stay unsigned (R556). -/
def Dev.coldLedger (d : Dev) : Ldg := { d.ldg with queue := [], privWait := [], seals := [] }

/-- The meters' totals and definitions in force (R370). -/
def Dev.coldMeters (d : Dev) : Mtr :=
  { Mtr.init with
    units := d.mtr.units, unitsClose := d.mtr.units, accs := d.mtr.accs, banks := d.mtr.banks, retired := d.mtr.retired }

/-- The collector: the drip tray, its pins and the mirror stay, and the D00 shadows until power is lost (R105); the next `FAULT` record is
pinned (R113, R116). -/
def Dev.coldFaults (d : Dev) : Flt :=
  { Flt.init with
    tray := d.flt.tray, nextSlot := d.flt.nextSlot, ackPins := d.flt.ackPins, mirror := d.flt.mirror,
    shadowed := if d.down = 3 then [] else d.flt.shadowed, pinFrom := [d.nextSeq] }

/-- The rails of the always-on set: D00, D02 while it is supplied, D01, D03, D05 and D06. -/
def Dev.coldRails (d : Dev) : Nat := if d.rtc.d02Held then 0x6B else 0x6F

/-- D00 leaves reset with D01, D03, D05 and D06 switched on (R544). What stands in D02, the pantry, OTP and the outside world is
kept; everything else starts afresh. -/
def Dev.coldBase (d : Dev) : Dev :=
  { Dev.reset with
    time := d.time
    freeCtr := d.freeCtr
    sent := d.sent
    regs := d.coldRegs
    flt := d.coldFaults
    tkt := { rail := d.tkt.rail, held := [], lookups := [], issued := 0 }
    ldg := d.coldLedger
    identities := d.identities
    stale := d.stale
    isl := { Island.init with wrapped := d.isl.wrapped, hasWrapped := d.isl.hasWrapped }
    otp := { Otp.init with cells := d.otp.cells }
    rtc := { d.rtc with setTkt := 0 }
    seq := { Seq.init with deps := d.seq.deps, book := d.seq.book, running := d.coldRails }
    pwr := { Pwr.init with booted := true, d00At := d.time, shorted := d.pwr.shorted, starter := !d.pwr.shorted, chgSet := d.pwr.chgSet }
    mem := { Mem.init with serials := d.mem.serials }
    mtr := d.coldMeters
    twn := { Twn.init with since := d.time }
    thm := { Thm.init with recs := d.thm.recs }
    wdt := { Wdt.init with caps := d.wdt.caps, start := d.time } }

/-- The rails, the cause, and the levels and flags that a cold start takes over. -/
def Dev.coldMarks (d old : Dev) (cause : Nat) (estop : Bool) : Dev :=
  let d := ((d.put SEQ_RAIL_ON_on old.coldRails 0).put SEQ_RAIL_GOOD_good old.coldRails 0).calRestore
  let d := (d.put PWR_PSTATE_cold_cause cause).putB FLT_STATUS_estop estop
  let d := (d.putB PWR_STATUS_shorted_seen (old.flag PWR_STATUS_shorted_seen)).putB PWR_STATUS_collapse_seen
    (old.flag PWR_STATUS_collapse_seen)
  each [0, 1] (fun e (d : Dev) =>
    let cut := old.get SEQ_ENG_STATUS_state e != 0 ||
      (old.get SEQ_ENG_STATUS_last_end e == 6 && old.flag PWR_PSTATE_collapse_block)
    if cut then (d.put SEQ_ENG_STATUS_last_end 6 e).put SEQ_ENG_STATUS_recipe (old.get SEQ_ENG_STATUS_recipe e) e else d) d

/-! ## Step 2: what OTP configures (R519, R528, R530) -/

/-- sd_c in °C (R511, R528). -/
def sdLimit (v : Nat) : Nat := if v = 0 then 125 else clamp 110 130 v

/-- Values from `FACTORY` and `OPTIONS` are taken into use. -/
def Dev.otpConfigure (d : Dev) : Dev :=
  let d := each (List.range 32) (fun g (d : Dev) => d.putB LNK_GRP_STATUS_otp_enabled (bit (d.optWord 129) g) g) d
  let d := (d.put PD_SVID_vid (bits (d.factoryWord 1) 0 16)).put THM_LIMITS_sd_c (sdLimit (bits (d.factoryWord 3) 0 8))
  let d := if d.pwr.chgSet then d else d.putB PWR_CHG_CFG_en (bit (d.optWord 128) 1)
  d.wdtDefaults (bit (d.optWord 128) 0)

/-! ## Step 3: what is restored, raised and closed -/

/-- An unset epoch becomes the pantry's mirror plus 1 (R411). -/
def Dev.coldEpoch (d : Dev) : Dev :=
  if d.flag RTC_STATUS_epoch_unset && !d.rtc.d02Held then
    let e := (d.rtc.epochMirror + 1) % 2 ^ 16
    { (d.put RTC_TICK_HI_epoch e).put RTC_STATUS_epoch_unset 0 with rtc := { d.rtc with epochMirror := e } }
  else d

/-- One latch is restored with its containment, its page's first fault, and its `RESTORE` record (R113). -/
def Dev.restoreLatch (d : Dev) (x : Latch) : Dev :=
  let d := d.fillLatch x.cls x
  let d := ((d.put PAGE_FAULT_FIRST_valid 1 x.page).put PAGE_FAULT_FIRST_class x.cls x.page).put PAGE_FAULT_FIRST_source x.source x.page
  let d := d.contain (faultUnit x.source x.location) x.page x.location x.cls x.seq
  d.dripNow { d.dripBase 3 d.nextSeq with
    raised := x.raised, effective := x.cls, escalated := x.escalated, source := x.source, page := x.page, location := x.location
    detail := x.seq }

/-- Latches of classes 3 and 4 are restored; with class 4, `TRIP_N` is driven and banks start in TRIPPED (R111, R113). -/
def Dev.restoreLatches (d : Dev) (l : List Latch) : Dev :=
  let d := each l (fun x (d : Dev) => d.restoreLatch x) d
  if d.latched 4 then
    let d := { d with flt := { d.flt with otherTrip := d.get FLT_FIRST_SRC_source 4 != F_ESTOP } }
    (each (List.range 16) (fun b (d : Dev) => d.put BNK_STATUS_mode 5 b) d).driveTrip
  else d

/-- sd_latched holds `POWER_UP` back until cooled rises (R514, R552). -/
def Dev.coldThermal (d : Dev) : Dev := d.putB PWR_PSTATE_sd_wait (d.flag THM_STATUS_sd_latched)

/-- The faults for which D02 holds flags are raised, and the flags clear (R411, R425, R436). -/
def Dev.coldFlags (d : Dev) : Dev :=
  let f := d.rtc.flags
  let d := { d with rtc := { d.rtc with flags := 0 } }
  let d := if bit f 2 then d.raiseOscStopped else d
  let d := if bit f 0 then (d.put PWR_STATUS_shorted_seen 1).raise F_CELL_SHORTED 0x009 0 else d
  if bit f 1 then (d.put PWR_STATUS_collapse_seen 1).raise F_INPUT_COLLAPSE 0x009 0 else d

/-- Every ticket still open closes `ABANDONED` with power_lost, at the start's time (R120). -/
def Dev.coldTickets (d : Dev) : Dev :=
  let shut (t : Ticket) : Ticket :=
    if t.open_ then { t with
      state := 5, open_ := false, powerLost := true, endEpoch := d.epoch, endTick := d.tick, endFrame := 0, faultSeq := 0 }
    else t
  ({ d with tkt := { d.tkt with rail := d.tkt.rail.map fun (e : Nat × Ticket) => (e.1, shut e.2) } }).put TKT_OPEN_count 0

/-- Step 3 of R544. -/
def Dev.coldRestore (d : Dev) (l : List Latch) : Dev :=
  let d := (((d.coldEpoch.restoreLatches l).coldThermal).otpFaults.coldFlags).coldTickets
  let d := if d.flag FLT_STATUS_estop then d.raiseEstop true else d
  (d.put FRM_EPOCH_epoch (d.get FRM_EPOCH_epoch + 1)).pdStart

/-! ## Step 4: the identity and the ledger (R335, R337, R357) -/

/-- The record that the engine was appending as power was cut: a due seal, or the oldest that might be appended. -/
def Dev.ldgCut (d : Dev) : Option LdgPend :=
  let mark (early : Bool) : Nat := if early || !d.flag LDG_STATUS_ident_ok then 128 else 0
  let sealAt (early : Bool) : LdgPend := ⟨0x03, mark early, [⟨24, 8, d.ldg.sealFirst⟩], 0, 1024⟩
  if d.genesisWaits || d.ldgFull then none
  else if d.sealDue && !d.sealHead then some (sealAt false)
  else d.ldgReady.map fun p => if p.kind = 0x03 then sealAt (p.flags == 128) else p

/-- The record that the power loss cut: with a complete journal entry its slot is written from the entry; with an incomplete one, of which
`intact` times 8 bytes are intact, `TORN` stands in its place (R357). The type stands in byte 22 of a record (R350). -/
def Dev.journalCheck (d : Dev) (cut : Option LdgPend) (journal intact : Nat) : Dev :=
  match cut with
  | none => d
  | some p =>
    if journal = 0 then d
    else if journal = 1 then
      let n := d.ldg.next
      let d := d.ldgWriteAt d.ldg.cutAt p.kind p.flags p.body
      if p.kind = 0x03 then d.sealCovers n else d.unitDefSeq p n
    else
      let d := d.record 0x04 0 [⟨24, 1, if 3 ≤ intact then p.kind else 0xFF⟩, ⟨25, 1, intact⟩]
      ((d.put LDG_STATUS_torn 1).pageIrq 0x012 5).raise F_LDG_TORN 0x012 0

/-- The identity is generated on the first start, else unwrapped and checked; then `START` (R335, R337, R544). -/
def Dev.coldIdentity (d : Dev) (trng : Bool) : Dev :=
  let d := d.putB LDG_STATUS_trng_ok trng
  if d.regionOpen 2 then
    if trng then d.identityMake.startRecord
    else { d with isl := { d.isl with entropyWait := [(2, 0)] } }
  else if bit (d.get OTP_SEALED_sealed) 2 then d.identityCheck.startRecord
  else d.startRecord

/-- The cold start (R544). -/
def Dev.coldStart (d : Dev) (cause : Nat) (estop trng : Bool) (journal intact : Nat) : Dev :=
  let d := d.otpCut
  let e := ((d.coldBase.coldMarks d cause estop).coldSense.otpConfigure).coldRestore d.flt.mirror
  let e := (e.put LDG_BOOT_count (e.get LDG_BOOT_count + 1)).ldgCount
  ((e.journalCheck d.ldgCut journal intact).coldIdentity trng).rejudge.upJudge

/-- The cause's condition (R543): power-on, `RESET_N`, `REBOOT`. -/
def Dev.coldCan (d : Dev) (cause : Nat) : Bool :=
  if cause = 0 then d.down == 3 || !d.pwr.booted
  else if cause = 1 then d.down == 1
  else if cause = 2 then d.down == 2
  else false

/-- `COLD_START` (R543, R544): its cause, the level of `ESTOP_N`, whether the TRNG's health tests pass, and how the power loss left
the ledger's journal: 0 clear, 1 complete, 2 incomplete with `intact` × 8 bytes intact. -/
def execColdStart (cause : Nat) (estop trng : Bool) (journal intact : Nat) (s : State) :=
  onAny (fun d => if d.coldCan cause then d.coldStart cause estop trng journal intact else d) s

end Sys2Proof.Machine
end

