-- ==== Sys2Proof/Machine/Boundary.lean ====
section
/-!
DEFINITION. Machine/Boundary.lean: the frame boundary (R53), frames launched on string lanes (R161–R167, R174, R181) and the
entries written into both copies (R59).
-/
namespace Sys2Proof.Machine

/-! ## The boundary -/

/-- A K03 frame boundary: loop A judges the frame just ended (R455), the next frame gets its number (R382), role changes that
are due happen (R397), the frame begins, the twin lanes' frames leave (R375), and the recorder fills the slot of the frame before (R330). -/
def Dev.frameBoundary (d : Dev) (slack : List (Nat × Nat)) (grid : List GridReading) : Dev :=
  if !d.k03 then d
  else
    let d := d.adapt slack d.anyMissed
    let d := { d with time := d.time + 65_536 }
    let (f, d) := d.twnFrame (d.frame + 1)
    let d := (d.gridFrame grid).twnBefore f
    (d.beginAt f).twnAfter.flrIdle f

/-- `FRAME_BOUNDARY` (R53), with what the slack sensors and the grid-sense trackers report as the frame begins. -/
def execFrameBoundary (start : FrameStart) (s : State) := onLane (fun d => d.frameBoundary start.slack start.grid) s

/-- `BOTH_COPIES_ENTRY_WRITE` (R59). -/
def execBothCopiesEntryWrite (s : State) :=
  onDev (fun d =>
    if d.railGood 12 && d.k03 then
      let keys := d.returning
      d.writeEntries.clearFailed keys
    else d) s

/-! ## The downstream frame (R161–R167) -/

/-- What a downstream header says (R164). -/
structure DownHead where
  frame : Nat
  epoch : Nat
  role : Nat
  posture : Nat
  trip : Nat
  planValid : Nat
  keep : Nat
  mgmtOpen : Nat
  mapId : Nat
  deriving DecidableEq, Repr

/-- The 160 header bits (R164, R166). -/
def DownHead.word (h : DownHead) : Nat :=
  let w := packFields [(4, 5), (32, h.frame), (16, h.epoch), (1, h.role), (2, h.posture), (1, h.trip), (1, h.planValid), (1, h.keep),
    (1, h.mgmtOpen), (5, 0), (16, h.mapId), (64, 0), (16, 0)]
  w + crc16Header w

/-- What a frame takes from the lane's state as it will stand when the frame begins: state and map. A lane that is launched
early enters RUN or SAFE with the frame that it now launches (R143, R148, R190). -/
def Dev.launchState (d : Dev) (l : Nat) : Nat × Nat :=
  let x := d.lane l
  let st := d.laneState l
  if x.advance ≠ 0 ∧ st = 3 ∧ (d.frm l).runNext then (4, d.get FRM_L_MAP_built l)
  else if x.advance ≠ 0 ∧ st = 4 ∧ x.safeTkt ≠ 0 then (5, d.get FRM_L_MAP_in_force l)
  else (st, d.get FRM_L_MAP_in_force l)

/-- The plan for frame n that a string's selector has made and assembled (R45). -/
def Dev.planFor (d : Dev) (l n : Nat) : Option (SMap Nat) :=
  if (d.str l).missed then none else ((d.str l).plans.find? fun p => p.1 == n).map (·.2)

/-- The header and the plan of the downstream frame f (R167): rows of the table from the last up. `soon`: a class 4 latch has filled
less than 2 µs before the frame begins (R111). A lane that a `DISABLE` waits for commands its safe posture (R149). keep goes to 0 with the wake cause (R299, R301). -/
def Dev.downFill (d : Dev) (l f : Nat) (soon : Bool) : DownHead × Option (SMap Nat) :=
  let x := d.lane l
  let (st, map) := d.launchState l
  let fresh := soon && d.flt.tripFresh == (if x.advance = 0 then 1 else 2)
  let base : DownHead :=
    { frame := f, epoch := if x.advance ≠ 0 ∧ d.epochPend ≠ 0 then d.epochPend - 1 else d.get FRM_EPOCH_epoch, role := b2n (!d.standby), posture := 0, trip := 0, planValid := 0, keep := 0,
      mgmtOpen := b2n (mgmtState st), mapId := map }
  let safe := 1 + d.get LNK_CFG_posture_open l
  if st = 4 && d.latched 4 && !fresh then ({ base with posture := 1 + d.get FLT_TRIP_CFG_open, trip := 1 }, none)
  else if st ≠ 4 ∨ x.disTkt ≠ 0 then ({ base with posture := safe }, none)
  else if d.flag EST_STATUS_hibernated && d.wake == 0 then ({ base with planValid := 1, keep := 1 }, none)
  else match d.planFor l (f + 1) with
    | some p => ({ base with planValid := 1 }, some p)
    | none => (base, none)

/-- The S slots of a plan, other than zero (R181, R192). -/
def Dev.planSlots (d : Dev) (l : Nat) (p : SMap Nat) : List PayField :=
  (d.laneCells l).flatMap fun mc =>
    match d.node l mc.1 with
    | some n => match boundEp n 4 mc.2 with
      | some e =>
        let w := p.get (mc.1 * 16 + mc.2) 0
        if w = 0 then [] else [((d.frm l).downBase.get mc.1 0 + epDownOff n e, 16, w)]
      | none => []
    | none => []

/-- The B slots of a lane with a map in force, other than zero (R184). -/
def Dev.bSlots (d : Dev) (l : Nat) : List PayField :=
  (d.frm l).bDown.flatMap fun (b : Nat × Nat) =>
    match d.node l (b.1 / 32) with
    | some n =>
      if (profileEp n (b.1 % 32)).1 = 5 ∧ b.2 ≠ 0 then
        [((d.frm l).downBase.get (b.1 / 32) 0 + epDownOff n (b.1 % 32), 8, b.2)]
      else []
    | none => []

/-- A lane launches its next frame (R143, R161–R167): at the boundary, or early by its launch advance, before the boundary of the
frame. What leaves is recorded twice: its payload before scrambling, as the frame number and the fields that are not zero, and its
560,000 symbols (R125–R128). -/
def Dev.frameLaunch (d : Dev) (l : Nat) (soon : Bool) : Dev :=
  let st := d.laneState l
  let x := d.lane l
  if !d.laneOn l || isTwin l || !d.k03 || !(decide (2 ≤ st ∧ st ≤ 5)) then d
  else if x.disTkt ≠ 0 ∧ x.postureLeft = 0 then d.enterDown l 1
  else
    let f := d.frame + (if x.advance = 0 then 0 else 1)
    let d := if x.advance = 0 || !d.sch.strs.has l then d else d.strUpd l (Str.judge f)
    let (h, plan) := d.downFill l f soon
    let d := if h.planValid = 0 then d else
      d.strUpd l fun x => { x with edge := ((f + 1, plan.getD []) :: x.edge).take 10 }
    let d := if x.disTkt = 0 then d else d.putLane l { x with postureLeft := x.postureLeft - 1 }
    let (block, d) := if h.mgmtOpen = 1 then d.mgmtNextBlock l else ([], d)
    let s := match plan with
      | some p => d.planSlots l p
      | none => []
    let b := if h.mapId = 0 then [] else d.bSlots l
    let mgmt : List PayField := if block.isEmpty then [] else [(160, 1024, beNat block)]
    let fields := (0, 160, h.word) :: mgmt ++ fieldSort (s ++ b)
    let d := d.emit .frame l (f :: fields.flatMap fun x => [x.1, x.2.1, x.2.2])
    d.lineSend l fields

/-- `LANE_FRAME_LAUNCH` (R167): `soon` says that a class 4 latch has filled less than 2 µs before the frame begins. -/
def execLaneFrameLaunch (lane : Nat) (soon : Bool) (s : State) := onLane (fun d => d.frameLaunch lane soon) s

end Sys2Proof.Machine
end

