-- ==== Sys2Proof/Machine/Collector.lean ====
section
/-!
DEFINITION. Machine/Collector.lean: `FAULT_RAISE`, a fault of any source of R104 as it reaches the collector (R103, R106–R109).
-/
namespace Sys2Proof.Machine

/-- The page of the instance that raises a source at a location: the code's high byte is its block's first page (R104). -/
def faultPage (code loc : Nat) : Nat :=
  let b := code / 256
  if b = 0x20 then 0x20 + loc else if b = 0x30 then 0x30 + loc else if b = 0x40 then lanePage loc else b

/-- The location lies in the range of its unit. -/
def faultPlace (code loc : Nat) : Bool :=
  match faultUnit code loc with
  | .lane => decide (loc < 512)
  | .bank => decide (loc < 16)
  | .die => decide (loc < 8)
  | .channel => decide (loc < 16)
  | .rail => decide (loc < 96)
  | .loop => decide (loc < 4)
  | .block => decide (loc < 2 ^ 32)

/-- The source is one of R104's. -/
def faultKnown (code : Nat) : Bool := faultRows.any fun r => r.code == code

/-- A pantry word whose write fails its verify is written up to 3 more times; whether a repeat succeeds is the device's to show, a free
value. A word whose last repeat fails too is kept in a D00 shadow until power is lost, from which its readers have the value meant for it,
the one that the state holds (R105; assumption 25). -/
def Dev.pantryRepeat (d : Dev) (off : Nat) : Nat → Dev
  | 0 => if off ∈ d.flt.shadowed then d else { d with flt := { d.flt with shadowed := d.flt.shadowed ++ [off] } }
  | n + 1 =>
    let (r, d) := d.free
    if r % 2 = 1 then d else d.pantryRepeat off n

/-- A fault reaches the collector. A contained rail's dependants are shut down, a contained channel's ladle is flushed, a lost die
is contained as its link's loss contains it (R43, R103, R319, R468). -/
def Dev.collect (d : Dev) (code loc detail : Nat) : Dev :=
  if code = F_D2D_LOST then d.dieLose loc detail
  else
    let d := if code = F_PANTRY_VERIFY then d.pantryRepeat (detail % 2 ^ 32) 3 else d
    let before := d.nextSeq
    let d := (d.raise code (faultPage code loc) loc detail).memSettle
    if faultUnit code loc = .rail ∧ d.nextSeq ≠ before then d.startShutdown loc else d

/-- `FAULT_RAISE` (R108): only listed sources are raised (R104). -/
def execFaultRaise (code loc detail : Nat) (s : State) :=
  onLane (fun d => if faultKnown code && faultPlace code loc then d.collect code loc detail else d) s

end Sys2Proof.Machine
end

