-- ==== Sys2Proof/Machine/Idle.lean ====
section
/-!
DEFINITION. Machine/Idle.lean: what happens while no command waits: the 32,768 Hz clock K00 goes on (R411, R429).
-/
namespace Sys2Proof.Machine

/-- A page summary whose attention message has gone and that still pends goes out again (R95, R96). -/
def Dev.attentions (d : Dev) : Dev :=
  each (List.range 96) (fun p (d : Dev) => if d.irqTarget p = 7 then d.irqDeliver p else d) d

/-- One edge of K00: the RTC counts, and the charger's safety timer with it. Elapsed time goes on here only while no frames
measure it (assumption 2). -/
def Dev.idle (d : Dev) : Dev :=
  let d := if d.k03 then d else { d with time := d.time + 100_000 }
  let d := d.rtcEdge
  if d.down = 0 then d.chgTick.attentions else d

/-- `ALARM_FIRE` (R416): the K00 edge at which an armed alarm fires. -/
def execAlarmFire (a : Nat) (s : State) := onAny (fun d => if d.edgeFires a then d.idle else d) s

end Sys2Proof.Machine
end

