-- ==== Sys2Proof/Machine/RegCmds.lean ====
section
/-!
DEFINITION. Machine/RegCmds.lean: the table's rows that are accesses to registers and table windows: each is a write, or a read, of
BAR0 through a channel and a view.
-/
namespace Sys2Proof.Machine

/-- BAR0 address of a page's word in a view. -/
def pageAddr (priv : Bool) (page off : Nat) : Nat := (if priv then 2 ^ 24 else 0) + page * 0x1000 + off

/-- A write of a page's word through a channel's view. -/
def Dev.regWrite (d : Dev) (ch : Nat) (priv : Bool) (page off v : Nat) (soon : Bool := false) : Dev :=
  if page < 0x1000 ∧ off < 0x1000 ∧ ch < 2 then d.busWrite ch (pageAddr priv page off) v soon else d

/-- A write of a table's word through a window that shows its part of the table (R74). -/
def Dev.tableAccess (d : Dev) (ch : Nat) (priv : Bool) (w o v : Nat) : Dev :=
  if d.get HIF_WIN_BASE_mib w = o / 2 ^ 20 ∧ o % 4 = 0 ∧ w < 16 ∧ ch < 2 then
    d.busWrite ch ((if priv then 3 else 2) * 2 ^ 24 + w * 2 ^ 20 + o % 2 ^ 20) v
  else d

/-- `REGISTER_WRITE` (R7, R73): a write of 32 or 64 bits, or of a size or alignment that is refused. -/
def execRegisterWrite (ch addr size val : Nat) (soon : Bool) (s : State) :=
  onDev (fun d => if addr < 2 ^ 26 ∧ ch < 2 then d.barWrite ch addr size val soon else d) s

/-- A read of BAR0 is answered; what it returned leaves with the completion. -/
def Dev.answerRead (d : Dev) (ch addr size : Nat) : Dev :=
  let (v, d) := d.barRead ch addr size
  d.emit .readData ch [addr, v]

/-- `SNAP_READ` (R7): a read of BAR0, which may have to wait (R79, R124). -/
def execSnapRead (ch addr size : Nat) (s : State) :=
  onDev (fun d =>
    if d.channelUp ch && decide (addr < 2 ^ 26 ∧ ch < 2) then
      if d.readWaits ch addr size then { d with readWait := d.readWait ++ [⟨false, false, ch, addr, size, [], []⟩] }
      else d.answerRead ch addr size
    else d) s

/-- `PAGE_ENABLE_WRITE` (R78). -/
def execPageEnableWrite (ch : Nat) (priv : Bool) (page : Nat) (en : Bool) (s : State) :=
  onDev (fun d => d.regWrite ch priv page 0x010 (d.pageCtrl page / 2 * 2 + b2n en)) s

/-- `PAGE_HIBERNATE_WRITE` (R76). -/
def execPageHibernateWrite (ch : Nat) (priv : Bool) (page : Nat) (hib : Bool) (s : State) :=
  onDev (fun d => d.regWrite ch priv page 0x010 (4 * b2n hib + d.pageCtrl page % 4)) s

/-- `BLOCK_RESET` (R78): block_reset can be written through the privileged view alone. -/
def execBlockReset (ch page : Nat) (soon : Bool) (s : State) :=
  onDev (fun d => d.regWrite ch true page 0x010 (d.pageCtrl page + 2) soon) s

/-- `SHADOW_TABLE_WRITE` (R235). -/
def execShadowTableWrite (ch : Nat) (priv : Bool) (off val : Nat) (s : State) := onDev (fun d => d.tableAccess ch priv 0 off val) s

/-- `ACTIVE_TABLE_WRITE` (R60): through the privileged half. -/
def execActiveTableWrite (ch off val : Nat) (s : State) := onDev (fun d => d.tableAccess ch true 1 off val) s

/-- `DEPENDENCY_MASK_WRITE` (R466): word `word` of a rail's mask. -/
def execDependencyMaskWrite (ch rail word val : Nat) (s : State) :=
  onDev (fun d => if rail < 96 ∧ word < 3 then d.tableAccess ch true 12 (0x1_2000 + 0x10 * rail + 4 * word) val else d) s

/-- `TICKET_LOOKUP` (R124): a write of `TKT_LOOKUP_HI`. -/
def execTicketLookup (ch : Nat) (priv : Bool) (hi : Nat) (s : State) := onDev (fun d => d.regWrite ch priv 0x005 0x124 hi) s

/-- `IRQ_PEND_WRITE` (R96). -/
def execIrqPendWrite (ch : Nat) (priv : Bool) (word val : Nat) (s : State) :=
  onDev (fun d => if word < 32 then d.regWrite ch priv 0x003 (0x100 + 4 * word) val else d) s

/-- `IRQ_EN_WRITE` (R95). -/
def execIrqEnWrite (ch : Nat) (priv : Bool) (word val : Nat) (s : State) :=
  onDev (fun d => if word < 32 then d.regWrite ch priv 0x003 (0x180 + 4 * word) val else d) s

/-- `IRQ_TARGET_WRITE` (R96). -/
def execIrqTargetWrite (ch : Nat) (priv : Bool) (word val : Nat) (s : State) :=
  onDev (fun d => if word < 128 then d.regWrite ch priv 0x003 (0x200 + 4 * word) val else d) s

/-- `DMA_RING_ENABLE` (R90). -/
def execDmaRingEnable (ch : Nat) (priv : Bool) (ring value : Nat) (s : State) :=
  onDev (fun d => if ring < 16 then d.regWrite ch priv 0x006 (0x114 + 32 * ring) value else d) s

/-- `DMA_TAIL_WRITE` (R90). -/
def execDmaTailWrite (ch : Nat) (priv : Bool) (ring value : Nat) (s : State) :=
  onDev (fun d => if ring < 16 then d.regWrite ch priv 0x006 (0x10C + 32 * ring) value else d) s

/-- `TIME_SRC_WRITE` (R132): `CLK_TIME_SRC` can be written through the privileged view alone. -/
def execTimeSrcWrite (ch val : Nat) (s : State) := onDev (fun d => d.regWrite ch true 0x007 0x100 val) s

/-- `ALARM_ARM` (R416): a write of `RTC_ALMa_HI` with arm = 1. -/
def execAlarmArm (ch : Nat) (priv : Bool) (alarm val : Nat) (s : State) :=
  onDev (fun d => if alarm < 2 then d.regWrite ch priv 0x008 (0x134 + 16 * alarm) (setBit val 31) else d) s

/-- `TRIM_CFG_WRITE` (R415): `RTC_TRIM_CFG` can be written through the privileged view alone. -/
def execTrimCfgWrite (ch val : Nat) (s : State) := onDev (fun d => d.regWrite ch true 0x008 0x118 val) s

/-- `PD_POLICY_WRITE` (R492). -/
def execPdPolicyWrite (ch : Nat) (priv host : Bool) (s : State) := onDev (fun d => d.regWrite ch priv 0x010 0x108 (b2n host)) s

/-- `RX_FIFO_RELEASE` (R494): a write of 1 to `PD_RX_STATUS.valid`. -/
def execRxFifoRelease (ch : Nat) (priv : Bool) (s : State) := onDev (fun d => d.regWrite ch priv 0x010 0x160 (2 ^ 31)) s

/-- `ALT_EN_WRITE` (R498): a write of `PD_CFG.alt_en` that leaves the register's other fields. -/
def execAltEnWrite (ch : Nat) (en : Bool) (s : State) :=
  onDev (fun d => d.regWrite ch true 0x010 0x104 (4 * b2n en + 2 * d.get PD_CFG_src_en + d.get PD_CFG_drp_en)) s

/-- `WDT_KICK` (R517). -/
def execWdtKick (ch : Nat) (priv : Bool) (val : Nat) (s : State) := onDev (fun d => d.regWrite ch priv 0x00D 0x108 val) s

end Sys2Proof.Machine
end

