-- ==== Sys2Proof/Machine/Service.lean ====
section
/-!
DEFINITION. Machine/Service.lean: requests of the service link that reach registers and the ledger (R500, R501), and the side port
(R99–R101).
-/
namespace Sys2Proof.Machine

/-- A span of BAR0 that a `READ` or `WRITE` may name: aligned, and inside BAR0 (R500). -/
def slSpan (r : SlReq) : Bool := r.addr % 4 == 0 && decide (r.addr + r.count ≤ 0x0400_0000)

/-- The count of a `READ` or `WRITE`: a multiple of 4 from 4 to 4,096. -/
def slCount (r : SlReq) : Bool := r.count % 4 == 0 && decide (4 ≤ r.count ∧ r.count ≤ 4_096)

/-- The link has been keyed (R502). -/
def Dev.slKeyed (d : Dev) : Bool := d.get PD_STATUS_sl_state == 3

/-- A `READ` is served: 32-bit reads at consecutive offsets, in ascending order. -/
def Dev.slReads (d : Dev) (addr n : Nat) : List Nat × Dev :=
  (List.range n).foldl (fun (a : List Nat × Dev) k =>
    let (v, d) := a.2.busRead 1 (addr + 4 * k)
    (a.1 ++ leBytes 4 v, d)) ([], d)

/-- A `WRITE` is served: 32-bit writes in ascending order. -/
def Dev.slWrites (d : Dev) (addr : Nat) (payload : List Nat) (soon : Bool) : Dev :=
  (List.range (payload.length / 4)).foldl (fun (d : Dev) k =>
    d.busWrite 1 (addr + 4 * k) (leNat ((payload.drop (4 * k)).take 4)) soon) d

/-- `READ`. -/
def Dev.slRead (d : Dev) (r : SlReq) : Dev :=
  if !d.slKeyed then d.slAnswer r 0x81 4 0 []
  else if !slSpan r then d.slAnswer r 0x81 1 0 []
  else if !slCount r then d.slAnswer r 0x81 2 0 []
  else
    let (b, d) := d.slReads r.addr (r.count / 4)
    d.slAnswer r 0x81 0 0 b

/-- A request waits at the service link (R84, R501). -/
def Dev.slQueue (d : Dev) (r : SlReq) (done : Bool) : Dev :=
  { d with readWait := d.readWait ++ [⟨false, done, 1, r.addr, r.count, r.header ++ r.payload, []⟩] }

/-- `WRITE`: answered once every word has reached its page (R84). -/
def Dev.slWrite (d : Dev) (r : SlReq) (soon : Bool) : Dev :=
  if !d.slKeyed ∨ d.get CUS_STATUS_phase 1 ≠ 3 then d.slAnswer r 0x82 4 0 []
  else if !slSpan r then d.slAnswer r 0x82 1 0 []
  else if !slCount r ∨ r.payload.length ≠ r.count then d.slAnswer r 0x82 2 0 []
  else
    let d := d.slWrites r.addr r.payload soon
    if d.mustWait 1 false then d.slQueue r true else d.slAnswer r 0x82 0 0 []

/-- `LDG`: records as window 8 shows them; only sequence numbers that stand in the ring. -/
def Dev.slLdg (d : Dev) (r : SlReq) : Dev :=
  let n := r.count / 128
  if !d.slKeyed then d.slAnswer r 0x83 4 0 []
  else if r.count % 128 != 0 || !decide (1 ≤ n ∧ n ≤ 32) || !d.pageOn 0x012 ||
      d.custodyOff || !decide (r.addr + n ≤ d.ldg.next ∧ d.ldg.next ≤ r.addr + ldgSlots) then d.slAnswer r 0x83 2 0 []
  else d.slAnswer r 0x83 0 0 ((List.range n).flatMap fun k => recBytes (d.ldg.ring.get ((r.addr + k) % ldgSlots) LdgRec.zero))

/-- A request is served. -/
def Dev.slServe (d : Dev) (r : SlReq) (soon : Bool) : Dev :=
  if r.type = 0x01 then d.slRead r
  else if r.type = 0x02 then d.slWrite r soon
  else if r.type = 0x03 then d.slLdg r
  else d.slAnswer r 0x84 0 0 []

/-- Requests that wait at the service link. -/
def Dev.slWaiting (d : Dev) : Nat := (d.readWait.filter fun w => w.ch == 1).length

/-- A `READ` of a word that is not yet valid (R79, R124). -/
def Dev.slWordWaits (d : Dev) (r : SlReq) : Bool :=
  r.type == 0x01 && d.slKeyed && slSpan r && slCount r && (List.range (r.count / 4)).any fun k => d.wordWaits 1 (r.addr + 4 * k)

/-- A request cannot be served yet: writes wait at the link, or a word that it reads does. -/
def Dev.slMustWait (d : Dev) (r : SlReq) : Bool := d.mustWait 1 false || d.slWordWaits r

/-- A request takes its place: requests are served in order of arrival, 32 of them may wait, and a 33rd is answered with `BUSY` (R501). -/
def Dev.slArrive (d : Dev) (r : SlReq) (soon : Bool) : Dev :=
  if d.slWaiting = 0 && !d.slMustWait r then d.slServe r soon
  else if 32 ≤ d.slWaiting then d.slAnswer r (0x80 + r.type) 3 0 []
  else d.slQueue r false

/-- `SL_READ` (R500). -/
def execSlRead (bytes : List Nat) (s : State) := onDev (fun d => d.slReceive 0x01 bytes fun r d => d.slArrive r false) s
/-- `SL_WRITE` (R500). -/
def execSlWrite (bytes : List Nat) (soon : Bool) (s : State) := onDev (fun d => d.slReceive 0x02 bytes fun r d => d.slArrive r soon) s
/-- `SL_LDG` (R500). -/
def execSlLdg (bytes : List Nat) (s : State) := onDev (fun d => d.slReceive 0x03 bytes fun r d => d.slArrive r false) s
/-- `SL_PING` (R500). -/
def execSlPing (bytes : List Nat) (s : State) := onDev (fun d => d.slReceive 0x04 bytes fun r d => d.slArrive r false) s

/-! ## The side port (R99–R101) -/

/-- The pages the side port reads: `GEN`, `FLT`, `THM`, `PWR` and `WDT`. -/
def sidePages : List Nat := [0x000, 0x004, 0x00C, 0x009, 0x00D]

/-- The status byte: alive, the previous transaction was refused, the level of `INT_N` (low while a pulse is in progress). -/
def Dev.sideStatus (d : Dev) : Nat := 1 + 2 * b2n d.spRefused + 4 * b2n (d.intN == 0)

/-- A transaction is refused. -/
def sideRefused (opcode addr : Nat) : Bool := opcode != 0x0B || addr % 4 != 0 || !(addr / 0x1000 ∈ sidePages)

/-- A transaction of `n` words. Its latches are channel 5's own. -/
def Dev.sideRead (d : Dev) (opcode addr n : Nat) : Dev :=
  let st := d.sideStatus
  if sideRefused opcode addr then { d with spRefused := true }.emit .spi 0 (st :: List.replicate n 0)
  else
    let r := (List.range n).foldl (fun (a : List Nat × Dev) k =>
      let (v, d) := a.2.readWord 5 false (addr / 0x1000) ((addr + 4 * k) % 0x1000)
      (a.1 ++ [v], d)) ([], d)
    { r.2 with spRefused := false }.emit .spi 0 (st :: r.1)

/-- `SIDE_PORT_READ` (R99, R100). -/
def execSidePortRead (opcode addr n : Nat) (s : State) :=
  onDev (fun d => if opcode < 256 ∧ addr < 2 ^ 24 then d.sideRead opcode addr n else d) s

end Sys2Proof.Machine
end

