-- ==== Sys2Proof/Machine/Link.lean ====
section
/-!
DEFINITION. Machine/Link.lean: what waits at a channel's link: writes behind a full queue of privileged writes (R84), reads of words that are
not yet valid (R79, R124), and requests of the service link (R501); BAR2's accesses among them, and the events that end a wait.
-/
namespace Sys2Proof.Machine

/-- A write that waited reaches its page, or waits again (R84). -/
def Dev.retryWrite (d : Dev) (w : LinkWrite) : Dev :=
  if w.kind = 0 then d.busWrite w.ch w.addr w.val
  else if d.mustWait w.ch false then { d with ldg := { d.ldg with privWait := d.ldg.privWait ++ [w] } }
  else if w.kind = 1 then d.bar2Write w.addr w.bytes w.errs
  else d.badAccess

/-- Every write that waits tries once more, in order of arrival. -/
def Dev.retryWrites (d : Dev) : Dev :=
  d.ldg.privWait.foldl Dev.retryWrite { d with ldg := { d.ldg with privWait := [] } }

/-- A request of the service link that waited: behind earlier ones it waits on; its answer goes out once its words have been written; one
answered meanwhile under the same header gets the stored answer (R501). -/
def Dev.retryRequest (d : Dev) (w : LinkRead) : Dev :=
  let r : SlReq := ⟨w.packet.take 16, w.packet.drop 16⟩
  if d.slWaiting != 0 || d.slMustWait r then { d with readWait := d.readWait ++ [w] }
  else if w.done then d.slAnswer r 0x82 0 0 []
  else match d.pd.answers.find? fun a => a.request == r.header with
    | some a => d.slSend a.header a.payload
    | none => d.slServe r false

/-- A read that waited is answered, or waits on. -/
def Dev.retryRead (d : Dev) (w : LinkRead) : Dev :=
  if !w.packet.isEmpty then d.retryRequest w
  else if w.bar2 then
    if d.mustWait 0 false then { d with readWait := d.readWait ++ [w] } else d.bar2Read w.addr w.size w.errs
  else if d.readWaits w.ch w.addr w.size then { d with readWait := d.readWait ++ [w] }
  else d.answerRead w.ch w.addr w.size

/-- Every read and request that waits tries once more, in order of arrival. -/
def Dev.retryReads (d : Dev) : Dev := d.readWait.foldl Dev.retryRead { d with readWait := [] }

/-- Whatever waits at the links tries once more. -/
def Dev.retryLinks (d : Dev) : Dev := d.retryWrites.retryReads

/-- `PRIV_WRITE_ENTER_QUEUE` (R84). -/
def execPrivWriteEnterQueue (s : State) := onDev (fun d => d.retryLinks) s

/-- `TICKET_WAIT_TAKE` (R118): the reads of `PAGE_CMD_STATUS` that waited for the judgement are answered (R79). -/
def execTicketWaitTake (s : State) := onDev (fun d => d.takeHeld.retryReads) s

/-- `TICKET_LOOKUP_DONE` (R124): the reads that waited for the lookup are answered. -/
def execTicketLookupDone (ch : Nat) (s : State) := onDev (fun d => (d.lookupDone ch).retryReads) s

/-- `BAR2_READ` (R81): it passes no write that waits at the host link. -/
def execBar2Read (offset n : Nat) (errs : List MemErr) (s : State) :=
  onDev (fun d =>
    if d.hostDecodes && d.mustWait 0 false then { d with readWait := d.readWait ++ [⟨true, false, 0, offset, n, [], errs⟩] }
    else d.bar2Read offset n errs) s

/-- `BAR2_WRITE` (R81, R84): a posted write like any other. -/
def execBar2Write (offset : Nat) (bytes : List (Nat × Nat)) (errs : List MemErr) (s : State) :=
  onDev (fun d =>
    if d.hostDecodes && d.mustWait 0 false then
      { d with ldg := { d.ldg with privWait := d.ldg.privWait ++ [⟨1, offset, 0, 0, bytes, errs⟩] } }
    else d.bar2Write offset bytes errs) s

end Sys2Proof.Machine
end

