-- ==== Sys2Proof/Machine/Upstream.lean ====
section
/-!
DEFINITION. Machine/Upstream.lean: upstream frames: alignment and placement (R134, R142, R163), the header (R165, R170, R175), the
sieve (R185), the control tap (R50, R197, R211, R213), the delivery to the data plane (R183, R247), the flight recorder (R331).
-/
namespace Sys2Proof.Machine

/-! ## Slots -/

/-- Payload bits p to p + w − 1 of a frame whose 1,000,000 payload bits are given as one number, payload bit 0 its most significant
(R161). -/
def payField (payload p w : Nat) : Nat := bits payload (1_000_000 - p - w) w

/-- Bits o to o + n − 1 of a slot of w bits (R178–R180: offsets count from the slot's first bit). -/
def inSlot (slot w o n : Nat) : Nat := bits slot (w - o - n) n

/-- An upstream frame as the sieve takes it: its number, its payload, the uncorrectable codewords, its header's good or failed
check, whether its node slots follow the map in force, and whether it is missing altogether. -/
structure UpFrame where
  num : Nat
  payload : Nat
  bad : List Nat
  hdrOk : Bool
  mapOk : Bool
  missing : Bool
  deriving DecidableEq, Repr

/-- Its header. -/
def UpFrame.hdr (u : UpFrame) : Nat := payField u.payload 0 160

/-- The string-head frame that it describes (R176). -/
def UpFrame.head (u : UpFrame) : Nat := u.num - 1

/-- A slot's content; none where it is a gap by R185's first two rules. -/
def UpFrame.slot (u : UpFrame) (p w : Nat) : Option Nat :=
  if u.missing || u.bad.any (fun c => decide (p / 1250 ≤ c ∧ c ≤ (p + w - 1) / 1250)) then none else some (payField u.payload p w)

/-- The slot of endpoint e of node m, of w bits; none where it is a gap. -/
def Dev.epSlot (d : Dev) (l : Nat) (u : UpFrame) (m e w : Nat) : Option Nat :=
  match d.node l m with
  | some n => if u.mapOk then u.slot ((d.frm l).upBase.get m 0 + epUpOff n e) w else none
  | none => none

/-- What the sieve makes of a V or I slot: its samples (none for an invalid or discarded one), which of them are overranged and by
which sign, the discarded ones' number, how many samples of the next frame its adj marks reach, and whether it is a gap. -/
structure Sieved where
  samples : List (Option Int)
  ovrs : List Bool
  signs : List Bool
  discards : Nat
  carry : Nat
  gap : Bool
  deriving DecidableEq, Repr

/-- A slot that is a gap. -/
def sievedGap (n : Nat) : Sieved :=
  { samples := List.replicate n none, ovrs := List.replicate n false, signs := List.replicate n false, discards := 0, carry := 0,
    gap := true }

/-- The sample rules of R185 on n samples of sw bits: an overrange by mark or by code, then a discard. -/
def sieveSamples (sw : Nat) (codes : List Nat) (ovr disc : Nat → Bool) (carry : Nat) : Sieved :=
  let ovrs := codes.zipIdx.map fun (x : Nat × Nat) => ovr x.2 || x.1 == 2 ^ (sw - 1) - 1 || x.1 == 2 ^ (sw - 1)
  let sample (x : Nat × Nat) : Option Int :=
    if ovrs.getD x.2 false || disc x.2 then none else some (toSigned sw x.1)
  { samples := codes.zipIdx.map sample
    ovrs := ovrs
    signs := codes.map fun c => !bit c (sw - 1)
    discards := (codes.zipIdx.filter fun (x : Nat × Nat) => !ovrs.getD x.2 false && disc x.2).length
    carry := carry
    gap := false }

/-- A V slot (R178, R185): adj on sample k discards samples k to k + 2; `left` samples are discarded for the frame before. -/
def sieveV (slot : Option Nat) (left : Nat) : Sieved :=
  match slot with
  | none => sievedGap 5
  | some s =>
    let f := inSlot s 96
    if f 90 1 = 0 ∨ f 91 1 = 1 then sievedGap 5
    else
      let adj (k : Nat) : Bool := f (85 + k) 1 == 1
      sieveSamples 16 ((List.range 5).map fun k => f (16 * k) 16) (fun k => f (80 + k) 1 == 1)
        (fun k => decide (k < left) || adj k || (decide (1 ≤ k) && adj (k - 1)) || (decide (2 ≤ k) && adj (k - 2)))
        (if adj 4 then 2 else if adj 3 then 1 else 0)

/-- An I slot (R179, R185): adj discards all 20 samples and two of the next frame. -/
def sieveI (slot : Option Nat) (left : Nat) : Sieved :=
  match slot with
  | none => sievedGap 20
  | some s =>
    let f := inSlot s 384
    if f 381 1 = 0 ∨ f 382 1 = 1 then sievedGap 20
    else
      let adj := f 380 1 == 1
      sieveSamples 18 ((List.range 20).map fun k => f (18 * k) 18) (fun k => f (360 + k) 1 == 1) (fun k => adj || decide (k < left))
        (if adj then 2 else 0)

/-- Where the carried discards of the string-current slot are kept among those of endpoints. -/
def curKey : Nat := 320 * 32

/-- The V slot of a cell. -/
def Dev.vSlot (d : Dev) (l : Nat) (u : UpFrame) (m c : Nat) : Sieved :=
  match (d.node l m).bind fun n => boundEp n 1 c with
  | some e => sieveV (d.epSlot l u m e 96) ((d.frm l).adjNext.get (m * 32 + e) 0)
  | none => sievedGap 5

/-- The string-current slot (R13). -/
def Dev.curSlot (d : Dev) (l : Nat) (u : UpFrame) : Sieved := sieveI (u.slot 1_184 384) ((d.frm l).adjNext.get curKey 0)

/-- The echo of a cell; none where its slot is a gap. -/
def Dev.echoSlot (d : Dev) (l : Nat) (u : UpFrame) (m c : Nat) : Option Nat :=
  match (d.node l m).bind fun n => boundEp n 4 c with
  | some e => d.epSlot l u m e 8
  | none => none

/-- The endpoints of a class on a lane: (node, endpoint). -/
def Dev.laneEps (d : Dev) (l k : Nat) : List (Nat × Nat) :=
  (d.frm l).nodes.flatMap fun (n : Nat × Node) => ((nodeEps n.2).filter fun e => e.2.1 == k).map fun e => (n.1, e.1)

/-! ## Switch states from echoes (R182, R183, R247) -/

/-- The S commands that the string head may have applied in the frame described: those transmitted for it, or for the one before where
it was repeated; none where the head does not obey this device (R51, R165). -/
def Dev.applied (d : Dev) (l : Nat) (u : UpFrame) : Option (SMap Nat) :=
  if u.hdrOk && hdrField u.hdr 53 53 == 0 then none
  else
    let n := if u.hdrOk && hdrField u.hdr 70 70 == 1 then u.head - 1 else u.head
    ((d.str l).edge.find? fun p => p.1 == n).map (·.2)

/-- The echo shows that a command was applied (R51, R182): a `STEP` ends the frame in its state, a `PULSE` begins it there and ends it in
`BYPASS`. -/
def echoShows (cmd start stop : Nat) : Bool :=
  if cmd % 4 = 1 then start == cmd / 2 ^ 14 && stop == 0 else stop == cmd / 2 ^ 14

/-- The state just after the boundary is the one that a command gives there (R182): a `PULSE` begins in its state, or in `BYPASS` at
offset 0; a `STEP` fixes it at offset 0 only. A command that does not begin so was not applied (R51). -/
def echoBegins (cmd start : Nat) : Bool :=
  if bits cmd 4 10 = 0 then start == (if cmd % 4 = 1 then 0 else cmd / 2 ^ 14)
  else cmd % 4 != 1 || start == cmd / 2 ^ 14

/-- A cell's switch states in a frame, as tick and state; none where R183 does not fix them. A change at a commanded offset needs the
header's repeated bit and a command that the echo shows applied, an entry into posture the header's posture_at; a switch that already
stands in the posture makes no transition there. -/
def echoStates (hdrOk : Bool) (hdr echo : Nat) (cmd : Option Nat) : Option (List (Nat × Nat)) :=
  let start := bits echo 6 2
  let stop := bits echo 4 2
  if bit echo 2 then
    let at_ := hdrField hdr 60 69
    let ps := if hdrField hdr 54 55 = 2 then 3 else 0
    if !hdrOk then none
    else if at_ = 0 then some [(0, ps)]
    else match cmd with
      | none => none
      | some w =>
        let o := bits w 4 10
        let goal := if w % 4 = 1 then 0 else w / 2 ^ 14
        let moves := decide (o < at_ ∧ o ≠ 0 ∧ goal ≠ start)
        let last := if moves then goal else start
        if !echoBegins w start then none
        else some ((0, start) :: (if moves then [(o, goal)] else []) ++ (if last = ps then [] else [(at_, ps)]))
  else if start = stop then some [(0, start)]
  else match cmd with
    | some w => if hdrOk && echoShows w start stop then some [(0, start), (bits w 4 10, stop)] else none
    | none => none

/-- The node reports that the switch did not follow its command: the frame is a gap for that cell (R185). -/
def echoFault (e : Option Nat) : Bool :=
  match e with
  | some b => bit b 0 && bit b 1
  | none => false

/-- An I endpoint that carries the cell's index reports an overrange, which marks the cell's frame (R12, R185). -/
def Dev.branchOvr (d : Dev) (l : Nat) (u : UpFrame) (m c : Nat) : Bool :=
  match d.node l m with
  | some n => (nodeEps n).any fun e => e.2.1 == 2 && e.2.2 == c &&
      (sieveI (d.epSlot l u m e.1 384) ((d.frm l).adjNext.get (m * 32 + e.1) 0)).ovrs.any id
  | none => false

/-- A cell of the frame as the data plane takes it (R183, R185): a fault in its echo makes the frame a gap for it, and its samples still
mark it overrange. A transition at the boundary is taken where the echo of the frame
before is not known or ended in another state. -/
def Dev.cellIn (d : Dev) (l : Nat) (u : UpFrame) (cmds : Option (SMap Nat)) (mc : Nat × Nat) : CellIn :=
  let idx := mc.1 * 16 + mc.2
  let v := d.vSlot l u mc.1 mc.2
  let fault := echoFault (d.echoSlot l u mc.1 mc.2)
  let x := d.cell l idx
  let states := match d.echoSlot l u mc.1 mc.2 with
    | none => none
    | some b => if bit b 0 && !bit b 1 then echoStates u.hdrOk u.hdr b (cmds.map fun (p : SMap Nat) => p.get idx 0) else none
  let first := match states with
    | some ((_, st) :: _) => st
    | _ => 0
  { idx := idx
    v := if fault then (sievedGap 5).samples else v.samples
    ovr := v.ovrs.any id || d.branchOvr l u mc.1 mc.2
    known := states.isSome
    states := states.getD []
    boundary := x.echoNext != u.head || bits x.echo 4 2 != first }

/-- A lane's frame as the data plane takes it (R247); an overranged current sample stands at full scale of its sign. Commands are free
of stirring when none is a `STEP` at an offset (R252). -/
def Dev.frameIn (d : Dev) (l : Nat) (u : UpFrame) : FrameIn :=
  let i := d.curSlot l u
  let cmds := d.applied l u
  { lane := l
    frame := u.head
    cur := i.samples.zipIdx.map fun (x : Option Int × Nat) =>
      if i.ovrs.getD x.2 false then some (if i.signs.getD x.2 false then (iFull : Int) else -(iFull : Int)) else x.1
    curOvr := i.ovrs
    cells := (d.laneCells l).map (d.cellIn l u cmds)
    stirFree := (cmds.getD []).all fun (c : Nat × Nat) => !(c.2 % 4 == 0 && bits c.2 4 10 != 0)
    run := d.laneState l == 4 }

/-! ## The control tap (R50, R197) -/

/-- The string current of the frame in use (R177, R207, R212): a gap leaves the last valid one; an overrange exceeds every limit in
the direction of its sign (R185). -/
def Dev.tapCurrent (d : Dev) (l : Nat) (i : Sieved) : Dev :=
  if i.gap then d
  else
    let vs := i.samples.filterMap id
    let ovrs (sign : Bool) : Bool := (i.ovrs.zip i.signs).any fun (x : Bool × Bool) => x.1 && x.2 == sign
    let hi := ovrs true
    let lo := ovrs false
    if vs.isEmpty && !hi && !lo then d
    else
      let d := d.strUpd l fun x =>
        { x with cur := if vs.isEmpty then x.cur else vs, curOvrHi := hi, curOvrLo := lo, curHas := true, curAge := 0 }
      let peak := if hi || lo then 2 ^ 64 else (d.stringMean l).natAbs
      d.strUpd l fun x => { x with peak := max x.peak peak }

/-- What the control tap carries of a V slot: sample 0 and the status bits 80–95; the control plane judges them by R185 (R197). The
answer: is it a gap, is the cell's frame marked overrange, and the sample where it is valid. -/
def tapOf (slot : Option Nat) (left : Nat) : Bool × Bool × Option Int :=
  match slot with
  | none => (true, false, none)
  | some s =>
    let f := inSlot s 96
    if f 90 1 = 0 ∨ f 91 1 = 1 then (true, false, none)
    else
      let code := f 0 16
      let clips := code == 0x7FFF || code == 0x8000
      let bad := clips || f 80 1 == 1 || f 85 1 == 1 || decide (0 < left)
      (false, clips || f 80 5 != 0, if bad then none else some (toSigned 16 code))

/-- A cell's part of the tap. -/
def Cell.tapV (v : Bool × Bool × Option Int) (x : Cell) : Cell :=
  if v.1 then x
  else
    let x := { x with ovr := v.2.1 }
    match v.2.2 with
    | some s => { x with v := s, vHas := true, vAge := 0 }
    | none => x

/-- The V slot of a cell as the tap carries it. -/
def Dev.tapSlot (d : Dev) (l : Nat) (u : UpFrame) (m c : Nat) : Bool × Bool × Option Int :=
  match (d.node l m).bind fun n => boundEp n 1 c with
  | some e => tapOf (d.epSlot l u m e 96) ((d.frm l).adjNext.get (m * 32 + e) 0)
  | none => (true, false, none)

/-- A cell's echo (R40, R185, R213). `n` is the frame after the one it describes. -/
def Cell.tapEcho (e : Option Nat) (n : Nat) (x : Cell) : Cell :=
  let shift (f : Nat) : Nat := (x.faultBits * 2 + f) % 2 ^ 16
  match e with
  | none => { x with faultBits := shift 0 }
  | some b =>
    if bit b 0 then { x with echoSeen := true, echo := b, echoNext := n, faultBits := shift (bits b 1 1) }
    else { x with echoSeen := false, faultBits := shift 0 }

/-- Faults among the last 16 echoes. -/
def Cell.faults (x : Cell) : Nat := (bitList 16 x.faultBits).sum

/-- One cell's part of the tap; the eighth fault in 16 frames fails it (R213). -/
def Dev.tapCell (d : Dev) (l : Nat) (u : UpFrame) (mc : Nat × Nat) : Dev :=
  let idx := mc.1 * 16 + mc.2
  let e := d.echoSlot l u mc.1 mc.2
  let t := d.tapSlot l u mc.1 mc.2
  let v := if echoFault e then (t.1, t.2.1, none) else t
  let d := d.cellUpd l idx fun x => (x.tapV v).tapEcho e u.num
  let x := d.cell l idx
  if !x.failed && decide (8 ≤ x.faults) then
    (d.cellUpd l idx fun x => { x with failed := true }).raise F_CELL_FAILED 0x017 l
  else d

/-- The T slots (R180, R185): 0x8000 is no reading. -/
def Dev.tapTemps (d : Dev) (l : Nat) (u : UpFrame) : Dev :=
  let take (t : SMap Temp) (p : Nat × Nat) : SMap Temp :=
    match d.epSlot l u p.1 p.2 16 with
    | some r => if r = 0x8000 then t else t.put (epKey l p.1 p.2) ⟨toSigned 16 r, 0⟩
    | none => t
  { d with sch := { d.sch with temps := (d.laneEps l 3).foldl take d.sch.temps } }

/-- The readings of a node's temperature sources other than one, as far as they are fresh (R211). -/
def Dev.otherTemps (d : Dev) (l m e : Nat) : List Int :=
  ((d.laneEps l 3).filter fun p => p.1 == m && p.2 != e).filterMap fun p =>
    let k := epKey l p.1 p.2
    if d.sch.temps.has k && decide ((d.sch.temps.get k ⟨0, 0⟩).age ≤ d.get SCH_AGE_CFG_t_age_max * 50) then
      some (d.sch.temps.get k ⟨0, 0⟩).val else none

/-- The T endpoint of a cell within its node. -/
def Dev.cellT (d : Dev) (l idx : Nat) : Option Nat := (d.node l (idx / 16)).bind fun n => tempEp n (idx % 16)

/-- T_eff of a cell (R211). The rounding of a median between two codes is open (assumption 4): `r` is 0 or 1. -/
def Dev.judgeTemp (d : Dev) (l idx : Nat) (r : Int) : Dev :=
  match d.cellT l idx with
  | none => d
  | some e =>
    let k := epKey l (idx / 16) e
    if !d.sch.temps.has k then d
    else
      let t := (d.sch.temps.get k ⟨0, 0⟩).val
      let others := d.otherTemps l (idx / 16) e
      let tol : Int := d.clsN l idx 0x10 0
      let m2 := median2 others
      let enough := decide (2 ≤ others.length)
      d.cellUpd l idx fun x =>
        let broken := x.tSubst || (enough && !withinTol tol m2 t && others.all (withinTol tol m2))
        if broken then { x with tSubst := true, tEff := if enough then (m2 + r) / 2 else x.tEff } else { x with tEff := t }

/-- `BROKEN_T_RESTORE` (R211): a substituted reading that agrees with its neighbours' median again, for 10 s. -/
def execBrokenTRestore (lane idx : Nat) (s : State) :=
  onDev (fun d =>
    match d.cellT lane idx with
    | none => d
    | some e =>
      let t := (d.sch.temps.get (epKey lane (idx / 16) e) ⟨0, 0⟩).val
      let others := d.otherTemps lane (idx / 16) e
      if (d.cell lane idx).tSubst && decide (2 ≤ others.length) && withinTol (d.clsN lane idx 0x10 0) (median2 others) t then
        d.cellUpd lane idx fun x => { x with tSubst := false, tEff := t }
      else d) s

/-! ## The sieve of a whole frame -/

/-- A saturating count of the `FRM` page with its sticky flag (R195). -/
def Dev.frmCount (d : Dev) (l : Nat) (f : Field) (flag by_ : Nat) : Dev :=
  let n := d.get f l + by_
  if n < 2 ^ 32 then d.put f n l
  else (d.put f (2 ^ 32 - 1) l).put FRM_L_SAT_flags (setBit (d.get FRM_L_SAT_flags l) flag) l

/-- Every sieved slot of a frame, with where its carried discards are kept. -/
def Dev.allSieved (d : Dev) (l : Nat) (u : UpFrame) : List (Nat × Sieved) :=
  let left (k : Nat) : Nat := (d.frm l).adjNext.get k 0
  (curKey, d.curSlot l u) ::
    ((d.laneEps l 1).map fun p => (p.1 * 32 + p.2, sieveV (d.epSlot l u p.1 p.2 96) (left (p.1 * 32 + p.2)))) ++
    (d.laneEps l 2).map fun p => (p.1 * 32 + p.2, sieveI (d.epSlot l u p.1 p.2 384) (left (p.1 * 32 + p.2)))

/-- Mean of samples times 20, when all are valid. -/
def sampleSum (s : Sieved) : Option Int := if s.samples.all (·.isSome) then some ((s.samples.filterMap id).foldl (· + ·) 0) else none

/-- A node's branch current differs from the string current by more than the tolerance (R13). The spec names no span: the sums of one
frame's 20 samples of both slots are compared, and only when every sample of both is valid (DESIGN CHOICE, assumption 22). -/
def Dev.branchOff (d : Dev) (l : Nat) (u : UpFrame) (p : Nat × Nat) : Bool :=
  match d.node l p.1, sampleSum (d.curSlot l u),
      sampleSum (sieveI (d.epSlot l u p.1 p.2 384) ((d.frm l).adjNext.get (p.1 * 32 + p.2) 0)) with
  | some n, some a, some b =>
    decide (20 * 100_000 * d.get FRM_L_CUR_TOL_tol l < (b * (n.iLsb : Int) - a * ((d.frm l).iLsb : Int)).natAbs)
  | _, _, _ => false

/-- The auxiliary bytes (R184). -/
def Dev.takeB (d : Dev) (l : Nat) (u : UpFrame) : SMap Nat :=
  (d.laneEps l 5).foldl (fun (t : SMap Nat) (p : Nat × Nat) =>
    match d.epSlot l u p.1 p.2 8 with
    | some b => t.put (p.1 * 32 + p.2) b
    | none => t) (d.frm l).bUp

/-- Overranges and discarded samples of sieved slots are counted (R185, R195). -/
def Dev.sieveCount (d : Dev) (l : Nat) (slots : List Sieved) : Dev :=
  let overs := (slots.map fun s => (s.ovrs.filter id).length).sum
  let discs := (slots.map fun s => s.discards).sum
  let d := if overs = 0 then d else d.frmCount l FRM_L_OVR_count 1 overs
  if discs = 0 then d else d.frmCount l FRM_L_ADJ_count 2 discs

/-- In ENUM no map is in force and a frame has the string-current slot only (R13, R185). -/
def Dev.sieveCurrent (d : Dev) (l : Nat) (u : UpFrame) : Dev :=
  let s := d.curSlot l u
  let d := (d.tapCurrent l s).sieveCount l [s]
  d.putFrm l { d.frm l with adjNext := if s.carry = 0 then [] else [(curKey, s.carry)] }

/-- A frame passes the sieve and is delivered to the control tap and to the data plane (R50, R185). -/
def Dev.sieve (d : Dev) (l : Nat) (u : UpFrame) : Dev :=
  let slots := d.allSieved l u
  let fr := d.frameIn l u
  let off := (d.laneEps l 2).any (d.branchOff l u)
  let bUp := d.takeB l u
  let cells := d.laneCells l
  let d0 := d
  let d := d.tapCurrent l (d0.curSlot l u)
  let d := each cells (fun mc (d : Dev) => d.tapCell l u mc) d
  let d := d.tapTemps l u
  let (r, d) := d.free
  let d := each cells (fun mc (d : Dev) => d.judgeTemp l (mc.1 * 16 + mc.2) ((r % 2 : Nat) : Int)) d
  let carry : SMap Nat := slots.foldl (fun (t : SMap Nat) (s : Nat × Sieved) => if s.2.carry = 0 then t else t.put s.1 s.2.carry) []
  let d := d.putFrm l { d.frm l with bUp := bUp, adjNext := carry }
  let d := d.sieveCount l (slots.map (·.2))
  let d := if off then d.raise F_BRANCH_CURRENT 0x014 l else d
  ((d.mtrFrame fr).estFrame fr).impFrame fr

/-! ## Placement (R134, R163) -/

/-- The 48-bit number nearest to f with these low 32 bits. -/
def near48 (lo f : Nat) : Nat :=
  let b := f / 2 ^ 32 * 2 ^ 32 + lo
  if f + 2 ^ 31 < b ∧ 2 ^ 32 ≤ b then b - 2 ^ 32 else if b + 2 ^ 31 < f then b + 2 ^ 32 else b

/-- The recorder's record of a frame (R331). -/
def Dev.flrBytes (d : Dev) (l : Nat) (u : UpFrame) (corr : Nat) (k : Nat) : Nat :=
  if k < 64 then (d.flrHead l u.num u.missing u.hdrOk u.bad.length corr).getD k 0
  else if k < 125_064 then (if u.missing then 0 else payField u.payload (8 * (k - 64)) 8)
  else if k < 125_164 then u.bad.foldl (fun (a : Nat) c => if c / 8 = k - 125_064 then setBit a (c % 8) else a) 0
  else 0

/-- A lane's frame is sieved by its state: in RUN and SAFE every slot of the map in force, in ENUM the string-current slot. -/
def Dev.sieveIn (d : Dev) (l : Nat) (u : UpFrame) : Dev :=
  if d.laneState l = 4 ∨ d.laneState l = 5 then d.sieve l u else if d.laneState l = 3 then d.sieveCurrent l u else d

/-- The number that the next frame is expected to carry, in 32 bits: one more than the last; before one is known, that of the device's
frame that has just ended, since an upstream frame is complete within the next one (R144, R176). -/
def Dev.expected (d : Dev) (l : Nat) : Nat :=
  if (d.frm l).placed then (d.frm l).expect else (d.frame + 2 ^ 32 - 1) % 2 ^ 32

/-- A frame that does not arrive (R134, R185): counted, recorded, every slot a gap. -/
def Dev.frameMissing (d : Dev) (l num : Nat) (full : Bool) : Dev :=
  let u : UpFrame := { num := num, payload := 0, bad := [], hdrOk := false, mapOk := false, missing := true }
  let d := (d.frmCount l FRM_L_MISSING_count 0 1).laneCount l LNK_SLIPS_count 4 1
  let d := d.flrRecord l num full (d.flrBytes l u 0)
  d.sieveIn l u

/-- Frames num, num + 1, … that were skipped. -/
def Dev.framesMissing (d : Dev) (l num : Nat) (full : Bool) : Nat → Dev
  | 0 => d
  | k + 1 => (d.frameMissing l num full).framesMissing l (num + 1) full k

/-! ## The header in use (R165, R170, R175, R195) -/

/-- A device epoch above an emax that is at or later than its own waits for the boundary (R170). -/
def Dev.epochJudge (d : Dev) (l hdr : Nat) : Dev :=
  let emax := hdrField hdr 36 51
  let own := d.get FRM_EPOCH_epoch
  if d.laneState l == 3 && !d.standby && !d.flag TWN_CFG_en && hdrField hdr 52 52 == 1 && (emax == own || laterEpoch emax own) then
    let next := (emax + 1) % 2 ^ 16
    if d.epochPend = 0 || laterEpoch next (d.epochPend - 1) then { d with epochPend := next + 1 } else d
  else d

/-- The fields of `FRM_L_HEAD` (R195). -/
def Dev.headPut (d : Dev) (l hdr : Nat) : Dev :=
  let f := hdrField hdr
  let d := (((d.put FRM_L_HEAD_emax (f 36 51) l).put FRM_L_HEAD_emax_valid (f 52 52) l).put FRM_L_HEAD_obeyed (f 53 53) l).put
    FRM_L_HEAD_posture_state (f 54 55) l
  let d := ((d.put FRM_L_HEAD_posture_cause (f 56 58) l).put FRM_L_HEAD_repeated (f 70 70) l).put FRM_L_HEAD_bad_count (f 71 74) l
  ((d.put FRM_L_HEAD_wake (f 75 75) l).put FRM_L_HEAD_oc (f 76 76) l).put FRM_L_HEAD_chain_changed (f 77 77) l

/-- A good header comes into use: its register, the posture and chain bits with their events, the epoch, a rival, the wake cause and
the recorder's trigger (R165, R170, R175, R195, R300, R332, R386). -/
def Dev.headerUse (d : Dev) (l hdr : Nat) : Dev :=
  let chainWas := d.flag FRM_L_HEAD_chain_changed l
  let postureWas := d.wbit FRM_POSTURE_posture l
  let d := d.headPut l hdr
  let posture := hdrField hdr 54 55 != 0
  let d := d.putWbit FRM_POSTURE_posture l posture
  let d := if posture && !postureWas then d.pageIrq 0x014 1 else d
  let d := if !chainWas && hdrField hdr 77 77 == 1 then (d.putWbit FRM_CHAIN_changed l true).pageIrq 0x014 0 else d
  let d := (d.epochJudge l hdr).splitJudge l
  let d := if d.laneState l == 4 && hdrField hdr 75 75 == 1 then d.wakeCause else d
  if posture && d.flag FLR_TRIG_CFG_posture_en && (d.flrIndex l).isSome then d.flrTrigger 5 0 else d

/-- The string of a lane in RUN has entered a posture that no frame commanded (R104). -/
def Dev.postureFault (d : Dev) (l hdr : Nat) : Dev :=
  if d.laneState l == 4 && hdrField hdr 59 59 == 1 && hdrField hdr 56 58 != 1 then d.raise F_LANE_POSTURE (lanePageOf l) l else d

/-- A frame of an aligned lane in ENUM, RUN or SAFE takes its place (R134, R163, R185): a good header gives its number, a failed one
leaves the expected number; a repeated number is discarded, skipped numbers are missing frames. -/
def Dev.framePlaced (d : Dev) (l payload : Nat) (bad : List Nat) (ok : Bool) (corr : Nat) (full : Bool) : Dev :=
  let x := d.frm l
  let hdr := payField payload 0 160
  let lo := if ok then hdrField hdr 4 35 else d.expected l
  let gone := (lo + 2 ^ 32 - x.expect) % 2 ^ 32
  if x.placed && gone == 2 ^ 32 - 1 then d.laneCount l LNK_SLIPS_count 4 1
  else
    let num := near48 lo d.frame
    let d := if x.placed && decide (1 ≤ gone ∧ gone < 2 ^ 31) then d.framesMissing l (num - gone) full gone else d
    let d := d.putFrm l { d.frm l with placed := true, expect := (lo + 1) % 2 ^ 32 }
    let map := d.get FRM_L_MAP_in_force l
    let u : UpFrame :=
      { num := num, payload := payload, bad := bad, hdrOk := ok, mapOk := map != 0 && (!ok || hdrField hdr 87 102 == map),
        missing := false }
    let d := d.flrRecord l num full (d.flrBytes l u corr)
    let d := if ok then d.headerUse l hdr else d
    let d := d.sieveIn l u
    if ok then d.postureFault l hdr else d

/-- A frame of a lane in ALIGN with frame alignment: its number is followed, it is recorded, and a good header is used (R165, R195,
R330). -/
def Dev.alignFrame (d : Dev) (l payload : Nat) (bad : List Nat) (ok : Bool) (corr : Nat) (full : Bool) : Dev :=
  let hdr := payField payload 0 160
  let n := if ok then hdrField hdr 4 35 else d.expected l
  let u : UpFrame := { num := near48 n d.frame, payload := payload, bad := bad, hdrOk := ok, mapOk := false, missing := false }
  let d := d.flrRecord l u.num full (d.flrBytes l u corr)
  let d := d.putFrm l { d.frm l with placed := true, expect := (n + 1) % 2 ^ 32 }
  if ok then d.headerUse l hdr else d

/-- A frame arrives on a string lane with codeword lock (R142, R151, R152, R185): `payload` its payload bits as decoded, `bad` its
uncorrectable codewords, `corr` its corrected symbols, `full` whether the recorder's queue is full. -/
def Dev.upstream (d : Dev) (l payload : Nat) (bad : List Nat) (corr : Nat) (full : Bool) : Dev :=
  let st := d.laneState l
  if !d.laneOn l || isTwin l || !(decide (2 ≤ st ∧ st ≤ 5)) || !d.flag LNK_STATUS_cw_lock l then d
  else
    let hdr := payField payload 0 160
    let ok := !(decide (0 ∈ bad)) && hdrGood hdr && hdrField hdr 0 3 == 10 && hdrField hdr 54 55 != 3
    if !d.flag LNK_STATUS_frame_lock l then d.alignHeader l ok (hdrField hdr 4 35) (2 ^ 32)
    else
      let d := if ok then d.putLane l { d.lane l with hdrBad := 0 } else d.headerFailed l
      if d.laneState l = 2 then (if st = 2 then d.alignFrame l payload bad ok corr full else d) else d.framePlaced l payload bad ok corr full

/-- `UPSTREAM_FRAME_RECEIVED` (R185): the event names the frame as decoded, its payload bits, uncorrectable codewords and corrected
symbols, which must be those of the last 800 codewords. -/
def execUpstreamFrameReceived (lane payload : Nat) (bad : List Nat) (corr : Nat) (flrFull : Bool) (s : State) :=
  onLane (fun d =>
    if d.rxFrame lane = some (payload, bad, corr) then (d.rxTake lane).upstream lane payload bad corr flrFull else d) s

/-- `MISSING_UPSTREAM_FRAME` (R185): the expected frame of an aligned lane in ENUM, RUN or SAFE does not arrive; that of a lane still in
ALIGN is missing from the recorder only (R330). -/
def execMissingUpstreamFrame (lane : Nat) (flrFull : Bool) (s : State) :=
  onLane (fun d =>
    let st := d.laneState lane
    if d.laneOn lane && !isTwin lane && decide (2 ≤ st ∧ st ≤ 5) && d.flag LNK_STATUS_frame_lock lane then
      let lo := d.expected lane
      let d := d.rxClear lane
      let d := if st = 2 then d.flrAbsent lane (near48 lo d.frame) flrFull else d.frameMissing lane (near48 lo d.frame) flrFull
      d.putFrm lane { d.frm lane with placed := true, expect := (lo + 1) % 2 ^ 32 }
    else d) s

end Sys2Proof.Machine
end

