-- ==== Sys2Proof/Machine/Dispatch.lean ====
section
/-!
DEFINITION. Machine/Dispatch.lean: one arm per command, each a direct call of its meaning.
-/
namespace Sys2Proof.Machine

/-- The effect of one command. -/
def exec (i : Instr) (s : State) : Host.Outcome State Fault Refusal :=
  match i with
  | .frameBoundary start => Sys2Proof.Machine.execFrameBoundary start s
  | .planAssembled lane => Sys2Proof.Machine.execPlanAssembled lane s
  | .frameDeadlineMiss lane => Sys2Proof.Machine.execFrameDeadlineMiss lane s
  | .laneFrameLaunch lane soon => Sys2Proof.Machine.execLaneFrameLaunch lane soon s
  | .healthWeightWriteComplete lane => Sys2Proof.Machine.execHealthWeightWriteComplete lane s
  | .rankRefresh lane => Sys2Proof.Machine.execRankRefresh lane s
  | .filterStep lane => Sys2Proof.Machine.execFilterStep lane s
  | .restAnchor lane idx => Sys2Proof.Machine.execRestAnchor lane idx s
  | .taperDeclaration lane idx => Sys2Proof.Machine.execTaperDeclaration lane idx s
  | .upstreamFrameReceived lane payload bad corr flrFull => Sys2Proof.Machine.execUpstreamFrameReceived lane payload bad corr flrFull s
  | .missingUpstreamFrame lane flrFull => Sys2Proof.Machine.execMissingUpstreamFrame lane flrFull s
  | .codewordReceived lane symbols => Sys2Proof.Machine.execCodewordReceived lane symbols s
  | .lossOfSignal lane => Sys2Proof.Machine.execLossOfSignal lane s
  | .lossOfSignalClear lane => Sys2Proof.Machine.execLossOfSignalClear lane s
  | .trainingBlockReceived lane word => Sys2Proof.Machine.execTrainingBlockReceived lane word s
  | .coeffTimeout lane => Sys2Proof.Machine.execCoeffTimeout lane s
  | .rxReady lane upper middle lower => Sys2Proof.Machine.execRxReady lane upper middle lower s
  | .trainingComplete lane duration => Sys2Proof.Machine.execTrainingComplete lane duration s
  | .trainingFail lane reason => Sys2Proof.Machine.execTrainingFail lane reason s
  | .squelchWaitEnd lane => Sys2Proof.Machine.execSquelchWaitEnd lane s
  | .delayMeasured lane rtt => Sys2Proof.Machine.execDelayMeasured lane rtt s
  | .laneEnable twin c => Sys2Proof.Machine.execLaneEnable twin c s
  | .autoEnable group => Sys2Proof.Machine.execAutoEnable group s
  | .laneDisable twin c => Sys2Proof.Machine.execLaneDisable twin c s
  | .laneSafe twin c => Sys2Proof.Machine.execLaneSafe twin c s
  | .laneEnumerate twin c => Sys2Proof.Machine.execLaneEnumerate twin c s
  | .laneRetrain twin c => Sys2Proof.Machine.execLaneRetrain twin c s
  | .laneLoop twin c => Sys2Proof.Machine.execLaneLoop twin c s
  | .loopExit twin c => Sys2Proof.Machine.execLoopExit twin c s
  | .laneClearCounters twin c => Sys2Proof.Machine.execLaneClearCounters twin c s
  | .d2dLinkLost die => Sys2Proof.Machine.execD2dLinkLost die s
  | .d2dRetrain die => Sys2Proof.Machine.execD2dRetrain die s
  | .d2dLinkRetrained die => Sys2Proof.Machine.execD2dLinkRetrained die s
  | .mgmtBlockReceived lane block bad => Sys2Proof.Machine.execMgmtBlockReceived lane block bad s
  | .mgmtRetransmit lane => Sys2Proof.Machine.execMgmtRetransmit lane s
  | .inventoryRetry lane => Sys2Proof.Machine.execInventoryRetry lane s
  | .laneEnterRun lane => Sys2Proof.Machine.execLaneEnterRun lane s
  | .mapRelease c => Sys2Proof.Machine.execMapRelease c s
  | .mapDefault c => Sys2Proof.Machine.execMapDefault c s
  | .bSet c => Sys2Proof.Machine.execBSet c s
  | .mbxSend c => Sys2Proof.Machine.execMbxSend c s
  | .frmInventory c => Sys2Proof.Machine.execFrmInventory c s
  | .mbxRxRelease ch => Sys2Proof.Machine.execMbxRxRelease ch s
  | .schCommit ch soon => Sys2Proof.Machine.execSchCommit ch soon s
  | .shadowTableWrite ch priv off val => Sys2Proof.Machine.execShadowTableWrite ch priv off val s
  | .activeTableWrite ch off val => Sys2Proof.Machine.execActiveTableWrite ch off val s
  | .bankMode c => Sys2Proof.Machine.execBankMode c s
  | .cellWithdraw c => Sys2Proof.Machine.execCellWithdraw c s
  | .cellReturn c => Sys2Proof.Machine.execCellReturn c s
  | .stringAssign c => Sys2Proof.Machine.execStringAssign c s
  | .gridLockGained g freq amp phase => Sys2Proof.Machine.execGridLockGained g freq amp phase s
  | .gridLockLost g => Sys2Proof.Machine.execGridLockLost g s
  | .stirDwellExpiry lane slot => Sys2Proof.Machine.execStirDwellExpiry lane slot s
  | .brokenTRestore lane idx => Sys2Proof.Machine.execBrokenTRestore lane idx s
  | .meterPeriod codes ovr => Sys2Proof.Machine.execMeterPeriod codes ovr s
  | .calHandover diff clipped => Sys2Proof.Machine.execCalHandover diff clipped s
  | .planApply c => Sys2Proof.Machine.execPlanApply c s
  | .binPlanTake lane bin => Sys2Proof.Machine.execBinPlanTake lane bin s
  | .windowClose lane bin => Sys2Proof.Machine.execWindowClose lane bin s
  | .resultDelivery lane bin => Sys2Proof.Machine.execResultDelivery lane bin s
  | .offsetRefresh lane => Sys2Proof.Machine.execOffsetRefresh lane s
  | .offsetRefreshForced lane => Sys2Proof.Machine.execOffsetRefreshForced lane s
  | .estReload ch soon => Sys2Proof.Machine.execEstReload ch soon s
  | .estImport c => Sys2Proof.Machine.execEstImport c s
  | .clearStale c => Sys2Proof.Machine.execClearStale c s
  | .resetLearned c => Sys2Proof.Machine.execResetLearned c s
  | .checkpoint c => Sys2Proof.Machine.execCheckpoint c s
  | .ckptLoad c => Sys2Proof.Machine.execCkptLoad c s
  | .memoryChannelTrained ch x => Sys2Proof.Machine.execMemoryChannelTrained ch x s
  | .memoryRead line errs => Sys2Proof.Machine.execMemoryRead line errs s
  | .memoryWrite addr bytes errs => Sys2Proof.Machine.execMemoryWrite addr bytes errs s
  | .ladleAgeFlush ch errs => Sys2Proof.Machine.execLadleAgeFlush ch errs s
  | .blameDecay ch => Sys2Proof.Machine.execBlameDecay ch s
  | .scrubVisit ch errs => Sys2Proof.Machine.execScrubVisit ch errs s
  | .selfRefreshEntry ch errs => Sys2Proof.Machine.execSelfRefreshEntry ch errs s
  | .memFence c => Sys2Proof.Machine.execMemFence c s
  | .memZero c => Sys2Proof.Machine.execMemZero c s
  | .memRemap c => Sys2Proof.Machine.execMemRemap c s
  | .memcMark c => Sys2Proof.Machine.execMemcMark c s
  | .memcUnmark c => Sys2Proof.Machine.execMemcUnmark c s
  | .memcClearCounters c => Sys2Proof.Machine.execMemcClearCounters c s
  | .flrArm c => Sys2Proof.Machine.execFlrArm c s
  | .flrTrigger c => Sys2Proof.Machine.execFlrTrigger c s
  | .flrStop c => Sys2Proof.Machine.execFlrStop c s
  | .faultRaise code loc detail => Sys2Proof.Machine.execFaultRaise code loc detail s
  | .fltAck c => Sys2Proof.Machine.execFltAck c s
  | .fltTrip c => Sys2Proof.Machine.execFltTrip c s
  | .releasePins c => Sys2Proof.Machine.execReleasePins c s
  | .ticketLookup ch priv hi => Sys2Proof.Machine.execTicketLookup ch priv hi s
  | .ticketLookupDone ch => Sys2Proof.Machine.execTicketLookupDone ch s
  | .registerWrite ch addr size val soon => Sys2Proof.Machine.execRegisterWrite ch addr size val soon s
  | .snapRead ch addr size => Sys2Proof.Machine.execSnapRead ch addr size s
  | .pageEnableWrite ch priv page en => Sys2Proof.Machine.execPageEnableWrite ch priv page en s
  | .pageHibernateWrite ch priv page hib => Sys2Proof.Machine.execPageHibernateWrite ch priv page hib s
  | .blockReset ch page soon => Sys2Proof.Machine.execBlockReset ch page soon s
  | .hifLinkReset kind => Sys2Proof.Machine.execHifLinkReset kind s
  | .pcieLinkUp width speed => Sys2Proof.Machine.execPcieLinkUp width speed s
  | .bar2Read offset n errs => Sys2Proof.Machine.execBar2Read offset n errs s
  | .bar2Write offset bytes errs => Sys2Proof.Machine.execBar2Write offset bytes errs s
  | .cusNonce c => Sys2Proof.Machine.execCusNonce c s
  | .signIn c => Sys2Proof.Machine.execSignIn c s
  | .cusOpen c => Sys2Proof.Machine.execCusOpen c s
  | .cusClose c => Sys2Proof.Machine.execCusClose c s
  | .sessionExpiry ch => Sys2Proof.Machine.execSessionExpiry ch s
  | .nonceExpiry ch => Sys2Proof.Machine.execNonceExpiry ch s
  | .lockoutExpiry ch => Sys2Proof.Machine.execLockoutExpiry ch s
  | .cusRotate c => Sys2Proof.Machine.execCusRotate c s
  | .dmaRingEnable ch priv ring value => Sys2Proof.Machine.execDmaRingEnable ch priv ring value s
  | .dmaTailWrite ch priv ring value => Sys2Proof.Machine.execDmaTailWrite ch priv ring value s
  | .descriptorFetch ring bytes => Sys2Proof.Machine.execDescriptorFetch ring bytes s
  | .descriptorComplete ring data errs => Sys2Proof.Machine.execDescriptorComplete ring data errs s
  | .dmaHostError ring => Sys2Proof.Machine.execDmaHostError ring s
  | .irqSourceEdge src => Sys2Proof.Machine.execIrqSourceEdge src s
  | .msixDelivery vector busMaster => Sys2Proof.Machine.execMsixDelivery vector busMaster s
  | .irqPendWrite ch priv word val => Sys2Proof.Machine.execIrqPendWrite ch priv word val s
  | .irqEnWrite ch priv word val => Sys2Proof.Machine.execIrqEnWrite ch priv word val s
  | .irqTargetWrite ch priv word val => Sys2Proof.Machine.execIrqTargetWrite ch priv word val s
  | .sidePortRead opcode addr n => Sys2Proof.Machine.execSidePortRead opcode addr n s
  | .certLoad c => Sys2Proof.Machine.execCertLoad c s
  | .ldgAck c => Sys2Proof.Machine.execLdgAck c s
  | .ldgSeal c => Sys2Proof.Machine.execLdgSeal c s
  | .attest c => Sys2Proof.Machine.execAttest c s
  | .certify c => Sys2Proof.Machine.execCertify c s
  | .mtrDefine c => Sys2Proof.Machine.execMtrDefine c s
  | .twinFrameReceived lane bytes => Sys2Proof.Machine.execTwinFrameReceived lane bytes s
  | .twnHandover c => Sys2Proof.Machine.execTwnHandover c s
  | .twnTake c => Sys2Proof.Machine.execTwnTake c s
  | .clockGate osc ring recd => Sys2Proof.Machine.execClockGate osc ring recd s
  | .timeSrcWrite ch val => Sys2Proof.Machine.execTimeSrcWrite ch val s
  | .adopt c => Sys2Proof.Machine.execAdopt c s
  | .rearm c => Sys2Proof.Machine.execRearm c s
  | .rearmRestart pre => Sys2Proof.Machine.execRearmRestart pre s
  | .rtcSet c => Sys2Proof.Machine.execRtcSet c s
  | .armSwitch c => Sys2Proof.Machine.execArmSwitch c s
  | .alarmArm ch priv alarm val => Sys2Proof.Machine.execAlarmArm ch priv alarm val s
  | .alarmFire a => Sys2Proof.Machine.execAlarmFire a s
  | .trimGateEnd raw => Sys2Proof.Machine.execTrimGateEnd raw s
  | .trimCfgWrite ch val => Sys2Proof.Machine.execTrimCfgWrite ch val s
  | .vinAuxValid mv node => Sys2Proof.Machine.execVinAuxValid mv node s
  | .vbusValid mv node => Sys2Proof.Machine.execVbusValid mv node s
  | .pulseTestEnd rise peak node => Sys2Proof.Machine.execPulseTestEnd rise peak node s
  | .chgRestart c => Sys2Proof.Machine.execChgRestart c s
  | .chgStop c => Sys2Proof.Machine.execChgStop c s
  | .pulseTest c => Sys2Proof.Machine.execPulseTest c s
  | .powerWarning node => Sys2Proof.Machine.execPowerWarning node s
  | .brnStart c => Sys2Proof.Machine.execBrnStart c s
  | .brnStop c => Sys2Proof.Machine.execBrnStop c s
  | .brnSetvid c => Sys2Proof.Machine.execBrnSetvid c s
  | .shortTestEnd loop peaks rise preBias => Sys2Proof.Machine.execShortTestEnd loop peaks rise preBias s
  | .powerGoodSet loop => Sys2Proof.Machine.execPowerGoodSet loop s
  | .powerGoodClear loop => Sys2Proof.Machine.execPowerGoodClear loop s
  | .switchingCycle loop sense vin imon => Sys2Proof.Machine.execSwitchingCycle loop sense vin imon s
  | .hiccupEnd loop => Sys2Proof.Machine.execHiccupEnd loop s
  | .retryCountClear loop => Sys2Proof.Machine.execRetryCountClear loop s
  | .phaseShedEvaluation loop iTotal vOut tmon => Sys2Proof.Machine.execPhaseShedEvaluation loop iTotal vOut tmon s
  | .phaseTrimBalance loop tmon imon => Sys2Proof.Machine.execPhaseTrimBalance loop tmon imon s
  | .phaseHot phase tmon => Sys2Proof.Machine.execPhaseHot phase tmon s
  | .phaseReturn phase => Sys2Proof.Machine.execPhaseReturn phase s
  | .seqRun c => Sys2Proof.Machine.execSeqRun c s
  | .seqAbort c => Sys2Proof.Machine.execSeqAbort c s
  | .railOn c => Sys2Proof.Machine.execRailOn c s
  | .railOff c => Sys2Proof.Machine.execRailOff c s
  | .recipeHalt e => Sys2Proof.Machine.execRecipeHalt e s
  | .recipeEnable e => Sys2Proof.Machine.execRecipeEnable e s
  | .recipeDisable e => Sys2Proof.Machine.execRecipeDisable e s
  | .recipeWait e => Sys2Proof.Machine.execRecipeWait e s
  | .waitExpiry e => Sys2Proof.Machine.execWaitExpiry e s
  | .recipeWaitPg e => Sys2Proof.Machine.execRecipeWaitPg e s
  | .waitpgSatisfied e => Sys2Proof.Machine.execWaitpgSatisfied e s
  | .waitpgTimeout e => Sys2Proof.Machine.execWaitpgTimeout e s
  | .recipeCheck e => Sys2Proof.Machine.execRecipeCheck e s
  | .recipeJump e => Sys2Proof.Machine.execRecipeJump e s
  | .recipeSetvid e => Sys2Proof.Machine.execRecipeSetvid e s
  | .setvidStepResume e => Sys2Proof.Machine.execSetvidStepResume e s
  | .setvidTimeout e => Sys2Proof.Machine.execSetvidTimeout e s
  | .recipeMark e => Sys2Proof.Machine.execRecipeMark e s
  | .railGood rail => Sys2Proof.Machine.execRailGood rail s
  | .lossOfGood rail => Sys2Proof.Machine.execLossOfGood rail s
  | .shutdownDepthAdvance root => Sys2Proof.Machine.execShutdownDepthAdvance root s
  | .dependencyMaskWrite ch rail word val => Sys2Proof.Machine.execDependencyMaskWrite ch rail word val s
  | .typecAttach vbusLow => Sys2Proof.Machine.execTypecAttach vbusLow s
  | .pdMessageReceived header objs => Sys2Proof.Machine.execPdMessageReceived header objs s
  | .pdPolicyWrite ch priv host => Sys2Proof.Machine.execPdPolicyWrite ch priv host s
  | .rxFifoRelease ch priv => Sys2Proof.Machine.execRxFifoRelease ch priv s
  | .altEnWrite ch en => Sys2Proof.Machine.execAltEnWrite ch en s
  | .pdTx c => Sys2Proof.Machine.execPdTx c s
  | .pdHardReset c => Sys2Proof.Machine.execPdHardReset c s
  | .pdRole c => Sys2Proof.Machine.execPdRole c s
  | .slRead bytes => Sys2Proof.Machine.execSlRead bytes s
  | .slWrite bytes soon => Sys2Proof.Machine.execSlWrite bytes soon s
  | .slLdg bytes => Sys2Proof.Machine.execSlLdg bytes s
  | .slPing bytes => Sys2Proof.Machine.execSlPing bytes s
  | .keyInit bytes => Sys2Proof.Machine.execKeyInit bytes s
  | .thermalScan raw bad => Sys2Proof.Machine.execThermalScan raw bad s
  | .sensorRestore input => Sys2Proof.Machine.execSensorRestore input s
  | .comparatorTrip sensor => Sys2Proof.Machine.execComparatorTrip sensor s
  | .wdtKick ch priv val => Sys2Proof.Machine.execWdtKick ch priv val s
  | .wdtPeriodEnd mismatch => Sys2Proof.Machine.execWdtPeriodEnd mismatch s
  | .wdtStart c => Sys2Proof.Machine.execWdtStart c s
  | .wdtStop c => Sys2Proof.Machine.execWdtStop c s
  | .otpProgram c => Sys2Proof.Machine.execOtpProgram c s
  | .otpSeal c => Sys2Proof.Machine.execOtpSeal c s
  | .otpIncrement c => Sys2Proof.Machine.execOtpIncrement c s
  | .otpSense c => Sys2Proof.Machine.execOtpSense c s
  | .otpAttempt bitsSet => Sys2Proof.Machine.execOtpAttempt bitsSet s
  | .coldStart cause estop trng journal intact => Sys2Proof.Machine.execColdStart cause estop trng journal intact s
  | .powerUp c => Sys2Proof.Machine.execPowerUp c s
  | .powerDown c => Sys2Proof.Machine.execPowerDown c s
  | .reboot c => Sys2Proof.Machine.execReboot c s
  | .partnerTerminationSeen cc rp before => Sys2Proof.Machine.execPartnerTerminationSeen cc rp before s
  | .limitTargetExchange => Sys2Proof.Machine.execLimitTargetExchange s
  | .bothCopiesEntryWrite => Sys2Proof.Machine.execBothCopiesEntryWrite s
  | .healthBoundary => Sys2Proof.Machine.execHealthBoundary s
  | .tapDrain => Sys2Proof.Machine.execTapDrain s
  | .recordBoundary => Sys2Proof.Machine.execRecordBoundary s
  | .minuteBoundary => Sys2Proof.Machine.execMinuteBoundary s
  | .stepBoundary => Sys2Proof.Machine.execStepBoundary s
  | .epochRaise => Sys2Proof.Machine.execEpochRaise s
  | .discrepancyWindow => Sys2Proof.Machine.execDiscrepancyWindow s
  | .calStepStart => Sys2Proof.Machine.execCalStepStart s
  | .calOverlapStart => Sys2Proof.Machine.execCalOverlapStart s
  | .estCommandApply => Sys2Proof.Machine.execEstCommandApply s
  | .checkpointPeriod => Sys2Proof.Machine.execCheckpointPeriod s
  | .checkpointSnapshot => Sys2Proof.Machine.execCheckpointSnapshot s
  | .checkpointSigned => Sys2Proof.Machine.execCheckpointSigned s
  | .ckptLoadApply => Sys2Proof.Machine.execCkptLoadApply s
  | .hibProbe => Sys2Proof.Machine.execHibProbe s
  | .pageAccessWake => Sys2Proof.Machine.execPageAccessWake s
  | .estimatorReady => Sys2Proof.Machine.execEstimatorReady s
  | .mapBuild => Sys2Proof.Machine.execMapBuild s
  | .zeroDone => Sys2Proof.Machine.execZeroDone s
  | .flrFreeze => Sys2Proof.Machine.execFlrFreeze s
  | .dripAppend => Sys2Proof.Machine.execDripAppend s
  | .estopAssert => Sys2Proof.Machine.execEstopAssert s
  | .estopRelease => Sys2Proof.Machine.execEstopRelease s
  | .ticketWaitTake => Sys2Proof.Machine.execTicketWaitTake s
  | .privWriteEnterQueue => Sys2Proof.Machine.execPrivWriteEnterQueue s
  | .signInVerifyDone => Sys2Proof.Machine.execSignInVerifyDone s
  | .intNPulse => Sys2Proof.Machine.execIntNPulse s
  | .intNPulseEnd => Sys2Proof.Machine.execIntNPulseEnd s
  | .documentSigned => Sys2Proof.Machine.execDocumentSigned s
  | .ledgerAppend => Sys2Proof.Machine.execLedgerAppend s
  | .sealSigned => Sys2Proof.Machine.execSealSigned s
  | .unitDefApply => Sys2Proof.Machine.execUnitDefApply s
  | .pairingKeyVerified => Sys2Proof.Machine.execPairingKeyVerified s
  | .xsealVerified => Sys2Proof.Machine.execXsealVerified s
  | .snapshotApply => Sys2Proof.Machine.execSnapshotApply s
  | .heartbeatMiss => Sys2Proof.Machine.execHeartbeatMiss s
  | .becomeActive => Sys2Proof.Machine.execBecomeActive s
  | .demote => Sys2Proof.Machine.execDemote s
  | .orphanTakeover => Sys2Proof.Machine.execOrphanTakeover s
  | .oscEdgeLost => Sys2Proof.Machine.execOscEdgeLost s
  | .noneTimeout => Sys2Proof.Machine.execNoneTimeout s
  | .oscStop => Sys2Proof.Machine.execOscStop s
  | .d02PowerOnReset => Sys2Proof.Machine.execD02PowerOnReset s
  | .oscStart => Sys2Proof.Machine.execOscStart s
  | .setEdgeApply => Sys2Proof.Machine.execSetEdgeApply s
  | .vinAuxLost => Sys2Proof.Machine.execVinAuxLost s
  | .vbusLost => Sys2Proof.Machine.execVbusLost s
  | .prechargeShorted => Sys2Proof.Machine.execPrechargeShorted s
  | .alwaysOnRailStop => Sys2Proof.Machine.execAlwaysOnRailStop s
  | .pulseTestPeriodic => Sys2Proof.Machine.execPulseTestPeriodic s
  | .prechargeComplete => Sys2Proof.Machine.execPrechargeComplete s
  | .prechargeTimeout => Sys2Proof.Machine.execPrechargeTimeout s
  | .floatReached => Sys2Proof.Machine.execFloatReached s
  | .taperTermination => Sys2Proof.Machine.execTaperTermination s
  | .recharge => Sys2Proof.Machine.execRecharge s
  | .cellTempRecovered => Sys2Proof.Machine.execCellTempRecovered s
  | .safetyTimerExpiry => Sys2Proof.Machine.execSafetyTimerExpiry s
  | .chgTimerMismatch => Sys2Proof.Machine.execChgTimerMismatch s
  | .inputCollapse => Sys2Proof.Machine.execInputCollapse s
  | .seqTimerMismatch => Sys2Proof.Machine.execSeqTimerMismatch s
  | .typecDetach => Sys2Proof.Machine.execTypecDetach s
  | .drpToggle => Sys2Proof.Machine.execDrpToggle s
  | .errorRecoveryEnd => Sys2Proof.Machine.execErrorRecoveryEnd s
  | .goodcrcTimeout => Sys2Proof.Machine.execGoodcrcTimeout s
  | .hardResetReceived => Sys2Proof.Machine.execHardResetReceived s
  | .hardResetVbusWaitEnd => Sys2Proof.Machine.execHardResetVbusWaitEnd s
  | .ppsKeepalive => Sys2Proof.Machine.execPpsKeepalive s
  | .ppsKeepaliveTimeout => Sys2Proof.Machine.execPpsKeepaliveTimeout s
  | .waitRetryExpiry => Sys2Proof.Machine.execWaitRetryExpiry s
  | .serviceLinkUp => Sys2Proof.Machine.execServiceLinkUp s
  | .serviceLinkDown => Sys2Proof.Machine.execServiceLinkDown s
  | .slPingSend => Sys2Proof.Machine.execSlPingSend s
  | .keyReply => Sys2Proof.Machine.execKeyReply s
  | .shutdownRailStop => Sys2Proof.Machine.execShutdownRailStop s
  | .cooledSet => Sys2Proof.Machine.execCooledSet s
  | .wdtTimerMismatch => Sys2Proof.Machine.execWdtTimerMismatch s
  | .otpWorkBegin => Sys2Proof.Machine.execOtpWorkBegin s
  | .senseEnd => Sys2Proof.Machine.execSenseEnd s
  | .d04Off => Sys2Proof.Machine.execD04Off s
  | .resetNAssert => Sys2Proof.Machine.execResetNAssert s
  | .powerUpRunStart => Sys2Proof.Machine.execPowerUpRunStart s
  | .hibernateRecipeStart => Sys2Proof.Machine.execHibernateRecipeStart s
  | .wakeRecipeStart => Sys2Proof.Machine.execWakeRecipeStart s
  | .returnToD0 => Sys2Proof.Machine.execReturnToD0 s
  | .k02LockLost => Sys2Proof.Machine.execK02LockLost s
  | .d02SupplyLost => Sys2Proof.Machine.execD02SupplyLost s
  | .shortedLatchClear => Sys2Proof.Machine.execShortedLatchClear s
  | .trngHealthTestsPass => Sys2Proof.Machine.execTrngHealthTestsPass s

end Sys2Proof.Machine
end

