-- ==== Sys2Proof/WellFormed.lean ====
section
/-!
DEFINITION. WellFormed.lean: commands that a sender can send: channels, lanes, rails, rings and pages that the part has, arguments of
the width of their registers, bytes that are bytes. A malformed ARGUMENT of a command (R79) is well-formed here: the block answers it
with a refusal of its own.
-/
namespace Sys2Proof

/-- A number of w bits. -/
def okWord (w n : Nat) : Bool := decide (n < 2 ^ w)

/-- A list of bytes. -/
def okBytes (b : List Nat) : Bool := b.all (okWord 8)

/-- A channel of R121: host link, service link, two recipe engines, the device itself. -/
def okCh (ch : Nat) : Bool := decide (ch < 5)

/-- A `PAGE_CMD` write: a channel, one of at most 32 instances, 24 bits of argument. -/
def okCmd (c : Cmd) : Bool := okCh c.ch && decide (c.inst < 32) && okWord 24 c.arg

/-- A string lane or a twin lane (R157). -/
def okLane (l : Nat) : Bool := decide (l < 516)

/-- A string lane. -/
def okString (l : Nat) : Bool := decide (l < 512)

/-- A rail of the sequencer's 96 (R464). -/
def okRail (r : Nat) : Bool := decide (r < 96)

/-- An interrupt source (R94). -/
def okSource (s : Nat) : Bool := decide (s < 768)

/-- An error in one device's symbol of one codeword of a line (R309). -/
def okMemErr (e : MemErr) : Bool := decide (e.ch < 16) && okWord 16 e.xor

/-- What training can find in a DIMM (R304). -/
def okDimm (x : Dimm) : Bool := decide (x.ranks < 2 ∧ x.density < 2 ∧ x.rate < 3) && okWord 32 x.serial

/-- A tracker's reading (R203). -/
def okGrid (r : GridReading) : Bool := decide (r.input < 4) && okWord 32 r.phase

/-- What comes as a frame begins: slack sensors 0–71 (R455), grid inputs 0–3 (R203). -/
def okStart (x : FrameStart) : Bool := (x.slack.all fun r => decide (r.1 < 72)) && x.grid.all okGrid

/-- A command that a sender can send. -/
def Instr.wf (i : Instr) : Bool :=
  match i with
  | .frameBoundary start => okStart start
  | .planAssembled lane => okString lane
  | .frameDeadlineMiss lane => okString lane
  | .laneFrameLaunch lane _ => okString lane
  | .healthWeightWriteComplete lane => okString lane
  | .rankRefresh lane => okString lane
  | .filterStep lane => okString lane
  | .restAnchor lane idx => okString lane && decide (idx < 5_120)
  | .taperDeclaration lane idx => okString lane && decide (idx < 5_120)
  | .upstreamFrameReceived lane payload bad _ _ => okString lane && okWord 1_000_000 payload && (bad.all fun k => decide (k < 800))
  | .missingUpstreamFrame lane _ => okString lane
  | .codewordReceived lane symbols => okLane lane && (decide (symbols.length = 700) && symbols.all (okWord 2))
  | .lossOfSignal lane => okLane lane
  | .lossOfSignalClear lane => okLane lane
  | .trainingBlockReceived lane word => okLane lane && okWord 32 word
  | .coeffTimeout lane => okLane lane
  | .rxReady lane _ _ _ => okLane lane
  | .trainingComplete lane _ => okLane lane
  | .trainingFail lane reason => okLane lane && decide (1 ≤ reason ∧ reason ≤ 8)
  | .squelchWaitEnd lane => okLane lane
  | .delayMeasured lane _ => okLane lane
  | .laneEnable _ c => okCmd c
  | .autoEnable group => decide (group < 32)
  | .laneDisable _ c => okCmd c
  | .laneSafe _ c => okCmd c
  | .laneEnumerate _ c => okCmd c
  | .laneRetrain _ c => okCmd c
  | .laneLoop _ c => okCmd c
  | .loopExit _ c => okCmd c
  | .laneClearCounters _ c => okCmd c
  | .d2dLinkLost die => decide (die < 8)
  | .d2dRetrain die => decide (die < 8)
  | .d2dLinkRetrained die => decide (die < 8)
  | .mgmtBlockReceived lane block _ => okString lane && (decide (block.length = 128) && okBytes block)
  | .mgmtRetransmit lane => okString lane
  | .inventoryRetry lane => okString lane
  | .laneEnterRun lane => okString lane
  | .mapRelease c => okCmd c
  | .mapDefault c => okCmd c
  | .bSet c => okCmd c
  | .mbxSend c => okCmd c
  | .frmInventory c => okCmd c
  | .mbxRxRelease ch => okCh ch
  | .schCommit ch _ => okCh ch
  | .shadowTableWrite ch _ _ val => okCh ch && okWord 32 val
  | .activeTableWrite ch _ val => okCh ch && okWord 32 val
  | .bankMode c => okCmd c
  | .cellWithdraw c => okCmd c
  | .cellReturn c => okCmd c
  | .stringAssign c => okCmd c
  | .gridLockGained g _ _ _ => decide (g < 4)
  | .gridLockLost g => decide (g < 4)
  | .stirDwellExpiry lane slot => okString lane && decide (slot < 128)
  | .brokenTRestore lane idx => okString lane && decide (idx < 5_120)
  | .meterPeriod codes _ => (decide (codes.length = 40) && codes.all (okWord 24))
  | .calHandover _ _ => true
  | .planApply c => okCmd c
  | .binPlanTake lane bin => okString lane && decide (bin < 16)
  | .windowClose lane bin => okString lane && decide (bin < 16)
  | .resultDelivery lane bin => okString lane && decide (bin < 16)
  | .offsetRefresh lane => okString lane
  | .offsetRefreshForced lane => okString lane
  | .estReload ch _ => okCh ch
  | .estImport c => okCmd c
  | .clearStale c => okCmd c
  | .resetLearned c => okCmd c
  | .checkpoint c => okCmd c
  | .ckptLoad c => okCmd c
  | .memoryChannelTrained ch x => decide (ch < 16) && okDimm x
  | .memoryRead _ errs => errs.all okMemErr
  | .memoryWrite _ bytes errs => okBytes bytes && errs.all okMemErr
  | .ladleAgeFlush ch errs => decide (ch < 16) && errs.all okMemErr
  | .blameDecay ch => decide (ch < 16)
  | .scrubVisit ch errs => decide (ch < 16) && errs.all okMemErr
  | .selfRefreshEntry ch errs => decide (ch < 16) && errs.all okMemErr
  | .memFence c => okCmd c
  | .memZero c => okCmd c
  | .memRemap c => okCmd c
  | .memcMark c => okCmd c
  | .memcUnmark c => okCmd c
  | .memcClearCounters c => okCmd c
  | .flrArm c => okCmd c
  | .flrTrigger c => okCmd c
  | .flrStop c => okCmd c
  | .faultRaise _ _ _ => true
  | .fltAck c => okCmd c
  | .fltTrip c => okCmd c
  | .releasePins c => okCmd c
  | .ticketLookup ch _ _ => okCh ch
  | .ticketLookupDone ch => okCh ch
  | .registerWrite ch _ _ val _ => okCh ch && okWord 64 val
  | .snapRead ch _ _ => okCh ch
  | .pageEnableWrite ch _ page _ => okCh ch && decide (page < 96)
  | .pageHibernateWrite ch _ page _ => okCh ch && decide (page < 96)
  | .blockReset ch page _ => okCh ch && decide (page < 96)
  | .hifLinkReset _ => true
  | .pcieLinkUp _ _ => true
  | .bar2Read _ _ errs => errs.all okMemErr
  | .bar2Write _ bytes errs => (bytes.all fun b => okWord 8 b.2) && errs.all okMemErr
  | .cusNonce c => okCmd c
  | .signIn c => okCmd c
  | .cusOpen c => okCmd c
  | .cusClose c => okCmd c
  | .sessionExpiry ch => okCh ch
  | .nonceExpiry ch => okCh ch
  | .lockoutExpiry ch => okCh ch
  | .cusRotate c => okCmd c
  | .dmaRingEnable ch _ ring value => okCh ch && decide (ring < 16) && okWord 32 value
  | .dmaTailWrite ch _ ring value => okCh ch && decide (ring < 16) && okWord 32 value
  | .descriptorFetch ring bytes => decide (ring < 16) && okBytes bytes
  | .descriptorComplete ring data errs => decide (ring < 16) && okBytes data && errs.all okMemErr
  | .dmaHostError ring => decide (ring < 16)
  | .irqSourceEdge src => okSource src
  | .msixDelivery vector _ => decide (vector < 64)
  | .irqPendWrite ch _ _ val => okCh ch && okWord 32 val
  | .irqEnWrite ch _ _ val => okCh ch && okWord 32 val
  | .irqTargetWrite ch _ _ val => okCh ch && okWord 32 val
  | .sidePortRead _ _ _ => true
  | .certLoad c => okCmd c
  | .ldgAck c => okCmd c
  | .ldgSeal c => okCmd c
  | .attest c => okCmd c
  | .certify c => okCmd c
  | .mtrDefine c => okCmd c
  | .twinFrameReceived lane bytes => decide (lane < 4) && (decide (bytes.length = 125_000) && okBytes bytes)
  | .twnHandover c => okCmd c
  | .twnTake c => okCmd c
  | .clockGate osc ring _ => decide (0 < osc) && decide (0 < ring)
  | .timeSrcWrite ch val => okCh ch && okWord 32 val
  | .adopt c => okCmd c
  | .rearm c => okCmd c
  | .rearmRestart pre => decide (pre.length = 4)
  | .rtcSet c => okCmd c
  | .armSwitch c => okCmd c
  | .alarmArm ch _ alarm val => okCh ch && decide (alarm < 2) && okWord 32 val
  | .alarmFire a => decide (a < 2)
  | .trimGateEnd _ => true
  | .trimCfgWrite ch val => okCh ch && okWord 32 val
  | .vinAuxValid _ _ => true
  | .vbusValid _ _ => true
  | .pulseTestEnd _ _ _ => true
  | .chgRestart c => okCmd c
  | .chgStop c => okCmd c
  | .pulseTest c => okCmd c
  | .powerWarning _ => true
  | .brnStart c => okCmd c
  | .brnStop c => okCmd c
  | .brnSetvid c => okCmd c
  | .shortTestEnd loop _ _ _ => decide (loop < 4)
  | .powerGoodSet loop => decide (loop < 4)
  | .powerGoodClear loop => decide (loop < 4)
  | .switchingCycle loop _ vin _ => decide (loop < 4) && decide (0 < vin)
  | .hiccupEnd loop => decide (loop < 4)
  | .retryCountClear loop => decide (loop < 4)
  | .phaseShedEvaluation loop _ _ _ => decide (loop < 4)
  | .phaseTrimBalance loop _ _ => decide (loop < 4)
  | .phaseHot phase _ => decide (phase < 32)
  | .phaseReturn phase => decide (phase < 32)
  | .seqRun c => okCmd c
  | .seqAbort c => okCmd c
  | .railOn c => okCmd c
  | .railOff c => okCmd c
  | .recipeHalt e => decide (e < 2)
  | .recipeEnable e => decide (e < 2)
  | .recipeDisable e => decide (e < 2)
  | .recipeWait e => decide (e < 2)
  | .waitExpiry e => decide (e < 2)
  | .recipeWaitPg e => decide (e < 2)
  | .waitpgSatisfied e => decide (e < 2)
  | .waitpgTimeout e => decide (e < 2)
  | .recipeCheck e => decide (e < 2)
  | .recipeJump e => decide (e < 2)
  | .recipeSetvid e => decide (e < 2)
  | .setvidStepResume e => decide (e < 2)
  | .setvidTimeout e => decide (e < 2)
  | .recipeMark e => decide (e < 2)
  | .railGood rail => okRail rail
  | .lossOfGood rail => okRail rail
  | .shutdownDepthAdvance root => okRail root
  | .dependencyMaskWrite ch rail _ val => okCh ch && okRail rail && okWord 32 val
  | .typecAttach _ => true
  | .pdMessageReceived header objs => okWord 16 header && (decide (objs.length ≤ 7) && objs.all (okWord 32))
  | .pdPolicyWrite ch _ _ => okCh ch
  | .rxFifoRelease ch _ => okCh ch
  | .altEnWrite ch _ => okCh ch
  | .pdTx c => okCmd c
  | .pdHardReset c => okCmd c
  | .pdRole c => okCmd c
  | .slRead bytes => okBytes bytes
  | .slWrite bytes _ => okBytes bytes
  | .slLdg bytes => okBytes bytes
  | .slPing bytes => okBytes bytes
  | .keyInit bytes => okBytes bytes
  | .thermalScan raw _ => (decide (raw.length ≤ 80) && raw.all (okWord 16))
  | .sensorRestore input => decide (input < 80)
  | .comparatorTrip sensor => decide (sensor < 64)
  | .wdtKick ch _ val => okCh ch && okWord 32 val
  | .wdtPeriodEnd _ => true
  | .wdtStart c => okCmd c
  | .wdtStop c => okCmd c
  | .otpProgram c => okCmd c
  | .otpSeal c => okCmd c
  | .otpIncrement c => okCmd c
  | .otpSense c => okCmd c
  | .otpAttempt _ => true
  | .coldStart cause _ _ journal intact => decide (cause < 3) && decide (journal < 3) && decide (intact ≤ 16)
  | .powerUp c => okCmd c
  | .powerDown c => okCmd c
  | .reboot c => okCmd c
  | .partnerTerminationSeen cc rp _ => decide (cc < 2) && decide (rp < 4)
  | .limitTargetExchange => true
  | .bothCopiesEntryWrite => true
  | .healthBoundary => true
  | .tapDrain => true
  | .recordBoundary => true
  | .minuteBoundary => true
  | .stepBoundary => true
  | .epochRaise => true
  | .discrepancyWindow => true
  | .calStepStart => true
  | .calOverlapStart => true
  | .estCommandApply => true
  | .checkpointPeriod => true
  | .checkpointSnapshot => true
  | .checkpointSigned => true
  | .ckptLoadApply => true
  | .hibProbe => true
  | .pageAccessWake => true
  | .estimatorReady => true
  | .mapBuild => true
  | .zeroDone => true
  | .flrFreeze => true
  | .dripAppend => true
  | .estopAssert => true
  | .estopRelease => true
  | .ticketWaitTake => true
  | .privWriteEnterQueue => true
  | .signInVerifyDone => true
  | .intNPulse => true
  | .intNPulseEnd => true
  | .documentSigned => true
  | .ledgerAppend => true
  | .sealSigned => true
  | .unitDefApply => true
  | .pairingKeyVerified => true
  | .xsealVerified => true
  | .snapshotApply => true
  | .heartbeatMiss => true
  | .becomeActive => true
  | .demote => true
  | .orphanTakeover => true
  | .oscEdgeLost => true
  | .noneTimeout => true
  | .oscStop => true
  | .d02PowerOnReset => true
  | .oscStart => true
  | .setEdgeApply => true
  | .vinAuxLost => true
  | .vbusLost => true
  | .prechargeShorted => true
  | .alwaysOnRailStop => true
  | .pulseTestPeriodic => true
  | .prechargeComplete => true
  | .prechargeTimeout => true
  | .floatReached => true
  | .taperTermination => true
  | .recharge => true
  | .cellTempRecovered => true
  | .safetyTimerExpiry => true
  | .chgTimerMismatch => true
  | .inputCollapse => true
  | .seqTimerMismatch => true
  | .typecDetach => true
  | .drpToggle => true
  | .errorRecoveryEnd => true
  | .goodcrcTimeout => true
  | .hardResetReceived => true
  | .hardResetVbusWaitEnd => true
  | .ppsKeepalive => true
  | .ppsKeepaliveTimeout => true
  | .waitRetryExpiry => true
  | .serviceLinkUp => true
  | .serviceLinkDown => true
  | .slPingSend => true
  | .keyReply => true
  | .shutdownRailStop => true
  | .cooledSet => true
  | .wdtTimerMismatch => true
  | .otpWorkBegin => true
  | .senseEnd => true
  | .d04Off => true
  | .resetNAssert => true
  | .powerUpRunStart => true
  | .hibernateRecipeStart => true
  | .wakeRecipeStart => true
  | .returnToD0 => true
  | .k02LockLost => true
  | .d02SupplyLost => true
  | .shortedLatchClear => true
  | .trngHealthTestsPass => true

end Sys2Proof
end

