-- ==== Sys2Proof/Safety.lean ====
section
/-!
DEFINITION. Safety.lean: the terms in which claims about runs are stated: the commands of a queue taken one after another, and
the shapes of state that every step keeps.
-/
namespace Sys2Proof

/-- An outcome that goes on. -/
def goesOn (o : Host.Outcome Machine.State Machine.Fault Machine.Refusal) : Prop := ∃ t, o = .next t

/-- A run from s to t that takes every command waiting in s, first in first out, and no other. -/
inductive Runs : Machine.State → Machine.State → Prop where
  | done (s : Machine.State) : s.pending = [] → Runs s s
  | more (s t u : Machine.State) : s.pending ≠ [] → Machine.step s = .next t → Runs t u → Runs s u

/-- Nothing reaches the part while D00 is held off, but what D02 and the power supply do. -/
def heldOff (s : Machine.State) : Prop := s.dev.down ≠ 0

/-- What D02 and the power supply do, and the next cold start: the commands that act while D00 is held off too. -/
def survivesHoldOff (c : Instr) : Bool :=
  match c with
  | .oscStop | .oscStart | .prechargeShorted | .coldStart _ _ _ _ _ | .d02SupplyLost | .d02PowerOnReset | .shortedLatchClear
  | .resetNAssert | .alwaysOnRailStop | .alarmFire _ => true
  | _ => false

namespace Machine

/-! ## What a held-off device keeps -/

/-- The device with what D02 alone carries on blanked: elapsed time, the registers and the trim accumulator. -/
def Dev.frozen (d : Dev) : Dev := { d with time := 0, regs := [], rtc := { d.rtc with acc := 0 } }

/-- The state stands as the held-off device d0 stood (R543): D00 is still held off, no `SET` waits for its edge, no command waits that a
held-off device takes, and nothing but elapsed time, the trim accumulator and the registers of the RTC's page can have changed. -/
def FrozenSince (d0 : Dev) (s : State) : Prop :=
  s.dev.down ≠ 0 ∧ s.dev.flag RTC_STATUS_set_pending = false ∧ (∀ c ∈ s.pending, survivesHoldOff c = false) ∧
    s.dev.frozen = d0.frozen ∧ ∀ (f : Field) (i : Nat), f.code / 2 ^ 17 ≠ 8 → s.dev.get f i = d0.get f i

/-! ## What shared operations can touch -/

/-- The device with every part blanked that an interrupt, a ledger record or an outgoing message can change: what two devices with
the same blank have in common, signalling has not touched. -/
def Dev.unsignalled (d : Dev) : Dev :=
  { d with regs := [], sent := [], msixPend := [], ldg := Ldg.init, twn := Twn.init, pd := Pd.init }

/-- The register fields that signalling can change: pending bits, raw bits of pages, and the counts of lost edges and of refused
records. -/
def signalCodes : List Nat :=
  [IRQ_PEND_pend.code, IRQ_LOST_count.code, PAGE_IRQ_RAW_raw.code, LDG_FULL_REFUSALS_count.code, LDG_FULL_REFUSALS_sat.code]

/-! ## Completion -/

/-- In every state in which D00 is not held off and whose device meets the condition, the command answers the next state whose
device is the effect; the queue's rest stays as it is. -/
def Completes (c : Instr) (cond : Dev → Prop) (effect : Dev → Dev) : Prop :=
  ∀ s : State, s.dev.down = 0 → cond s.dev → exec c s = .next { s with dev := effect s.dev }

/-- The same for what D02 and the power supply do, whether or not D00 is held off. -/
def CompletesAlways (c : Instr) (cond : Dev → Prop) (effect : Dev → Dev) : Prop :=
  ∀ s : State, cond s.dev → exec c s = .next { s with dev := effect s.dev }

/-- Nothing turns a command away or makes it wait: it reaches its page, waits neither at its link (R84) nor for its ticket (R118),
and meets no refusal (R79). -/
def Dev.accepts (d : Dev) (page op : Nat) (x : CmdDef) (c : Cmd) : Prop :=
  d.reaches c.ch page = true ∧ d.mustWait c.ch (x.judge page op c d).priv = false ∧ c.soon = false ∧ d.tkt.held = [] ∧
    d.verdictResult page (x.judge page op c d) = rOK

/-- What an accepted command does: it takes its ticket, is reported OK with it (R79), is recorded where it is privileged and came
through a link (R84), and has its effect under the ticket. -/
def Dev.accepted (d : Dev) (page op : Nat) (x : CmdDef) (c : Cmd) : Dev :=
  let v := x.judge page op c d
  let r := d.issue c.ch page op c.arg v.total
  let e := r.2.report page c.ch rOK r.1
  x.effect page c r.1 (if v.priv && decide (c.ch < 2) then e.cmdRecord page op c r.1 rOK else e)

/-- The commands that a channel writes to `PAGE_CMD` (R79) and that act through it alone: page, opcode, what the command's chapter
says of it, and the write. (Those of the lanes and of the service port settle the clock unit or the port afterwards; those of the
estimator and the impedance engine wake them first.) -/
def pageCmdOf (i : Instr) : Option (Nat × Nat × CmdDef × Cmd) :=
  match i with
  | .brnStart c => some (0x00B, 1, brnStart, c)
  | .brnStop c => some (0x00B, 2, brnStop, c)
  | .brnSetvid c => some (0x00B, 3, brnSetvid, c)
  | .adopt c => some (0x007, 2, clkAdopt, c)
  | .rearm c => some (0x007, 1, clkRearm, c)
  | .cusNonce c => some (0x002, 1, cusNonce, c)
  | .signIn c => some (0x002, 2, signIn, c)
  | .cusOpen c => some (0x002, 3, cusOpen, c)
  | .cusClose c => some (0x002, 4, cusClose, c)
  | .cusRotate c => some (0x002, 5, rotate, c)
  | .certLoad c => some (0x012, 5, certLoad, c)
  | .attest c => some (0x012, 3, attest, c)
  | .certify c => some (0x012, 4, certify, c)
  | .fltAck c => some (0x004, 1, fltAck, c)
  | .fltTrip c => some (0x004, 2, fltTrip, c)
  | .releasePins c => some (0x004, 3, releasePins, c)
  | .flrArm c => some (0x019, 1, flrArm, c)
  | .flrTrigger c => some (0x019, 2, flrTriggerCmd, c)
  | .flrStop c => some (0x019, 3, flrStop, c)
  | .mapRelease c => some (0x014, 1, mapRelease, c)
  | .mapDefault c => some (0x014, 2, mapDefault, c)
  | .bSet c => some (0x014, 3, bSet, c)
  | .mbxSend c => some (0x014, 4, mbxSend, c)
  | .frmInventory c => some (0x014, 5, frmInventory, c)
  | .ldgAck c => some (0x012, 1, ldgAckCmd, c)
  | .ldgSeal c => some (0x012, 2, ldgSealCmd, c)
  | .memFence c => some (0x018, 1, memFence, c)
  | .memZero c => some (0x018, 2, memZero, c)
  | .memRemap c => some (0x018, 3, memRemap, c)
  | .memcMark c => some ((0x030 + c.inst % 16), 1, memcMark, c)
  | .memcUnmark c => some ((0x030 + c.inst % 16), 2, memcUnmark, c)
  | .memcClearCounters c => some ((0x030 + c.inst % 16), 3, memcClear, c)
  | .mtrDefine c => some (0x013, 1, mtrDefine, c)
  | .otpProgram c => some (0x00E, 1, otpProgram, c)
  | .otpSeal c => some (0x00E, 2, otpSeal, c)
  | .otpIncrement c => some (0x00E, 3, otpIncrement, c)
  | .otpSense c => some (0x00E, 4, otpSense, c)
  | .powerUp c => some (0x009, 4, powerUp, c)
  | .powerDown c => some (0x009, 5, powerDown, c)
  | .reboot c => some (0x009, 6, reboot, c)
  | .railOn c => some (0x00A, 3, railOnCmd, c)
  | .railOff c => some (0x00A, 4, railOffCmd, c)
  | .seqRun c => some (0x00A, 1, seqRun, c)
  | .seqAbort c => some (0x00A, 2, seqAbort, c)
  | .rtcSet c => some (0x008, 1, rtcSet, c)
  | .armSwitch c => some (0x008, 2, armSwitch, c)
  | .bankMode c => some ((0x20 + c.inst), 1, modeCmd, c)
  | .cellWithdraw c => some (0x015, 1, (positionCmd 1), c)
  | .cellReturn c => some (0x015, 2, (positionCmd 2), c)
  | .stringAssign c => some (0x015, 3, assignCmd, c)
  | .chgRestart c => some (0x009, 1, chgRestart, c)
  | .chgStop c => some (0x009, 2, chgStop, c)
  | .pulseTest c => some (0x009, 3, pulseTest, c)
  | .wdtStart c => some (0x00D, 1, wdtStart, c)
  | .wdtStop c => some (0x00D, 2, wdtStop, c)
  | .twnHandover c => some (0x011, 0x10, twnHandoverCmd, c)
  | .twnTake c => some (0x011, 0x11, twnTakeCmd, c)
  | _ => none

/-- A write of a page's word through the unprivileged view reaches the page at once. -/
def Dev.takesWrite (d : Dev) (ch page : Nat) : Prop :=
  ch < 2 ∧ d.channelUp ch = true ∧ d.mustWait ch false = false ∧ d.serves page = true

/-- A write of a page's word through the privileged view reaches the page at once, under a session that covers the page's scope,
while the ledger takes its record. -/
def Dev.takesPriv (d : Dev) (ch page : Nat) : Prop :=
  ch < 2 ∧ d.channelUp ch = true ∧ d.mustWait ch true = false ∧ d.serves page = true ∧ d.get CUS_STATUS_phase ch = 3 ∧
    d.covers ch (pageScope page) = true ∧ d.ldgReserve = false

/-- The window shows the table's part in which the word stands (R74), and the table's block is on and may be written. -/
def Dev.takesTable (d : Dev) (ch w off : Nat) : Prop :=
  ch < 2 ∧ d.channelUp ch = true ∧ d.get HIF_WIN_BASE_mib w = off / 2 ^ 20 ∧ off % 4 = 0 ∧ d.pageOn (windowPage w) = true ∧
    d.pairedStandby = false

/-- Elsewhere than the wake that an access to the `EST` and `IMP` pages is (R300), an access changes nothing on its way. -/
def Dev.wokenBy (d : Dev) (page : Nat) : Dev := if page = 0x16 ∨ page = 0x17 then d.wakeCause else d

/-- The writable part of `PAGE_CTRL` takes its values; the kitchen timer stops when its page is disabled (R76, R523). -/
def Dev.ctrlTaken (d : Dev) (page : Nat) (en hib : Bool) : Dev :=
  (((if page = 0x0D ∧ !en then d.wdtHalt else d).putB PAGE_CTRL_enable en page).putB PAGE_CTRL_hibernate hib page).memJudge

/-- `PAGE_CTRL.enable` may be written so: its block's chapter does not forbid it (R288, R461, R523), and it is not the content of a
snapshot on a paired standby (R392). -/
def Dev.enableOk (d : Dev) (page : Nat) (en : Bool) : Prop :=
  (d.pairedStandby = false ∨ page ∉ snapPages) ∧ (en = false → d.resetForbidden page = false) ∧
    (en = true → page = 0x17 → d.get EST_STATE_BASE_gib * 2 ^ 30 + 5 * 2 ^ 28 ≤ d.memU)

/-- A string lane whose head takes frames. -/
def Dev.launches (d : Dev) (l : Nat) : Prop :=
  d.laneOn l = true ∧ isTwin l = false ∧ d.k03 = true ∧ 2 ≤ d.laneState l ∧ d.laneState l ≤ 5

/-- A string lane with codeword lock, from ALIGN to SAFE. -/
def Dev.hears (d : Dev) (l : Nat) : Prop :=
  d.laneOn l = true ∧ isTwin l = false ∧ 2 ≤ d.laneState l ∧ d.laneState l ≤ 5 ∧ d.flag LNK_STATUS_cw_lock l = true

/-- A lane in TRAIN that neither the squelch of R140 nor the clock unit holds. -/
def Dev.trains (d : Dev) (l : Nat) : Prop :=
  d.laneOn l = true ∧ d.laneState l = 1 ∧ (d.lane l).squelched = false ∧ (d.lane l).heldByClock = false

/-- A lane that measures its delay. -/
def Dev.measures (d : Dev) (l : Nat) : Prop :=
  d.laneOn l = true ∧ d.laneState l = 2 ∧ d.flag LNK_STATUS_frame_lock l = true

/-- One more than the highest offset of the bytes of a host write. -/
def spanOf (bytes : List (Nat × Nat)) : Nat := bytes.foldl (fun (n : Nat) (p : Nat × Nat) => max n (p.1 + 1)) 0

end Machine

end Sys2Proof
end

