-- ==== Sys2Proof/Certificates/Slice0/Obligations.lean ====
section
/-!
DEFINITION. Certificates/Slice0/Obligations.lean: the statements for the provers.

Two groups. The first states what the spec's rules say of the parts that many commands share, and of single commands whose rule is
long. The second, one statement for each family of the command table, says of every command of the family where it completes: under
a condition on the state and the operands alone, `exec` answers a next state, with the device that the rule gives and the queue as
it was. `Completes` (Safety.lean) spells that out; it holds wherever D00 is not held off.
-/
open Sys2Proof Sys2Proof.Machine

/-- A step runs the command at the front of the queue. For every command c, every rest of the queue and every device: the step of
the state whose queue begins with c is exec of c on the state whose queue is the rest. (03_register_pages_and_host_link.md
R69) -/
def Obligations.StepTakesFrontCommand : Prop :=
  ∀ (c : Instr) (cs : List Instr) (d : Dev), step ⟨c :: cs, d⟩ = exec c ⟨cs, d⟩

/-- With no command waiting, one edge of K00 passes (the model's choice, assumption 2). The step of a state with an empty queue
answers the next state whose queue is empty and whose device is that of one K00 edge: an idle step in place of a tick command
is the model's own choice (assumption 2). (13_time_and_clocks.md R411, 13_time_and_clocks.md R414) -/
def Obligations.EmptyQueueLetsTheClockGoOn : Prop :=
  ∀ d : Dev, step ⟨[], d⟩ = .next ⟨[], d.idle⟩

/-- Every command answers a next state, and leaves what waits behind it alone. For every command and every device there is a
device e such that, whatever waits behind it in the queue, exec answers the next state with that queue and the device e: no
fault, no refusal, and no effect that depends on the queue. (98_reader.md) -/
def Obligations.EveryCommandAnswers : Prop :=
  ∀ (c : Instr) (d : Dev), ∃ e : Dev, ∀ cs : List Instr, exec c ⟨cs, d⟩ = .next ⟨cs, e⟩

/-- As many steps as commands wait take them all, and what stands behind them does not matter. For every list of commands, every
rest of the queue and every device, running as many steps as the list is long takes exactly the list: it ends in a state whose
queue is the rest, with the same device as when nothing stood behind the list. (03_register_pages_and_host_link.md R69) -/
def Obligations.QueueDrainsInOrder : Prop :=
  ∀ (cs rest : List Instr) (d : Dev),
    ∃ e : Dev, Host.Core.run core cs.length ⟨cs ++ rest, d⟩ = .next ⟨rest, e⟩ ∧ Host.Core.run core cs.length ⟨cs, d⟩ = .next ⟨[], e⟩

/-- While D00 is held off, nothing but D02, the power supply and the next cold start acts. In every state in which D00 is held
off, every command but the oscillator's stop and start, the supply loss and power-on reset of D02, a precharge that finds the
cell shorted, the clearing of the shorted latch, the stop of the always-on rail, the clock edge at which an alarm fires,
RESET_N and the cold start answers the same state: device and queue are unchanged. (20_power_states_and_startup.md R543,
14_supply_inputs_and_holdup.md R425) -/
def Obligations.HeldOffDeviceIsDeaf : Prop :=
  ∀ (c : Instr) (s : State), heldOff s → survivesHoldOff c = false → exec c s = .next s

/-- Every step keeps a held-off device as it stood, but for the RTC. For every device d0 and every state that stands as the
held-off d0 stood (D00 held off, no SET waiting for its edge, no command waiting that a held-off device takes, nothing changed
but elapsed time, the trim accumulator and the registers of the RTC page): whatever next state the step answers, it stands so
too. That a step on an empty queue is a clock edge is the model's choice (assumption 2). (20_power_states_and_startup.md R543,
14_supply_inputs_and_holdup.md R425, 13_time_and_clocks.md R410) -/
def Obligations.NothingButTheClockGoesOnWhileHeldOff : Prop :=
  ∀ (d0 : Dev) (s t : State), FrozenSince d0 s → step s = .next t → FrozenSince d0 t

/-- RESET_N holds D00 off, and the device then stands frozen. For every device in which no SET waits for its edge, and every queue
of commands that a held-off device does not take: RESET_N answers the next state with that queue and a device that stands as
itself, held off. (20_power_states_and_startup.md R543) -/
def Obligations.ResetNFreezesTheDevice : Prop :=
  ∀ (d : Dev) (cs : List Instr), d.flag RTC_STATUS_set_pending = false → (∀ c ∈ cs, survivesHoldOff c = false) →
    ∃ e : Dev, exec .resetNAssert ⟨cs, d⟩ = .next ⟨cs, e⟩ ∧ FrozenSince e ⟨cs, e⟩

/-- The PAGE_CMD commands of 57 rows are judged and taken by their page. For each of the 57 commands that pageCmdOf lists with
page, opcode and definition: with D00 on, exec answers the next state whose device is that of the command judged and taken by
its page, and whose queue is unchanged. (03_register_pages_and_host_link.md R79) -/
def Obligations.PageCommandsAreJudgedByTheirPage : Prop :=
  ∀ (i : Instr) (p op : Nat) (x : CmdDef) (c : Cmd), pageCmdOf i = some (p, op, x, c) →
    ∀ s : State, s.dev.down = 0 → exec i s = .next { s with dev := s.dev.cmd p op x c }

/-- Of several refusals, DENIED, BAD_ARG, BAD_STATE, BUSY are reported in that order. A command that reaches its page and need not
wait, and meets a refusal: PAGE_CMD_STATUS.result of its channel shows DENIED (4) where it is denied; else BAD_ARG (2) where
its argument is bad; else BAD_STATE (3) where its state is wrong or its block is contained; else BUSY (5) where its resource
is locked, the ticket rail is full, or it would make a ledger record while the ledger is in reserve. This holds for every
command definition whose own consequence of a refusal leaves PAGE_CMD_STATUS alone. (R123) -/
def Obligations.FirstRefusalIsReported : Prop :=
  ∀ (d : Dev) (p op : Nat) (x : CmdDef) (c : Cmd),
    (∀ (e : Dev) (k : Nat), (x.refused p c e).get PAGE_CMD_STATUS_result k = e.get PAGE_CMD_STATUS_result k) →
    d.reaches c.ch p = true → d.mustWait c.ch (x.judge p op c d).priv = false → c.soon = false → d.tkt.held = [] →
    let v := x.judge p op c d
    let shown := (d.cmd p op x c).get PAGE_CMD_STATUS_result (chPage p c.ch)
    (v.denied = true → shown = 4) ∧
    (v.denied = false → v.badArg = true → shown = 2) ∧
    (v.denied = false → v.badArg = false → (v.badState = true ∨ d.refusing p = true) → shown = 3) ∧
    (v.denied = false → v.badArg = false → v.badState = false → d.refusing p = false →
      (v.busy = true ∨ d.railFull = true ∨ ((v.makesRecord = true ∨ v.priv = true) ∧ d.ldgReserve = true)) → shown = 5)

/-- A refusal other than BUSY changes nothing but its channel's PAGE_CMD_STATUS. For each of the 57 PAGE_CMD commands of
pageCmdOf, refused with BAD_ARG, BAD_STATE or DENIED: exec answers a next state with the same queue and the same ticket rail.
Every register field but result, ticket_lo and ticket_hi of PAGE_CMD_STATUS and PAGE_TICKET_HI is unchanged, those change only
at the page and channel of the command, and the ticket shown is 0. Everything else of the device is unchanged but the ledger's
queue (a refused OPEN of a custody session is recorded, and so is a refused privileged command).
(03_register_pages_and_host_link.md R79, 04_faults_and_tickets.md R118) -/
def Obligations.RefusedCommandTakesNoTicket : Prop :=
  ∀ (i : Instr) (p op : Nat) (x : CmdDef) (c : Cmd), pageCmdOf i = some (p, op, x, c) →
    ∀ s : State, s.dev.down = 0 → s.dev.reaches c.ch p = true → s.dev.mustWait c.ch (x.judge p op c s.dev).priv = false →
      c.soon = false → s.dev.tkt.held = [] → s.dev.verdictResult p (x.judge p op c s.dev) ∈ [2, 3, 4] →
      ∃ t : State, exec i s = .next t ∧ t.pending = s.pending ∧ t.dev.tkt = s.dev.tkt ∧
        { t.dev with regs := s.dev.regs, ldg := { t.dev.ldg with queue := s.dev.ldg.queue } } = s.dev ∧
        (∀ (f : Field) (k : Nat),
          f.code ∉ [PAGE_CMD_STATUS_result.code, PAGE_CMD_STATUS_ticket_lo.code, PAGE_TICKET_HI_ticket_hi.code] →
          t.dev.get f k = s.dev.get f k) ∧
        (∀ (f : Field) (k : Nat), k ≠ chPage p c.ch → t.dev.get f k = s.dev.get f k) ∧
        t.dev.get PAGE_CMD_STATUS_ticket_lo (chPage p c.ch) = 0 ∧ t.dev.get PAGE_TICKET_HI_ticket_hi (chPage p c.ch) = 0

/-- A command that cannot reach its page has no effect; one that comes too soon waits whole. For each of the 57 PAGE_CMD commands
of pageCmdOf, with D00 on. With its channel down, its page's power domain off or its die's link lost, exec answers the same
state. Where it reaches its page and does not wait at its link, but arrives sooner than 5 microseconds after the last ticket
or while others wait, it is put behind those that wait, and nothing else changes. (02_architecture.md R48,
03_register_pages_and_host_link.md R71, 04_faults_and_tickets.md R118) -/
def Obligations.CommandsAreIgnoredOrWaitWhole : Prop :=
  ∀ (i : Instr) (p op : Nat) (x : CmdDef) (c : Cmd), pageCmdOf i = some (p, op, x, c) →
    ∀ s : State, s.dev.down = 0 →
      (s.dev.reaches c.ch p = false → exec i s = .next s) ∧
      (s.dev.reaches c.ch p = true → s.dev.mustWait c.ch (x.judge p op c s.dev).priv = false → (c.soon = true ∨ s.dev.tkt.held ≠ []) →
        exec i s = .next { s with dev := { s.dev with tkt := { s.dev.tkt with
          held := s.dev.tkt.held ++ [⟨p, op, { c with soon := false }, (x.judge p op c s.dev).priv⟩] } } })

/-- Issuing a ticket: its number, its entry, the counts, and nothing else. With fewer than 65,536 entries open, issuing a ticket
answers the next ticket number; the next number goes on by 1 modulo 2^48 and the open count by 1. One rail entry holds the
ticket, QUEUED, with its channel, opcode, page, argument, total and the epoch, tick and frame of issue, and every other entry
is unchanged. Commands and look-ups that wait stay; every register field but the next number, the open count, the allocation
index and those that signalling changes is unchanged, and so is every part of the device that signalling cannot reach.
(04_faults_and_tickets.md R118, 04_faults_and_tickets.md R119, 04_faults_and_tickets.md R122) -/
def Obligations.TicketIsIssued : Prop :=
  ∀ (d : Dev) (ch page op arg total : Nat), d.get TKT_OPEN_count < 65_536 →
    let r := d.issue ch page op arg total
    r.1 = d.nextTicket ∧ r.2.nextTicket = (d.nextTicket + 1) % 2 ^ 48 ∧ r.2.get TKT_OPEN_count = d.get TKT_OPEN_count + 1 ∧
      (∃ i, r.2.tkt.rail.get i Ticket.none = { Ticket.none with
          ticket := d.nextTicket, state := 1, open_ := true, result := 1, channel := ch, opcode := op, page := page, arg := arg,
          total := total, issueEpoch := d.epoch, issueTick := d.tick, issueFrame := d.frameRec } ∧
        ∀ j, j ≠ i → r.2.tkt.rail.get j Ticket.none = d.tkt.rail.get j Ticket.none) ∧
      r.2.tkt.held = d.tkt.held ∧ r.2.tkt.lookups = d.tkt.lookups ∧
      (∀ (f : Field) (k : Nat), f.code ∉ signalCodes →
        f.code ∉ [TKT_NEXT_LO_next_lo.code, TKT_NEXT_HI_next_hi.code, TKT_OPEN_count.code, TKT_ALLOC_index.code] →
        r.2.get f k = d.get f k) ∧
      { r.2.unsignalled with tkt := d.tkt } = d.unsignalled

/-- Closing a ticket: an open entry takes its end, a closed one is left alone. For a ticket found in the rail: if its entry is
closed, closing it again changes nothing. If it is open, the entry takes the state, closed, with the epoch, tick and frame of
its end, the fault sequence number, and all its units done where the state is DONE; the open count goes down by 1; every other
entry and every other register field is unchanged. (04_faults_and_tickets.md R119, 04_faults_and_tickets.md R120) -/
def Obligations.TicketClosesOnce : Prop :=
  ∀ (d : Dev) (n state seq i : Nat) (t : Ticket), d.ticketAt n = some (i, t) →
    (t.open_ = false → d.close n state seq = d) ∧
    (t.open_ = true →
      (d.close n state seq).tkt.rail.get i Ticket.none = { t with
        state := state, open_ := false, endEpoch := d.epoch, endTick := d.tick, endFrame := d.frameRec, faultSeq := seq,
        done := if state = 4 then t.total else t.done } ∧
      (∀ j, j ≠ i → (d.close n state seq).tkt.rail.get j Ticket.none = d.tkt.rail.get j Ticket.none) ∧
      (d.close n state seq).get TKT_OPEN_count = (d.get TKT_OPEN_count - 1) % 2 ^ 17 ∧
      (∀ (f : Field) (k : Nat), f.code ≠ TKT_OPEN_count.code → (d.close n state seq).get f k = d.get f k) ∧
      { d.close n state seq with regs := d.regs, tkt := d.tkt } = d)

/-- An interrupt edge sets its pending bit, or is counted lost where the bit is set. For every source below 768. If its pending
bit is set, the edge changes nothing but IRQ_LOST, which counts by 1 up to its top. If it is clear: IRQ_LOST and every other
source's bit stay; the bit is set, unless the source is enabled with target 7 over a service link that is up, which sends it
and clears it; with the source disabled, setting the bit is all that happens; with it enabled and target g in 0-3, MSI-X
vector 16g + (source mod 16) is waiting to be sent. In either case no register field but those of signalling changes, and no
part of the device that signalling cannot reach. (03_register_pages_and_host_link.md R95, 03_register_pages_and_host_link.md
R96) -/
def Obligations.EdgeIsLatchedOrCountedLost : Prop :=
  ∀ (d : Dev) (src : Nat), src < 768 →
    (d.wbit IRQ_PEND_pend src = true → d.irqEdge src = d.put IRQ_LOST_count (satAdd 32 (d.get IRQ_LOST_count) 1)) ∧
    (d.wbit IRQ_PEND_pend src = false →
      (d.irqEdge src).get IRQ_LOST_count = d.get IRQ_LOST_count ∧
      (∀ s, s < 768 → s ≠ src → (d.irqEdge src).wbit IRQ_PEND_pend s = d.wbit IRQ_PEND_pend s) ∧
      (¬(d.wbit IRQ_EN_en src = true ∧ d.irqTarget src = 7 ∧ 2 ≤ d.get PD_STATUS_sl_state) →
        (d.irqEdge src).wbit IRQ_PEND_pend src = true) ∧
      (d.wbit IRQ_EN_en src = false → d.irqEdge src = d.putWbit IRQ_PEND_pend src true) ∧
      (d.wbit IRQ_EN_en src = true → d.irqTarget src ≤ 3 → 16 * d.irqTarget src + src % 16 ∈ (d.irqEdge src).msixPend)) ∧
    (∀ (f : Field) (k : Nat), f.code ∉ signalCodes → (d.irqEdge src).get f k = d.get f k) ∧
    (d.irqEdge src).unsignalled = d.unsignalled

/-- A block event sets its raw bit, and the page's summary rises when PAGE_IRQ_PEND becomes non-zero. For every page and bit below
32: the event sets the bit of the page's PAGE_IRQ_RAW. Where PAGE_IRQ_PEND was non-zero already, or the bit is not enabled,
nothing else changes. Where PAGE_IRQ_PEND was zero and the bit is enabled, the page's summary source has an edge, once.
(03_register_pages_and_host_link.md R76, 03_register_pages_and_host_link.md R94) -/
def Obligations.PageSummaryRisesOnce : Prop :=
  ∀ (d : Dev) (page b : Nat), b < 32 →
    (d.pageIrq page b).get PAGE_IRQ_RAW_raw page = (d.get PAGE_IRQ_RAW_raw page ||| 2 ^ b) % 2 ^ 32 ∧
    ((d.pagePend page ≠ 0 ∨ (d.get PAGE_IRQ_EN_en page).testBit b = false) →
      d.pageIrq page b = d.put PAGE_IRQ_RAW_raw (d.get PAGE_IRQ_RAW_raw page ||| 2 ^ b) page) ∧
    (d.pagePend page = 0 → (d.get PAGE_IRQ_EN_en page).testBit b = true →
      d.pageIrq page b = (d.put PAGE_IRQ_RAW_raw (d.get PAGE_IRQ_RAW_raw page ||| 2 ^ b) page).irqEdge page)

/-- A fault within 100 ms of the last of its source and location is only counted. Where the source at the location has raised a
fault less than 100 ms ago, raising it again changes two things and nothing else: the page's PAGE_FAULT_COUNT counts, and the
pair's suppressed count goes on by 1 up to 65,535. No latch, no record, no ticket and no consequence.
(04_faults_and_tickets.md R106) -/
def Obligations.RepeatedFaultIsSuppressed : Prop :=
  ∀ (d : Dev) (code page loc detail : Nat), d.flt.holdOff.has (code * 2 ^ 32 + loc) = true →
    d.time < (d.flt.holdOff.get (code * 2 ^ 32 + loc) ⟨0, 0⟩).taken + 327_680_000 →
    let h := d.flt.holdOff.get (code * 2 ^ 32 + loc) ⟨0, 0⟩
    let e := d.bumpS PAGE_FAULT_COUNT_count PAGE_FAULT_COUNT_sat page
    d.raise code page loc detail =
      { e with flt := { d.flt with holdOff := d.flt.holdOff.put (code * 2 ^ 32 + loc) ⟨h.taken, min (h.suppressed + 1) 0xFFFF⟩ } }

/-- A fault that finds its class's latch empty becomes its first source. A fault outside its hold-off whose effective class is 0
or 1 (its raised class, or one more where that latch is occupied) finds the effective class's latch empty, with fewer than 32
records queued: the latch fills with the source, its raised class, whether it escalated, its page, and the drip-tray sequence
number; the next sequence number goes on by 1, and one record with that number, the source, the location and the effective
class joins the queue, with every record before it unchanged. (04_faults_and_tickets.md R108, 04_faults_and_tickets.md R109) -/
def Obligations.FirstSourceFillsItsLatch : Prop :=
  ∀ (d : Dev) (code page loc detail : Nat), page < 0x60 → code < 2 ^ 16 →
    d.flt.holdOff.has (code * 2 ^ 32 + loc) = false →
    let cls := faultClass code
    let eff := if d.latched cls = true then cls + 1 else cls
    eff < 2 → d.latched eff = false → d.flt.queue.length < 32 →
    let e := d.raise code page loc detail
    e.latched eff = true ∧ e.get FLT_FIRST_SRC_valid eff = 1 ∧ e.get FLT_FIRST_SRC_source eff = code ∧
      e.get FLT_FIRST_SRC_raised eff = cls ∧ e.get FLT_FIRST_SRC_escalated eff = (if d.latched cls = true then 1 else 0) ∧
      e.get FLT_FIRST_SRC_page eff = page ∧
      e.get2 FLT_FIRST_SEQ_LO_seq_lo FLT_FIRST_SEQ_HI_seq_hi eff = d.nextSeq % 2 ^ 64 ∧ e.nextSeq = (d.nextSeq + 1) % 2 ^ 64 ∧
      (∃ r : DripRec, e.flt.queue = d.flt.queue ++ [r] ∧ r.seq = d.nextSeq ∧ r.source = code ∧ r.location = loc ∧ r.effective = eff)

/-- BAR0 takes 32 bits at 4-byte and 64 bits at 8-byte alignment; other accesses are counted. On a channel that is up, at an
address of BAR0, where the read need not wait (behind writes held at its link, or for the judgement or look-up that it asks
for). A write or read that is neither 4 bytes at a 4-byte-aligned nor 8 bytes at an 8-byte-aligned address: the write has no
effect but that HIF_BAD_ACCESS counts (up to its top), the read returns 0 and counts likewise. A 4-byte aligned write is one
32-bit access. An 8-byte aligned write is the 32-bit write of the low half, then that of the high half at the next word; an
8-byte aligned read returns the word at the address, and above it the word read next. (R73) -/
def Obligations.BadAccessesAreCounted : Prop :=
  ∀ (s : State) (ch addr size v : Nat) (soon : Bool), s.dev.down = 0 → ch < 2 → addr < 2 ^ 26 → s.dev.channelUp ch = true →
    s.dev.readWaits ch addr size = false →
    let d := s.dev
    let counted := d.put HIF_BAD_ACCESS_count (satAdd 32 (d.get HIF_BAD_ACCESS_count) 1)
    (¬(size = 4 ∧ addr % 4 = 0) → ¬(size = 8 ∧ addr % 8 = 0) →
      exec (.registerWrite ch addr size v soon) s = .next { s with dev := counted } ∧
      exec (.snapRead ch addr size) s = .next { s with dev := counted.emit .readData ch [addr, 0] }) ∧
    (size = 4 → addr % 4 = 0 →
      exec (.registerWrite ch addr size v soon) s = .next { s with dev := d.busWrite ch addr (v % 2 ^ 32) soon } ∧
      exec (.snapRead ch addr size) s =
        .next { s with dev := (d.busRead ch addr).2.emit .readData ch [addr, (d.busRead ch addr).1] }) ∧
    (size = 8 → addr % 8 = 0 →
      exec (.registerWrite ch addr size v soon) s =
        .next { s with dev := (d.busWrite ch addr (v % 2 ^ 32) soon).busWrite ch (addr + 4) (v / 2 ^ 32 % 2 ^ 32) soon } ∧
      exec (.snapRead ch addr size) s =
        (let lo := d.busRead ch addr
         let hi := lo.2.busRead ch (addr + 4)
         .next { s with dev := hi.2.emit .readData ch [addr, lo.1 + hi.1 * 2 ^ 32] }))

/-- A register read changes nothing but its own channel's latches. A 4-byte aligned read of a register page in BAR0, other than a
page of the estimator or the impedance engine (whose access is a wake cause), that need not wait: exec answers a next state in
which every register, and every part of the device, is as it was, but for the completion that leaves, this channel's own SNAP
latches, and the note that a read of SCH_REJ_COUNT leaves in the scheduler. Every latch of another channel holds what it held.
(03_register_pages_and_host_link.md R68, 00_scope.md R7) -/
def Obligations.ReadsDisturbNoOtherChannel : Prop :=
  ∀ (s : State) (ch addr : Nat), s.dev.down = 0 → ch < 2 → addr < 2 ^ 25 → addr % 4 = 0 → s.dev.channelUp ch = true →
    s.dev.readWaits ch addr 4 = false → addr % 2 ^ 24 / 0x1000 ≠ 0x16 → addr % 2 ^ 24 / 0x1000 ≠ 0x17 →
    ∃ t : State, exec (.snapRead ch addr 4) s = .next t ∧ t.pending = s.pending ∧
      { t.dev with sent := s.dev.sent, snap := s.dev.snap, sch := { t.dev.sch with rejSince := s.dev.sch.rejSince } } = s.dev ∧
      (∃ v, t.dev.sent = ⟨.readData, ch, [addr, v]⟩ :: s.dev.sent) ∧
      (∀ k z, k % 8 ≠ ch → t.dev.snap.get k z = s.dev.snap.get k z)

/-- Reading TKT_NEXT_LO latches TKT_NEXT_HI for the channel that read it. With D00 on and the TKT page served: whatever tickets
are issued between the two reads, reading TKT_NEXT_LO through a channel and later TKT_NEXT_HI through the same channel returns
the two halves of the next ticket number as it stood at the first read, as long as the channel's latch is not taken anew in
between. (00_scope.md R7, 04_faults_and_tickets.md R124) -/
def Obligations.SnapPairIsLatched : Prop :=
  ∀ (d e : Dev) (ch : Nat), ch < 2 → d.serves 0x005 = true → e.serves 0x005 = true →
    e.snap.get (snapKey 0x005 0x104 ch) 0 = (d.readWord ch false 0x005 0x100).2.snap.get (snapKey 0x005 0x104 ch) 0 →
    d.get TKT_NEXT_LO_next_lo < 2 ^ 32 → d.get TKT_NEXT_HI_next_hi < 2 ^ 16 →
    (d.readWord ch false 0x005 0x100).1 + 2 ^ 32 * (e.readWord ch false 0x005 0x104).1 = d.nextTicket

/-- A packed endpoint address unpacks to its lane, node and endpoint, and a malformed one is refused. For lanes 0-511, nodes 0-319
and endpoints 0-31, the packed address lane x 2^23 + node x 2^14 + endpoint x 2^9 unpacks to exactly these; and a 32-bit
number unpacks to something if and only if its node field is at most 319 and its bits [8:0] are zero, and then packing what it
unpacks to gives the number back. (00_scope.md R8) -/
def Obligations.PackedAddressesRoundTrip : Prop :=
  (∀ lane node ep, lane < 512 → node ≤ 319 → ep < 32 →
    unpackEndpoint (lane * 2 ^ 23 + node * 2 ^ 14 + ep * 2 ^ 9) = some ⟨lane, node, ep⟩) ∧
  (∀ w, w < 2 ^ 32 →
    ((unpackEndpoint w).isSome = true ↔ w / 2 ^ 14 % 2 ^ 9 ≤ 319 ∧ w % 2 ^ 9 = 0) ∧
    (∀ p, unpackEndpoint w = some p → p.lane * 2 ^ 23 + p.node * 2 ^ 14 + p.cell * 2 ^ 9 = w))

/-- Epochs and frame numbers are compared modulo their width. For 16-bit epochs: a is later than b exactly when (a - b) mod 2^16
lies in 1-32,767; two epochs are never each later than the other; and of two different epochs not exactly 32,768 apart one is
later. For the low 32 bits of a frame number received when the device is at frame f of at least 2^32: the number taken has
those low bits, and lies within 2^31 of f. (06_frame_protocol.md R168, 06_frame_protocol.md R163) -/
def Obligations.LaterIsAsymmetric : Prop :=
  (∀ a b, a < 2 ^ 16 → b < 2 ^ 16 →
    (laterEpoch a b = true ↔ ∃ k, 1 ≤ k ∧ k ≤ 32_767 ∧ (b + k) % 2 ^ 16 = a) ∧
    (laterEpoch a b = true → laterEpoch b a = false) ∧
    (a ≠ b → (b + 32_768) % 2 ^ 16 ≠ a → laterEpoch a b = true ∨ laterEpoch b a = true)) ∧
  (∀ lo f, lo < 2 ^ 32 → 2 ^ 32 ≤ f → near48 lo f % 2 ^ 32 = lo ∧ near48 lo f ≤ f + 2 ^ 31 ∧ f ≤ near48 lo f + 2 ^ 31)

/-- The scrambler follows its law, its receiver restores the payload, and synchronises itself. For every state and every payload:
each scrambled bit from the 31st on is the payload bit, the scrambled bit 28 before and the scrambled bit 31 before, added;
descrambling from the same state restores the payload; and from any other 31-bit state it restores every bit from the 32nd on.
(05_string_lanes.md R127) -/
def Obligations.DescramblingRestoresThePayload : Prop :=
  ∀ (st : Nat) (bs : List Bool), st < 2 ^ 31 →
    (∀ k, 31 ≤ k → k < bs.length →
      (scramble st bs).1.getD k false =
        ((bs.getD k false != (scramble st bs).1.getD (k - 28) false) != (scramble st bs).1.getD (k - 31) false)) ∧
    (descramble st (scramble st bs).1).1 = bs ∧
    (∀ st', st' < 2 ^ 31 → (descramble st' (scramble st bs).1).1.drop 31 = bs.drop 31)

/-- A downstream header reads back every field at its place, and passes its check. For every frame number, epoch, role, posture,
trip, plan_valid, keep, mgmt_open and map_id of the widths that the header gives them: the 160 header bits read back format
0b0101, the low 32 bits of the frame number and each other field at the payload bits of the header's table, zero in the bits
that the table leaves zero, and their CRC passes. (06_frame_protocol.md R161, 06_frame_protocol.md R164, 06_frame_protocol.md
R166) -/
def Obligations.HeaderCarriesItsFields : Prop :=
  ∀ h : DownHead, h.epoch < 2 ^ 16 → h.role < 2 → h.posture < 4 → h.trip < 2 → h.planValid < 2 → h.keep < 2 → h.mgmtOpen < 2 →
    h.mapId < 2 ^ 16 →
    h.word < 2 ^ 160 ∧ hdrField h.word 0 3 = 5 ∧ hdrField h.word 4 35 = h.frame % 2 ^ 32 ∧ hdrField h.word 36 51 = h.epoch ∧
      hdrField h.word 52 52 = h.role ∧ hdrField h.word 53 54 = h.posture ∧ hdrField h.word 55 55 = h.trip ∧
      hdrField h.word 56 56 = h.planValid ∧ hdrField h.word 57 57 = h.keep ∧ hdrField h.word 58 58 = h.mgmtOpen ∧
      hdrField h.word 59 63 = 0 ∧ hdrField h.word 64 79 = h.mapId ∧ hdrField h.word 80 143 = 0 ∧ hdrGood h.word = true

/-- A header with one wrong bit fails its check. For every downstream header and every one of its 160 bits: the header with that
bit inverted does not pass the CRC. (06_frame_protocol.md R166) -/
def Obligations.OneWrongBitFailsTheHeader : Prop :=
  ∀ (h : DownHead) (k : Nat), k < 160 → hdrGood (h.word ^^^ 2 ^ k) = false

/-- What an S echo, the command and the header fix of a cell's insertion. For an echo without the posture bit: with start equal to
end the state is constant over the frame; with start other than end, the header good and the applied command known and such
that it ends where the echo ends, the switch changes once, at the command's offset, from start to end; with the command
unknown, or ending elsewhere, nothing is fixed. With the posture bit and the header good, at posture_at 0 the switch is in the
posture for the whole frame, OPEN (3) where the header says OPEN and BYPASS (0) otherwise; at a later posture_at it starts as
the echo says and ends in the posture, and is fixed only where the command is known and begins as the echo says; with the
header failed nothing is fixed. (06_frame_protocol.md R183) -/
def Obligations.EchoFixesTheSwitchStates : Prop :=
  ∀ (ok : Bool) (hdr echo : Nat) (cmd : Option Nat),
    let start := echo / 64 % 4
    let stop := echo / 16 % 4
    (echo.testBit 2 = false → start = stop → echoStates ok hdr echo cmd = some [(0, start)]) ∧
    (echo.testBit 2 = false → start ≠ stop → ok = true → ∀ w, cmd = some w →
      echoStates ok hdr echo cmd = if echoShows w start stop then some [(0, start), (w / 16 % 2 ^ 10, stop)] else none) ∧
    (echo.testBit 2 = false → start ≠ stop → ok = false → echoStates ok hdr echo cmd = none) ∧
    (echo.testBit 2 = false → start ≠ stop → cmd = none → echoStates ok hdr echo cmd = none) ∧
    (echo.testBit 2 = true → ok = true → hdrField hdr 60 69 = 0 →
      echoStates ok hdr echo cmd = some [(0, if hdrField hdr 54 55 = 2 then 3 else 0)]) ∧
    (echo.testBit 2 = true → ok = true → hdrField hdr 60 69 ≠ 0 →
      (cmd = none → echoStates ok hdr echo cmd = none) ∧
      (∀ w, cmd = some w → echoBegins w start = false → echoStates ok hdr echo cmd = none) ∧
      (∀ w, cmd = some w → echoBegins w start = true → ∃ path, echoStates ok hdr echo cmd = some ((0, start) :: path) ∧
        ((0, start) :: path).getLast?.map Prod.snd = some (if hdrField hdr 54 55 = 2 then 3 else 0) ∧
        ∀ e ∈ path, e.1 ≤ hdrField hdr 60 69)) ∧
    (echo.testBit 2 = true → ok = false → echoStates ok hdr echo cmd = none)

/-- A bank target moves by at most its slew; the current limiter moves a string's backoff by its rules. A target moved toward
dc_level with a slew above 0 moves by at most the slew, never away from dc_level, and reaches it once it lies within the slew;
a slew of 0 makes the change a step. A backoff within +-5,120 stays within it; with a sample above the outward limit or an
overrange high, and none below the inward one, it increases by lim_step up to 5,120; with a sample below the inward limit or
an overrange low, and none above the outward one, it decreases likewise; with neither, and every sample within 90 % of both
limits, it moves 1 toward 0; otherwise it stays. (07_insertion_scheduler.md R204, 07_insertion_scheduler.md R221) -/
def Obligations.BankTargetSlewsAndBackoffClamps : Prop :=
  (∀ (now target : Int) (slew : Nat),
    (slew = 0 → slewTo now target slew = target) ∧
    (slew ≠ 0 → (slewTo now target slew - now).natAbs ≤ slew ∧
      (slewTo now target slew - target).natAbs ≤ (now - target).natAbs ∧
      ((now - target).natAbs ≤ slew → slewTo now target slew = target))) ∧
  (∀ (b : Int) (xs : List Int) (ovrHi ovrLo : Bool) (out in_ step : Nat), -5120 ≤ b → b ≤ 5120 →
    let b' := nextBackoff b xs ovrHi ovrLo out in_ step
    let high := ovrHi = true ∨ ∃ x ∈ xs, (out * 100_000 : Int) < x
    let low := ovrLo = true ∨ ∃ x ∈ xs, x < -(in_ * 100_000 : Int)
    let near := ∀ x ∈ xs, x ≤ (out * 90_000 : Int) ∧ -(in_ * 90_000 : Int) ≤ x
    b' ≤ 5120 ∧ -5120 ≤ b' ∧
    (high → ¬low → b' = min 5120 (b + step)) ∧ (low → ¬high → b' = max (-5120) (b - step)) ∧
    (¬high → ¬low → near → b'.natAbs = b.natAbs - 1) ∧ (¬high → ¬low → ¬near → b' = b))

/-- Each record is chained by SHA-384 to all before it. The chain begins at 48 zero bytes. Writing a record after hash h gives the
chain the hash of the 48 bytes of h followed by bytes 0-79 of the record, which stand in its slot before the 48 bytes of that
hash; for a seal, it is the hash of the 48 bytes of h followed by bytes 0-31 of the seal, and the slot holds those 32 bytes
and the 96 of the signature, not the hash. (R351) -/
def Obligations.LedgerRecordsAreChained : Prop :=
  beBytes 48 Ldg.init.hash = List.replicate 48 0 ∧
  ∀ (d : Dev) (kind flags : Nat) (body : List Part),
    let e := d.ldgWrite kind flags body
    let r := e.ldg.ring.get (d.ldg.next % 196_608) LdgRec.zero
    (recHead r).length = 80 ∧ (recBytes r).length = 128 ∧
    (kind ≠ 3 → (recBytes r).take 80 = recHead r ∧
      e.ldg.hash = Config.sha384 (beBytes 48 d.ldg.hash ++ (recBytes r).take 80) ∧ (recBytes r).drop 80 = beBytes 48 e.ldg.hash) ∧
    (kind = 3 → (recBytes r).take 32 = (recHead r).take 32 ∧
      e.ldg.hash = Config.sha384 (beBytes 48 d.ldg.hash ++ (recBytes r).take 32) ∧ (recBytes r).drop 32 = beBytes 96 r.sig)

/-- Record n takes slot n mod 196,608, and no other slot changes. Writing a record: it takes the next sequence number n, stands in
slot n mod 196,608 with that number, the device's epoch, tick and frame, its kind, flags and body; every other slot keeps its
record; the next number is n + 1; LDG_HEAD reads n modulo 2^64. (11_ledger_and_metering.md R349, 11_ledger_and_metering.md
R350) -/
def Obligations.LedgerSlotsFillInOrder : Prop :=
  ∀ (d : Dev) (kind flags : Nat) (body : List Part),
    let n := d.ldg.next
    let e := d.ldgWrite kind flags body
    e.ldg.next = n + 1 ∧ e.get2 LDG_HEAD_LO_lo LDG_HEAD_HI_hi = n % 2 ^ 64 ∧
    (e.ldg.ring.get (n % 196_608) LdgRec.zero) =
      { seq := n, epoch := d.epoch, tick := d.tick, frame := d.frameRec, kind := kind, flags := flags, body := body,
        hash := e.ldg.hash, sig := 0 } ∧
    (∀ k z, k ≠ n % 196_608 → e.ldg.ring.get k z = d.ldg.ring.get k z)

/-- Draining the taps attributes exactly the energy that the bank meters measured. In every state with D00 on whose unit counters
are in canonical order and whose tap holds a complete interval, TAP_DRAIN answers a next state in which the energy attributed
out to all lease units and the unleased total together has grown by exactly the sum of the banks' outward energies in the tap,
plus the measured energy of gap intervals and unassigned strings; and the energy attributed in by the same for the inward
side. No truncation loses or invents a tenth of a nanojoule. (11_ledger_and_metering.md R345, 11_ledger_and_metering.md R346) -/
def Obligations.AttributedEnergySumsToTheMeter : Prop :=
  ∀ s : State, s.dev.down = 0 → SMap.wf s.dev.mtr.accs = true → s.dev.tapReady = true → s.dev.mtr.tap.count ≠ 0 →
    let tap := s.dev.mtr.tap
    let out (d : Dev) : Nat := (d.mtr.accs.map fun e => e.2.eOut).sum
    let into (d : Dev) : Nat := (d.mtr.accs.map fun e => e.2.eIn).sum
    ∃ t : State, exec .tapDrain s = .next t ∧ t.pending = s.pending ∧ SMap.wf t.dev.mtr.accs = true ∧
      out t.dev = out s.dev + ((List.range 16).map fun b => (tap.banks.get b (0, 0)).1).sum + (tapSum tap.gapCells).1 * 10 ^ 7 ∧
      into t.dev = into s.dev + ((List.range 16).map fun b => (tap.banks.get b (0, 0)).2).sum + (tapSum tap.gapCells).2 * 10 ^ 7 ∧
      t.dev.mtr.tap = Tap.init

/-- Whatever one DRAM device does to a line, the line is read as it was written. For a line that stands without poison, in a rank
and subchannel without a mark, where every error that the DRAM shows in the line lies in one device k of the ten: the read
delivers the 64 bytes stored, judged clean or corrected with device k blamed; and it is judged corrected, with device k
blamed, where exactly one symbol of the line is struck. (10_attached_memory.md R309, 10_attached_memory.md R310) -/
def Obligations.SingleDeviceFailureIsCorrected : Prop :=
  ∀ (d : Dev) (c ln k : Nat), k < 10 → d.flag MEMC_MARK_marked (c * 4 + d.memQ c ln) = false → (d.memChan c).poison.has ln = false →
    (∀ e ∈ d.mem.errs, e.ch = c → e.line = ln → e.dev = k) →
    let r := d.memFetch c ln
    r.2.1 = memBytes (d.memChan c).cells (ln * 64) 64 ∧ (r.1 = .clean ∨ r.1 = .corrected k) ∧
    (∀ e, d.mem.errs = [e] → e.ch = c → e.line = ln → e.cw < 4 → e.xor % 2 ^ 16 ≠ 0 → r.1 = .corrected k)

/-- A marked device is erased: its failure is corrected, and a second one detected, never corrected. For a line that stands
without poison, in a rank and subchannel with device m marked. Where every error of the line lies in device m, the read
delivers the 64 bytes stored and blames no device. Where the line's one error lies in another device, the read is
uncorrectable. (10_attached_memory.md R313) -/
def Obligations.MarkedDeviceIsErased : Prop :=
  ∀ (d : Dev) (c ln m : Nat), m < 10 → d.flag MEMC_MARK_marked (c * 4 + d.memQ c ln) = true →
    d.get MEMC_MARK_device (c * 4 + d.memQ c ln) = m → (d.memChan c).poison.has ln = false →
    let r := d.memFetch c ln
    ((∀ e ∈ d.mem.errs, e.ch = c → e.line = ln → e.dev = m) →
      r.2.1 = memBytes (d.memChan c).cells (ln * 64) 64 ∧ (r.1 = .clean ∨ r.1 = .erased)) ∧
    (∀ e, d.mem.errs = [e] → e.ch = c → e.line = ln → e.cw < 4 → e.dev < 10 → e.dev ≠ m → e.xor % 2 ^ 16 ≠ 0 → r.1 = .uncorrectable)

/-- A line written with poison reads as poison; stored clean again, it reads back. In a rank and subchannel without a mark, and
where the DRAM shows no error in the line: a line stored with poison is judged poisoned when it is read, and a line of 64
bytes stored without poison is judged clean and read as it was stored, whatever stood there before. Storing a line changes no
other byte of the channel, no other channel and no register, and keeps the channel's bytes in their canonical form.
(10_attached_memory.md R311, 10_attached_memory.md R310) -/
def Obligations.PoisonIsReadAsPoison : Prop :=
  ∀ (d : Dev) (c ln : Nat) (data : List Nat) (p : Bool), data.length = 64 → (∀ x ∈ data, x < 256) →
    let e := d.memStore c ln data p
    (d.flag MEMC_MARK_marked (c * 4 + d.memQ c ln) = false → (∀ x ∈ d.mem.errs, x.ch = c → x.line ≠ ln) →
      (p = true → (e.memFetch c ln).1 = .poison) ∧ (p = false → (e.memFetch c ln).1 = .clean ∧ (e.memFetch c ln).2.1 = data)) ∧
    (∀ a, (a < ln * 64 ∨ ln * 64 + 64 ≤ a) → memByte (e.memChan c).cells a = memByte (d.memChan c).cells a) ∧
    (∀ c', c' ≠ c → e.memChan c' = d.memChan c') ∧ e.regs = d.regs ∧
    (Memory.wf (d.memChan c).cells → Memory.wf (e.memChan c).cells)

/-- System lines and channel lines correspond one to one, as the map lays them out. With N channels in the map, N above 0: the
byte at system address A lies on channel (A >> 7) mod N at channel address (A / 128N) x 128 + (A mod 128); every system line
is found again from its channel and line, and every line of every channel of the map is that of its system line.
(10_attached_memory.md R306) -/
def Obligations.MemoryLinesAreSpreadOneToOne : Prop :=
  ∀ d : Dev, 0 < d.memN →
    (∀ a, (d.memLocate (a / 64)).1 = a / 2 ^ 7 % d.memN ∧
      (d.memLocate (a / 64)).2 * 64 + a % 64 = a / (128 * d.memN) * 128 + a % 128) ∧
    (∀ line, d.memSysLine (d.memLocate line).1 (d.memLocate line).2 = line) ∧
    (∀ c ln, c < d.memN → d.memLocate (d.memSysLine c ln) = (c, ln))

/-- Releasing the head of the PD receive FIFO shows the entry behind it. With entry m at the head of the receive FIFO and the rest
behind it: the release leaves the rest, in order; PD_RX_STATUS shows whether an entry waits, how many, and the header of the
new head, and the eight object registers show its objects, zero where it has fewer. No other register field and no other part
of the device changes. (17_service_port.md R494, 17_service_port.md R503) -/
def Obligations.ReceiveFifoGivesOutInOrder : Prop :=
  ∀ (d : Dev) (m : PdMsg) (rest : List PdMsg), d.pd.fifo = m :: rest →
    let e := d.rxRelease
    let head : PdMsg := rest.headD ⟨0, []⟩
    e.pd = { d.pd with fifo := rest } ∧ e.get PD_RX_STATUS_valid = (if rest = [] then 0 else 1) ∧
      e.get PD_RX_STATUS_count = rest.length % 8 ∧ e.get PD_RX_STATUS_header = head.header % 2 ^ 16 ∧
      (∀ k, k < 8 → e.get PD_RX_OBJ_obj k = head.objs.getD k 0 % 2 ^ 32) ∧
      (∀ (f : Field) (k : Nat),
        f.code ∉ [PD_RX_STATUS_valid.code, PD_RX_STATUS_count.code, PD_RX_STATUS_header.code, PD_RX_OBJ_obj.code] →
        e.get f k = d.get f k) ∧
      { e with regs := d.regs, pd := d.pd } = d

/-- REARM resumes at the lowest multiple of 3,000,000 above the last frame begun. Where a frame has begun since the cold start,
the frame at which the timebase resumes after a loss is a multiple of 3,000,000, above the last frame begun before the loss,
and no lower multiple is; where none has begun it is frame 0. (13_time_and_clocks.md R407, 20_power_states_and_startup.md
R546) -/
def Obligations.RearmResumesAtAMinute : Prop :=
  ∀ d : Dev,
    (d.ck.started = true →
      d.resumeFrame % 3_000_000 = 0 ∧ d.ck.last < d.resumeFrame ∧ ∀ m, m % 3_000_000 = 0 → d.ck.last < m → d.resumeFrame ≤ m) ∧
    (d.ck.started = false → d.resumeFrame = 0)

/-- Over every raw clock edge, ticks and the trim accumulator together keep exact time. With the trim within +-500,000 ppb, the
accumulator within +-10^9 and the count not about to wrap: an edge leaves the accumulator within +-10^9, the count grows by 0,
1 or 2, and 10^9 x count + accumulator grows by exactly 10^9 + trim. Nothing else of the device changes but the tick count.
(13_time_and_clocks.md R414) -/
def Obligations.TrimKeepsTime : Prop :=
  ∀ d : Dev, -500_000 ≤ toSigned 32 (d.get RTC_TRIM_ppb) → toSigned 32 (d.get RTC_TRIM_ppb) ≤ 500_000 →
    -1_000_000_000 < d.rtc.acc → d.rtc.acc < 1_000_000_000 → d.tick + 2 < 2 ^ 48 →
    let e := d.countEdge
    e.rtc.acc < 1_000_000_000 ∧ -1_000_000_000 < e.rtc.acc ∧ d.tick ≤ e.tick ∧ e.tick ≤ d.tick + 2 ∧
      (10 ^ 9 * (e.tick : Int) + e.rtc.acc = 10 ^ 9 * (d.tick + 1 : Int) + d.rtc.acc + toSigned 32 (d.get RTC_TRIM_ppb)) ∧
      (∀ (f : Field) (k : Nat), f.code ≠ RTC_TICK_LO_tick_lo.code → f.code ≠ RTC_TICK_HI_tick_hi.code → e.get f k = d.get f k) ∧
      { e with regs := d.regs, rtc := { e.rtc with acc := d.rtc.acc } } = d

/-- The dependency masks that the rails have at first start. After reset, for every rail below 96, its dependency mask holds
exactly the rails that the table names for it: D07 needs D10 and D11, D09 needs D10, D10 needs D08, D11 needs D08 and D10,
D12, D13 and D15 need D11, D14 and D16-D31 need D15, D32-D63 need D10 and D11; every other rail, the external ones among them,
has an empty mask. (R467) -/
def Obligations.DependencyMasksAtFirstStart : Prop :=
  ∀ r x, r < 96 →
    ((State.reset.dev.depMask r).testBit x = true ↔
      x ∈ (if r = 7 then [10, 11] else if r = 9 then [10] else if r = 10 then [8] else if r = 11 then [8, 10]
        else if r = 12 ∨ r = 13 ∨ r = 15 then [11] else if r = 14 ∨ (16 ≤ r ∧ r ≤ 31) then [15]
        else if 32 ≤ r ∧ r ≤ 63 then [10, 11] else []))

/-- A watchdog check-in is done, early, or bad, and changes nothing else. For every value written as a check-in: with the timer
running, the key 0x5A in bits [15:8], an enabled slot in [4:0] and every other bit zero, the slot's bit is set in WDT_DONE and
its epoch and tick stamped where the window is open, and set in the period's early mask where it is not; any other value, a
disabled slot or a stopped timer only counts in WDT_BAD_KICKS. In each case no other register field and no other part of the
device changes. (18_thermal_and_watchdog.md R517) -/
def Obligations.CheckInsAreSorted : Prop :=
  ∀ (d : Dev) (v : Nat),
    let slot := v % 32
    let good := d.flag WDT_CFG_running = true ∧ v = 0x5A00 + slot ∧ d.wdt.en.testBit slot = true
    let e := d.wdtKick v
    (good → d.wdtOpen = true → e.get WDT_DONE_done = (d.get WDT_DONE_done ||| 2 ^ slot) % 2 ^ 32 ∧
      e.wdt.last.get slot (0, 0) = (d.epoch, d.tick) ∧ (∀ k z, k ≠ slot → e.wdt.last.get k z = d.wdt.last.get k z) ∧
      (∀ (f : Field) (k : Nat), f.code ≠ WDT_DONE_done.code → e.get f k = d.get f k)) ∧
    (good → d.wdtOpen = false → e.get WDT_EARLY_early = (d.get WDT_EARLY_early ||| 2 ^ slot) % 2 ^ 32 ∧
      (∀ (f : Field) (k : Nat), f.code ≠ WDT_EARLY_early.code → e.get f k = d.get f k) ∧ e.wdt = d.wdt) ∧
    (¬good → e = d.bumpS WDT_BAD_KICKS_count WDT_BAD_KICKS_sat) ∧
    { e with regs := d.regs, wdt := d.wdt } = d

/-- What reset leaves, for values that the register tables give. The state after reset waits for no command. Its next ticket is 1;
no fault class is latched and no pin is asserted; no interrupt is pending or enabled; the MSI-X bits, the drip-tray queue, the
ticket rail and the ledger are empty; the Type-C state reads 1, alt_en 1, the VBUS limit 500 mA and the wait-retry time 100
ms; the acknowledged ledger number is all ones; every memory channel lists no byte; no lane, bank or loop has left its first
state. (04_faults_and_tickets.md R118, 04_faults_and_tickets.md R114, 03_register_pages_and_host_link.md R80,
17_service_port.md R503, 11_ledger_and_metering.md R358) -/
def Obligations.ResetValues : Prop :=
  let d := State.reset.dev
  State.reset.pending = [] ∧ d.nextTicket = 1 ∧ d.get FLT_STATUS_latched = 0 ∧ d.get FLT_STATUS_overflow = 0 ∧
    d.get FLT_STATUS_trip_n = 0 ∧ (∀ w, d.get IRQ_PEND_pend w = 0 ∧ d.get IRQ_EN_en w = 0) ∧ d.msixPend = [] ∧ d.flt.queue = [] ∧
    d.tkt.rail = [] ∧ d.ldg.next = 0 ∧ d.get PD_STATUS_tc_state = 1 ∧ d.get PD_CFG_alt_en = 1 ∧ d.get PD_ILIM_ma = 500 ∧
    d.get PD_TIMERS_wait_retry = 100 ∧ d.ldgAck = 2 ^ 64 - 1 ∧ (∀ c, Memory.wf (d.memChan c).cells ∧ (d.memChan c).cells = []) ∧
    (∀ l, d.laneState l = 0) ∧ (∀ b, d.bankMode b = 0) ∧ (∀ l, d.loopState l = 0)

/-- Every register access, page command and host-link event completes. One clause for each of REGISTER_WRITE, SNAP_READ,
PAGE_ENABLE_WRITE, PAGE_HIBERNATE_WRITE, BLOCK_RESET, HIF_LINK_RESET, PCIE_LINK_UP, BAR2_READ, BAR2_WRITE, RETURN_TO_D0 (more
where a command has several cases): under the clause's condition on state and operands, exec answers a next state with the
clause's effect on the device; the queue's rest is unchanged. A part of the device that the effect does not name keeps its
value. Completes asks that D00 is not held off. (00_scope.md R7, 03_register_pages_and_host_link.md R71,
03_register_pages_and_host_link.md R76, 03_register_pages_and_host_link.md R78, 03_register_pages_and_host_link.md R81) -/
def Obligations.PageAndLinkCommandsComplete : Prop :=
  (∀ (ch addr size val : Nat) (soon : Bool), Completes (.registerWrite ch addr size val soon) (fun d => addr < 2 ^ 26 ∧ ch < 2 ∧ d.channelUp ch ∧ size = 4 ∧ addr % 4 = 0) (fun d => d.busWrite ch addr (val % 2 ^ 32) soon)) ∧
  (∀ (ch addr size val : Nat) (soon : Bool), Completes (.registerWrite ch addr size val soon) (fun d => addr < 2 ^ 26 ∧ ch < 2 ∧ d.channelUp ch ∧ size = 8 ∧ addr % 8 = 0) (fun d => (d.busWrite ch addr (val % 2 ^ 32) soon).busWrite ch (addr + 4) (val / 2 ^ 32 % 2 ^ 32) soon)) ∧
  (∀ (ch addr size : Nat), Completes (.snapRead ch addr size) (fun d => addr < 2 ^ 26 ∧ ch < 2 ∧ d.channelUp ch ∧ d.readWaits ch addr size = false ∧ size = 4 ∧ addr % 4 = 0) (fun d => (d.busRead ch addr).2.emit .readData ch [addr, (d.busRead ch addr).1])) ∧
  (∀ (ch addr size : Nat), Completes (.snapRead ch addr size) (fun d => addr < 2 ^ 26 ∧ ch < 2 ∧ d.channelUp ch ∧ d.readWaits ch addr size = false ∧ size = 8 ∧ addr % 8 = 0)
      (fun d =>
        let lo := d.busRead ch addr
        let hi := lo.2.busRead ch (addr + 4)
        hi.2.emit .readData ch [addr, lo.1 + hi.1 * 2 ^ 32])) ∧
  (∀ (ch addr size : Nat), Completes (.snapRead ch addr size) (fun d => addr < 2 ^ 26 ∧ ch < 2 ∧ d.channelUp ch ∧ d.readWaits ch addr size = false ∧ barAccess addr size = false) (fun d =>
        (d.barRead ch addr size).2.emit .readData ch [addr, (d.barRead ch addr size).1])) ∧
  (∀ (ch addr size : Nat), Completes (.snapRead ch addr size) (fun d => addr < 2 ^ 26 ∧ ch < 2 ∧ d.channelUp ch ∧ d.readWaits ch addr size = true)
      (fun d => { d with readWait := d.readWait ++ [⟨false, false, ch, addr, size, [], []⟩] })) ∧
  (∀ (ch : Nat) (page : Nat) (en : Bool), Completes (.pageEnableWrite ch false page en) (fun d => assigned page ∧ d.takesWrite ch page ∧ d.enableOk page en) (fun d => (d.wokenBy page).ctrlTaken page en (bit (d.pageCtrl page) 2))) ∧
  (∀ (ch : Nat) (page : Nat) (en : Bool), Completes (.pageEnableWrite ch true page en) (fun d => assigned page ∧ d.takesPriv ch page ∧ d.enableOk page en ∧ d.get PAGE_CTRL_enable page < 2) (fun d => ((d.wokenBy page).privRecord ch 0 page 0x010 (d.pageCtrl page / 2 * 2 + b2n en) 0 rOK).ctrlTaken page en (bit (d.pageCtrl page) 2))) ∧
  (∀ (ch : Nat) (page : Nat) (hib : Bool), Completes (.pageHibernateWrite ch false page hib) (fun d => assigned page ∧ d.takesWrite ch page ∧ d.enableOk page (bit (d.pageCtrl page) 0)) (fun d => (d.wokenBy page).ctrlTaken page (bit (d.pageCtrl page) 0) hib)) ∧
  (∀ (ch : Nat) (page : Nat) (hib : Bool), Completes (.pageHibernateWrite ch true page hib) (fun d => assigned page ∧ d.takesPriv ch page ∧ d.enableOk page (bit (d.pageCtrl page) 0) ∧ d.get PAGE_CTRL_enable page < 2) (fun d => ((d.wokenBy page).privRecord ch 0 page 0x010 (4 * b2n hib + d.pageCtrl page % 4) 0 rOK).ctrlTaken page (bit (d.pageCtrl page) 0) hib)) ∧
  (∀ (ch page : Nat) (soon : Bool), Completes (.blockReset ch page soon) (fun d => assigned page ∧ d.takesPriv ch page ∧ d.covers ch scopeOPS ∧ d.get PAGE_CTRL_enable page < 2 ∧
        d.enableOk page (bit (d.pageCtrl page) 0) ∧ d.resetForbidden page = false ∧ d.resetsSnapshot page = false ∧
        ((d.wokenBy page).ctrlTaken page (bit (d.pageCtrl page) 0) (bit (d.pageCtrl page) 2)).accepts page 0 (resetCmd.under true)
          ⟨ch, page - blockOf page, 0x010, soon⟩)
      (fun d =>
        ((d.wokenBy page).ctrlTaken page (bit (d.pageCtrl page) 0) (bit (d.pageCtrl page) 2)).accepted page 0 (resetCmd.under true)
          ⟨ch, page - blockOf page, 0x010, soon⟩)) ∧
  (∀ (kind : Nat), Completes (.hifLinkReset kind) (fun d => d.linkCan kind) (fun d => d.linkReset.linkAfter kind)) ∧
  (∀ (width speed : Nat), Completes (.pcieLinkUp width speed) (fun d => d.railGood 6 ∧ width ∈ [1, 2, 4, 8] ∧ 1 ≤ speed ∧ speed ≤ 5) (fun d => ((d.put HIF_LINK_up 1).put HIF_LINK_width width).put HIF_LINK_speed speed)) ∧
  (∀ (offset n : Nat) (errs : List MemErr), Completes (.bar2Read offset n errs) (fun d => d.hostDecodes ∧ d.mustWait 0 false = false ∧ offset + n ≤ 2 ^ 34 ∧ d.clk ≠ 5 ∧ ((d.memErrs errs).memReadSpan (d.bar2Addr offset) n).2.1 = true)
      (fun d =>
        let r := (d.memErrs errs).memReadSpan (d.bar2Addr offset) n
        r.2.2.emit .readData 0 ((2 ^ 26 + offset) :: r.1))) ∧
  (∀ (offset n : Nat) (errs : List MemErr), Completes (.bar2Read offset n errs) (fun d => d.hostDecodes ∧ d.mustWait 0 false = false ∧ offset + n ≤ 2 ^ 34 ∧ d.clk = 5) (fun d => d.emit .ep 0 (List.replicate n 0xFF))) ∧
  (∀ (offset n : Nat) (errs : List MemErr), Completes (.bar2Read offset n errs) (fun d => d.hostDecodes ∧ d.mustWait 0 false)
      (fun d => { d with readWait := d.readWait ++ [⟨true, false, 0, offset, n, [], errs⟩] })) ∧
  (∀ (offset : Nat) (bytes : List (Nat × Nat)) (errs : List MemErr), Completes (.bar2Write offset bytes errs) (fun d => d.hostDecodes ∧ d.mustWait 0 false = false ∧ offset + spanOf bytes ≤ 2 ^ 34 ∧ d.clk ≠ 5 ∧ d.inHostRegion (d.bar2Addr offset) (spanOf bytes))
      (fun d =>
        let a := d.bar2Addr offset
        each (List.range ((a % 64 + spanOf bytes + 63) / 64)) (fun i (d : Dev) =>
          (d.memWrite (a / 64 + i) (enabledBytes a bytes (a / 64 + i))).2) (d.memErrs errs))) ∧
  (∀ (offset : Nat) (bytes : List (Nat × Nat)) (errs : List MemErr), Completes (.bar2Write offset bytes errs) (fun d => d.hostDecodes ∧ d.mustWait 0 false = false ∧ offset + spanOf bytes ≤ 2 ^ 34 ∧
        (d.clk = 5 ∨ d.inHostRegion (d.bar2Addr offset) (spanOf bytes) = false)) (fun d => d.bump HIF_BAR2_DROPS_count)) ∧
  (∀ (offset : Nat) (bytes : List (Nat × Nat)) (errs : List MemErr), Completes (.bar2Write offset bytes errs) (fun d => d.hostDecodes ∧ d.mustWait 0 false)
      (fun d => { d with ldg := { d.ldg with privWait := d.ldg.privWait ++ [⟨1, offset, 0, 0, bytes, errs⟩] } })) ∧
  (Completes .returnToD0 (fun _ => True) (fun d => { d with d3hot := false }))

/-- Every custody command and expiry completes. One clause for each of PRIV_WRITE_ENTER_QUEUE, CUS_NONCE, SIGN_IN,
SIGN_IN_VERIFY_DONE, CUS_OPEN, CUS_CLOSE, SESSION_EXPIRY, NONCE_EXPIRY, LOCKOUT_EXPIRY: under the clause's condition on state
and operands, exec answers a next state with the clause's effect on the device; the queue's rest is unchanged. A part of the
device that the effect does not name keeps its value. Completes asks that D00 is not held off.
(03_register_pages_and_host_link.md R84, 03_register_pages_and_host_link.md R86, 03_register_pages_and_host_link.md R87,
03_register_pages_and_host_link.md R88, 03_register_pages_and_host_link.md R89) -/
def Obligations.CustodyCommandsComplete : Prop :=
  (Completes .privWriteEnterQueue (fun _ => True)
      (fun d => (d.ldg.privWait.foldl Dev.retryWrite { d with ldg := { d.ldg with privWait := [] } }).retryReads)) ∧
  (∀ (c : Cmd), Completes (.cusNonce c) (fun d => d.accepts 0x002 1 cusNonce c) (fun d => d.accepted 0x002 1 cusNonce c)) ∧
  (∀ (c : Cmd), Completes (.signIn c) (fun d => d.accepts 0x002 2 signIn c) (fun d => d.accepted 0x002 2 signIn c)) ∧
  (∀ (j : SigJob) (rest : List SigJob), Completes .signInVerifyDone (fun d => d.isl.current = 2 ∧ d.isl.signIns = j :: rest)
      (fun d =>
        let d := { d.put CUS_STATUS_verify_busy 0 j.ch with isl := { d.isl with signIns := rest } }
        let e := d.signInError j.ch j.unit j.data
        let d := (d.put CUS_STATUS_last_error e j.ch).signInRecord j.ch e j.data
        let d := if e = 0 then d.signInPass j.ch (cusParse j.data) else d.signInFail j.ch
        (d.done j.ticket).engineFree)) ∧
  (∀ (c : Cmd), Completes (.cusOpen c) (fun d => d.accepts 0x002 3 cusOpen c) (fun d => d.accepted 0x002 3 cusOpen c)) ∧
  (∀ (c : Cmd), Completes (.cusClose c) (fun d => d.accepts 0x002 4 cusClose c) (fun d => d.accepted 0x002 4 cusClose c)) ∧
  (∀ (ch : Nat), Completes (.sessionExpiry ch) (fun d => d.get CUS_STATUS_phase ch = 3 ∧ d.isl.opened.get ch 0 + d.get CUS_REMAIN_seconds ch * 32_768 ≤ d.tick)
      (fun d =>
        let d := d.record 0x21 0 (d.sessionBody ch 5 2)
        let d := (({ d with isl := { d.isl with sessions := d.isl.sessions.put ch 0 } }).cusForget ch).put CUS_STATUS_phase 0 ch
        if d.railGood 1 then d.irqEdge 139 else d)) ∧
  (∀ (ch : Nat), Completes (.nonceExpiry ch) (fun d => !(ch ∈ d.isl.nonceDead)) (fun d => { d with isl := { d.isl with nonceDead := d.isl.nonceDead ++ [ch] } })) ∧
  (∀ (ch : Nat), Completes (.lockoutExpiry ch) (fun d => d.get CUS_STATUS_lockout ch = 1) (fun d => d.put CUS_STATUS_lockout 0 ch))

/-- Every DMA, interrupt and side-port command completes. One clause for each of DMA_RING_ENABLE, DMA_TAIL_WRITE,
DESCRIPTOR_FETCH, DESCRIPTOR_COMPLETE, DMA_HOST_ERROR, IRQ_SOURCE_EDGE, MSIX_DELIVERY, IRQ_PEND_WRITE, IRQ_EN_WRITE,
IRQ_TARGET_WRITE, INT_N_PULSE, INT_N_PULSE_END, SIDE_PORT_READ (more where a command has several cases): under the clause's
condition on state and operands, exec answers a next state with the clause's effect on the device; the queue's rest is
unchanged. A part of the device that the effect does not name keeps its value. Completes asks that D00 is not held off.
(03_register_pages_and_host_link.md R90, 03_register_pages_and_host_link.md R92, 03_register_pages_and_host_link.md R93,
03_register_pages_and_host_link.md R95, 03_register_pages_and_host_link.md R96, 03_register_pages_and_host_link.md R99) -/
def Obligations.DmaAndInterruptCommandsComplete : Prop :=
  (∀ (ch : Nat) (ring value : Nat), Completes (.dmaRingEnable ch false ring value) (fun d => ring < 16 ∧ d.takesWrite ch 0x006) (fun d => d.dmaEnable ring value)) ∧
  (∀ (ch : Nat) (ring value : Nat), Completes (.dmaRingEnable ch true ring value) (fun d => ring < 16 ∧ d.takesPriv ch 0x006) (fun d => (d.privRecord ch 0 0x006 (0x114 + 32 * ring) (value) 0 rOK).dmaEnable ring value)) ∧
  (∀ (ch : Nat) (ring value : Nat), Completes (.dmaTailWrite ch false ring value) (fun d => ring < 16 ∧ d.takesWrite ch 0x006) (fun d => d.dmaTail ring value)) ∧
  (∀ (ch : Nat) (ring value : Nat), Completes (.dmaTailWrite ch true ring value) (fun d => ring < 16 ∧ d.takesPriv ch 0x006) (fun d => (d.privRecord ch 0 0x006 (0x10C + 32 * ring) (value) 0 rOK).dmaTail ring value)) ∧
  (∀ (ring : Nat) (bytes : List Nat), Completes (.descriptorFetch ring bytes) (fun d => d.descMay ring (leNat (bytes.take 32)) ∧ d.dmaRing ring = [] ∧
        d.ownHeld 5 ring = false ∧ d.spaced ∧ d.railFull = false ∧
        (descParse (leBytes 32 (leNat (bytes.take 32))) (d.dmaBase ring + 32 * d.get DMA_RING_HEAD_head ring) 0).len ≠ 0)
      (fun d =>
        let head := d.get DMA_RING_HEAD_head ring
        let slot := d.dmaBase ring + 32 * head
        let x := descParse (leBytes 32 (leNat (bytes.take 32))) slot 0
        let d := (d.emit .hostRead ring [slot, 32]).put DMA_RING_HEAD_head ((head + 1) % d.dmaSize ring) ring
        let r := d.issue 0 0x006 0 (0x10C + 0x20 * ring) (descUnits x.space x.dev x.len)
        r.2.putRing ring (r.2.dmaRing ring ++ [{ x with ticket := r.1 }]))) ∧
  (∀ (ring : Nat) (data : List Nat) (errs : List MemErr) (x : Desc) (rest : List Desc) (m : Move) (e : Dev), Completes (.descriptorComplete ring data errs) (fun d => d.dmaRing ring = x :: rest ∧ d.ringLive ring ∧ (d.memErrs errs).descMove ring x data = (some m, e)) (fun _ => (e.descEnd ring x m).descZeros ring)) ∧
  (∀ (ring : Nat) (x : Desc) (rest : List Desc), Completes (.dmaHostError ring) (fun d => d.dmaRing ring = x :: rest ∧ d.ringLive ring)
      (fun d =>
        ((d.putRing ring rest).raiseWith F_DMA_HOST_ERROR 0x006 0 0 [x.ticket] false).descWriteBack ring x
          (descStatus x.dropped true x.poisoned 0) true)) ∧
  (∀ (src : Nat), Completes (.irqSourceEdge src) (fun d => irqSource src && d.railGood (irqDomain src)) (fun d => d.irqEdge src)) ∧
  (∀ (vector : Nat) (busMaster : Bool), Completes (.msixDelivery vector busMaster) (fun d => vector ∈ d.msixPend ∧ d.msixReady busMaster ∧ !bit (d.msixTable.get (4 * vector + 3) 1) 0)
      (fun d =>
        let d := { d with msixPend := d.msixPend.filter (· != vector) }
        d.emit .msix vector [d.msixTable.get (4 * vector) 0, d.msixTable.get (4 * vector + 1) 0, d.msixTable.get (4 * vector + 2) 0])) ∧
  (∀ (ch : Nat) (word val : Nat), Completes (.irqPendWrite ch false word val) (fun d => word < 32 ∧ d.takesWrite ch 0x003) (fun d => d.irqPendWrite word val)) ∧
  (∀ (ch : Nat) (word val : Nat), Completes (.irqPendWrite ch true word val) (fun d => word < 32 ∧ d.takesPriv ch 0x003) (fun d => (d.privRecord ch 0 0x003 (0x100 + 4 * word) (val) 0 rOK).irqPendWrite word val)) ∧
  (∀ (ch : Nat) (word val : Nat), Completes (.irqEnWrite ch false word val) (fun d => word < 32 ∧ d.takesWrite ch 0x003) (fun d => d.irqEnWrite word val)) ∧
  (∀ (ch : Nat) (word val : Nat), Completes (.irqEnWrite ch true word val) (fun d => word < 32 ∧ d.takesPriv ch 0x003) (fun d => (d.privRecord ch 0 0x003 (0x180 + 4 * word) (val) 0 rOK).irqEnWrite word val)) ∧
  (∀ (ch : Nat) (word val : Nat), Completes (.irqTargetWrite ch false word val) (fun d => word < 128 ∧ d.takesWrite ch 0x003) (fun d => d.irqTargetWrite word val)) ∧
  (∀ (ch : Nat) (word val : Nat), Completes (.irqTargetWrite ch true word val) (fun d => word < 128 ∧ d.takesPriv ch 0x003) (fun d => (d.privRecord ch 0 0x003 (0x200 + 4 * word) (val) 0 rOK).irqTargetWrite word val)) ∧
  (∀ (src : Nat), Completes .intNPulse (fun d => d.intN = 0 ∧ d.irqNext 5 = some src) (fun d => ({ d with intN := src + 1 }).emit .intPulse 0 [src])) ∧
  (Completes .intNPulseEnd (fun d => !(d.intN = 0))
      (fun d =>
        let src := d.intN - 1
        let d := { d with intN := 0 }
        let d := (d.put GEN_SIDE_IRQ_LAST_source src).put GEN_SIDE_IRQ_COUNT_count (d.get GEN_SIDE_IRQ_COUNT_count + 1)
        ((d.putWbit IRQ_PEND_pend src false).summaryAgain src).irqDeliver src)) ∧
  (∀ (opcode addr n : Nat), Completes (.sidePortRead opcode addr n) (fun _ => opcode < 256 ∧ addr < 2 ^ 24) (fun d => d.sideRead opcode addr n))

/-- Every command of the planes and their exchange completes. One clause for each of FRAME_BOUNDARY, PLAN_ASSEMBLED,
FRAME_DEADLINE_MISS, LIMIT_TARGET_EXCHANGE, BOTH_COPIES_ENTRY_WRITE, HEALTH_BOUNDARY, D2D_LINK_LOST, D2D_RETRAIN, SCH_COMMIT,
ACTIVE_TABLE_WRITE, EST_RELOAD (more where a command has several cases): under the clause's condition on state and operands,
exec answers a next state with the clause's effect on the device; the queue's rest is unchanged. A part of the device that the
effect does not name keeps its value. Completes asks that D00 is not held off. (02_architecture.md R43, 02_architecture.md
R44, 02_architecture.md R45, 02_architecture.md R53, 02_architecture.md R54, 02_architecture.md R56, 02_architecture.md R58,
02_architecture.md R59, 02_architecture.md R60) -/
def Obligations.PlaneCommandsComplete : Prop :=
  (∀ (start : FrameStart), Completes (.frameBoundary start) (fun d => d.k03)
      (fun d =>
        (let d := d.adapt start.slack d.anyMissed
         let r := ({ d with time := d.time + 65_536 }).twnFrame (d.frame + 1)
         (((r.2.gridFrame start.grid).twnBefore r.1).beginAt r.1).twnAfter.flrIdle r.1).clockSettle)) ∧
  (∀ (lane : Nat), Completes (.planAssembled lane) (fun d => d.sch.strs.has lane && d.k03) (fun d => d.strUpd lane fun x => { x with assembled := true })) ∧
  (∀ (lane : Nat), Completes (.frameDeadlineMiss lane) (fun d => (d.str lane).missDue = true ∧ (d.str lane).misses ≠ 3) (fun d => ((d.strUpd lane fun x => { x with missDue := false }).bump GEN_DEADLINE_MISS_count).raise F_DEADLINE_MISS 0x000 lane)) ∧
  (∀ (lane : Nat), Completes (.frameDeadlineMiss lane) (fun d => (d.str lane).missDue = true ∧ (d.str lane).misses = 3)
      (fun d =>
        (((d.strUpd lane fun x => { x with missDue := false }).bump GEN_DEADLINE_MISS_count).raise F_DEADLINE_MISS 0x000 lane).raise
          F_DEADLINE_MISS_3 0x000 lane)) ∧
  (Completes .limitTargetExchange (fun d => d.railGood 12 && d.k03) (fun d => d.limExchange)) ∧
  (Completes .bothCopiesEntryWrite (fun d => d.railGood 12 && d.k03)
      (fun d =>
        let keys := d.returning
        d.writeEntries.clearFailed keys)) ∧
  (Completes .healthBoundary (fun d => d.k03 && d.atHealth && d.railGood 11) (fun d => d.healthBoundary)) ∧
  (∀ (die : Nat), Completes (.d2dLinkLost die) (fun d => die < 8 ∧ d.dieLost.testBit die = false ∧ d.railGood 11)
      (fun d =>
        (let d := { d with dieLost := setBit d.dieLost die }
         (each (dieLanes die) (fun l (d : Dev) =>
           if d.laneState l = 3 ∨ d.laneState l = 4 then
             (d.putFrm l { d.frm l with runNext := false }).laneEnter l 5 9
           else d) d).raise F_D2D_LOST 0x000 die 0).clockSettle)) ∧
  (∀ (die : Nat), Completes (.d2dRetrain die) (fun d => d.dieLost.testBit die && d.railGood 11) (fun d => ({ d with dieTraining := setBit d.dieTraining die }).clockSettle)) ∧
  (∀ (ch : Nat) (soon : Bool), Completes (.schCommit ch soon) (fun d => d.accepts 0x015 0 commitCmd ⟨ch, 0, 0x100, soon⟩) (fun d => d.accepted 0x015 0 commitCmd ⟨ch, 0, 0x100, soon⟩)) ∧
  (∀ (ch off val : Nat), Completes (.activeTableWrite ch off val) (fun d => d.takesTable ch 1 off ∧ d.mustWait ch true = false ∧ d.get CUS_STATUS_phase ch = 3 ∧ d.covers ch scopeOPS ∧
        d.ldgReserve = false ∧ limLegal off (d.limRead d.sch.active off) val ∧ limFields off ≠ []) (fun d => (d.activeWrite off val).privRecord ch 1 1 off val 0 rOK)) ∧
  (∀ (ch : Nat) (soon : Bool), Completes (.estReload ch soon) (fun d => d.mustWait ch (estReloadCmd.judge 0x017 0 ⟨ch, 0, 0x100, soon⟩ d).priv = false ∧ d.wakeCause.accepts 0x017 0 estReloadCmd ⟨ch, 0, 0x100, soon⟩) (fun d => d.wakeCause.accepted 0x017 0 estReloadCmd ⟨ch, 0, 0x100, soon⟩))

/-- Every fault, acknowledgement and ticket command completes. One clause for each of FAULT_RAISE, DRIP_APPEND, FLT_ACK, FLT_TRIP,
RELEASE_PINS, ESTOP_ASSERT, ESTOP_RELEASE, TICKET_WAIT_TAKE, TICKET_LOOKUP, TICKET_LOOKUP_DONE (more where a command has
several cases): under the clause's condition on state and operands, exec answers a next state with the clause's effect on the
device; the queue's rest is unchanged. A part of the device that the effect does not name keeps its value. Completes asks that
D00 is not held off. (04_faults_and_tickets.md R108, 04_faults_and_tickets.md R110, 04_faults_and_tickets.md R111,
04_faults_and_tickets.md R114, 04_faults_and_tickets.md R116, 04_faults_and_tickets.md R117, 04_faults_and_tickets.md R118,
04_faults_and_tickets.md R124) -/
def Obligations.FaultAndTicketCommandsComplete : Prop :=
  (∀ (code loc detail : Nat), Completes (.faultRaise code loc detail) (fun _ => faultKnown code && faultPlace code loc) (fun d => (d.collect code loc detail).clockSettle)) ∧
  (Completes .dripAppend (fun d => d.railGood 3) (fun d => d.dripAppend)) ∧
  (∀ (c : Cmd), Completes (.fltAck c) (fun d => d.accepts 0x004 1 fltAck c) (fun d => d.accepted 0x004 1 fltAck c)) ∧
  (∀ (c : Cmd), Completes (.fltTrip c) (fun d => d.accepts 0x004 2 fltTrip c) (fun d => d.accepted 0x004 2 fltTrip c)) ∧
  (∀ (c : Cmd), Completes (.releasePins c) (fun d => d.accepts 0x004 3 releasePins c) (fun d => d.accepted 0x004 3 releasePins c)) ∧
  (Completes .estopAssert (fun d => !(d.flag FLT_STATUS_estop)) (fun d => (((d.put FLT_STATUS_estop 1).irqEdge 128).raiseEstop false).driveTrip)) ∧
  (Completes .estopRelease (fun d => d.flag FLT_STATUS_estop) (fun d => (d.put FLT_STATUS_estop 0).driveTrip)) ∧
  (∀ (h : HeldCmd) (rest : List HeldCmd), Completes .ticketWaitTake (fun d => d.tkt.held = h :: rest ∧ h.cmd.ch < 2 ∧ ({ d with tkt := { d.tkt with held := rest } } : Dev).reaches h.cmd.ch h.page)
      (fun d =>
        let d := { d with tkt := { d.tkt with held := rest } }
        let x := (heldCmd h.page h.op h.cmd.arg).under h.priv
        ((d.take h.page h.op h.cmd (x.judge h.page h.op h.cmd d) (x.effect h.page h.cmd) (x.refused h.page h.cmd)).afterCmd h.page).retryReads)) ∧
  (∀ (ch : Nat) (hi : Nat), Completes (.ticketLookup ch false hi) (fun d => d.takesWrite ch 0x005) (fun d => d.startLookup ch (hi % 2 ^ 16))) ∧
  (∀ (ch : Nat) (hi : Nat), Completes (.ticketLookup ch true hi) (fun d => d.takesPriv ch 0x005) (fun d => (d.privRecord ch 0 0x005 (0x124) (hi) 0 rOK).startLookup ch (hi % 2 ^ 16))) ∧
  (∀ (ch : Nat) (i : Nat) (t : Ticket), Completes (.ticketLookupDone ch) (fun d => ch ∈ d.tkt.lookups ∧ d.ticketAt (d.get2 TKT_LOOKUP_LO_ticket_lo TKT_LOOKUP_HI_ticket_hi ch) = some (i, t))
      (fun d =>
        (((({ d with tkt := { d.tkt with lookups := d.tkt.lookups.filter (· != ch) } }).put TKT_LOOKUP_RESULT_found 1 ch).put
          TKT_LOOKUP_RESULT_state t.state ch).put TKT_LOOKUP_RESULT_index i ch).retryReads)) ∧
  (∀ (ch : Nat), Completes (.ticketLookupDone ch) (fun d => ch ∈ d.tkt.lookups ∧ d.ticketAt (d.get2 TKT_LOOKUP_LO_ticket_lo TKT_LOOKUP_HI_ticket_hi ch) = none)
      (fun d =>
        (((({ d with tkt := { d.tkt with lookups := d.tkt.lookups.filter (· != ch) } }).put TKT_LOOKUP_RESULT_found 0 ch).put
          TKT_LOOKUP_RESULT_state 0 ch).put TKT_LOOKUP_RESULT_index 0 ch).retryReads))

/-- Every event of a lane completes. One clause for each of CODEWORD_RECEIVED, LOSS_OF_SIGNAL, LOSS_OF_SIGNAL_CLEAR,
TRAINING_BLOCK_RECEIVED, COEFF_TIMEOUT, RX_READY, TRAINING_COMPLETE, TRAINING_FAIL, SQUELCH_WAIT_END, DELAY_MEASURED (more
where a command has several cases): under the clause's condition on state and operands, exec answers a next state with the
clause's effect on the device; the queue's rest is unchanged. A part of the device that the effect does not name keeps its
value. Completes asks that D00 is not held off. (05_string_lanes.md R136, 05_string_lanes.md R138, 05_string_lanes.md R139,
05_string_lanes.md R140, 05_string_lanes.md R143, 05_string_lanes.md R151, 05_string_lanes.md R153) -/
def Obligations.LaneEventsComplete : Prop :=
  (∀ (lane : Nat) (symbols : List Nat), Completes (.codewordReceived lane symbols) (fun d => d.laneOn lane ∧ 2 ≤ d.laneState lane ∧ d.laneState lane ≤ 5 ∧ d.flag LNK_STATUS_cw_lock lane = false ∧
        (d.rxWord lane symbols).1.bad = false ∧ (d.lane lane).cwGood < 63)
      (fun d =>
        (let w := d.rxWord lane symbols
         let d := d.rxKeep lane w
         let x := d.lane lane
         d.putLane lane { x with cwGood := x.cwGood + 1 }).clockSettle)) ∧
  (∀ (lane : Nat) (symbols : List Nat), Completes (.codewordReceived lane symbols) (fun d => d.laneOn lane ∧ 2 ≤ d.laneState lane ∧ d.laneState lane ≤ 5 ∧ d.flag LNK_STATUS_cw_lock lane = false ∧
        (d.rxWord lane symbols).1.bad = false ∧ 63 ≤ (d.lane lane).cwGood)
      (fun d =>
        (let w := d.rxWord lane symbols
         let d := d.rxKeep lane w
         let x := d.lane lane
         let d := d.putLane lane { x with cwGood := x.cwGood + 1 }
         (d.put LNK_STATUS_cw_lock 1 lane).putLane lane { d.lane lane with cwBad := [] }).clockSettle)) ∧
  (∀ (lane : Nat) (symbols : List Nat), Completes (.codewordReceived lane symbols) (fun d => d.laneOn lane ∧ 2 ≤ d.laneState lane ∧ d.laneState lane ≤ 5 ∧ d.flag LNK_STATUS_cw_lock lane = false ∧
        (d.rxWord lane symbols).1.bad = true)
      (fun d =>
        (let w := d.rxWord lane symbols
         let d := d.rxKeep lane w
         let x := d.lane lane
         d.putLane lane { x with cwGood := 0, rxOffset := (x.rxOffset + 1) % 700 }).clockSettle)) ∧
  (∀ (lane : Nat) (symbols : List Nat), Completes (.codewordReceived lane symbols) (fun d => d.laneOn lane ∧ 2 ≤ d.laneState lane ∧ d.laneState lane ≤ 5 ∧ d.flag LNK_STATUS_cw_lock lane ∧
        (d.rxWord lane symbols).1.bad = false ∧ (((false :: (d.lane lane).cwBad).take 64).filter id).length < 16)
      (fun d =>
        (let w := d.rxWord lane symbols
         let d := d.rxKeep lane w
         let x := d.lane lane
         let d := d.laneCorr lane w.1.corr
         d.putLane lane { d.lane lane with cwBad := (false :: x.cwBad).take 64 }).clockSettle)) ∧
  (∀ (lane : Nat) (symbols : List Nat), Completes (.codewordReceived lane symbols) (fun d => d.laneOn lane ∧ 2 ≤ d.laneState lane ∧ d.laneState lane ≤ 5 ∧ d.flag LNK_STATUS_cw_lock lane ∧
        (d.rxWord lane symbols).1.bad = true ∧ (((true :: (d.lane lane).cwBad).take 64).filter id).length < 16)
      (fun d =>
        (let w := d.rxWord lane symbols
         let d := d.rxKeep lane w
         let x := d.lane lane
         let d := d.laneCount lane LNK_UNCORR_count 1 1
         (d.putLane lane { d.lane lane with cwBad := (true :: x.cwBad).take 64 }).raise F_LANE_UNCORRECTABLE (lanePageOf lane) lane).clockSettle)) ∧
  (∀ (lane : Nat) (symbols : List Nat), Completes (.codewordReceived lane symbols) (fun d => d.laneOn lane ∧ 2 ≤ d.laneState lane ∧ d.laneState lane ≤ 5 ∧ d.flag LNK_STATUS_cw_lock lane ∧
        (d.rxWord lane symbols).1.bad = true ∧ 16 ≤ (((true :: (d.lane lane).cwBad).take 64).filter id).length)
      (fun d =>
        (let w := d.rxWord lane symbols
         let d := d.rxKeep lane w
         let x := d.lane lane
         let d := d.laneCount lane LNK_UNCORR_count 1 1
         ((d.putLane lane { d.lane lane with cwBad := (true :: x.cwBad).take 64 }).lockLost lane true).raise F_LANE_UNCORRECTABLE
           (lanePageOf lane) lane).clockSettle)) ∧
  (∀ (lane : Nat) (symbols : List Nat), Completes (.codewordReceived lane symbols) (fun d => d.laneOn lane ∧ d.laneState lane = 6)
      (fun d =>
        (let r := prbs31Bits 1_400 (d.lane lane).loopGen
         let near := d.get LNK_STATUS_loop_mode lane == 1
         let d := if near then d.putLane lane { d.lane lane with loopGen := r.2 } else d
         each (d.rxBits lane (if near then (pamSymbols r.1).map (pamInvert (d.lane lane).txInv) else symbols))
           (fun b (d : Dev) => d.prbsBit lane b) d).clockSettle)) ∧
  (∀ (lane : Nat), Completes (.lossOfSignal lane) (fun d => d.laneOn lane ∧ d.flag LNK_STATUS_los lane = false ∧ isTwin lane ∧ d.laneState lane < 2) (fun d => (d.put LNK_STATUS_los 1 lane).clockSettle)) ∧
  (∀ (lane : Nat), Completes (.lossOfSignal lane) (fun d => d.laneOn lane ∧ d.flag LNK_STATUS_los lane = false ∧ isTwin lane = false ∧ 2 ≤ d.laneState lane ∧ d.laneState lane ≤ 5)
      (fun d =>
        (let d := d.put LNK_STATUS_los 1 lane
         let d := d.put LNK_GRP_LOS_los (setBit (d.get LNK_GRP_LOS_los (lane / 16)) (lane % 16)) (lane / 16)
         let st := d.laneState lane
         let d := d.laneCount lane LNK_LOL_count 3 1
         let d := if d.leaving lane then d else d.enterTrain lane 6 false
         if st = 4 then d.raise F_LANE_LOCK_LOST (lanePageOf lane) lane else d).clockSettle)) ∧
  (∀ (lane : Nat), Completes (.lossOfSignalClear lane) (fun d => d.laneOn lane ∧ isTwin lane = false)
      (fun d =>
        (let d := d.put LNK_STATUS_los 0 lane
         d.put LNK_GRP_LOS_los (clrBit (d.get LNK_GRP_LOS_los (lane / 16)) (lane % 16)) (lane / 16)).clockSettle)) ∧
  (∀ (lane word : Nat), Completes (.trainingBlockReceived lane word) (fun d => d.trains lane ∧ bits word 29 3 = 0 ∧ crc8Control word = word % 256 ∧ (d.lane lane).coeffWord = word ∧
        (d.lane lane).coeffSeen = 2)
      (fun d =>
        (let d := d.putLane lane { d.lane lane with marker := true }
         (d.putLane lane { d.lane lane with coeffWord := word, coeffSeen := 3 }).actCoeff lane word).clockSettle)) ∧
  (∀ (lane word : Nat), Completes (.trainingBlockReceived lane word) (fun d => d.trains lane ∧ bits word 29 3 = 1 ∧ crc8Control word = word % 256 ∧ (d.lane lane).infoWord = word ∧
        (d.lane lane).infoSeen = 2)
      (fun d =>
        (let d := d.putLane lane { d.lane lane with marker := true }
         (d.putLane lane { d.lane lane with infoWord := word, infoSeen := 3 }).actInfo lane word).clockSettle)) ∧
  (∀ (lane : Nat), Completes (.coeffTimeout lane) (fun d => d.laneOn lane ∧ d.laneState lane = 1 ∧ (d.lane lane).squelched = false ∧ (d.lane lane).heldByClock = false ∧
        ((d.lane lane).rqPreset ≠ 0 ∨ (d.lane lane).rqPre ≠ 0 ∨ (d.lane lane).rqMain ≠ 0 ∨ (d.lane lane).rqPost ≠ 0)) (fun d => (d.trainFail lane 3).clockSettle)) ∧
  (∀ (lane upper middle lower : Nat), Completes (.rxReady lane upper middle lower) (fun d => d.trains lane ∧ d.flag LNK_STATUS_rx_ready lane = false ∧ 12 ≤ upper ∧ 12 ≤ middle ∧ 12 ≤ lower)
      (fun d =>
        (let x := d.lane lane
         let told := d.coeffOut lane
         let d := ((d.eyePut lane upper middle lower).put LNK_STATUS_rx_ready 1 lane).putLane lane { x with sentReady := true }
         (d.trainRetell lane told).readyJudge lane).clockSettle)) ∧
  (∀ (lane upper middle lower : Nat), Completes (.rxReady lane upper middle lower) (fun d => d.laneOn lane ∧ d.flag LNK_STATUS_rx_ready lane)
      (fun d =>
        (((d.put LNK_EYE_upper (min upper 255) lane).put LNK_EYE_middle (min middle 255) lane).put LNK_EYE_lower
           (min lower 255) lane).clockSettle)) ∧
  (∀ (lane duration : Nat), Completes (.trainingComplete lane duration) (fun d => d.trains lane ∧ (d.lane lane).further = true ∧ d.flag LNK_STATUS_far_ready lane ∧
        (d.lane lane).infoValid = true ∧ d.k03 = true)
      (fun d =>
        (let x := d.lane lane
         let d := (d.put LNK_TRAIN_duration (min duration 0xFFFF) lane).putLane lane
           { x with scrambler := 2 ^ 31 - 1, cwGood := 0, cwBad := [], hdrGood := 0, hdrBad := 0 }
         (d.laneEnter lane 2 2).progress x.enTkt 1).clockSettle)) ∧
  (∀ (lane reason : Nat), Completes (.trainingFail lane reason) (fun d => d.laneOn lane ∧ (d.lane lane).squelched = false ∧ (d.lane lane).heldByClock = false ∧
        d.failHolds lane reason)
      (fun d =>
        (let t := (d.lane lane).enTkt
         let d := (d.put LNK_TRAIN_fail_reason reason lane).raiseWith F_LANE_TRAIN_FAIL (lanePageOf lane) lane reason [t] false
         (d.putLane lane { d.lane lane with enTkt := 0, squelched := true }).enterTrain lane 5 true).clockSettle)) ∧
  (∀ (lane : Nat), Completes (.squelchWaitEnd lane) (fun d => d.laneOn lane ∧ d.laneState lane = 1 ∧ (d.lane lane).squelched = true)
      (fun d =>
        ((((d.putLane lane { d.lane lane with squelched := false, rqPreset := 1, sentReady := false, coeffSeen := 0, infoSeen := 0 }).txPreset
           lane 1).bump LNK_TRAIN_attempts lane).trainTell lane).clockSettle)) ∧
  (∀ (lane rtt : Nat), Completes (.delayMeasured lane rtt) (fun d => d.measures lane ∧ 32_000 < rtt - d.get LNK_DELAY_turnaround lane) (fun d => (d.trainFail lane 7).clockSettle)) ∧
  (∀ (lane rtt : Nat), Completes (.delayMeasured lane rtt) (fun d => d.measures lane ∧ rtt - d.get LNK_DELAY_turnaround lane ≤ 32_000 ∧ isTwin lane = false ∧
        ((d.lane lane).measured = true ∨ (d.lane lane).keepAdv = true) ∧
        absDiff (rtt - d.get LNK_DELAY_turnaround lane) (d.lane lane).lastOneWay ≤ 16)
      (fun d =>
        (let twice := rtt - d.get LNK_DELAY_turnaround lane
         (((d.put LNK_DELAY_one_way (twice / 2) lane).putLane lane
           { d.lane lane with disagree := 0, keepAdv := false, lastOneWay := twice }).enterEnum lane 3).dieHold lane).clockSettle)) ∧
  (∀ (lane rtt : Nat), Completes (.delayMeasured lane rtt) (fun d => d.measures lane ∧ rtt - d.get LNK_DELAY_turnaround lane ≤ 32_000 ∧ isTwin lane = false ∧
        (d.lane lane).measured = false ∧ (d.lane lane).keepAdv = false)
      (fun d =>
        ((d.put LNK_DELAY_one_way ((rtt - d.get LNK_DELAY_turnaround lane) / 2) lane).stepAdvance lane (rtt - d.get LNK_DELAY_turnaround lane)).clockSettle)) ∧
  (∀ (lane rtt : Nat), Completes (.delayMeasured lane rtt) (fun d => d.measures lane ∧ rtt - d.get LNK_DELAY_turnaround lane ≤ 32_000 ∧ isTwin lane = true)
      (fun d =>
        (let x := d.lane lane
         let d := ((d.put LNK_DELAY_one_way ((rtt - d.get LNK_DELAY_turnaround lane) / 2) lane).laneEnter lane 4 3).done x.enTkt
         d.putLane lane { d.lane lane with enTkt := 0 }).clockSettle))

/-- Every lane command completes. One clause for each of LANE_ENABLE, LANE_DISABLE, LANE_SAFE, LANE_ENUMERATE, LANE_RETRAIN,
LANE_LOOP, LOOP_EXIT, LANE_CLEAR_COUNTERS, D2D_LINK_RETRAINED, TIME_SRC_WRITE: under the clause's condition on state and
operands, exec answers a next state with the clause's effect on the device; the queue's rest is unchanged. A part of the
device that the effect does not name keeps its value. Completes asks that D00 is not held off. (05_string_lanes.md R132,
05_string_lanes.md R148, 05_string_lanes.md R149, 05_string_lanes.md R150, 05_string_lanes.md R154, 05_string_lanes.md R156) -/
def Obligations.LaneCommandsComplete : Prop :=
  (∀ (twin : Bool) (c : Cmd), Completes (.laneEnable twin c) (fun d => d.accepts (laneCmdPage twin c) 1 laneEnable c) (fun d => (d.accepted (laneCmdPage twin c) 1 laneEnable c).clockSettle)) ∧
  (∀ (twin : Bool) (c : Cmd), Completes (.laneDisable twin c) (fun d => d.accepts (laneCmdPage twin c) 2 laneDisable c) (fun d => (d.accepted (laneCmdPage twin c) 2 laneDisable c).clockSettle)) ∧
  (∀ (twin : Bool) (c : Cmd), Completes (.laneSafe twin c) (fun d => d.accepts (laneCmdPage twin c) 3 laneSafe c) (fun d => (d.accepted (laneCmdPage twin c) 3 laneSafe c).clockSettle)) ∧
  (∀ (twin : Bool) (c : Cmd), Completes (.laneEnumerate twin c) (fun d => d.accepts (laneCmdPage twin c) 4 laneEnumerate c) (fun d => (d.accepted (laneCmdPage twin c) 4 laneEnumerate c).clockSettle)) ∧
  (∀ (twin : Bool) (c : Cmd), Completes (.laneRetrain twin c) (fun d => d.accepts (laneCmdPage twin c) 5 laneRetrain c) (fun d => (d.accepted (laneCmdPage twin c) 5 laneRetrain c).clockSettle)) ∧
  (∀ (twin : Bool) (c : Cmd), Completes (.laneLoop twin c) (fun d => d.accepts (laneCmdPage twin c) 6 laneLoop c) (fun d => (d.accepted (laneCmdPage twin c) 6 laneLoop c).clockSettle)) ∧
  (∀ (twin : Bool) (c : Cmd), Completes (.loopExit twin c) (fun d => d.accepts (laneCmdPage twin c) 7 laneLoopExit c) (fun d => (d.accepted (laneCmdPage twin c) 7 laneLoopExit c).clockSettle)) ∧
  (∀ (twin : Bool) (c : Cmd), Completes (.laneClearCounters twin c) (fun d => d.accepts (laneCmdPage twin c) 8 laneClear c) (fun d => (d.accepted (laneCmdPage twin c) 8 laneClear c).clockSettle)) ∧
  (∀ (die : Nat), Completes (.d2dLinkRetrained die) (fun d => d.dieLost.testBit die && d.dieTraining.testBit die)
      (fun d =>
        (let d := { d with dieLost := clrBit d.dieLost die, dieTraining := clrBit d.dieTraining die }
         each (dieLanes die) (fun l d =>
           if (d : Dev).laneState l = 5 ∧ d.get LNK_HISTORY_reason l = 9 then d.enterEnum l 10 else d) d).clockSettle)) ∧
  (∀ (ch val : Nat), Completes (.timeSrcWrite ch val) (fun d => (bit val 9 = false ∨ bits val 0 9 ≤ 3) ∧ d.takesPriv ch 0x007) (fun d => (d.privRecord ch 0 0x007 (0x100) (val) 0 rOK).timeSrcWrite val))

/-- Every command of the frame protocol completes. One clause for each of LANE_FRAME_LAUNCH, UPSTREAM_FRAME_RECEIVED,
MISSING_UPSTREAM_FRAME, EPOCH_RAISE, MGMT_BLOCK_RECEIVED, MGMT_RETRANSMIT, INVENTORY_RETRY, LANE_ENTER_RUN, MAP_RELEASE,
MAP_DEFAULT, B_SET, MBX_SEND, FRM_INVENTORY, MBX_RX_RELEASE (more where a command has several cases): under the clause's
condition on state and operands, exec answers a next state with the clause's effect on the device; the queue's rest is
unchanged. A part of the device that the effect does not name keeps its value. Completes asks that D00 is not held off.
(06_frame_protocol.md R167, 06_frame_protocol.md R170, 06_frame_protocol.md R185, 06_frame_protocol.md R186,
06_frame_protocol.md R187, 06_frame_protocol.md R189, 06_frame_protocol.md R190, 06_frame_protocol.md R195,
06_frame_protocol.md R196) -/
def Obligations.FrameCommandsComplete : Prop :=
  (∀ (lane : Nat) (soon : Bool), Completes (.laneFrameLaunch lane soon) (fun d => d.launches lane ∧ ((d.lane lane).disTkt = 0 ∨ (d.lane lane).postureLeft ≠ 0))
      (fun d =>
        (let x := d.lane lane
         let f := d.frame + (if x.advance = 0 then 0 else 1)
         let d := if x.advance = 0 || !d.sch.strs.has lane then d else d.strUpd lane (Str.judge f)
         let r := d.downFill lane f soon
         let d := if r.1.planValid = 0 then d else
           d.strUpd lane fun x => { x with edge := ((f + 1, r.2.getD []) :: x.edge).take 10 }
         let d := if x.disTkt = 0 then d else d.putLane lane { x with postureLeft := x.postureLeft - 1 }
         let m := if r.1.mgmtOpen = 1 then d.mgmtNextBlock lane else ([], d)
         let d := m.2
         let s := match r.2 with
           | some p => d.planSlots lane p
           | none => []
         let b := if r.1.mapId = 0 then [] else d.bSlots lane
         let mgmt : List PayField := if m.1.isEmpty then [] else [(160, 1024, beNat m.1)]
         let fields := (0, 160, r.1.word) :: mgmt ++ fieldSort (s ++ b)
         (d.emit .frame lane (f :: fields.flatMap fun x => [x.1, x.2.1, x.2.2])).lineSend lane fields).clockSettle)) ∧
  (∀ (lane : Nat) (soon : Bool), Completes (.laneFrameLaunch lane soon) (fun d => d.launches lane ∧ (d.lane lane).disTkt ≠ 0 ∧ (d.lane lane).postureLeft = 0) (fun d => (d.enterDown lane 1).clockSettle)) ∧
  (∀ (lane payload : Nat) (bad : List Nat) (corr : Nat) (flrFull : Bool), Completes (.upstreamFrameReceived lane payload bad corr flrFull) (fun d => d.hears lane ∧ d.flag LNK_STATUS_frame_lock lane = false ∧ d.rxFrame lane = some (payload, bad, corr))
      (fun d =>
        (let hdr := payField payload 0 160
         (d.rxTake lane).alignHeader lane (!(decide (0 ∈ bad)) && hdrGood hdr && hdrField hdr 0 3 == 10 && hdrField hdr 54 55 != 3)
           (hdrField hdr 4 35) (2 ^ 32)).clockSettle)) ∧
  (∀ (lane payload : Nat) (bad : List Nat) (corr : Nat) (flrFull : Bool), Completes (.upstreamFrameReceived lane payload bad corr flrFull) (fun d => d.hears lane ∧ d.flag LNK_STATUS_frame_lock lane ∧ 3 ≤ d.laneState lane ∧ 0 ∉ bad ∧
        hdrGood (payField payload 0 160) ∧ hdrField (payField payload 0 160) 0 3 = 10 ∧
        hdrField (payField payload 0 160) 54 55 ≠ 3 ∧ d.rxFrame lane = some (payload, bad, corr)) (fun d =>
        (((d.rxTake lane).putLane lane { (d.rxTake lane).lane lane with hdrBad := 0 }).framePlaced lane payload bad true corr flrFull).clockSettle)) ∧
  (∀ (lane payload : Nat) (bad : List Nat) (corr : Nat) (flrFull : Bool), Completes (.upstreamFrameReceived lane payload bad corr flrFull) (fun d => d.hears lane ∧ d.flag LNK_STATUS_frame_lock lane ∧ d.laneState lane = 2 ∧ 0 ∉ bad ∧
        hdrGood (payField payload 0 160) ∧ hdrField (payField payload 0 160) 0 3 = 10 ∧
        hdrField (payField payload 0 160) 54 55 ≠ 3 ∧ d.rxFrame lane = some (payload, bad, corr)) (fun d =>
        (((d.rxTake lane).putLane lane { (d.rxTake lane).lane lane with hdrBad := 0 }).alignFrame lane payload bad true corr flrFull).clockSettle)) ∧
  (∀ (lane : Nat) (flrFull : Bool), Completes (.missingUpstreamFrame lane flrFull) (fun d => d.laneOn lane ∧ isTwin lane = false ∧ 3 ≤ d.laneState lane ∧ d.laneState lane ≤ 5 ∧ d.flag LNK_STATUS_frame_lock lane)
      (fun d =>
        (let lo := d.expected lane
         let d := (d.rxClear lane).frameMissing lane (near48 lo d.frame) flrFull
         d.putFrm lane { d.frm lane with placed := true, expect := (lo + 1) % 2 ^ 32 }).clockSettle)) ∧
  (∀ (lane : Nat) (flrFull : Bool), Completes (.missingUpstreamFrame lane flrFull) (fun d => d.laneOn lane ∧ isTwin lane = false ∧ d.laneState lane = 2 ∧ d.flag LNK_STATUS_frame_lock lane)
      (fun d =>
        (let lo := d.expected lane
         let d := (d.rxClear lane).flrAbsent lane (near48 lo d.frame) flrFull
         d.putFrm lane { d.frm lane with placed := true, expect := (lo + 1) % 2 ^ 32 }).clockSettle)) ∧
  (Completes .epochRaise (fun d => !(d.epochPend = 0 ∨ !d.k03)) (fun d => { d.put FRM_EPOCH_epoch (d.epochPend - 1) with epochPend := 0 })) ∧
  (∀ (lane : Nat) (block : List Nat) (bad : Bool), Completes (.mgmtBlockReceived lane block bad) (fun d => d.laneOn lane ∧ isTwin lane = false ∧ mgmtState (d.laneState lane) ∧ bad = false ∧ block.length = 128 ∧
        crc32 (block.take 124) = leNat ((block.drop 124).take 4) ∧ byteAt block 0 = 0) (fun d => d.mgmtAck lane (leNat ((block.drop 4).take 2)))) ∧
  (∀ (lane : Nat) (block : List Nat) (bad : Bool), Completes (.mgmtBlockReceived lane block bad) (fun d => d.laneOn lane ∧ isTwin lane = false ∧ mgmtState (d.laneState lane) ∧ bad = false ∧ block.length = 128 ∧
        crc32 (block.take 124) = leNat ((block.drop 124).take 4) ∧ byteAt block 0 = 1 ∧
        leNat ((block.drop 2).take 2) = (((d.mgmtAck lane (leNat ((block.drop 4).take 2))).frm lane).rxAck + 1) % 2 ^ 16)
      (fun d =>
        let d := d.mgmtAck lane (leNat ((block.drop 4).take 2))
        (d.putFrm lane { d.frm lane with rxAck := leNat ((block.drop 2).take 2) }).mgmtAct lane (leNat ((block.drop 6).take 2) % 2 ^ 9)
          (byteAt block 8) ((block.drop 10).take (min (byteAt block 9) 110)))) ∧
  (∀ (lane : Nat), Completes (.mgmtRetransmit lane) (fun d => d.laneOn lane ∧ mgmtState (d.laneState lane) ∧ 0 < (d.frm lane).mgmtHigh ∧ 32 ≤ (d.frm lane).stall) (fun d => d.putFrm lane { d.frm lane with mgmtNext := 0, stall := 0 })) ∧
  (∀ (lane : Nat), Completes (.inventoryRetry lane) (fun d => d.laneOn lane ∧ d.laneState lane = 3 ∧ (d.get FRM_L_INV_phase lane = 2 ∨ d.get FRM_L_INV_phase lane = 3)) (fun d => (d.bump FRM_L_ENUM_RETRY_count lane).startInventory lane)) ∧
  (∀ (lane : Nat), Completes (.laneEnterRun lane) (fun d => (d.frm lane).runNext && d.k03 && d.laneState lane == 3) (fun d => d.enterRun lane)) ∧
  (∀ (c : Cmd), Completes (.mapRelease c) (fun d => d.accepts 0x014 1 mapRelease c) (fun d => d.accepted 0x014 1 mapRelease c)) ∧
  (∀ (c : Cmd), Completes (.mapDefault c) (fun d => d.accepts 0x014 2 mapDefault c) (fun d => d.accepted 0x014 2 mapDefault c)) ∧
  (∀ (c : Cmd), Completes (.bSet c) (fun d => d.accepts 0x014 3 bSet c) (fun d => d.accepted 0x014 3 bSet c)) ∧
  (∀ (c : Cmd), Completes (.mbxSend c) (fun d => d.accepts 0x014 4 mbxSend c) (fun d => d.accepted 0x014 4 mbxSend c)) ∧
  (∀ (c : Cmd), Completes (.frmInventory c) (fun d => d.accepts 0x014 5 frmInventory c) (fun d => d.accepted 0x014 5 frmInventory c)) ∧
  (∀ (ch : Nat), Completes (.mbxRxRelease ch) (fun d => d.reaches ch 0x014 = true ∧ d.mustWait ch false = false) (fun d => d.put FRM_MBX_RX_STATUS_full 0))

/-- Every command of the scheduler and the impedance engine completes. One clause for each of MINUTE_BOUNDARY, RANK_REFRESH,
SHADOW_TABLE_WRITE, MODE, WITHDRAW, RETURN, ASSIGN, GRID_LOCK_GAINED, GRID_LOCK_LOST, STIR_DWELL_EXPIRY, BROKEN_T_RESTORE,
PLAN_APPLY, BIN_PLAN_TAKE, WINDOW_CLOSE, RESULT_DELIVERY, OFFSET_REFRESH, OFFSET_REFRESH_FORCED (more where a command has
several cases): under the clause's condition on state and operands, exec answers a next state with the clause's effect on the
device; the queue's rest is unchanged. A part of the device that the effect does not name keeps its value. Completes asks that
D00 is not held off. (07_insertion_scheduler.md, 08_impedance_engine.md, 07_insertion_scheduler.md R201,
07_insertion_scheduler.md R203, 07_insertion_scheduler.md R211, 07_insertion_scheduler.md R217, 07_insertion_scheduler.md
R225, 07_insertion_scheduler.md R235, 07_insertion_scheduler.md R237, 08_impedance_engine.md R243, 08_impedance_engine.md
R244, 08_impedance_engine.md R252) -/
def Obligations.SchedulerAndImpedanceCommandsComplete : Prop :=
  (∀ (m : Nat × Nat × Nat), Completes .minuteBoundary (fun d => d.imp.minute = some m ∧ d.resultsOwed m.1 = false ∧ (d.flag IMP_CFG_spectra_en && d.estimationSet && d.memLive && decide (d.frame < m.1 + 250)) = true)
      (fun d =>
        let d := { d with imp := { d.imp with minute := none } }
        each (d.imp.lanes.map (·.1)) (fun l (d : Dev) =>
          each (List.range (d.impLane l).cells.length) (fun o (d : Dev) => d.spectraWrite l o m) d) d)) ∧
  (∀ (lane : Nat), Completes (.rankRefresh lane) (fun d => d.k03 && d.laneState lane == 4 && lane < 512 && d.frame % 50 == 0) (fun d => d.rankRefresh lane)) ∧
  (∀ (ch : Nat) (off val : Nat), Completes (.shadowTableWrite ch false off val) (fun d => d.takesTable ch 0 off ∧ d.mustWait ch false = false) (fun d => d.shadowWrite off val)) ∧
  (∀ (ch : Nat) (off val : Nat), Completes (.shadowTableWrite ch true off val) (fun d => d.takesTable ch 0 off ∧ d.mustWait ch true = false ∧ d.get CUS_STATUS_phase ch = 3 ∧ d.covers ch scopeOPS ∧
        d.ldgReserve = false ∧ limLegal off (d.limRead d.sch.shadow off) val ∧ limFields off ≠ []) (fun d => (d.shadowWrite off val).privRecord ch 1 0 off val 0 rOK)) ∧
  (∀ (c : Cmd), Completes (.bankMode c) (fun d => d.accepts (0x20 + c.inst) 1 modeCmd c) (fun d => d.accepted (0x20 + c.inst) 1 modeCmd c)) ∧
  (∀ (c : Cmd), Completes (.cellWithdraw c) (fun d => d.accepts 0x015 1 (positionCmd 1) c) (fun d => d.accepted 0x015 1 (positionCmd 1) c)) ∧
  (∀ (c : Cmd), Completes (.cellReturn c) (fun d => d.accepts 0x015 2 (positionCmd 2) c) (fun d => d.accepted 0x015 2 (positionCmd 2) c)) ∧
  (∀ (c : Cmd), Completes (.stringAssign c) (fun d => d.accepts 0x015 3 assignCmd c) (fun d => d.accepted 0x015 3 assignCmd c)) ∧
  (∀ (g freq amp phase : Nat), Completes (.gridLockGained g freq amp phase) (fun d => d.railGood 12 && d.railGood 9 && decide (g < 4 ∧ 25 ≤ d.sch.gvGood.get g 0) && !d.flag SCH_GV_STATUS_locked g && d.gridShown g == (freq, amp, phase))
      (fun d => ((d.put SCH_GV_STATUS_locked 1 g).pageIrq 0x015 0).trimSettle)) ∧
  (∀ (g : Nat), Completes (.gridLockLost g) (fun d => d.railGood 12 ∧ d.gridFails g ∧ d.flag SCH_GV_STATUS_locked g)
      (fun d =>
        (let d := { (d.put SCH_GV_STATUS_locked 0 g).pageIrq 0x015 1 with sch := { d.sch with gvGood := d.sch.gvGood.put g 0 } }
         let d := each (d.lockedBanks g) (fun b (d : Dev) => d.holdBank b 4) d
         each ((List.range 16).filter fun b => gvSel d.sch.active b == g) (fun b (d : Dev) => d.put BNK_PHASE_ERR_err 0 b) d).trimSettle)) ∧
  (∀ (lane slot : Nat), Completes (.stirDwellExpiry lane slot) (fun d => d.laneState lane == 4 && lane < 512 && slot < (d.str lane).slots.length)
      (fun d => d.takeMember lane slot (d.lastPolarity lane))) ∧
  (∀ (lane idx : Nat) (e : Nat), Completes (.brokenTRestore lane idx) (fun d => d.cellT lane idx = some e ∧ (d.cell lane idx).tSubst = true ∧ 2 ≤ (d.otherTemps lane (idx / 16) e).length ∧
        withinTol (d.clsN lane idx 0x10 0) (median2 (d.otherTemps lane (idx / 16) e))
          (d.sch.temps.get (epKey lane (idx / 16) e) ⟨0, 0⟩).val) (fun d => d.cellUpd lane idx fun x => { x with tSubst := false, tEff := (d.sch.temps.get (epKey lane (idx / 16) e) ⟨0, 0⟩).val })) ∧
  (∀ (c : Cmd), Completes (.planApply c) (fun d => d.mustWait c.ch (planApply.judge 0x016 1 c d).priv = false ∧ d.wakeCause.accepts 0x016 1 planApply c) (fun d => d.wakeCause.accepted 0x016 1 planApply c)) ∧
  (∀ (lane bin : Nat), Completes (.binPlanTake lane bin) (fun d => !(d.windowOpen lane bin d.frame)) (fun d => d.binTake lane bin (d.frame + 1))) ∧
  (∀ (lane bin : Nat), Completes (.windowClose lane bin) (fun d => d.railGood 11) (fun d => d.windowClose lane bin)) ∧
  (∀ (lane bin : Nat), Completes (.resultDelivery lane bin) (fun d => bin ∈ (d.impLane lane).deliver ∧ d.filtersOn lane ∧ d.flag EST_STATUS_hibernated = false)
      (fun d =>
        let x := d.impLane lane
        each (List.range x.cells.length) (fun o (d : Dev) =>
          match x.res.find? fun (e : Nat × ImpRes) => e.1 == o * 16 + bin with
          | some e => d.deliverCell lane (x.cells.getD o 0) bin e.2
          | none => d) (d.putImp lane { x with deliver := x.deliver.filter (· != bin) }))) ∧
  (∀ (lane : Nat), Completes (.offsetRefresh lane) (fun d => d.imp.lanes.has lane && decide (d.refreshDue lane ≤ d.frame) && (d.impLane lane).stirFree) (fun d => d.refresh lane)) ∧
  (∀ (lane : Nat), Completes (.offsetRefreshForced lane) (fun d => d.imp.lanes.has lane && decide (d.refreshDue lane + 500_000 ≤ d.frame) && d.carriesV lane)
      (fun d =>
        let d := d.refresh lane
        let d := d.putImp lane { d.impLane lane with forceGap := true }
        ((d.bumpS IMP_L_FORCED_count IMP_L_FORCED_sat lane).pageIrq 0x016 0).raise F_OFFSET_FORCED 0x016 lane))

/-- Every command of state estimation completes. One clause for each of HEALTH_WEIGHT_WRITE_COMPLETE, STEP_BOUNDARY, FILTER_STEP,
REST_ANCHOR, TAPER_DECLARATION, IMPORT, CLEAR_STALE, RESET_LEARNED, EST_COMMAND_APPLY, CHECKPOINT, CHECKPOINT_PERIOD,
CHECKPOINT_SNAPSHOT, CHECKPOINT_SIGNED, CKPT_LOAD, CKPT_LOAD_APPLY, PROBE, PAGE_ACCESS_WAKE, ESTIMATOR_READY (more where a
command has several cases): under the clause's condition on state and operands, exec answers a next state with the clause's
effect on the device; the queue's rest is unchanged. A part of the device that the effect does not name keeps its value.
Completes asks that D00 is not held off. (09_state_estimation.md R268, 09_state_estimation.md R276, 09_state_estimation.md
R281, 09_state_estimation.md R283, 09_state_estimation.md R286, 09_state_estimation.md R291, 09_state_estimation.md R293,
09_state_estimation.md R300, 09_state_estimation.md R301) -/
def Obligations.EstimationCommandsComplete : Prop :=
  (∀ (lane : Nat), Completes (.healthWeightWriteComplete lane) (fun d => (d.estLane lane).health = true ∧ d.stepRun lane ∧ d.filtersOn lane)
      (fun d =>
        ((each (d.laneIdx lane) (fun i (d : Dev) => d.cellHealth lane i)
          (d.putEstLane lane { d.estLane lane with health := false })).backLeft lane).backComplete lane)) ∧
  (Completes .stepBoundary (fun d => d.k03 && d.frame % 500 == 0)
      (fun d =>
        each (d.est.lanes.map (·.1)) (fun l (d : Dev) =>
          let x := d.estLane l
          if !d.carriesV l && decide (x.stepNo < d.frame / 500) then
            (d.stepClose l).putEstLane l { (d.stepClose l).estLane l with stepNo := d.frame / 500 }
          else d) d)) ∧
  (∀ (lane : Nat), Completes (.filterStep lane) (fun d => (d.estLane lane).due = true ∧ d.filtersOn lane)
      (fun d =>
        let x := d.estLane lane
        let tkts := d.est.reloaded ++ d.est.reload
        let d := if d.est.reload.isEmpty then d else d.tablesReload
        let d := each tkts (fun n (d : Dev) => d.done n) { d with est := { d.est with reload := [], reloaded := [] } }
        let d := d.putEstLane lane { x with due := false }
        each (d.laneIdx lane) (fun i (d : Dev) => d.cellStep lane i) d)) ∧
  (∀ (lane idx : Nat) (soc : Rat), Completes (.restAnchor lane idx) (fun d => (d.estCell lane idx).restDue = some (soc, true) ∧ (d.estCell lane idx).declDue = 0 ∧ d.importDue lane idx = false)
      (fun d =>
        let x := d.estCell lane idx
        (d.estUpd lane idx fun x => { x with restDue := none }).anchor lane idx (soc, (x.ctot : Rat) + x.stepQ))) ∧
  (∀ (lane idx : Nat), Completes (.taperDeclaration lane idx) (fun d => (d.estCell lane idx).declDue ≠ 0 ∧ d.importDue lane idx = false)
      (fun d =>
        let x := d.estCell lane idx
        let soc : Rat := if x.declDue = 1 then 1 else 0
        let conv := d.clsQ (classOf d.sch.active lane idx) 0x128 0 8 / 2000
        (d.estUpd lane idx fun x => { x with
          s := soc, cov := mkCov fun i j => if i = 0 ∧ j = 0 then conv * conv else cov x.cov i j
          full := x.declDue == 1, empty := x.declDue == 2, moved := 0, declDue := 0, restDue := none }).anchor lane idx
            (soc, (x.ctot : Rat) + x.stepQ))) ∧
  (∀ (lane idx : Nat), Completes (.taperDeclaration lane idx) (fun d => (d.estCell lane idx).declDue ≠ 0 ∧ d.importDue lane idx = true)
      (fun d => d.estUpd lane idx fun x => { x with declDue := 0, restDue := none })) ∧
  (∀ (c : Cmd), Completes (.estImport c) (fun d => d.mustWait c.ch (((learnCmd 1)).judge 0x017 1 c d).priv = false ∧ d.wakeCause.accepts 0x017 1 (learnCmd 1) c) (fun d => d.wakeCause.accepted 0x017 1 (learnCmd 1) c)) ∧
  (∀ (c : Cmd), Completes (.clearStale c) (fun d => d.mustWait c.ch (((learnCmd 2)).judge 0x017 2 c d).priv = false ∧ d.wakeCause.accepts 0x017 2 (learnCmd 2) c) (fun d => d.wakeCause.accepted 0x017 2 (learnCmd 2) c)) ∧
  (∀ (c : Cmd), Completes (.resetLearned c) (fun d => d.mustWait c.ch (((learnCmd 3)).judge 0x017 3 c d).priv = false ∧ d.wakeCause.accepts 0x017 3 (learnCmd 3) c) (fun d => d.wakeCause.accepted 0x017 3 (learnCmd 3) c)) ∧
  (∀ (c : EstCmd) (rest : List EstCmd), Completes .estCommandApply (fun d => d.k03 ∧ d.railGood 15 ∧ d.est.cmds = c :: rest ∧ c.op ≠ 5 ∧ d.estDue c)
      (fun d => ((each (estCells c.cell) (fun i (d : Dev) => d.learnApply c.op c.lane (c.node * 16 + i)) d).done c.ticket).estRun rest)) ∧
  (∀ (c : Cmd), Completes (.checkpoint c) (fun d => d.mustWait c.ch (checkpointCmd.judge 0x017 4 c d).priv = false ∧ d.wakeCause.accepts 0x017 4 checkpointCmd c) (fun d => d.wakeCause.accepted 0x017 4 checkpointCmd c)) ∧
  (Completes .checkpointPeriod (fun d => (d.railGood 15 && d.get EST_CKPT_CFG_period != 0 && d.est.ckpt == 0 &&
        decide (d.est.ckptTick + d.get EST_CKPT_CFG_period * 117_964_800 ≤ d.tick)) = true ∧
        d.accepts 0x017 4 checkpointCmd { ch := 4, inst := 0, arg := 0, soon := false }) (fun d => d.accepted 0x017 4 checkpointCmd { ch := 4, inst := 0, arg := 0, soon := false })) ∧
  (Completes .checkpointSnapshot (fun d => d.k03 && d.frame % 5_000 == 0 && d.railGood 15 && d.est.ckpt == 1) (fun d => d.ckptSnapshot)) ∧
  (∀ (j : SigJob) (rest : List SigJob), Completes .checkpointSigned (fun d => d.isl.docs = j :: rest ∧ d.isl.current = 3 ∧ j.kind = 4)
      (fun d =>
        let sig := Config.ecdsaSign d.isl.priv (Config.sha384 d.est.ckptHead)
        let d := d.memWriteSpan (d.ckptAddr + 128) (beBytes 96 sig)
        let d := d.record 0x23 0 [⟨24, 8, d.ckptGen⟩, ⟨32, 48, leNat (d.est.ckptHead.drop 80)⟩]
        let d := { d with est := { d.est with ckpt := 0, ckptTkt := 0 }, isl := { d.isl with docs := rest } }
        (((d.put EST_CKPT_STATUS_state 2).done j.ticket).pageIrq 0x017 2).engineFree)) ∧
  (∀ (c : Cmd), Completes (.ckptLoad c) (fun d => d.mustWait c.ch (ckptLoadCmd.judge 0x017 5 c d).priv = false ∧ d.wakeCause.accepts 0x017 5 ckptLoadCmd c) (fun d => d.wakeCause.accepted 0x017 5 ckptLoadCmd c)) ∧
  (∀ (c : EstCmd) (rest : List EstCmd), Completes .ckptLoadApply (fun d => (d.k03 && d.railGood 15 && d.est.ckpt == 3) = true ∧ (d.estRun d.est.cmds).est.cmds = c :: rest ∧ c.op = 5 ∧
        c.at_ < (d.estRun d.est.cmds).frame / 5_000 * 5_000)
      (fun d =>
        let d := d.estRun d.est.cmds
        let d := each (List.range allPositions) (fun k (d : Dev) => d.ckptPlace k) { d with est := { d.est with cmds := rest } }
        (({ d with est := { d.est with ckpt := 0, ckptTkt := 0 } }.put EST_CKPT_STATUS_state 3).done c.ticket).pageIrq 0x017 2)) ∧
  (Completes .hibProbe (fun d => d.flag EST_STATUS_hibernated ∧ d.wake = 0 ∧ d.get EST_PROBE_CFG_period ≠ 0 ∧
        d.est.hibTime + d.get EST_PROBE_CFG_period * 60 * secondTime ≤ d.time)
      (fun d =>
        let d := d.wakeCause
        ({ d with est := { d.est with
          probeEnd := d.time + d.get EST_PROBE_CFG_length * 327_680_000, probeWoken := false } }).put EST_STATUS_probing 1)) ∧
  (Completes .pageAccessWake (fun d => d.flag EST_STATUS_hibernated ∧ d.wake = 0) (fun d => { d with est := { d.est with idleFrom := d.time, probeWoken := true }, wake := 1 })) ∧
  (Completes .pageAccessWake (fun d => d.flag EST_STATUS_hibernated = false) (fun d => { d with est := { d.est with idleFrom := d.time, probeWoken := true } })) ∧
  (Completes .estimatorReady (fun d => d.flag EST_STATUS_hibernated ∧ d.wake ≠ 0 ∧ d.wake ≠ 2 ∧ (d.wake ≠ 1 ∨ d.flag PWR_PS_CFG_hib_recipes = false))
      (fun d =>
        let frames := d.frame - d.est.hibFrame
        let d := { (d.put EST_STATUS_hibernated 0).pageIrq 0x017 1 with wake := 0 }.impWake
        (each (d.est.lanes.map (·.1)) (fun l (d : Dev) =>
          if d.filtersOn l then each (d.laneIdx l) (fun i (d : Dev) => d.cellWake frames l i) d else d) d).rejudge))

/-- Every command of attached memory and the flight recorder completes. One clause for each of MEMORY_CHANNEL_TRAINED, MAP_BUILD,
MEMORY_READ, MEMORY_WRITE, LADLE_AGE_FLUSH, BLAME_DECAY, SCRUB_VISIT, SELF_REFRESH_ENTRY, FENCE, ZERO, ZERO_DONE, REMAP, MARK,
UNMARK, MEMC_CLEAR_COUNTERS, FLR_ARM, FLR_TRIGGER, FLR_STOP, FLR_FREEZE (more where a command has several cases): under the
clause's condition on state and operands, exec answers a next state with the clause's effect on the device; the queue's rest
is unchanged. A part of the device that the effect does not name keeps its value. Completes asks that D00 is not held off.
(10_attached_memory.md R305, 10_attached_memory.md R310, 10_attached_memory.md R312, 10_attached_memory.md R316,
10_attached_memory.md R317, 10_attached_memory.md R322, 10_attached_memory.md R324, 10_attached_memory.md R326,
10_attached_memory.md R328, 10_attached_memory.md R332, 10_attached_memory.md R334) -/
def Obligations.MemoryCommandsComplete : Prop :=
  (∀ (ch : Nat) (x : Dimm), Completes (.memoryChannelTrained ch x) (fun d => ch < 16 ∧ d.railGood (16 + ch / 2) ∧ (dimmSupported x && x.trained) = true)
      (fun d =>
        let d := { d with mem := { d.mem with tried := setBit d.mem.tried ch, rates := d.mem.rates.put ch x.rate } }
        let d := (((d.putB MEMC_STATUS_present x.present ch).putB MEMC_STATUS_trained true ch).put MEMC_STATUS_capacity x.capacity ch).put
          MEMC_STATUS_ranks x.ranks ch
        let d := ((d.put MEMC_STATUS_density x.density ch).put MEMC_SERIAL_serial x.serial ch).ratesPut ch
        (d.memMarks ch x.serial).memRequalify)) ∧
  (∀ (ch : Nat) (x : Dimm), Completes (.memoryChannelTrained ch x) (fun d => ch < 16 ∧ d.railGood (16 + ch / 2) ∧ dimmSupported x = false)
      (fun d =>
        let d := { d with mem := { d.mem with tried := setBit d.mem.tried ch, rates := d.mem.rates.del ch } }
        let d := (((d.putB MEMC_STATUS_present x.present ch).putB MEMC_STATUS_trained false ch).put MEMC_STATUS_capacity x.capacity ch).put
          MEMC_STATUS_ranks x.ranks ch
        let d := ((d.put MEMC_STATUS_density x.density ch).put MEMC_SERIAL_serial x.serial ch).ratesPut ch
        d.memRequalify)) ∧
  (Completes .mapBuild (fun d => d.mem.built = false ∧ d.railGood 15 ∧ d.memPairOn ∧ d.memAllTried ∧ mapChannels d.memQualified ≠ 0)
      (fun d =>
        let n := mapChannels d.memQualified
        let ts := d.mem.remapTkts
        let d := { d with mem := { d.mem with built := true, remapTkts := [] } }
        let d := (d.put MEM_STATUS_qualified d.memQualified).put MEM_STATUS_channels n
        let d := d.put MEM_USABLE_mib (n * d.get MEMC_STATUS_capacity 0 * 1022)
        let d := each (List.range n) (fun c (d : Dev) =>
          ((d.put MEMC_STATUS_in_map 1 c).put MEMC_SCRUB_POS_line 0 c).putMemChan c { d.memChan c with passStart := d.time }) d
        each ts (fun t (d : Dev) => d.done t) ((((d.put MEM_STATUS_map_valid 1)).pageIrq 0x018 0).memJudge))) ∧
  (∀ (line : Nat) (errs : List MemErr), Completes (.memoryRead line errs) (fun d => d.memLive) (fun d => ((d.memErrs errs).memRead line).2.2)) ∧
  (∀ (addr : Nat) (bytes : List Nat) (errs : List MemErr), Completes (.memoryWrite addr bytes errs) (fun d => d.memLive) (fun d => (d.memErrs errs).memWriteSpan addr bytes)) ∧
  (∀ (ch : Nat) (errs : List MemErr) (e : LadleEntry) (rest : List LadleEntry), Completes (.ladleAgeFlush ch errs) (fun d => (d.memChan ch).ladle = e :: rest ∧ d.memLive) (fun d => ((d.memErrs errs).memFlush ch e).memSettle)) ∧
  (∀ (ch : Nat), Completes (.blameDecay ch) (fun _ => ch < 16) (fun d => each (List.range 4) (fun q (d : Dev) => d.memBlameJudge ch q) (d.memDecay ch))) ∧
  (∀ (ch : Nat) (errs : List MemErr), Completes (.scrubVisit ch errs) (fun d => d.memLive ∧ ch < 16) (fun d => ((d.memErrs errs).scrub ch).memSettle)) ∧
  (∀ (ch : Nat) (errs : List MemErr), Completes (.selfRefreshEntry ch errs) (fun d => d.memLive && d.flag EST_STATUS_hibernated && d.flag MEMC_STATUS_trained ch && decide (ch < 16)) (fun d => ((d.memErrs errs).memFlushAll ch).put MEMC_STATUS_self_refresh 1 ch)) ∧
  (∀ (c : Cmd), Completes (.memFence c) (fun d => d.accepts 0x018 1 memFence c) (fun d => d.accepted 0x018 1 memFence c)) ∧
  (∀ (c : Cmd), Completes (.memZero c) (fun d => d.accepts 0x018 2 memZero c) (fun d => d.accepted 0x018 2 memZero c)) ∧
  (∀ (n : Nat) (rest : List Nat), Completes .zeroDone (fun d => d.mem.zeros = n :: rest) (fun d => ({ d with mem := { d.mem with zeros := rest } }).done n)) ∧
  (∀ (c : Cmd), Completes (.memRemap c) (fun d => d.accepts 0x018 3 memRemap c) (fun d => d.accepted 0x018 3 memRemap c)) ∧
  (∀ (c : Cmd), Completes (.memcMark c) (fun d => d.accepts (0x030 + c.inst % 16) 1 memcMark c) (fun d => d.accepted (0x030 + c.inst % 16) 1 memcMark c)) ∧
  (∀ (c : Cmd), Completes (.memcUnmark c) (fun d => d.accepts (0x030 + c.inst % 16) 2 memcUnmark c) (fun d => d.accepted (0x030 + c.inst % 16) 2 memcUnmark c)) ∧
  (∀ (c : Cmd), Completes (.memcClearCounters c) (fun d => d.accepts (0x030 + c.inst % 16) 3 memcClear c) (fun d => d.accepted (0x030 + c.inst % 16) 3 memcClear c)) ∧
  (∀ (c : Cmd), Completes (.flrArm c) (fun d => d.accepts 0x019 1 flrArm c) (fun d => d.accepted 0x019 1 flrArm c)) ∧
  (∀ (c : Cmd), Completes (.flrTrigger c) (fun d => d.accepts 0x019 2 flrTriggerCmd c) (fun d => d.accepted 0x019 2 flrTriggerCmd c)) ∧
  (∀ (c : Cmd), Completes (.flrStop c) (fun d => d.accepts 0x019 3 flrStop c) (fun d => d.accepted 0x019 3 flrStop c)) ∧
  (Completes .flrFreeze (fun d => d.get FLR_STATUS_state = 2 ∧ d.flr.left = 0 ∧ d.flr.filled < d.get FLR_SLOTS_slots) (fun d => (((d.put FLR_STATUS_state 3).put FLR_FIRST_SLOT_slot 0).pageIrq 0x019 1).raise F_FLR_FROZEN 0x019 0)) ∧
  (Completes .flrFreeze (fun d => d.get FLR_STATUS_state = 2 ∧ d.flr.left = 0 ∧ d.get FLR_SLOTS_slots ≤ d.flr.filled) (fun d => (((d.put FLR_STATUS_state 3).put FLR_FIRST_SLOT_slot (d.get FLR_WR_SLOT_slot)).pageIrq 0x019 1).raise F_FLR_FROZEN 0x019 0))

/-- Every command of metering, the ledger and attestation completes. One clause for each of TAP_DRAIN, RECORD_BOUNDARY,
METER_PERIOD, DISCREPANCY_WINDOW, CAL_STEP_START, CAL_OVERLAP_START, CAL_HANDOVER, ROTATE, CERT_LOAD, LDG_ACK, LDG_SEAL,
ATTEST, CERTIFY, DOCUMENT_SIGNED, LEDGER_APPEND, SEAL_SIGNED, DEFINE, UNIT_DEF_APPLY, TRNG_HEALTH_TESTS_PASS (more where a
command has several cases): under the clause's condition on state and operands, exec answers a next state with the clause's
effect on the device; the queue's rest is unchanged. A part of the device that the effect does not name keeps its value.
Completes asks that D00 is not held off. (11_ledger_and_metering.md, 11_ledger_and_metering.md R335, 11_ledger_and_metering.md
R338, 11_ledger_and_metering.md R341, 11_ledger_and_metering.md R343, 11_ledger_and_metering.md R345,
11_ledger_and_metering.md R347, 11_ledger_and_metering.md R352, 11_ledger_and_metering.md R356, 11_ledger_and_metering.md
R357, 11_ledger_and_metering.md R358, 11_ledger_and_metering.md R363) -/
def Obligations.LedgerAndMeteringCommandsComplete : Prop :=
  (Completes .tapDrain (fun d => d.tapReady ∧ d.mtr.tap.count ≠ 0)
      (fun d =>
        let t := d.mtr.tap
        let d := each (List.range 16) (fun b (d : Dev) => d.drainBank t b) { d with mtr := { d.mtr with tap := Tap.init } }
        let d := d.drainMeasured t.gapCells
        let d := each (definedUnits d.mtr.unitsClose ++ [unleased]) (fun u (d : Dev) => d.drainUnit t u) d
        ((((d.drainLost t.lost).put GEN_HATCH_STATUS_mt_folding 0).put GEN_HATCH_STATUS_mt_sat 0).put GEN_HATCH_MT_AGE_frames 0).put
          GEN_HATCH_MT_AGE_sat 0)) ∧
  (∀ (f : Nat), Completes .recordBoundary (fun d => d.mtr.recDue = some f ∧ (d.k03 && d.tapReady) = true) (fun d => d.recordBoundary f)) ∧
  (∀ (codes : List Nat) (ovr : Nat), Completes (.meterPeriod codes ovr) (fun d => d.railGood 9 && d.k03 && d.frame % 5 == 4 && d.mtr.period != d.frame / 5 + 1)
      (fun d =>
        let d := { d with mtr := { d.mtr with period := d.frame / 5 + 1 } }
        let d := each (List.range 40) (fun c (d : Dev) => d.chPeriod c (codes.getD c 0 % 2 ^ 24) (bit ovr c)) d
        each (List.range 16) (fun b (d : Dev) => d.bankPeriod b) d)) ∧
  (Completes .discrepancyWindow (fun d => (d.railGood 9 && d.k03 && d.tapReady && decide (d.winEnd ≤ d.frame)) = true ∧ d.tapDrain.frame < d.winEnd + 5_000)
      (fun d =>
        let stop := d.winEnd
        let d := each (List.range 16) (fun b (d : Dev) => d.windowJudge b) d.tapDrain
        { d with mtr := { d.mtr with winStart := stop } })) ∧
  (Completes .calStepStart (fun d => d.railGood 9 && !d.flag MTR_STATUS_no_spare && d.mtr.calPhase == 0 && d.calDue)
      (fun d =>
        { (d.put MTR_STATUS_rotating 1).put MTR_STATUS_cal_channel d.mtr.calNext with
          mtr := { d.mtr with calPhase := 1, calClip := false, calTime := d.time + 1 } })) ∧
  (Completes .calOverlapStart (fun d => d.railGood 9 && d.k03 && d.frame % 5_000 == 0 && d.mtr.calPhase == 1 && decide (d.mtr.calTime - 1 + secondTime ≤ d.time)) (fun d => { d with mtr := { d.mtr with calPhase := 2, calClip := false, calFrame := d.frame } })) ∧
  (∀ (diff : Nat) (clipped : Bool), Completes (.calHandover diff clipped) (fun d => d.railGood 9 && d.k03 && d.frame % 5_000 == 0 && d.mtr.calPhase == 2 && d.frame != d.mtr.calFrame)
      (fun d =>
        let c := d.mtr.calNext
        let good := decide (diff ≤ d.get MTR_CAL_CFG_cal_tol) && !clipped && !d.mtr.calClip
        let sp := d.get MTR_STATUS_spare
        let d := if good then
            let old := d.get MTR_CH_INFO_modulator c
            let d := { d with mtr := { d.mtr with rejects := d.mtr.rejects.put sp 0 } }
            (d.put MTR_CH_INFO_modulator sp c).put MTR_STATUS_spare old
          else d.calReject
        { d.put MTR_STATUS_rotating 0 with mtr := { d.mtr with calPhase := 0, calClip := false, calNext := (c + 1) % 40 } })) ∧
  (∀ (c : Cmd), Completes (.cusRotate c) (fun d => d.accepts 0x002 5 rotate c) (fun d => d.accepted 0x002 5 rotate c)) ∧
  (∀ (c : Cmd), Completes (.certLoad c) (fun d => d.accepts 0x012 5 certLoad c) (fun d => d.accepted 0x012 5 certLoad c)) ∧
  (∀ (c : Cmd), Completes (.ldgAck c) (fun d => d.accepts 0x012 1 ldgAckCmd c) (fun d => d.accepted 0x012 1 ldgAckCmd c)) ∧
  (∀ (c : Cmd), Completes (.ldgSeal c) (fun d => d.accepts 0x012 2 ldgSealCmd c) (fun d => d.accepted 0x012 2 ldgSealCmd c)) ∧
  (∀ (c : Cmd), Completes (.attest c) (fun d => d.accepts 0x012 3 attest c) (fun d => d.accepted 0x012 3 attest c)) ∧
  (∀ (c : Cmd), Completes (.certify c) (fun d => d.accepts 0x012 4 certify c) (fun d => d.accepted 0x012 4 certify c)) ∧
  (∀ (j : SigJob) (rest : List SigJob), Completes .documentSigned (fun d => d.isl.docs = j :: rest ∧ d.isl.current = 3 ∧ j.kind = 2)
      (fun d =>
        let head := d.docHead j
        let doc := head ++ beBytes 96 (Config.ecdsaSign d.isl.priv (Config.sha384 head))
        let d := each (List.range 128) (fun w (d : Dev) => d.put LDG_OUT_data (leNat ((doc.drop (4 * w)).take 4)) (j.ch * 128 + w))
          { d with isl := { d.isl with docs := rest } }
        (((d.put LDG_OUT_STATUS_state 2 j.ch).done j.ticket).pageIrq 0x012 4).engineFree)) ∧
  (∀ (j : SigJob) (rest : List SigJob), Completes .documentSigned (fun d => d.isl.docs = j :: rest ∧ d.isl.current = 3 ∧ j.kind = 3)
      (fun d =>
        let head := d.docHead j
        let doc := head ++ beBytes 96 (Config.ecdsaSign d.isl.priv (Config.sha384 head))
        let d := each (List.range 128) (fun w (d : Dev) => d.put LDG_OUT_data (leNat ((doc.drop (4 * w)).take 4)) (j.ch * 128 + w))
          { d with isl := { d.isl with docs := rest } }
        let d := d.record 0x25 0 [⟨24, 2, j.unit⟩, hashPart 32 (Config.sha384 head)]
        (((d.put LDG_OUT_STATUS_state 2 j.ch).done j.ticket).pageIrq 0x012 4).engineFree)) ∧
  (∀ (j : SigJob) (rest : List SigJob), Completes .documentSigned (fun d => d.isl.docs = j :: rest ∧ d.isl.current = 3 ∧ j.kind = 8 ∧
        ({ d with isl := { d.isl with docs := rest } }.engineFree).get TWN_STATUS_pair_state = 2)
      (fun d => ({ d with isl := { d.isl with docs := rest } }.engineFree).sendKey)) ∧
  (Completes .ledgerAppend (fun d => d.railGood 1 && d.railGood 3) (fun d => d.ldgStep.rebootSettle)) ∧
  (∀ (n t : Nat) (rest : List (Nat × Nat)), Completes .sealSigned (fun d => d.isl.current = 1 ∧ d.ldg.seals = (n, t) :: rest)
      (fun d =>
        let r := d.ldg.ring.get (n % ldgSlots) LdgRec.zero
        let sig := Config.ecdsaSign d.isl.priv (Config.sha384 (beBytes 48 r.hash))
        let d := { d with ldg := { d.ldg with seals := rest, ring := d.ldg.ring.put (n % ldgSlots) { r with sig := sig } } }
        ((((d.xsealQueue n r.hash sig).sealsShown).sealCounts n t).engineFree).rebootSettle)) ∧
  (∀ (c : Cmd), Completes (.mtrDefine c) (fun d => d.accepts 0x013 1 mtrDefine c) (fun d => d.accepted 0x013 1 mtrDefine c)) ∧
  (Completes .unitDefApply (fun d => d.k03 && d.frame % 5_000 == 0)
      (fun d =>
        let xs := d.mtr.defs
        each xs (fun (x : UnitDef) (d : Dev) => d.unitApply x) { d with mtr := { d.mtr with defs := [] } })) ∧
  (Completes .trngHealthTestsPass (fun d => !(!d.railGood 1))
      (fun d =>
        let waits := d.isl.entropyWait
        let d := { d.put LDG_STATUS_trng_ok 1 with isl := { d.isl with entropyWait := [] } }
        each waits (fun w (d : Dev) => d.entropyServe w) d))

/-- Every command of twin operation completes. One clause for each of TWIN_FRAME_RECEIVED, PAIRING_KEY_VERIFIED, XSEAL_VERIFIED,
SNAPSHOT_APPLY, HEARTBEAT_MISS, BECOME_ACTIVE, DEMOTE, ORPHAN_TAKEOVER, HANDOVER, TAKE: under the clause's condition on state
and operands, exec answers a next state with the clause's effect on the device; the queue's rest is unchanged. A part of the
device that the effect does not name keeps its value. Completes asks that D00 is not held off. (12_twin_operation.md R376,
12_twin_operation.md R378, 12_twin_operation.md R381, 12_twin_operation.md R385, 12_twin_operation.md R386,
12_twin_operation.md R387, 12_twin_operation.md R391, 12_twin_operation.md R394, 12_twin_operation.md R396) -/
def Obligations.TwinCommandsComplete : Prop :=
  (∀ (lane payload : Nat) (bad : List Nat) (corr : Nat), Completes (.twinFrameReceived lane (frameBytes payload)) (fun d => lane < 4 ∧ d.laneOn (512 + lane) ∧ d.flag LNK_STATUS_cw_lock (512 + lane) ∧ d.laneState (512 + lane) = 4 ∧
        d.flag LNK_STATUS_frame_lock (512 + lane) ∧ 0 ∉ bad ∧ hdrGood (beNat ((frameBytes payload).take 20)) ∧
        hdrField (beNat ((frameBytes payload).take 20)) 0 3 = 6 ∧ hdrField (beNat ((frameBytes payload).take 20)) 69 69 = 0 ∧ d.twinOn ∧
        d.paired = false ∧ d.rxFrame (512 + lane) = some (payload, bad, corr))
      (fun d =>
        (let bytes := frameBytes payload
         let k := hdrField (beNat (bytes.take 20)) 4 51
         let d := d.rxTake (512 + lane)
         let d := d.putLane (512 + lane) { d.lane (512 + lane) with hdrBad := 0 }
         each ((twnBlocks (bytes.drop 20)).zipIdx.filter fun e => !blockHit bad e.2) (fun e (d : Dev) => d.twnBlock k false e.1)
           { d with twn := { d.twn with pFrame := k } }).clockSettle)) ∧
  (Completes .pairingKeyVerified (fun d => d.twinOn) (fun d => d.keyVerified)) ∧
  (Completes .xsealVerified (fun d => d.twinOn) (fun d => d.xsealVerified)) ∧
  (Completes .snapshotApply (fun d => d.k03) (fun d => d.snapDue d.frame)) ∧
  (Completes .heartbeatMiss (fun d => d.twinOn ∧ d.k03 ∧ d.paired ∧ d.twn.heard < d.frame ∧ d.twn.judged ≠ d.frame + 1 ∧
        ({ d.bump TWN_STATUS_missed with twn := { d.twn with judged := d.frame + 1 } } : Dev).get TWN_STATUS_missed < 3) (fun d => { d.bump TWN_STATUS_missed with twn := { d.twn with judged := d.frame + 1 } })) ∧
  (∀ (r : RoleDue), Completes .becomeActive (fun d => d.twn.due = [r] ∧ d.k03 ∧ r.active = true ∧ r.frame ≤ d.frame ∧ d.flag TWN_STATUS_role = false) (fun d => ({ d with twn := { d.twn with due := [] } }).becomeActive r.cause d.frame r.ticket)) ∧
  (∀ (r : RoleDue), Completes .demote (fun d => d.twn.due = [r] ∧ d.k03 ∧ r.active = false ∧ r.frame ≤ d.frame ∧ d.flag TWN_STATUS_role) (fun d => ({ d with twn := { d.twn with due := [] } }).becomeStandby r.cause d.frame r.ticket)) ∧
  (Completes .orphanTakeover (fun d => d.twinOn ∧ d.standby ∧ d.paired = false ∧ d.k03 ∧
        (if d.flag TWN_CFG_pref_role then 4 else 100) ≤ d.twn.orphan ∧
        d.twn.since + max 1 (d.get TWN_CFG_pair_wait) * 3_276_800_000 ≤ d.time) (fun d => d.becomeActive 3 d.frame 0)) ∧
  (∀ (c : Cmd), Completes (.twnHandover c) (fun d => d.accepts 0x011 0x10 twnHandoverCmd c) (fun d => d.accepted 0x011 0x10 twnHandoverCmd c)) ∧
  (∀ (c : Cmd), Completes (.twnTake c) (fun d => d.accepts 0x011 0x11 twnTakeCmd c) (fun d => d.accepted 0x011 0x11 twnTakeCmd c))

/-- Every command of time and clocks completes. One clause for each of CLOCK_GATE, OSC_EDGE_LOST, NONE_TIMEOUT, ADOPT, REARM,
REARM_RESTART, OSC_STOP, D02_POWER_ON_RESET, OSC_START, RTC_SET, SET_EDGE_APPLY, ARM_SWITCH, ALARM_ARM, ALARM_FIRE,
TRIM_GATE_END, TRIM_CFG_WRITE, K02_LOCK_LOST, D02_SUPPLY_LOST (more where a command has several cases): under the clause's
condition on state and operands, exec answers a next state with the clause's effect on the device; the queue's rest is
unchanged. A part of the device that the effect does not name keeps its value. Completes asks that D00 is not held off;
CompletesAlways asks nothing of it. (13_time_and_clocks.md R400, 13_time_and_clocks.md R401, 13_time_and_clocks.md R403,
13_time_and_clocks.md R407, 13_time_and_clocks.md R409, 13_time_and_clocks.md R411, 13_time_and_clocks.md R412,
13_time_and_clocks.md R413, 13_time_and_clocks.md R415, 13_time_and_clocks.md R416, 13_time_and_clocks.md R418,
13_time_and_clocks.md R419) -/
def Obligations.TimeCommandsComplete : Prop :=
  (∀ (osc ring rec_ : Nat), Completes (.clockGate osc ring rec_) (fun d => d.railGood 10) (fun d => ((((d.oscGate osc ring).recGate osc rec_).corrGate).gateMove).holdGate)) ∧
  (Completes .oscEdgeLost (fun d => d.railGood 10)
      (fun d =>
        (if d.flag CLK_STATUS_osc_ok then d.oscLost
      else { d with ck := { d.ck with oscRun := 0 } }))) ∧
  (Completes .noneTimeout (fun d => d.railGood 10 && d.clk == 0 && !d.flag CLK_STATUS_osc_ok) (fun d => d.clkLost)) ∧
  (∀ (c : Cmd), Completes (.adopt c) (fun d => d.accepts 0x007 2 clkAdopt c) (fun d => d.accepted 0x007 2 clkAdopt c)) ∧
  (∀ (c : Cmd), Completes (.rearm c) (fun d => d.accepts 0x007 1 clkRearm c) (fun d => d.accepted 0x007 1 clkRearm c)) ∧
  (∀ (pre : List Nat), Completes (.rearmRestart pre) (fun d => d.railGood 10) (fun d => d.rearmRestart pre)) ∧
  (CompletesAlways .oscStop (fun d => !(d.rtc.d02Held || !d.flag RTC_STATUS_osc_running)) (fun d => d.oscStop)) ∧
  (CompletesAlways .d02PowerOnReset (fun _ => True)
      (fun d =>
        let d := ((d.rtcClear).putWbit SEQ_RAIL_ON_on 2 true).putWbit SEQ_RAIL_GOOD_good 2 true
        { d with rtc := { d.rtc with d02Held := false } })) ∧
  (CompletesAlways .oscStart (fun d => !(d.rtc.d02Held)) (fun d => d.put RTC_STATUS_osc_running 1)) ∧
  (∀ (c : Cmd), Completes (.rtcSet c) (fun d => d.accepts 0x008 1 rtcSet c) (fun d => d.accepted 0x008 1 rtcSet c)) ∧
  (Completes .setEdgeApply (fun d => d.flag RTC_STATUS_osc_running) (fun d => d.setApply)) ∧
  (∀ (c : Cmd), Completes (.armSwitch c) (fun d => d.accepts 0x008 2 armSwitch c) (fun d => d.accepted 0x008 2 armSwitch c)) ∧
  (∀ (ch : Nat) (alarm val : Nat), Completes (.alarmArm ch false alarm val) (fun d => alarm < 2 ∧ d.takesWrite ch 0x008) (fun d => d.alarmWrite alarm (setBit val 31))) ∧
  (∀ (ch : Nat) (alarm val : Nat), Completes (.alarmArm ch true alarm val) (fun d => alarm < 2 ∧ d.takesPriv ch 0x008) (fun d => (d.privRecord ch 0 0x008 (0x134 + 16 * alarm) (setBit val 31) 0 rOK).alarmWrite alarm (setBit val 31))) ∧
  (∀ (a : Nat), CompletesAlways (.alarmFire a) (fun d => d.edgeFires a) (fun d => d.idle)) ∧
  (∀ (raw : Nat), Completes (.trimGateEnd raw) (fun d => d.flag RTC_TRIM_STATUS_running ∧ d.trimRuns ∧ d.flag RTC_TRIM_CFG_auto_apply = false)
      (fun d =>
        (((d.put RTC_TRIM_MEAS_ppb (ofSigned 32 (trimMeas d.trimIdeal raw))).put RTC_TRIM_STATUS_valid 1).bump
          RTC_TRIM_STATUS_completed).pageIrq 0x008 3)) ∧
  (∀ (ch val : Nat), Completes (.trimCfgWrite ch val) (fun d => bits val 0 2 ≠ 3 ∧ d.takesPriv ch 0x008) (fun d => (d.privRecord ch 0 0x008 (0x118) (val) 0 rOK).trimCfgWrite val)) ∧
  (Completes .k02LockLost (fun d => d.railGood 10) (fun d => (d.refLeave false false).refRestart)) ∧
  (CompletesAlways .d02SupplyLost (fun d => !(d.rtc.d02Held))
      (fun d =>
        let d := ((d.rtcClear).putWbit SEQ_RAIL_ON_on 2 false).putWbit SEQ_RAIL_GOOD_good 2 false
      { d with rtc := { d.rtc with d02Held := true } }))

/-- Every command of the supply inputs and the charger completes. One clause for each of VIN_AUX_VALID, VIN_AUX_LOST, VBUS_VALID,
VBUS_LOST, PRECHARGE_SHORTED, ALWAYS_ON_RAIL_STOP, PULSE_TEST_PERIODIC, PULSE_TEST_END, PRECHARGE_COMPLETE, PRECHARGE_TIMEOUT,
FLOAT_REACHED, TAPER_TERMINATION, RECHARGE, CELL_TEMP_RECOVERED, SAFETY_TIMER_EXPIRY, CHG_TIMER_MISMATCH, CHG_RESTART,
CHG_STOP, PULSE_TEST, POWER_WARNING, INPUT_COLLAPSE, SHORTED_LATCH_CLEAR (more where a command has several cases): under the
clause's condition on state and operands, exec answers a next state with the clause's effect on the device; the queue's rest
is unchanged. A part of the device that the effect does not name keeps its value. Completes asks that D00 is not held off;
CompletesAlways asks nothing of it. (14_supply_inputs_and_holdup.md R423, 14_supply_inputs_and_holdup.md R425,
14_supply_inputs_and_holdup.md R428, 14_supply_inputs_and_holdup.md R429, 14_supply_inputs_and_holdup.md R430,
14_supply_inputs_and_holdup.md R431, 14_supply_inputs_and_holdup.md R435, 14_supply_inputs_and_holdup.md R436,
14_supply_inputs_and_holdup.md R438) -/
def Obligations.SupplyCommandsComplete : Prop :=
  (∀ (mv node : Nat), Completes (.vinAuxValid mv node) (fun d => d.flag PWR_STATUS_vin_ok = false ∧ 9_000 ≤ mv ∧ mv ≤ 16_000)
      (fun d =>
        let d := (((d.put PWR_VIN_mv mv).put PWR_NODE_mv node).put PWR_STATUS_vin_ok 1).pageIrq 0x009 3
        (((({ d with pwr := { d.pwr with upStarted := false, upFailed := false } }).sourceSettle).chgJudge).warnSettle).upJudge)) ∧
  (Completes .vinAuxLost (fun d => d.flag PWR_STATUS_vin_ok)
      (fun d =>
        let batteryless := d.chg == 7
        let d := ((d.put PWR_STATUS_vin_ok 0).pageIrq 0x009 3).bumpS PWR_VIN_LOSSES_count PWR_VIN_LOSSES_sat
        let v := d.free.1 % 2 ^ 16
        let d := (d.free.2.put PWR_VIN_mv (if 8_500 ≤ v ∧ v ≤ 16_500 then v % 8_500 else v)).inputGone
        let d := (d.chgEnter 0 0).sourceSettle
        let open_ := ((List.range 4).map fun l => (d.loop l).tkt).filter (· != 0)
        let d := (d.switchOver.raiseWith F_VIN_AUX_LOST 0x009 0 0 open_ false).irqEdge 130
        let d := d.loopsAbandon 0
        let p := d.eng 0
        let d := if d.engState 0 ≠ 0 ∧ (p.purpose = 1 ∨ p.purpose = 4) then d.abortRun 0 else d
        let d := (d.loopsOff 6).dropBurnerRails
        let d := if batteryless && !d.flag PWR_STATUS_vbus_ok then d.powerWarning else d
        d.pdVinLost.upJudge)) ∧
  (∀ (mv node : Nat), Completes (.vbusValid mv node) (fun d => d.flag PWR_STATUS_vbus_ok = false ∧ 4_000 < mv) (fun d => ((((((d.put PWR_VBUS_mv mv).put PWR_NODE_mv node).put PWR_STATUS_vbus_ok 1).pageIrq 0x009 4).irqEdge 131).sourceSettle).warnSettle)) ∧
  (Completes .vbusLost (fun d => d.flag PWR_STATUS_vbus_ok)
      (fun d =>
        ((((((d.free.2.put PWR_VBUS_mv (d.free.1 % 3_500)).inputGone).put PWR_STATUS_vbus_ok 0).pageIrq 0x009 4).irqEdge 132).sourceSettle).pdVbusLost)) ∧
  (CompletesAlways .prechargeShorted (fun d => (d.down = 3 ∨ !d.pwr.booted) ∧ !d.pwr.shorted) (fun d => { d with pwr := { d.pwr with shorted := true, starter := false }, rtc := { d.rtc with flags := setBit d.rtc.flags 0 } })) ∧
  (CompletesAlways .alwaysOnRailStop (fun d => (d.down ≠ 0 ∨ d.flag PWR_PSTATE_collapse_block) ∧
        ((d.flt.queue.any fun r => r.source == F_INPUT_COLLAPSE) = false ∨ d.rtc.d02Held = true)) (fun d => d.holdOff 3)) ∧
  (CompletesAlways .alwaysOnRailStop (fun d => d.down = 0 ∧ d.flag PWR_PSTATE_collapse_block = false)
      (fun d =>
        let d := d.inputCollapse
        let lost := d.flt.queue.any fun r => r.source == F_INPUT_COLLAPSE
        let d := if lost && !d.rtc.d02Held then { d with rtc := { d.rtc with flags := setBit d.rtc.flags 1 } } else d
        d.holdOff 3)) ∧
  (Completes .pulseTestPeriodic (fun d => d.chg = 5 ∨ d.chg = 7) (fun d => d.chgDetect 0)) ∧
  (∀ (rise peak node : Nat), Completes (.pulseTestEnd rise peak node) (fun d => d.chg = 1 ∧ (150 ≤ rise ∨ 4300 ≤ peak)) (fun d => (((((d.put PWR_PULSE_rise rise).bump PWR_PULSE_tests).put PWR_NODE_mv node)).chgEnter 7 0).warnSettle)) ∧
  (∀ (rise peak node : Nat), Completes (.pulseTestEnd rise peak node) (fun d => d.chg = 1 ∧ rise < 150 ∧ peak < 4300) (fun d => ((((d.put PWR_PULSE_rise rise).bump PWR_PULSE_tests).put PWR_NODE_mv node).cellPresent node).warnSettle)) ∧
  (Completes .prechargeComplete (fun d => d.chg = 2) (fun d => d.chgEnter 3 0)) ∧
  (Completes .prechargeTimeout (fun d => d.chg = 2) (fun d => (d.chgEnter 8 3).raise F_CELL_SHORTED 0x009 0)) ∧
  (Completes .floatReached (fun d => d.chg = 3) (fun d => (d.chgEnter 4 0).warnSettle)) ∧
  (Completes .taperTermination (fun d => d.chg = 4 ∧ d.timerLast = false) (fun d => (d.chgEnter 5 0).chgDetect 0)) ∧
  (Completes .recharge (fun d => d.chg = 5) (fun d => d.newCycle.chgEnter 3 0)) ∧
  (Completes .cellTempRecovered (fun d => d.chg = 6 ∧ d.pwr.innerFrom ≠ 0 ∧ d.pwr.innerFrom - 1 + 10 * secondTime ≤ d.time) (fun d => d.chgDetect d.pwr.heldFrom)) ∧
  (Completes .safetyTimerExpiry (fun d => d.timerLast) (fun d => d.timerExpire)) ∧
  (Completes .chgTimerMismatch (fun d => charging d.chg) (fun d => { d with pwr := { d.pwr with count4 := d.get PWR_CHG_TIMER_count + 2 } }.timerJudge)) ∧
  (∀ (c : Cmd), Completes (.chgRestart c) (fun d => d.accepts 0x009 1 chgRestart c) (fun d => d.accepted 0x009 1 chgRestart c)) ∧
  (∀ (c : Cmd), Completes (.chgStop c) (fun d => d.accepts 0x009 2 chgStop c) (fun d => d.accepted 0x009 2 chgStop c)) ∧
  (∀ (c : Cmd), Completes (.pulseTest c) (fun d => d.accepts 0x009 3 pulseTest c) (fun d => d.accepted 0x009 3 pulseTest c)) ∧
  (∀ (node : Nat), Completes (.powerWarning node) (fun d => node < d.get PWR_WARN_CFG_v_warn ∧ d.flag PWR_STATUS_vin_ok = false ∧ d.flag PWR_STATUS_vbus_ok = false) (fun d => (d.put PWR_NODE_mv node).sourceSettle.powerWarning)) ∧
  (Completes .inputCollapse (fun _ => True)
      (fun d =>
        let busy := d.engState 0 != 0 || d.engState 1 != 0 || d.pantryBusy
        let d := ((d.releaseOutputs).engineCut 0).engineCut 1
        let d := ({ d with pwr := { d.pwr with upCmd := false } }).put PWR_PSTATE_collapse_block 1
        let d := d.bumpS PWR_COLLAPSES_count PWR_COLLAPSES_sat
        (if busy then d.raise F_INPUT_COLLAPSE 0x009 0 else d).upJudge)) ∧
  (CompletesAlways .shortedLatchClear (fun d => d.down ≠ 0 ∨ d.pwr.booted = false ∨
        ((d.flag PWR_STATUS_vin_ok || d.flag PWR_STATUS_vbus_ok || decide (d.time < d.pwr.inputAt + secondTime)) = false))
      (fun d => { d with pwr := { d.pwr with shorted := false } }))

/-- Every command of the regulator loops completes. One clause for each of BRN_START, BRN_STOP, BRN_SETVID, SHORT_TEST_END,
POWER_GOOD_SET, POWER_GOOD_CLEAR, SWITCHING_CYCLE, HICCUP_END, RETRY_COUNT_CLEAR, PHASE_SHED_EVALUATION, PHASE_TRIM_BALANCE,
PHASE_HOT, PHASE_RETURN (more where a command has several cases): under the clause's condition on state and operands, exec
answers a next state with the clause's effect on the device; the queue's rest is unchanged. A part of the device that the
effect does not name keeps its value. Completes asks that D00 is not held off. (15_regulator_loops.md R446,
15_regulator_loops.md R447, 15_regulator_loops.md R448, 15_regulator_loops.md R449, 15_regulator_loops.md R450,
15_regulator_loops.md R452, 15_regulator_loops.md R453, 15_regulator_loops.md R454, 15_regulator_loops.md R462) -/
def Obligations.RegulatorCommandsComplete : Prop :=
  (∀ (c : Cmd), Completes (.brnStart c) (fun d => d.accepts 0x00B 1 brnStart c) (fun d => d.accepted 0x00B 1 brnStart c)) ∧
  (∀ (c : Cmd), Completes (.brnStop c) (fun d => d.accepts 0x00B 2 brnStop c) (fun d => d.accepted 0x00B 2 brnStop c)) ∧
  (∀ (c : Cmd), Completes (.brnSetvid c) (fun d => d.accepts 0x00B 3 brnSetvid c) (fun d => d.accepted 0x00B 3 brnSetvid c)) ∧
  (∀ (loop : Nat) (peaks : List Int) (rise : Int) (preBias : Nat), Completes (.shortTestEnd loop peaks rise preBias) (fun d => d.loopState loop = 1 ∧ loop < 4)
      (fun d =>
        if !(d.shortPhases loop peaks).isEmpty || decide (50_000 < rise) then d.loopShort loop (d.shortPhases loop peaks)
        else d.loopRamp loop preBias)) ∧
  (∀ (loop : Nat), Completes (.powerGoodSet loop) (fun d => d.inWindow loop ∧ d.loopState loop = 2 ∧ d.atTarget loop ∧ ((((d.putLoop loop { d.loop loop with sink := true }).loopEnter loop 3).put BRN_STATUS_pg 1 loop).loop loop).kind ≠ 1) (fun d => (((d.putLoop loop { d.loop loop with sink := true }).loopEnter loop 3).put BRN_STATUS_pg 1 loop))) ∧
  (∀ (loop : Nat), Completes (.powerGoodSet loop) (fun d => d.inWindow loop ∧ d.loopState loop = 2 ∧ d.atTarget loop ∧ ((((d.putLoop loop { d.loop loop with sink := true }).loopEnter loop 3).put BRN_STATUS_pg 1 loop).loop loop).kind = 1) (fun d => (((d.putLoop loop { d.loop loop with sink := true }).loopEnter loop 3).put BRN_STATUS_pg 1 loop).loopClose loop 4)) ∧
  (∀ (loop : Nat), Completes (.powerGoodSet loop) (fun d => d.inWindow loop ∧ d.loopState loop = 3) (fun d => d.put BRN_STATUS_pg 1 loop)) ∧
  (∀ (loop : Nat), Completes (.powerGoodClear loop) (fun d => d.loopState loop = 3 ∧ d.inWindow loop = false) (fun d => d.put BRN_STATUS_pg 0 loop)) ∧
  (∀ (loop sense vin : Nat) (imon : List Int), Completes (.switchingCycle loop sense vin imon) (fun d => loop < 4 ∧ (d.loopState loop = 2 ∨ d.loopState loop = 3))
      (fun d =>
        let d := d.putLoop loop { d.loop loop with sense := sense }
        let d := ((((d.truncStep loop sense).dutyStep loop sense vin).pwmSend loop).outStep loop imon).limitStep' loop imon
        if d.loopState loop = 2 ∨ d.loopState loop = 3 then d.slewStep loop else d)) ∧
  (∀ (loop : Nat), Completes (.hiccupEnd loop) (fun d => d.loopState loop = 4) (fun d => d.loopTest loop)) ∧
  (∀ (loop : Nat), Completes (.retryCountClear loop) (fun d => d.loopState loop = 3) (fun d => d.put BRN_STATUS_hiccups 0 loop)) ∧
  (∀ (loop iTotal vOut : Nat) (tmon : List Int), Completes (.phaseShedEvaluation loop iTotal vOut tmon) (fun d => loop < 4 ∧ d.railGood 8) (fun d => ((d.putTmon loop tmon).put BRN_OUT_v_out vOut loop).shedEval loop iTotal)) ∧
  (∀ (loop : Nat) (tmon imon : List Int), Completes (.phaseTrimBalance loop tmon imon) (fun d => loop < 4 ∧ d.railGood 8) (fun d => d.balance loop tmon imon)) ∧
  (∀ (phase : Nat) (tmon : Int), Completes (.phaseHot phase tmon) (fun d => phase < 32 ∧ d.railGood 8) (fun d => d.phaseHot phase tmon)) ∧
  (∀ (phase : Nat), Completes (.phaseReturn phase) (fun d => phase < 32 ∧ d.railGood 8) (fun d => d.phaseReturn phase))

/-- Every command of the sequencer and its recipes completes. One clause for each of SEQ_RUN, SEQ_ABORT, RAIL_ON, RAIL_OFF, HALT,
ENABLE, DISABLE, WAIT, WAIT_EXPIRY, WAITPG, WAITPG_SATISFIED, WAITPG_TIMEOUT, CHECK, JUMP, RECIPE_SETVID, SETVID_STEP_RESUME,
SETVID_TIMEOUT, RECIPE_MARK, RAIL_GOOD, LOSS_OF_GOOD, SHUTDOWN_DEPTH_ADVANCE, DEPENDENCY_MASK_WRITE, SEQ_TIMER_MISMATCH (more
where a command has several cases): under the clause's condition on state and operands, exec answers a next state with the
clause's effect on the device; the queue's rest is unchanged. A part of the device that the effect does not name keeps its
value. Completes asks that D00 is not held off. (16_sequencer.md R464, 16_sequencer.md R465, 16_sequencer.md R466,
16_sequencer.md R468, 16_sequencer.md R471, 16_sequencer.md R473, 16_sequencer.md R474, 16_sequencer.md R475, 16_sequencer.md
R477, 16_sequencer.md R479) -/
def Obligations.SequencerCommandsComplete : Prop :=
  (∀ (c : Cmd), Completes (.seqRun c) (fun d => d.accepts 0x00A 1 seqRun c) (fun d => d.accepted 0x00A 1 seqRun c)) ∧
  (∀ (c : Cmd), Completes (.seqAbort c) (fun d => d.accepts 0x00A 2 seqAbort c) (fun d => d.accepted 0x00A 2 seqAbort c)) ∧
  (∀ (c : Cmd), Completes (.railOn c) (fun d => d.accepts 0x00A 3 railOnCmd c) (fun d => d.accepted 0x00A 3 railOnCmd c)) ∧
  (∀ (c : Cmd), Completes (.railOff c) (fun d => d.accepts 0x00A 4 railOffCmd c) (fun d => d.accepted 0x00A 4 railOffCmd c)) ∧
  (∀ (e : Nat), Completes (.recipeHalt e) (fun d => d.atStep e 0) (fun d => d.stepHalt e)) ∧
  (∀ (e : Nat), Completes (.recipeEnable e) (fun d => d.atStep e 1) (fun d => d.stepEnable e)) ∧
  (∀ (e : Nat), Completes (.recipeDisable e) (fun d => d.atStep e 2) (fun d => d.stepDisable e)) ∧
  (∀ (e : Nat), Completes (.recipeWait e) (fun d => d.atStep e 3) (fun d => (if bits (d.engStep e) 0 28 = 0 then d.nextStep e else d.waitStep e 1 0 0 (bits (d.engStep e) 0 28)))) ∧
  (∀ (e : Nat), Completes (.waitExpiry e) (fun d => d.engState e = 2 ∧ (d.eng e).waiting = 1) (fun d => d.nextStep e)) ∧
  (∀ (e : Nat), Completes (.recipeWaitPg e) (fun d => d.atStep e 4) (fun d => d.stepWaitpg e)) ∧
  (∀ (e : Nat), Completes (.waitpgSatisfied e) (fun d => d.engState e = 2 ∧ (d.eng e).waiting = 2 ∧ (d.maskRails e (d.eng e).waitMask).all (fun r => d.railGood r)) (fun d => d.nextStep e)) ∧
  (∀ (e : Nat), Completes (.waitpgTimeout e) (fun d => d.engState e = 2 ∧ (d.eng e).waiting = 2) (fun d => d.pgTimeout e (d.maskRails e (d.eng e).waitMask) (d.eng e).target)) ∧
  (∀ (e : Nat), Completes (.recipeCheck e) (fun d => d.atStep e 5) (fun d => d.stepCheck e)) ∧
  (∀ (e : Nat), Completes (.recipeJump e) (fun d => d.atStep e 6) (fun d => d.goTo e (bits (d.engStep e) 0 10))) ∧
  (∀ (e : Nat), Completes (.recipeSetvid e) (fun d => d.atStep e 7 ∧ d.ownHeld (2 + e) e = false ∧ d.spaced)
      (fun d => if bits (d.engStep e) 11 9 = 0x1FF ∧ !d.railGood 8 then d.nextStep e else d.stepSetvid e)) ∧
  (∀ (e : Nat), Completes (.recipeSetvid e) (fun d => d.atStep e 7 ∧ d.ownHeld (2 + e) e = false ∧ d.spaced = false) (fun d => d.holdOwn 0x00B (2 + e) e 0)) ∧
  (∀ (e : Nat), Completes (.setvidStepResume e) (fun d => d.waitsSetvid e ∧ 3 ≤ d.ticketState (d.eng e).loopTkt) (fun d => d.setvidResume e (d.eng e).loopTkt (d.eng e).target)) ∧
  (∀ (e : Nat), Completes (.setvidTimeout e) (fun d => d.waitsSetvid e ∧ d.ticketState (d.eng e).loopTkt < 3) (fun d => (d.abandonSetvid e).goTo e (d.eng e).target)) ∧
  (∀ (e : Nat), Completes (.recipeMark e) (fun d => d.atStep e 8) (fun d => (d.noteRun e (bits (d.engStep e) 0 16)).nextStep e)) ∧
  (∀ (rail : Nat), Completes (.railGood rail) (fun d => rail < 96 ∧ d.railOn rail ∧ !d.railGood rail)
      (fun d =>
        let d := d.putWbit SEQ_RAIL_GOOD_good rail true
        let d := ({ d with seq := { d.seq with running := setBit d.seq.running rail } }).rejudge
        if rail = 7 then d.twnStart true else if rail = 5 then d.pdStart
        else if rail = 12 then d.banksUp
        else if rail = 15 then d.memUp
        else d)) ∧
  (∀ (rail : Nat), Completes (.lossOfGood rail) (fun _ => rail < 96) (fun d => d.lossOfGood rail)) ∧
  (∀ (root : Nat) (x : Shutdown), Completes (.shutdownDepthAdvance root) (fun d => (d.seq.shutdowns.find? fun y => y.root == root) = some x ∧ x.left = []) (fun d => ({ d with seq := { d.seq with shutdowns := d.seq.shutdowns.filter fun y => y.root != root } }).shutdownBusy)) ∧
  (∀ (root : Nat) (x : Shutdown), Completes (.shutdownDepthAdvance root) (fun d => (d.seq.shutdowns.find? fun y => y.root == root) = some x ∧ x.left ≠ []) (fun d => d.shutdownStep x)) ∧
  (∀ (ch rail word val : Nat) (e : Dev), Completes (.dependencyMaskWrite ch rail word val) (fun d => rail < 96 ∧ word < 3 ∧ d.takesTable ch 12 (0x1_2000 + 0x10 * rail + 4 * word) ∧ d.mustWait ch true = false ∧
        d.get CUS_STATUS_phase ch = 3 ∧ d.covers ch scopeOPS ∧ d.ldgReserve = false ∧
        d.bookWrite (0x1_2000 + 0x10 * rail + 4 * word) val = (true, e)) (fun _ => e.privRecord ch 1 12 (0x1_2000 + 0x10 * rail + 4 * word) val 0 rOK)) ∧
  (Completes .seqTimerMismatch (fun d => d.engState 0 ≠ 0 ∧ d.engState 1 = 0)
      (fun d =>
        let seq := d.nextSeq
        let d := d.abandonSetvid 0
        (d.raiseWith F_SEQ_TIMER_MISMATCH 0x00A 0 0 d.runTickets false).endRun 0 5 0 5 seq))

/-- Every command of the service port and the service link completes. One clause for each of TYPEC_ATTACH, TYPEC_DETACH,
DRP_TOGGLE, ERROR_RECOVERY_END, PD_MESSAGE_RECEIVED, GOODCRC_TIMEOUT, HARD_RESET_RECEIVED, HARD_RESET_VBUS_WAIT_END,
PPS_KEEPALIVE, PPS_KEEPALIVE_TIMEOUT, WAIT_RETRY_EXPIRY, PD_POLICY_WRITE, RX_FIFO_RELEASE, ALT_EN_WRITE, PD_TX, PD_HARD_RESET,
PD_ROLE, PARTNER_TERMINATION_SEEN, SERVICE_LINK_UP, SERVICE_LINK_DOWN, SL_PING_SEND, SL_READ, SL_WRITE, SL_LDG, SL_PING,
KEY_INIT, KEY_REPLY (more where a command has several cases): under the clause's condition on state and operands, exec answers
a next state with the clause's effect on the device; the queue's rest is unchanged. A part of the device that the effect does
not name keeps its value. Completes asks that D00 is not held off. (17_service_port.md R483, 17_service_port.md R487,
17_service_port.md R488, 17_service_port.md R489, 17_service_port.md R491, 17_service_port.md R492, 17_service_port.md R494,
17_service_port.md R498, 17_service_port.md R499, 17_service_port.md R500, 17_service_port.md R502, 17_service_port.md R504) -/
def Obligations.ServicePortCommandsComplete : Prop :=
  (∀ (vbusLow : Bool), Completes (.typecAttach vbusLow) (fun d => !(!d.railGood 5))
      (fun d =>
        if d.tc = 2 ∧ d.flag PWR_STATUS_vbus_ok then
        (({ d with pd := { d.pd with dfp := false } }).put PD_STATUS_power_role 0).tcEnter 3
      else if d.tc = 5 then
        (({ d with pd := { d.pd with dfp := true, vbusEn := vbusLow } }).put PD_STATUS_power_role 1).tcEnter 6
      else d)) ∧
  (Completes .typecDetach (fun d => !(!d.railGood 5))
      (fun d =>
        if d.tc = 2 then d.detach 1
      else if d.tc = 5 then d.detach 4
      else if d.tc = 3 ∧ !d.flag PWR_STATUS_vbus_ok ∧ !d.pd.hardWait then d.detach 1
      else if d.tc = 6 then d.detach 1
      else d)) ∧
  (Completes .drpToggle (fun d => !(!d.railGood 5 || !d.drpOn))
      (fun d =>
        if d.tc = 1 then d.tcEnter 4
      else if d.tc = 4 then d.tcEnter 1
      else d)) ∧
  (Completes .errorRecoveryEnd (fun d => d.railGood 5 ∧ d.tc = 7) (fun d => d.tcEnter 1)) ∧
  (∀ (header : Nat) (objs : List Nat), Completes (.pdMessageReceived header objs) (fun d => d.railGood 5 ∧ d.attached ∧ bit header 15 = false ∧ bits header 12 3 = 0 ∧ bits header 0 5 = 1 ∧
        bits header 9 3 = d.pd.txId) (fun d => d.goodCrc.pdSettle)) ∧
  (∀ (header : Nat) (objs : List Nat), Completes (.pdMessageReceived header objs) (fun d => d.railGood 5 ∧ d.attached ∧ bits header 0 5 ≠ 1 ∧ d.flag PD_POLICY_host = false ∧ d.pd.rxId ≠ bits header 9 3 + 1)
      (fun d =>
        let d := d.emit .pd 0 [d.pdHeader 1 - d.pd.txId * 2 ^ 9 + bits header 9 3 * 2 ^ 9]
        ((({ d with pd := { d.pd with rxId := bits header 9 3 + 1 } }).pdDiscard).pdHandle header objs).pdSettle)) ∧
  (Completes .goodcrcTimeout (fun d => d.railGood 5) (fun d => d.goodCrcTimeout.pdSettle)) ∧
  (Completes .hardResetReceived (fun d => d.railGood 5 && d.attached) (fun d => d.hardReset)) ∧
  (Completes .hardResetVbusWaitEnd (fun d => d.railGood 5 && d.pd.hardWait)
      (fun d =>
        let d := { d with pd := { d.pd with hardWait := false } }
        if d.tc = 3 ∧ !d.flag PWR_STATUS_vbus_ok then d.detach 1 else d)) ∧
  (Completes .ppsKeepalive (fun d => d.railGood 5 && d.tc == 3 && d.get PD_STATUS_contract == 2 && !d.flag PD_STATUS_waiting && !d.pdSequence)
      (fun d =>
        let d := d.put PD_COUNTS_keepalives (d.get PD_COUNTS_keepalives + 1)
        { d with pd := { d.pd with keep := true } }.pdData 2 [d.pd.req])) ∧
  (Completes .ppsKeepaliveTimeout (fun d => d.railGood 5 && d.pd.keep) (fun d => ({ d with pd := { d.pd with reqWait := false, keep := false } }.contractEnd).pdSettle)) ∧
  (Completes .waitRetryExpiry (fun d => d.railGood 5 && d.tc == 3 && d.flag PD_STATUS_waiting) (fun d => (d.put PD_STATUS_waiting 0).pdData 2 [d.pd.req])) ∧
  (∀ (ch : Nat) (host : Bool), Completes (.pdPolicyWrite ch false host) (fun d => d.takesWrite ch 0x010) (fun d => d.policyWrite (b2n host))) ∧
  (∀ (ch : Nat) (host : Bool), Completes (.pdPolicyWrite ch true host) (fun d => d.takesPriv ch 0x010) (fun d => (d.privRecord ch 0 0x010 (0x108) (b2n host) 0 rOK).policyWrite (b2n host))) ∧
  (∀ (ch : Nat), Completes (.rxFifoRelease ch false) (fun d => d.takesWrite ch 0x010) (fun d => d.rxRelease)) ∧
  (∀ (ch : Nat), Completes (.rxFifoRelease ch true) (fun d => d.takesPriv ch 0x010) (fun d => (d.privRecord ch 0 0x010 (0x160) (2 ^ 31) 0 rOK).rxRelease)) ∧
  (∀ (ch : Nat) (en : Bool), Completes (.altEnWrite ch en) (fun d => d.takesPriv ch 0x010 ∧ d.get PD_CFG_src_en < 2 ∧ d.get PD_CFG_drp_en < 2)
      (fun d =>
        let v := 4 * b2n en + 2 * d.get PD_CFG_src_en + d.get PD_CFG_drp_en
        let e := (((d.privRecord ch 0 0x010 0x104 v 0 rOK).put PD_CFG_alt_en (b2n en)).put PD_CFG_src_en (d.get PD_CFG_src_en)).put
          PD_CFG_drp_en (d.get PD_CFG_drp_en)
        (if en then e else e.altExit).pdSettle)) ∧
  (∀ (c : Cmd), Completes (.pdTx c) (fun d => d.accepts 0x010 1 pdTx c) (fun d => (d.accepted 0x010 1 pdTx c).pdSettle)) ∧
  (∀ (c : Cmd), Completes (.pdHardReset c) (fun d => d.accepts 0x010 2 pdHardReset c) (fun d => (d.accepted 0x010 2 pdHardReset c).pdSettle)) ∧
  (∀ (c : Cmd), Completes (.pdRole c) (fun d => d.accepts 0x010 3 pdRole c) (fun d => (d.accepted 0x010 3 pdRole c).pdSettle)) ∧
  (∀ (cc rp : Nat) (before : Bool), Completes (.partnerTerminationSeen cc rp before) (fun d => !(!d.railGood 5))
      (fun d =>
        if d.tc = 1 ∧ 1 ≤ rp then
        ((((d.put PD_STATUS_orientation cc).put PD_STATUS_rp_adv rp).putB PD_STATUS_dead_battery before).tcEnter 2).pdSettle
      else if d.tc = 4 ∧ rp = 0 then ((d.put PD_STATUS_orientation cc).tcEnter 5).pdSettle
      else d)) ∧
  (Completes .serviceLinkUp (fun d => d.railGood 5 && d.get PD_STATUS_sl_state == 1)
      (fun d =>
        let d := d.slState 2
        each (List.range 768) (fun q (d : Dev) => if d.irqTarget q = 7 then d.irqDeliver q else d) d)) ∧
  (Completes .serviceLinkDown (fun d => d.slUp) (fun d => d.slEnd 1)) ∧
  (Completes .slPingSend (fun d => d.slUp) (fun d => d.slSend (slHeader 0x04 0 0 0 0 0) [])) ∧
  (∀ (bytes : List Nat) (r : SlReq) (e : Dev), Completes (.slRead bytes) (fun d => d.slUp ∧ d.slCheck bytes = (some r, e) ∧ (e.pd.answers.find? fun a => a.request == r.header) = none ∧ r.type = 0x01 ∧
        e.slWaiting = 0 ∧ e.slMustWait r = false) (fun _ => e.slRead r)) ∧
  (∀ (bytes : List Nat) (soon : Bool) (r : SlReq) (e : Dev), Completes (.slWrite bytes soon) (fun d => d.slUp ∧ d.slCheck bytes = (some r, e) ∧ (e.pd.answers.find? fun a => a.request == r.header) = none ∧ r.type = 0x02 ∧
        e.slWaiting = 0 ∧ e.slMustWait r = false) (fun _ => e.slWrite r soon)) ∧
  (∀ (bytes : List Nat) (r : SlReq) (e : Dev), Completes (.slLdg bytes) (fun d => d.slUp ∧ d.slCheck bytes = (some r, e) ∧ (e.pd.answers.find? fun a => a.request == r.header) = none ∧ r.type = 0x03 ∧
        e.slWaiting = 0 ∧ e.slMustWait r = false) (fun _ => e.slLdg r)) ∧
  (∀ (bytes : List Nat) (r : SlReq) (e : Dev), Completes (.slPing bytes) (fun d => d.slUp ∧ d.slCheck bytes = (some r, e) ∧ (e.pd.answers.find? fun a => a.request == r.header) = none ∧ r.type = 0x04 ∧
        e.slWaiting = 0 ∧ e.slMustWait r = false) (fun _ => e.slAnswer r 0x84 0 0 [])) ∧
  (∀ (bytes : List Nat) (r : SlReq) (e : Dev) (a : SlAnswer), Completes (.slPing bytes) (fun d => d.slUp ∧ d.slCheck bytes = (some r, e) ∧ (e.pd.answers.find? fun a => a.request == r.header) = some a) (fun _ => e.slSend a.header a.payload)) ∧
  (∀ (bytes : List Nat) (e : Dev), Completes (.slPing bytes) (fun d => d.slUp ∧ d.slCheck bytes = (none, e)) (fun _ => e.bump PD_SL_STATUS_bad)) ∧
  (∀ (bytes : List Nat) (r : SlReq) (e : Dev), Completes (.keyInit bytes) (fun d => d.slUp ∧ d.slCheck bytes = (some r, e) ∧ (e.pd.answers.find? fun a => a.request == r.header) = none ∧ r.type = 0x10) (fun _ => e.keyInit r)) ∧
  (∀ (j : SigJob) (rest : List SigJob), Completes .keyReply (fun d => d.isl.docs = j :: rest ∧ d.isl.current = 3 ∧ j.kind = 7 ∧
        (let e : Dev := { d with isl := { d.isl with docs := rest } }.engineFree
         (e.slUp && e.get PD_STATUS_sl_state == 2 && e.pd.nonce != 0) = true)) (fun d => ({ d with isl := { d.isl with docs := rest } }.engineFree).keyReply ⟨j.data.take 16, j.data.drop 16⟩ (j.data.drop 16) false))

/-- Every command of the thermal unit, the watchdog and the OTP completes. One clause for each of THERMAL_SCAN, SENSOR_RESTORE,
COMPARATOR_TRIP, SHUTDOWN_RAIL_STOP, COOLED_SET, WDT_KICK, WDT_PERIOD_END, WDT_TIMER_MISMATCH, WDT_START, WDT_STOP,
OTP_PROGRAM, OTP_SEAL, OTP_INCREMENT, OTP_SENSE, OTP_WORK_BEGIN, OTP_ATTEMPT, SENSE_END, D04_OFF (more where a command has
several cases): under the clause's condition on state and operands, exec answers a next state with the clause's effect on the
device; the queue's rest is unchanged. A part of the device that the effect does not name keeps its value. Completes asks that
D00 is not held off. (18_thermal_and_watchdog.md, 19_otp.md, 18_thermal_and_watchdog.md R509, 18_thermal_and_watchdog.md R511,
18_thermal_and_watchdog.md R512, 18_thermal_and_watchdog.md R514, 18_thermal_and_watchdog.md R517, 18_thermal_and_watchdog.md
R518, 18_thermal_and_watchdog.md R521, 18_thermal_and_watchdog.md R523, 19_otp.md R530, 19_otp.md R531) -/
def Obligations.ThermalWatchdogAndOtpCommandsComplete : Prop :=
  (∀ (raw : List Nat) (bad : List (Nat × Nat)), Completes (.thermalScan raw bad) (fun _ => True)
      (fun d =>
        let f := d.free
        let r : Int := (f.1 % 2 : Nat)
        let d := each (List.range 80) (fun i (d : Dev) => d.thmTake i (raw.getD i 0x8000) (SMap.get bad i 0)) f.2
        (((((((d.thmTakeUsed r).thmAdc).thmJudge).thmTakeUsed r).thmNear).thmWarm).thmCooling).thmCharge)) ∧
  (∀ (input : Nat), Completes (.sensorRestore input) (fun _ => input < 80) (fun d => d.sensorRestore input)) ∧
  (∀ (sensor : Nat), Completes (.comparatorTrip sensor) (fun d => sensor < 64 ∧ !d.compMasked sensor) (fun d => d.shutdownDetect sensor 1)) ∧
  (Completes .shutdownRailStop (fun d => d.flag THM_STATUS_sd_latched)
      (fun d =>
        let d := each (List.range 4) (fun l (d : Dev) => d.loopShut l) d
        each ((List.range 32).map (· + 64)) (fun r (d : Dev) => d.railDrop r) d)) ∧
  (Completes .cooledSet (fun d => d.thm.coolFrom ≠ 0 ∧ d.thm.coolFrom - 1 + 10 * secondTime ≤ d.time ∧ !d.flag THM_STATUS_cooled) (fun d => d.cooledRise)) ∧
  (∀ (ch : Nat) (val : Nat), Completes (.wdtKick ch false val) (fun d => d.takesWrite ch 0x00D) (fun d => d.wdtKick val)) ∧
  (∀ (ch : Nat) (val : Nat), Completes (.wdtKick ch true val) (fun d => d.takesPriv ch 0x00D) (fun d => (d.privRecord ch 0 0x00D (0x108) (val) 0 rOK).wdtKick val)) ∧
  (∀ (mismatch : Bool), Completes (.wdtPeriodEnd mismatch) (fun d => d.flag WDT_CFG_running) (fun d => d.wdtEnd mismatch)) ∧
  (Completes .wdtTimerMismatch (fun d => d.flag WDT_CFG_running)
      (fun d =>
        let d := { d.wdtCapture 4 with wdt := { (d.wdtCapture 4).wdt with mismatch := true } }
        (d.pageIrq 0x00D 1).raise F_WDT_TIMER_MISMATCH 0x00D 0 (d.wdtDetail d.wdtMissing))) ∧
  (∀ (c : Cmd), Completes (.wdtStart c) (fun d => d.accepts 0x00D 1 wdtStart c) (fun d => d.accepted 0x00D 1 wdtStart c)) ∧
  (∀ (c : Cmd), Completes (.wdtStop c) (fun d => d.accepts 0x00D 2 wdtStop c) (fun d => d.accepted 0x00D 2 wdtStop c)) ∧
  (∀ (c : Cmd), Completes (.otpProgram c) (fun d => d.accepts 0x00E 1 otpProgram c) (fun d => d.accepted 0x00E 1 otpProgram c)) ∧
  (∀ (c : Cmd), Completes (.otpSeal c) (fun d => d.accepts 0x00E 2 otpSeal c) (fun d => d.accepted 0x00E 2 otpSeal c)) ∧
  (∀ (c : Cmd), Completes (.otpIncrement c) (fun d => d.accepts 0x00E 3 otpIncrement c) (fun d => d.accepted 0x00E 3 otpIncrement c)) ∧
  (∀ (c : Cmd), Completes (.otpSense c) (fun d => d.accepts 0x00E 4 otpSense c) (fun d => d.accepted 0x00E 4 otpSense c)) ∧
  (∀ (w : OtpWork) (rest : List OtpWork), Completes .otpWorkBegin (fun d => d.otp.job = none ∧ d.otp.work = w :: rest)
      (fun d =>
        let j : OtpJob := ⟨w, (d.otp.steps w).filter fun p => p.value != d.otp.cell p.place, 0, 0, 0, (0, 0)⟩
        ({ d with otp := { d.otp with job := some j, work := rest, d04 := true, ended := false } }).otpBusy)) ∧
  (∀ (bitsSet : Nat) (j : OtpJob) (p : OtpStep) (rest : List OtpStep), Completes (.otpAttempt bitsSet) (fun d => d.otp.job = some j ∧ j.work.kind ≠ 4 ∧ j.todo = p :: rest) (fun d => d.otpAttempt j p rest bitsSet)) ∧
  (∀ (bitsSet : Nat) (j : OtpJob), Completes (.otpAttempt bitsSet) (fun d => d.otp.job = some j ∧ j.work.kind ≠ 4 ∧ j.todo = []) (fun d => d.otpEnd j true)) ∧
  (∀ (j : OtpJob), Completes .senseEnd (fun d => d.otp.job = some j ∧ j.work.kind = 4) (fun d => d.sense.otpEnd j true)) ∧
  (Completes .d04Off (fun d => d.otp.job.isNone && d.otp.work.isEmpty) (fun d => { d with otp := { d.otp with d04 := false, ended := false } }))

/-- Every command of the power states and the start-up completes. One clause for each of AUTO_ENABLE, RESET_N_ASSERT, COLD_START,
POWER_UP_RUN_START, POWER_UP, POWER_DOWN, REBOOT, HIBERNATE_RECIPE_START, WAKE_RECIPE_START (more where a command has several
cases): under the clause's condition on state and operands, exec answers a next state with the clause's effect on the device;
the queue's rest is unchanged. A part of the device that the effect does not name keeps its value. Completes asks that D00 is
not held off; CompletesAlways asks nothing of it. (20_power_states_and_startup.md R543, 20_power_states_and_startup.md R544,
20_power_states_and_startup.md R545, 20_power_states_and_startup.md R546, 20_power_states_and_startup.md R551,
20_power_states_and_startup.md R555) -/
def Obligations.PowerStateCommandsComplete : Prop :=
  (∀ (group : Nat), Completes (.autoEnable group) (fun d => d.railGood (32 + group) && d.k03 && decide (group < 32))
      (fun d =>
        (let d := d.put LNK_GRP_STATUS_pll_lock 1 group
         each ((bitList 16 (d.get LNK_GRP_AUTO_auto group)).zipIdx) (fun e d =>
           if (d : Dev).laneState (group * 16 + e.1) = 0 then
             d.cmd (0x40 + group) 1 laneEnable ⟨4, group, e.1, e.2 != 0⟩
           else d) d).clockSettle)) ∧
  (CompletesAlways .resetNAssert (fun d => d.down ≠ 3) (fun d => d.holdOff 1)) ∧
  (CompletesAlways .resetNAssert (fun d => d.down = 3) (fun d => d)) ∧
  (∀ (cause : Nat) (estop trng : Bool) (journal intact : Nat), CompletesAlways (.coldStart cause estop trng journal intact) (fun d => d.coldCan cause) (fun d => d.coldStart cause estop trng journal intact)) ∧
  (Completes .powerUpRunStart (fun d => d.upReady) (fun d => d.upRun)) ∧
  (∀ (c : Cmd), Completes (.powerUp c) (fun d => d.accepts 0x009 4 powerUp c) (fun d => d.accepted 0x009 4 powerUp c)) ∧
  (∀ (c : Cmd), Completes (.powerDown c) (fun d => d.accepts 0x009 5 powerDown c) (fun d => d.accepted 0x009 5 powerDown c)) ∧
  (∀ (c : Cmd), Completes (.reboot c) (fun d => d.accepts 0x009 6 reboot c) (fun d => d.accepted 0x009 6 reboot c)) ∧
  (Completes .hibernateRecipeStart (fun d => (d.flag EST_STATUS_hibernated && d.flag PWR_PS_CFG_hib_recipes && d.wake == 0 && d.engState 0 == 0 &&
          d.pwr.hibRun != d.est.hibTime + 1) = true)
      (fun d => ({ d with pwr := { d.pwr with hibRun := d.est.hibTime + 1 } }).deviceRun 2 3 0)) ∧
  (Completes .wakeRecipeStart (fun d => d.wake = 1 ∧ d.flag PWR_PS_CFG_hib_recipes ∧ d.engState 0 = 0) (fun d => ({ d with wake := 2 }).deviceRun 3 4 0))
end

