-- ==== Sys2Proof/Laws/State.lean ====
section
/-!
SUPPORT. Laws/State.lean: what each update of a part of the device shows of every part: one lemma per part and update.
-/
namespace Sys2Proof.Machine

variable (d : Dev)

/-! ## `Dev.put` -/

@[simp] theorem Dev.put_time (f : Field) (v i : Nat) : (d.put f v i).time = d.time := rfl
@[simp] theorem Dev.put_freeCtr (f : Field) (v i : Nat) : (d.put f v i).freeCtr = d.freeCtr := rfl
@[simp] theorem Dev.put_snap (f : Field) (v i : Nat) : (d.put f v i).snap = d.snap := rfl
@[simp] theorem Dev.put_sent (f : Field) (v i : Nat) : (d.put f v i).sent = d.sent := rfl
@[simp] theorem Dev.put_flt (f : Field) (v i : Nat) : (d.put f v i).flt = d.flt := rfl
@[simp] theorem Dev.put_tkt (f : Field) (v i : Nat) : (d.put f v i).tkt = d.tkt := rfl
@[simp] theorem Dev.put_msixPend (f : Field) (v i : Nat) : (d.put f v i).msixPend = d.msixPend := rfl
@[simp] theorem Dev.put_msixTable (f : Field) (v i : Nat) : (d.put f v i).msixTable = d.msixTable := rfl
@[simp] theorem Dev.put_d3hot (f : Field) (v i : Nat) : (d.put f v i).d3hot = d.d3hot := rfl
@[simp] theorem Dev.put_ldg (f : Field) (v i : Nat) : (d.put f v i).ldg = d.ldg := rfl
@[simp] theorem Dev.put_lanes (f : Field) (v i : Nat) : (d.put f v i).lanes = d.lanes := rfl
@[simp] theorem Dev.put_frms (f : Field) (v i : Nat) : (d.put f v i).frms = d.frms := rfl
@[simp] theorem Dev.put_sch (f : Field) (v i : Nat) : (d.put f v i).sch = d.sch := rfl
@[simp] theorem Dev.put_seq (f : Field) (v i : Nat) : (d.put f v i).seq = d.seq := rfl
@[simp] theorem Dev.put_loops (f : Field) (v i : Nat) : (d.put f v i).loops = d.loops := rfl
@[simp] theorem Dev.put_dieLost (f : Field) (v i : Nat) : (d.put f v i).dieLost = d.dieLost := rfl
@[simp] theorem Dev.put_cusSlots (f : Field) (v i : Nat) : (d.put f v i).cusSlots = d.cusSlots := rfl
@[simp] theorem Dev.put_cusDuration (f : Field) (v i : Nat) : (d.put f v i).cusDuration = d.cusDuration := rfl
@[simp] theorem Dev.put_dieTraining (f : Field) (v i : Nat) : (d.put f v i).dieTraining = d.dieTraining := rfl
@[simp] theorem Dev.put_epochPend (f : Field) (v i : Nat) : (d.put f v i).epochPend = d.epochPend := rfl
@[simp] theorem Dev.put_identities (f : Field) (v i : Nat) : (d.put f v i).identities = d.identities := rfl
@[simp] theorem Dev.put_stale (f : Field) (v i : Nat) : (d.put f v i).stale = d.stale := rfl
@[simp] theorem Dev.put_intN (f : Field) (v i : Nat) : (d.put f v i).intN = d.intN := rfl
@[simp] theorem Dev.put_isl (f : Field) (v i : Nat) : (d.put f v i).isl = d.isl := rfl
@[simp] theorem Dev.put_otp (f : Field) (v i : Nat) : (d.put f v i).otp = d.otp := rfl
@[simp] theorem Dev.put_hatch (f : Field) (v i : Nat) : (d.put f v i).hatch = d.hatch := rfl
@[simp] theorem Dev.put_ck (f : Field) (v i : Nat) : (d.put f v i).ck = d.ck := rfl
@[simp] theorem Dev.put_rtc (f : Field) (v i : Nat) : (d.put f v i).rtc = d.rtc := rfl
@[simp] theorem Dev.put_down (f : Field) (v i : Nat) : (d.put f v i).down = d.down := rfl
@[simp] theorem Dev.put_wake (f : Field) (v i : Nat) : (d.put f v i).wake = d.wake := rfl
@[simp] theorem Dev.put_pwr (f : Field) (v i : Nat) : (d.put f v i).pwr = d.pwr := rfl
@[simp] theorem Dev.put_mem (f : Field) (v i : Nat) : (d.put f v i).mem = d.mem := rfl
@[simp] theorem Dev.put_flr (f : Field) (v i : Nat) : (d.put f v i).flr = d.flr := rfl
@[simp] theorem Dev.put_imp (f : Field) (v i : Nat) : (d.put f v i).imp = d.imp := rfl
@[simp] theorem Dev.put_est (f : Field) (v i : Nat) : (d.put f v i).est = d.est := rfl
@[simp] theorem Dev.put_mtr (f : Field) (v i : Nat) : (d.put f v i).mtr = d.mtr := rfl
@[simp] theorem Dev.put_twn (f : Field) (v i : Nat) : (d.put f v i).twn = d.twn := rfl
@[simp] theorem Dev.put_pd (f : Field) (v i : Nat) : (d.put f v i).pd = d.pd := rfl
@[simp] theorem Dev.put_thm (f : Field) (v i : Nat) : (d.put f v i).thm = d.thm := rfl
@[simp] theorem Dev.put_wdt (f : Field) (v i : Nat) : (d.put f v i).wdt = d.wdt := rfl
@[simp] theorem Dev.put_dma (f : Field) (v i : Nat) : (d.put f v i).dma = d.dma := rfl
@[simp] theorem Dev.put_spRefused (f : Field) (v i : Nat) : (d.put f v i).spRefused = d.spRefused := rfl
@[simp] theorem Dev.put_readWait (f : Field) (v i : Nat) : (d.put f v i).readWait = d.readWait := rfl

/-! ## `Dev.emit` -/

@[simp] theorem Dev.emit_time (k : SentKind) (dest : Nat) (ws : List Nat) : (d.emit k dest ws).time = d.time := rfl
@[simp] theorem Dev.emit_freeCtr (k : SentKind) (dest : Nat) (ws : List Nat) : (d.emit k dest ws).freeCtr = d.freeCtr := rfl
@[simp] theorem Dev.emit_regs (k : SentKind) (dest : Nat) (ws : List Nat) : (d.emit k dest ws).regs = d.regs := rfl
@[simp] theorem Dev.emit_snap (k : SentKind) (dest : Nat) (ws : List Nat) : (d.emit k dest ws).snap = d.snap := rfl
@[simp] theorem Dev.emit_flt (k : SentKind) (dest : Nat) (ws : List Nat) : (d.emit k dest ws).flt = d.flt := rfl
@[simp] theorem Dev.emit_tkt (k : SentKind) (dest : Nat) (ws : List Nat) : (d.emit k dest ws).tkt = d.tkt := rfl
@[simp] theorem Dev.emit_msixPend (k : SentKind) (dest : Nat) (ws : List Nat) : (d.emit k dest ws).msixPend = d.msixPend := rfl
@[simp] theorem Dev.emit_msixTable (k : SentKind) (dest : Nat) (ws : List Nat) : (d.emit k dest ws).msixTable = d.msixTable := rfl
@[simp] theorem Dev.emit_d3hot (k : SentKind) (dest : Nat) (ws : List Nat) : (d.emit k dest ws).d3hot = d.d3hot := rfl
@[simp] theorem Dev.emit_ldg (k : SentKind) (dest : Nat) (ws : List Nat) : (d.emit k dest ws).ldg = d.ldg := rfl
@[simp] theorem Dev.emit_lanes (k : SentKind) (dest : Nat) (ws : List Nat) : (d.emit k dest ws).lanes = d.lanes := rfl
@[simp] theorem Dev.emit_frms (k : SentKind) (dest : Nat) (ws : List Nat) : (d.emit k dest ws).frms = d.frms := rfl
@[simp] theorem Dev.emit_sch (k : SentKind) (dest : Nat) (ws : List Nat) : (d.emit k dest ws).sch = d.sch := rfl
@[simp] theorem Dev.emit_seq (k : SentKind) (dest : Nat) (ws : List Nat) : (d.emit k dest ws).seq = d.seq := rfl
@[simp] theorem Dev.emit_loops (k : SentKind) (dest : Nat) (ws : List Nat) : (d.emit k dest ws).loops = d.loops := rfl
@[simp] theorem Dev.emit_dieLost (k : SentKind) (dest : Nat) (ws : List Nat) : (d.emit k dest ws).dieLost = d.dieLost := rfl
@[simp] theorem Dev.emit_cusSlots (k : SentKind) (dest : Nat) (ws : List Nat) : (d.emit k dest ws).cusSlots = d.cusSlots := rfl
@[simp] theorem Dev.emit_cusDuration (k : SentKind) (dest : Nat) (ws : List Nat) : (d.emit k dest ws).cusDuration = d.cusDuration := rfl
@[simp] theorem Dev.emit_dieTraining (k : SentKind) (dest : Nat) (ws : List Nat) : (d.emit k dest ws).dieTraining = d.dieTraining := rfl
@[simp] theorem Dev.emit_epochPend (k : SentKind) (dest : Nat) (ws : List Nat) : (d.emit k dest ws).epochPend = d.epochPend := rfl
@[simp] theorem Dev.emit_identities (k : SentKind) (dest : Nat) (ws : List Nat) : (d.emit k dest ws).identities = d.identities := rfl
@[simp] theorem Dev.emit_stale (k : SentKind) (dest : Nat) (ws : List Nat) : (d.emit k dest ws).stale = d.stale := rfl
@[simp] theorem Dev.emit_intN (k : SentKind) (dest : Nat) (ws : List Nat) : (d.emit k dest ws).intN = d.intN := rfl
@[simp] theorem Dev.emit_isl (k : SentKind) (dest : Nat) (ws : List Nat) : (d.emit k dest ws).isl = d.isl := rfl
@[simp] theorem Dev.emit_otp (k : SentKind) (dest : Nat) (ws : List Nat) : (d.emit k dest ws).otp = d.otp := rfl
@[simp] theorem Dev.emit_hatch (k : SentKind) (dest : Nat) (ws : List Nat) : (d.emit k dest ws).hatch = d.hatch := rfl
@[simp] theorem Dev.emit_ck (k : SentKind) (dest : Nat) (ws : List Nat) : (d.emit k dest ws).ck = d.ck := rfl
@[simp] theorem Dev.emit_rtc (k : SentKind) (dest : Nat) (ws : List Nat) : (d.emit k dest ws).rtc = d.rtc := rfl
@[simp] theorem Dev.emit_down (k : SentKind) (dest : Nat) (ws : List Nat) : (d.emit k dest ws).down = d.down := rfl
@[simp] theorem Dev.emit_wake (k : SentKind) (dest : Nat) (ws : List Nat) : (d.emit k dest ws).wake = d.wake := rfl
@[simp] theorem Dev.emit_pwr (k : SentKind) (dest : Nat) (ws : List Nat) : (d.emit k dest ws).pwr = d.pwr := rfl
@[simp] theorem Dev.emit_mem (k : SentKind) (dest : Nat) (ws : List Nat) : (d.emit k dest ws).mem = d.mem := rfl
@[simp] theorem Dev.emit_flr (k : SentKind) (dest : Nat) (ws : List Nat) : (d.emit k dest ws).flr = d.flr := rfl
@[simp] theorem Dev.emit_imp (k : SentKind) (dest : Nat) (ws : List Nat) : (d.emit k dest ws).imp = d.imp := rfl
@[simp] theorem Dev.emit_est (k : SentKind) (dest : Nat) (ws : List Nat) : (d.emit k dest ws).est = d.est := rfl
@[simp] theorem Dev.emit_mtr (k : SentKind) (dest : Nat) (ws : List Nat) : (d.emit k dest ws).mtr = d.mtr := rfl
@[simp] theorem Dev.emit_twn (k : SentKind) (dest : Nat) (ws : List Nat) : (d.emit k dest ws).twn = d.twn := rfl
@[simp] theorem Dev.emit_pd (k : SentKind) (dest : Nat) (ws : List Nat) : (d.emit k dest ws).pd = d.pd := rfl
@[simp] theorem Dev.emit_thm (k : SentKind) (dest : Nat) (ws : List Nat) : (d.emit k dest ws).thm = d.thm := rfl
@[simp] theorem Dev.emit_wdt (k : SentKind) (dest : Nat) (ws : List Nat) : (d.emit k dest ws).wdt = d.wdt := rfl
@[simp] theorem Dev.emit_dma (k : SentKind) (dest : Nat) (ws : List Nat) : (d.emit k dest ws).dma = d.dma := rfl
@[simp] theorem Dev.emit_spRefused (k : SentKind) (dest : Nat) (ws : List Nat) : (d.emit k dest ws).spRefused = d.spRefused := rfl
@[simp] theorem Dev.emit_readWait (k : SentKind) (dest : Nat) (ws : List Nat) : (d.emit k dest ws).readWait = d.readWait := rfl

/-! ## `Dev.putLane` -/

@[simp] theorem Dev.putLane_time (l : Nat) (x : Lane) : (d.putLane l x).time = d.time := rfl
@[simp] theorem Dev.putLane_freeCtr (l : Nat) (x : Lane) : (d.putLane l x).freeCtr = d.freeCtr := rfl
@[simp] theorem Dev.putLane_regs (l : Nat) (x : Lane) : (d.putLane l x).regs = d.regs := rfl
@[simp] theorem Dev.putLane_snap (l : Nat) (x : Lane) : (d.putLane l x).snap = d.snap := rfl
@[simp] theorem Dev.putLane_sent (l : Nat) (x : Lane) : (d.putLane l x).sent = d.sent := rfl
@[simp] theorem Dev.putLane_flt (l : Nat) (x : Lane) : (d.putLane l x).flt = d.flt := rfl
@[simp] theorem Dev.putLane_tkt (l : Nat) (x : Lane) : (d.putLane l x).tkt = d.tkt := rfl
@[simp] theorem Dev.putLane_msixPend (l : Nat) (x : Lane) : (d.putLane l x).msixPend = d.msixPend := rfl
@[simp] theorem Dev.putLane_msixTable (l : Nat) (x : Lane) : (d.putLane l x).msixTable = d.msixTable := rfl
@[simp] theorem Dev.putLane_d3hot (l : Nat) (x : Lane) : (d.putLane l x).d3hot = d.d3hot := rfl
@[simp] theorem Dev.putLane_ldg (l : Nat) (x : Lane) : (d.putLane l x).ldg = d.ldg := rfl
@[simp] theorem Dev.putLane_frms (l : Nat) (x : Lane) : (d.putLane l x).frms = d.frms := rfl
@[simp] theorem Dev.putLane_sch (l : Nat) (x : Lane) : (d.putLane l x).sch = d.sch := rfl
@[simp] theorem Dev.putLane_seq (l : Nat) (x : Lane) : (d.putLane l x).seq = d.seq := rfl
@[simp] theorem Dev.putLane_loops (l : Nat) (x : Lane) : (d.putLane l x).loops = d.loops := rfl
@[simp] theorem Dev.putLane_dieLost (l : Nat) (x : Lane) : (d.putLane l x).dieLost = d.dieLost := rfl
@[simp] theorem Dev.putLane_cusSlots (l : Nat) (x : Lane) : (d.putLane l x).cusSlots = d.cusSlots := rfl
@[simp] theorem Dev.putLane_cusDuration (l : Nat) (x : Lane) : (d.putLane l x).cusDuration = d.cusDuration := rfl
@[simp] theorem Dev.putLane_dieTraining (l : Nat) (x : Lane) : (d.putLane l x).dieTraining = d.dieTraining := rfl
@[simp] theorem Dev.putLane_epochPend (l : Nat) (x : Lane) : (d.putLane l x).epochPend = d.epochPend := rfl
@[simp] theorem Dev.putLane_identities (l : Nat) (x : Lane) : (d.putLane l x).identities = d.identities := rfl
@[simp] theorem Dev.putLane_stale (l : Nat) (x : Lane) : (d.putLane l x).stale = d.stale := rfl
@[simp] theorem Dev.putLane_intN (l : Nat) (x : Lane) : (d.putLane l x).intN = d.intN := rfl
@[simp] theorem Dev.putLane_isl (l : Nat) (x : Lane) : (d.putLane l x).isl = d.isl := rfl
@[simp] theorem Dev.putLane_otp (l : Nat) (x : Lane) : (d.putLane l x).otp = d.otp := rfl
@[simp] theorem Dev.putLane_hatch (l : Nat) (x : Lane) : (d.putLane l x).hatch = d.hatch := rfl
@[simp] theorem Dev.putLane_ck (l : Nat) (x : Lane) : (d.putLane l x).ck = d.ck := rfl
@[simp] theorem Dev.putLane_rtc (l : Nat) (x : Lane) : (d.putLane l x).rtc = d.rtc := rfl
@[simp] theorem Dev.putLane_down (l : Nat) (x : Lane) : (d.putLane l x).down = d.down := rfl
@[simp] theorem Dev.putLane_wake (l : Nat) (x : Lane) : (d.putLane l x).wake = d.wake := rfl
@[simp] theorem Dev.putLane_pwr (l : Nat) (x : Lane) : (d.putLane l x).pwr = d.pwr := rfl
@[simp] theorem Dev.putLane_mem (l : Nat) (x : Lane) : (d.putLane l x).mem = d.mem := rfl
@[simp] theorem Dev.putLane_flr (l : Nat) (x : Lane) : (d.putLane l x).flr = d.flr := rfl
@[simp] theorem Dev.putLane_imp (l : Nat) (x : Lane) : (d.putLane l x).imp = d.imp := rfl
@[simp] theorem Dev.putLane_est (l : Nat) (x : Lane) : (d.putLane l x).est = d.est := rfl
@[simp] theorem Dev.putLane_mtr (l : Nat) (x : Lane) : (d.putLane l x).mtr = d.mtr := rfl
@[simp] theorem Dev.putLane_twn (l : Nat) (x : Lane) : (d.putLane l x).twn = d.twn := rfl
@[simp] theorem Dev.putLane_pd (l : Nat) (x : Lane) : (d.putLane l x).pd = d.pd := rfl
@[simp] theorem Dev.putLane_thm (l : Nat) (x : Lane) : (d.putLane l x).thm = d.thm := rfl
@[simp] theorem Dev.putLane_wdt (l : Nat) (x : Lane) : (d.putLane l x).wdt = d.wdt := rfl
@[simp] theorem Dev.putLane_dma (l : Nat) (x : Lane) : (d.putLane l x).dma = d.dma := rfl
@[simp] theorem Dev.putLane_spRefused (l : Nat) (x : Lane) : (d.putLane l x).spRefused = d.spRefused := rfl
@[simp] theorem Dev.putLane_readWait (l : Nat) (x : Lane) : (d.putLane l x).readWait = d.readWait := rfl

/-! ## `Dev.putFrm` -/

@[simp] theorem Dev.putFrm_time (l : Nat) (x : Frm) : (d.putFrm l x).time = d.time := rfl
@[simp] theorem Dev.putFrm_freeCtr (l : Nat) (x : Frm) : (d.putFrm l x).freeCtr = d.freeCtr := rfl
@[simp] theorem Dev.putFrm_regs (l : Nat) (x : Frm) : (d.putFrm l x).regs = d.regs := rfl
@[simp] theorem Dev.putFrm_snap (l : Nat) (x : Frm) : (d.putFrm l x).snap = d.snap := rfl
@[simp] theorem Dev.putFrm_sent (l : Nat) (x : Frm) : (d.putFrm l x).sent = d.sent := rfl
@[simp] theorem Dev.putFrm_flt (l : Nat) (x : Frm) : (d.putFrm l x).flt = d.flt := rfl
@[simp] theorem Dev.putFrm_tkt (l : Nat) (x : Frm) : (d.putFrm l x).tkt = d.tkt := rfl
@[simp] theorem Dev.putFrm_msixPend (l : Nat) (x : Frm) : (d.putFrm l x).msixPend = d.msixPend := rfl
@[simp] theorem Dev.putFrm_msixTable (l : Nat) (x : Frm) : (d.putFrm l x).msixTable = d.msixTable := rfl
@[simp] theorem Dev.putFrm_d3hot (l : Nat) (x : Frm) : (d.putFrm l x).d3hot = d.d3hot := rfl
@[simp] theorem Dev.putFrm_ldg (l : Nat) (x : Frm) : (d.putFrm l x).ldg = d.ldg := rfl
@[simp] theorem Dev.putFrm_lanes (l : Nat) (x : Frm) : (d.putFrm l x).lanes = d.lanes := rfl
@[simp] theorem Dev.putFrm_sch (l : Nat) (x : Frm) : (d.putFrm l x).sch = d.sch := rfl
@[simp] theorem Dev.putFrm_seq (l : Nat) (x : Frm) : (d.putFrm l x).seq = d.seq := rfl
@[simp] theorem Dev.putFrm_loops (l : Nat) (x : Frm) : (d.putFrm l x).loops = d.loops := rfl
@[simp] theorem Dev.putFrm_dieLost (l : Nat) (x : Frm) : (d.putFrm l x).dieLost = d.dieLost := rfl
@[simp] theorem Dev.putFrm_cusSlots (l : Nat) (x : Frm) : (d.putFrm l x).cusSlots = d.cusSlots := rfl
@[simp] theorem Dev.putFrm_cusDuration (l : Nat) (x : Frm) : (d.putFrm l x).cusDuration = d.cusDuration := rfl
@[simp] theorem Dev.putFrm_dieTraining (l : Nat) (x : Frm) : (d.putFrm l x).dieTraining = d.dieTraining := rfl
@[simp] theorem Dev.putFrm_epochPend (l : Nat) (x : Frm) : (d.putFrm l x).epochPend = d.epochPend := rfl
@[simp] theorem Dev.putFrm_identities (l : Nat) (x : Frm) : (d.putFrm l x).identities = d.identities := rfl
@[simp] theorem Dev.putFrm_stale (l : Nat) (x : Frm) : (d.putFrm l x).stale = d.stale := rfl
@[simp] theorem Dev.putFrm_intN (l : Nat) (x : Frm) : (d.putFrm l x).intN = d.intN := rfl
@[simp] theorem Dev.putFrm_isl (l : Nat) (x : Frm) : (d.putFrm l x).isl = d.isl := rfl
@[simp] theorem Dev.putFrm_otp (l : Nat) (x : Frm) : (d.putFrm l x).otp = d.otp := rfl
@[simp] theorem Dev.putFrm_hatch (l : Nat) (x : Frm) : (d.putFrm l x).hatch = d.hatch := rfl
@[simp] theorem Dev.putFrm_ck (l : Nat) (x : Frm) : (d.putFrm l x).ck = d.ck := rfl
@[simp] theorem Dev.putFrm_rtc (l : Nat) (x : Frm) : (d.putFrm l x).rtc = d.rtc := rfl
@[simp] theorem Dev.putFrm_down (l : Nat) (x : Frm) : (d.putFrm l x).down = d.down := rfl
@[simp] theorem Dev.putFrm_wake (l : Nat) (x : Frm) : (d.putFrm l x).wake = d.wake := rfl
@[simp] theorem Dev.putFrm_pwr (l : Nat) (x : Frm) : (d.putFrm l x).pwr = d.pwr := rfl
@[simp] theorem Dev.putFrm_mem (l : Nat) (x : Frm) : (d.putFrm l x).mem = d.mem := rfl
@[simp] theorem Dev.putFrm_flr (l : Nat) (x : Frm) : (d.putFrm l x).flr = d.flr := rfl
@[simp] theorem Dev.putFrm_imp (l : Nat) (x : Frm) : (d.putFrm l x).imp = d.imp := rfl
@[simp] theorem Dev.putFrm_est (l : Nat) (x : Frm) : (d.putFrm l x).est = d.est := rfl
@[simp] theorem Dev.putFrm_mtr (l : Nat) (x : Frm) : (d.putFrm l x).mtr = d.mtr := rfl
@[simp] theorem Dev.putFrm_twn (l : Nat) (x : Frm) : (d.putFrm l x).twn = d.twn := rfl
@[simp] theorem Dev.putFrm_pd (l : Nat) (x : Frm) : (d.putFrm l x).pd = d.pd := rfl
@[simp] theorem Dev.putFrm_thm (l : Nat) (x : Frm) : (d.putFrm l x).thm = d.thm := rfl
@[simp] theorem Dev.putFrm_wdt (l : Nat) (x : Frm) : (d.putFrm l x).wdt = d.wdt := rfl
@[simp] theorem Dev.putFrm_dma (l : Nat) (x : Frm) : (d.putFrm l x).dma = d.dma := rfl
@[simp] theorem Dev.putFrm_spRefused (l : Nat) (x : Frm) : (d.putFrm l x).spRefused = d.spRefused := rfl
@[simp] theorem Dev.putFrm_readWait (l : Nat) (x : Frm) : (d.putFrm l x).readWait = d.readWait := rfl

/-! ## `Dev.putBank` -/

@[simp] theorem Dev.putBank_time (b : Nat) (x : Bank) : (d.putBank b x).time = d.time := rfl
@[simp] theorem Dev.putBank_freeCtr (b : Nat) (x : Bank) : (d.putBank b x).freeCtr = d.freeCtr := rfl
@[simp] theorem Dev.putBank_regs (b : Nat) (x : Bank) : (d.putBank b x).regs = d.regs := rfl
@[simp] theorem Dev.putBank_snap (b : Nat) (x : Bank) : (d.putBank b x).snap = d.snap := rfl
@[simp] theorem Dev.putBank_sent (b : Nat) (x : Bank) : (d.putBank b x).sent = d.sent := rfl
@[simp] theorem Dev.putBank_flt (b : Nat) (x : Bank) : (d.putBank b x).flt = d.flt := rfl
@[simp] theorem Dev.putBank_tkt (b : Nat) (x : Bank) : (d.putBank b x).tkt = d.tkt := rfl
@[simp] theorem Dev.putBank_msixPend (b : Nat) (x : Bank) : (d.putBank b x).msixPend = d.msixPend := rfl
@[simp] theorem Dev.putBank_msixTable (b : Nat) (x : Bank) : (d.putBank b x).msixTable = d.msixTable := rfl
@[simp] theorem Dev.putBank_d3hot (b : Nat) (x : Bank) : (d.putBank b x).d3hot = d.d3hot := rfl
@[simp] theorem Dev.putBank_ldg (b : Nat) (x : Bank) : (d.putBank b x).ldg = d.ldg := rfl
@[simp] theorem Dev.putBank_lanes (b : Nat) (x : Bank) : (d.putBank b x).lanes = d.lanes := rfl
@[simp] theorem Dev.putBank_frms (b : Nat) (x : Bank) : (d.putBank b x).frms = d.frms := rfl
@[simp] theorem Dev.putBank_seq (b : Nat) (x : Bank) : (d.putBank b x).seq = d.seq := rfl
@[simp] theorem Dev.putBank_loops (b : Nat) (x : Bank) : (d.putBank b x).loops = d.loops := rfl
@[simp] theorem Dev.putBank_dieLost (b : Nat) (x : Bank) : (d.putBank b x).dieLost = d.dieLost := rfl
@[simp] theorem Dev.putBank_cusSlots (b : Nat) (x : Bank) : (d.putBank b x).cusSlots = d.cusSlots := rfl
@[simp] theorem Dev.putBank_cusDuration (b : Nat) (x : Bank) : (d.putBank b x).cusDuration = d.cusDuration := rfl
@[simp] theorem Dev.putBank_dieTraining (b : Nat) (x : Bank) : (d.putBank b x).dieTraining = d.dieTraining := rfl
@[simp] theorem Dev.putBank_epochPend (b : Nat) (x : Bank) : (d.putBank b x).epochPend = d.epochPend := rfl
@[simp] theorem Dev.putBank_identities (b : Nat) (x : Bank) : (d.putBank b x).identities = d.identities := rfl
@[simp] theorem Dev.putBank_stale (b : Nat) (x : Bank) : (d.putBank b x).stale = d.stale := rfl
@[simp] theorem Dev.putBank_intN (b : Nat) (x : Bank) : (d.putBank b x).intN = d.intN := rfl
@[simp] theorem Dev.putBank_isl (b : Nat) (x : Bank) : (d.putBank b x).isl = d.isl := rfl
@[simp] theorem Dev.putBank_otp (b : Nat) (x : Bank) : (d.putBank b x).otp = d.otp := rfl
@[simp] theorem Dev.putBank_hatch (b : Nat) (x : Bank) : (d.putBank b x).hatch = d.hatch := rfl
@[simp] theorem Dev.putBank_ck (b : Nat) (x : Bank) : (d.putBank b x).ck = d.ck := rfl
@[simp] theorem Dev.putBank_rtc (b : Nat) (x : Bank) : (d.putBank b x).rtc = d.rtc := rfl
@[simp] theorem Dev.putBank_down (b : Nat) (x : Bank) : (d.putBank b x).down = d.down := rfl
@[simp] theorem Dev.putBank_wake (b : Nat) (x : Bank) : (d.putBank b x).wake = d.wake := rfl
@[simp] theorem Dev.putBank_pwr (b : Nat) (x : Bank) : (d.putBank b x).pwr = d.pwr := rfl
@[simp] theorem Dev.putBank_mem (b : Nat) (x : Bank) : (d.putBank b x).mem = d.mem := rfl
@[simp] theorem Dev.putBank_flr (b : Nat) (x : Bank) : (d.putBank b x).flr = d.flr := rfl
@[simp] theorem Dev.putBank_imp (b : Nat) (x : Bank) : (d.putBank b x).imp = d.imp := rfl
@[simp] theorem Dev.putBank_est (b : Nat) (x : Bank) : (d.putBank b x).est = d.est := rfl
@[simp] theorem Dev.putBank_mtr (b : Nat) (x : Bank) : (d.putBank b x).mtr = d.mtr := rfl
@[simp] theorem Dev.putBank_twn (b : Nat) (x : Bank) : (d.putBank b x).twn = d.twn := rfl
@[simp] theorem Dev.putBank_pd (b : Nat) (x : Bank) : (d.putBank b x).pd = d.pd := rfl
@[simp] theorem Dev.putBank_thm (b : Nat) (x : Bank) : (d.putBank b x).thm = d.thm := rfl
@[simp] theorem Dev.putBank_wdt (b : Nat) (x : Bank) : (d.putBank b x).wdt = d.wdt := rfl
@[simp] theorem Dev.putBank_dma (b : Nat) (x : Bank) : (d.putBank b x).dma = d.dma := rfl
@[simp] theorem Dev.putBank_spRefused (b : Nat) (x : Bank) : (d.putBank b x).spRefused = d.spRefused := rfl
@[simp] theorem Dev.putBank_readWait (b : Nat) (x : Bank) : (d.putBank b x).readWait = d.readWait := rfl

/-! ## `Dev.putLoop` -/

@[simp] theorem Dev.putLoop_time (l : Nat) (x : Loop) : (d.putLoop l x).time = d.time := rfl
@[simp] theorem Dev.putLoop_freeCtr (l : Nat) (x : Loop) : (d.putLoop l x).freeCtr = d.freeCtr := rfl
@[simp] theorem Dev.putLoop_regs (l : Nat) (x : Loop) : (d.putLoop l x).regs = d.regs := rfl
@[simp] theorem Dev.putLoop_snap (l : Nat) (x : Loop) : (d.putLoop l x).snap = d.snap := rfl
@[simp] theorem Dev.putLoop_sent (l : Nat) (x : Loop) : (d.putLoop l x).sent = d.sent := rfl
@[simp] theorem Dev.putLoop_flt (l : Nat) (x : Loop) : (d.putLoop l x).flt = d.flt := rfl
@[simp] theorem Dev.putLoop_tkt (l : Nat) (x : Loop) : (d.putLoop l x).tkt = d.tkt := rfl
@[simp] theorem Dev.putLoop_msixPend (l : Nat) (x : Loop) : (d.putLoop l x).msixPend = d.msixPend := rfl
@[simp] theorem Dev.putLoop_msixTable (l : Nat) (x : Loop) : (d.putLoop l x).msixTable = d.msixTable := rfl
@[simp] theorem Dev.putLoop_d3hot (l : Nat) (x : Loop) : (d.putLoop l x).d3hot = d.d3hot := rfl
@[simp] theorem Dev.putLoop_ldg (l : Nat) (x : Loop) : (d.putLoop l x).ldg = d.ldg := rfl
@[simp] theorem Dev.putLoop_lanes (l : Nat) (x : Loop) : (d.putLoop l x).lanes = d.lanes := rfl
@[simp] theorem Dev.putLoop_frms (l : Nat) (x : Loop) : (d.putLoop l x).frms = d.frms := rfl
@[simp] theorem Dev.putLoop_sch (l : Nat) (x : Loop) : (d.putLoop l x).sch = d.sch := rfl
@[simp] theorem Dev.putLoop_seq (l : Nat) (x : Loop) : (d.putLoop l x).seq = d.seq := rfl
@[simp] theorem Dev.putLoop_dieLost (l : Nat) (x : Loop) : (d.putLoop l x).dieLost = d.dieLost := rfl
@[simp] theorem Dev.putLoop_cusSlots (l : Nat) (x : Loop) : (d.putLoop l x).cusSlots = d.cusSlots := rfl
@[simp] theorem Dev.putLoop_cusDuration (l : Nat) (x : Loop) : (d.putLoop l x).cusDuration = d.cusDuration := rfl
@[simp] theorem Dev.putLoop_dieTraining (l : Nat) (x : Loop) : (d.putLoop l x).dieTraining = d.dieTraining := rfl
@[simp] theorem Dev.putLoop_epochPend (l : Nat) (x : Loop) : (d.putLoop l x).epochPend = d.epochPend := rfl
@[simp] theorem Dev.putLoop_identities (l : Nat) (x : Loop) : (d.putLoop l x).identities = d.identities := rfl
@[simp] theorem Dev.putLoop_stale (l : Nat) (x : Loop) : (d.putLoop l x).stale = d.stale := rfl
@[simp] theorem Dev.putLoop_intN (l : Nat) (x : Loop) : (d.putLoop l x).intN = d.intN := rfl
@[simp] theorem Dev.putLoop_isl (l : Nat) (x : Loop) : (d.putLoop l x).isl = d.isl := rfl
@[simp] theorem Dev.putLoop_otp (l : Nat) (x : Loop) : (d.putLoop l x).otp = d.otp := rfl
@[simp] theorem Dev.putLoop_hatch (l : Nat) (x : Loop) : (d.putLoop l x).hatch = d.hatch := rfl
@[simp] theorem Dev.putLoop_ck (l : Nat) (x : Loop) : (d.putLoop l x).ck = d.ck := rfl
@[simp] theorem Dev.putLoop_rtc (l : Nat) (x : Loop) : (d.putLoop l x).rtc = d.rtc := rfl
@[simp] theorem Dev.putLoop_down (l : Nat) (x : Loop) : (d.putLoop l x).down = d.down := rfl
@[simp] theorem Dev.putLoop_wake (l : Nat) (x : Loop) : (d.putLoop l x).wake = d.wake := rfl
@[simp] theorem Dev.putLoop_pwr (l : Nat) (x : Loop) : (d.putLoop l x).pwr = d.pwr := rfl
@[simp] theorem Dev.putLoop_mem (l : Nat) (x : Loop) : (d.putLoop l x).mem = d.mem := rfl
@[simp] theorem Dev.putLoop_flr (l : Nat) (x : Loop) : (d.putLoop l x).flr = d.flr := rfl
@[simp] theorem Dev.putLoop_imp (l : Nat) (x : Loop) : (d.putLoop l x).imp = d.imp := rfl
@[simp] theorem Dev.putLoop_est (l : Nat) (x : Loop) : (d.putLoop l x).est = d.est := rfl
@[simp] theorem Dev.putLoop_mtr (l : Nat) (x : Loop) : (d.putLoop l x).mtr = d.mtr := rfl
@[simp] theorem Dev.putLoop_twn (l : Nat) (x : Loop) : (d.putLoop l x).twn = d.twn := rfl
@[simp] theorem Dev.putLoop_pd (l : Nat) (x : Loop) : (d.putLoop l x).pd = d.pd := rfl
@[simp] theorem Dev.putLoop_thm (l : Nat) (x : Loop) : (d.putLoop l x).thm = d.thm := rfl
@[simp] theorem Dev.putLoop_wdt (l : Nat) (x : Loop) : (d.putLoop l x).wdt = d.wdt := rfl
@[simp] theorem Dev.putLoop_dma (l : Nat) (x : Loop) : (d.putLoop l x).dma = d.dma := rfl
@[simp] theorem Dev.putLoop_spRefused (l : Nat) (x : Loop) : (d.putLoop l x).spRefused = d.spRefused := rfl
@[simp] theorem Dev.putLoop_readWait (l : Nat) (x : Loop) : (d.putLoop l x).readWait = d.readWait := rfl

/-! ## `Dev.holdMsix` -/

@[simp] theorem Dev.holdMsix_time (v : Nat) : (d.holdMsix v).time = d.time := by unfold Dev.holdMsix; split <;> rfl
@[simp] theorem Dev.holdMsix_freeCtr (v : Nat) : (d.holdMsix v).freeCtr = d.freeCtr := by unfold Dev.holdMsix; split <;> rfl
@[simp] theorem Dev.holdMsix_regs (v : Nat) : (d.holdMsix v).regs = d.regs := by unfold Dev.holdMsix; split <;> rfl
@[simp] theorem Dev.holdMsix_snap (v : Nat) : (d.holdMsix v).snap = d.snap := by unfold Dev.holdMsix; split <;> rfl
@[simp] theorem Dev.holdMsix_sent (v : Nat) : (d.holdMsix v).sent = d.sent := by unfold Dev.holdMsix; split <;> rfl
@[simp] theorem Dev.holdMsix_flt (v : Nat) : (d.holdMsix v).flt = d.flt := by unfold Dev.holdMsix; split <;> rfl
@[simp] theorem Dev.holdMsix_tkt (v : Nat) : (d.holdMsix v).tkt = d.tkt := by unfold Dev.holdMsix; split <;> rfl
@[simp] theorem Dev.holdMsix_msixTable (v : Nat) : (d.holdMsix v).msixTable = d.msixTable := by unfold Dev.holdMsix; split <;> rfl
@[simp] theorem Dev.holdMsix_d3hot (v : Nat) : (d.holdMsix v).d3hot = d.d3hot := by unfold Dev.holdMsix; split <;> rfl
@[simp] theorem Dev.holdMsix_ldg (v : Nat) : (d.holdMsix v).ldg = d.ldg := by unfold Dev.holdMsix; split <;> rfl
@[simp] theorem Dev.holdMsix_lanes (v : Nat) : (d.holdMsix v).lanes = d.lanes := by unfold Dev.holdMsix; split <;> rfl
@[simp] theorem Dev.holdMsix_frms (v : Nat) : (d.holdMsix v).frms = d.frms := by unfold Dev.holdMsix; split <;> rfl
@[simp] theorem Dev.holdMsix_sch (v : Nat) : (d.holdMsix v).sch = d.sch := by unfold Dev.holdMsix; split <;> rfl
@[simp] theorem Dev.holdMsix_seq (v : Nat) : (d.holdMsix v).seq = d.seq := by unfold Dev.holdMsix; split <;> rfl
@[simp] theorem Dev.holdMsix_loops (v : Nat) : (d.holdMsix v).loops = d.loops := by unfold Dev.holdMsix; split <;> rfl
@[simp] theorem Dev.holdMsix_dieLost (v : Nat) : (d.holdMsix v).dieLost = d.dieLost := by unfold Dev.holdMsix; split <;> rfl
@[simp] theorem Dev.holdMsix_cusSlots (v : Nat) : (d.holdMsix v).cusSlots = d.cusSlots := by unfold Dev.holdMsix; split <;> rfl
@[simp] theorem Dev.holdMsix_cusDuration (v : Nat) : (d.holdMsix v).cusDuration = d.cusDuration := by unfold Dev.holdMsix; split <;> rfl
@[simp] theorem Dev.holdMsix_dieTraining (v : Nat) : (d.holdMsix v).dieTraining = d.dieTraining := by unfold Dev.holdMsix; split <;> rfl
@[simp] theorem Dev.holdMsix_epochPend (v : Nat) : (d.holdMsix v).epochPend = d.epochPend := by unfold Dev.holdMsix; split <;> rfl
@[simp] theorem Dev.holdMsix_identities (v : Nat) : (d.holdMsix v).identities = d.identities := by unfold Dev.holdMsix; split <;> rfl
@[simp] theorem Dev.holdMsix_stale (v : Nat) : (d.holdMsix v).stale = d.stale := by unfold Dev.holdMsix; split <;> rfl
@[simp] theorem Dev.holdMsix_intN (v : Nat) : (d.holdMsix v).intN = d.intN := by unfold Dev.holdMsix; split <;> rfl
@[simp] theorem Dev.holdMsix_isl (v : Nat) : (d.holdMsix v).isl = d.isl := by unfold Dev.holdMsix; split <;> rfl
@[simp] theorem Dev.holdMsix_otp (v : Nat) : (d.holdMsix v).otp = d.otp := by unfold Dev.holdMsix; split <;> rfl
@[simp] theorem Dev.holdMsix_hatch (v : Nat) : (d.holdMsix v).hatch = d.hatch := by unfold Dev.holdMsix; split <;> rfl
@[simp] theorem Dev.holdMsix_ck (v : Nat) : (d.holdMsix v).ck = d.ck := by unfold Dev.holdMsix; split <;> rfl
@[simp] theorem Dev.holdMsix_rtc (v : Nat) : (d.holdMsix v).rtc = d.rtc := by unfold Dev.holdMsix; split <;> rfl
@[simp] theorem Dev.holdMsix_down (v : Nat) : (d.holdMsix v).down = d.down := by unfold Dev.holdMsix; split <;> rfl
@[simp] theorem Dev.holdMsix_wake (v : Nat) : (d.holdMsix v).wake = d.wake := by unfold Dev.holdMsix; split <;> rfl
@[simp] theorem Dev.holdMsix_pwr (v : Nat) : (d.holdMsix v).pwr = d.pwr := by unfold Dev.holdMsix; split <;> rfl
@[simp] theorem Dev.holdMsix_mem (v : Nat) : (d.holdMsix v).mem = d.mem := by unfold Dev.holdMsix; split <;> rfl
@[simp] theorem Dev.holdMsix_flr (v : Nat) : (d.holdMsix v).flr = d.flr := by unfold Dev.holdMsix; split <;> rfl
@[simp] theorem Dev.holdMsix_imp (v : Nat) : (d.holdMsix v).imp = d.imp := by unfold Dev.holdMsix; split <;> rfl
@[simp] theorem Dev.holdMsix_est (v : Nat) : (d.holdMsix v).est = d.est := by unfold Dev.holdMsix; split <;> rfl
@[simp] theorem Dev.holdMsix_mtr (v : Nat) : (d.holdMsix v).mtr = d.mtr := by unfold Dev.holdMsix; split <;> rfl
@[simp] theorem Dev.holdMsix_twn (v : Nat) : (d.holdMsix v).twn = d.twn := by unfold Dev.holdMsix; split <;> rfl
@[simp] theorem Dev.holdMsix_pd (v : Nat) : (d.holdMsix v).pd = d.pd := by unfold Dev.holdMsix; split <;> rfl
@[simp] theorem Dev.holdMsix_thm (v : Nat) : (d.holdMsix v).thm = d.thm := by unfold Dev.holdMsix; split <;> rfl
@[simp] theorem Dev.holdMsix_wdt (v : Nat) : (d.holdMsix v).wdt = d.wdt := by unfold Dev.holdMsix; split <;> rfl
@[simp] theorem Dev.holdMsix_dma (v : Nat) : (d.holdMsix v).dma = d.dma := by unfold Dev.holdMsix; split <;> rfl
@[simp] theorem Dev.holdMsix_spRefused (v : Nat) : (d.holdMsix v).spRefused = d.spRefused := by unfold Dev.holdMsix; split <;> rfl
@[simp] theorem Dev.holdMsix_readWait (v : Nat) : (d.holdMsix v).readWait = d.readWait := by unfold Dev.holdMsix; split <;> rfl

/-! ## `Dev.free` -/

@[simp] theorem Dev.free_time : (d.free).2.time = d.time := rfl
@[simp] theorem Dev.free_regs : (d.free).2.regs = d.regs := rfl
@[simp] theorem Dev.free_snap : (d.free).2.snap = d.snap := rfl
@[simp] theorem Dev.free_sent : (d.free).2.sent = d.sent := rfl
@[simp] theorem Dev.free_flt : (d.free).2.flt = d.flt := rfl
@[simp] theorem Dev.free_tkt : (d.free).2.tkt = d.tkt := rfl
@[simp] theorem Dev.free_msixPend : (d.free).2.msixPend = d.msixPend := rfl
@[simp] theorem Dev.free_msixTable : (d.free).2.msixTable = d.msixTable := rfl
@[simp] theorem Dev.free_d3hot : (d.free).2.d3hot = d.d3hot := rfl
@[simp] theorem Dev.free_ldg : (d.free).2.ldg = d.ldg := rfl
@[simp] theorem Dev.free_lanes : (d.free).2.lanes = d.lanes := rfl
@[simp] theorem Dev.free_frms : (d.free).2.frms = d.frms := rfl
@[simp] theorem Dev.free_sch : (d.free).2.sch = d.sch := rfl
@[simp] theorem Dev.free_seq : (d.free).2.seq = d.seq := rfl
@[simp] theorem Dev.free_loops : (d.free).2.loops = d.loops := rfl
@[simp] theorem Dev.free_dieLost : (d.free).2.dieLost = d.dieLost := rfl
@[simp] theorem Dev.free_cusSlots : (d.free).2.cusSlots = d.cusSlots := rfl
@[simp] theorem Dev.free_cusDuration : (d.free).2.cusDuration = d.cusDuration := rfl
@[simp] theorem Dev.free_dieTraining : (d.free).2.dieTraining = d.dieTraining := rfl
@[simp] theorem Dev.free_epochPend : (d.free).2.epochPend = d.epochPend := rfl
@[simp] theorem Dev.free_identities : (d.free).2.identities = d.identities := rfl
@[simp] theorem Dev.free_stale : (d.free).2.stale = d.stale := rfl
@[simp] theorem Dev.free_intN : (d.free).2.intN = d.intN := rfl
@[simp] theorem Dev.free_isl : (d.free).2.isl = d.isl := rfl
@[simp] theorem Dev.free_otp : (d.free).2.otp = d.otp := rfl
@[simp] theorem Dev.free_hatch : (d.free).2.hatch = d.hatch := rfl
@[simp] theorem Dev.free_ck : (d.free).2.ck = d.ck := rfl
@[simp] theorem Dev.free_rtc : (d.free).2.rtc = d.rtc := rfl
@[simp] theorem Dev.free_down : (d.free).2.down = d.down := rfl
@[simp] theorem Dev.free_wake : (d.free).2.wake = d.wake := rfl
@[simp] theorem Dev.free_pwr : (d.free).2.pwr = d.pwr := rfl
@[simp] theorem Dev.free_mem : (d.free).2.mem = d.mem := rfl
@[simp] theorem Dev.free_flr : (d.free).2.flr = d.flr := rfl
@[simp] theorem Dev.free_imp : (d.free).2.imp = d.imp := rfl
@[simp] theorem Dev.free_est : (d.free).2.est = d.est := rfl
@[simp] theorem Dev.free_mtr : (d.free).2.mtr = d.mtr := rfl
@[simp] theorem Dev.free_twn : (d.free).2.twn = d.twn := rfl
@[simp] theorem Dev.free_pd : (d.free).2.pd = d.pd := rfl
@[simp] theorem Dev.free_thm : (d.free).2.thm = d.thm := rfl
@[simp] theorem Dev.free_wdt : (d.free).2.wdt = d.wdt := rfl
@[simp] theorem Dev.free_dma : (d.free).2.dma = d.dma := rfl
@[simp] theorem Dev.free_spRefused : (d.free).2.spRefused = d.spRefused := rfl
@[simp] theorem Dev.free_readWait : (d.free).2.readWait = d.readWait := rfl

/-! ## The queue -/

/-- A state is its queue and its device. -/
theorem State.eta (s : State) : { pending := s.pending, dev := s.dev : State } = s := rfl

end Sys2Proof.Machine
end

