-- ==== Sys2Proof/Laws/Store.lean ====
section
/-!
SUPPORT. Laws/Store.lean: sparse maps (a read after a write, and the canonical form), and the field store built on them.
-/
namespace Sys2Proof

variable {α : Type}

/-! ## Sparse maps -/

@[simp] theorem SMap.get_nil (k : Nat) (z : α) : SMap.get ([] : SMap α) k z = z := rfl

@[simp] theorem SMap.get_put_same (m : SMap α) (k : Nat) (v z : α) : (m.put k v).get k z = v := by
  induction m with
  | nil => simp [SMap.put, SMap.get]
  | cons e m ih =>
    obtain ⟨j, w⟩ := e
    simp only [SMap.put]
    split
    · simp [SMap.get]
    · split
      · simp [SMap.get]
      · simp only [SMap.get]; rw [if_neg (by assumption), ih]

theorem SMap.get_put_other (m : SMap α) {k j : Nat} (v z : α) (h : k ≠ j) : (m.put k v).get j z = m.get j z := by
  induction m with
  | nil => simp [SMap.put, SMap.get, h]
  | cons e m ih =>
    obtain ⟨i, w⟩ := e
    simp only [SMap.put]
    split
    · simp [SMap.get, h]
    · split
      · next hi => subst hi; simp [SMap.get, h]
      · simp only [SMap.get, ih]

theorem SMap.sortedFrom_mono {m : SMap α} {a b : Nat} (h : a ≤ b) (hm : SMap.sortedFrom b m = true) :
    SMap.sortedFrom a m = true := by
  cases m with
  | nil => rfl
  | cons e m =>
    obtain ⟨k, v⟩ := e
    simp only [SMap.sortedFrom, Bool.and_eq_true, decide_eq_true_eq] at hm ⊢
    exact ⟨Nat.le_trans h hm.1, hm.2⟩

theorem SMap.sortedFrom_put (m : SMap α) (b k : Nat) (v : α) (hb : b ≤ k) (h : SMap.sortedFrom b m = true) :
    SMap.sortedFrom b (m.put k v) = true := by
  induction m generalizing b with
  | nil => simp [SMap.put, SMap.sortedFrom, hb]
  | cons e m ih =>
    obtain ⟨j, w⟩ := e
    simp only [SMap.sortedFrom, Bool.and_eq_true, decide_eq_true_eq] at h
    simp only [SMap.put]
    split
    · simp only [SMap.sortedFrom, Bool.and_eq_true, decide_eq_true_eq]; exact ⟨hb, by omega, h.2⟩
    · split
      · simp only [SMap.sortedFrom, Bool.and_eq_true, decide_eq_true_eq]
        next hj => exact ⟨hb, hj ▸ h.2⟩
      · simp only [SMap.sortedFrom, Bool.and_eq_true, decide_eq_true_eq]
        exact ⟨h.1, ih (j + 1) (by omega) h.2⟩

/-- A write keeps the canonical form. -/
theorem SMap.wf_put {m : SMap α} (k : Nat) (v : α) (h : m.wf = true) : (m.put k v).wf = true :=
  SMap.sortedFrom_put m 0 k v (Nat.zero_le k) h

theorem SMap.sortedFrom_del (m : SMap α) (b k : Nat) (h : SMap.sortedFrom b m = true) : SMap.sortedFrom b (m.del k) = true := by
  induction m generalizing b with
  | nil => rfl
  | cons e m ih =>
    obtain ⟨j, w⟩ := e
    simp only [SMap.sortedFrom, Bool.and_eq_true, decide_eq_true_eq] at h
    simp only [SMap.del]
    split
    · exact ih b (SMap.sortedFrom_mono (by omega) h.2)
    · simp only [SMap.sortedFrom, Bool.and_eq_true, decide_eq_true_eq]; exact ⟨h.1, ih _ h.2⟩

/-- A removal keeps the canonical form. -/
theorem SMap.wf_del {m : SMap α} (k : Nat) (h : m.wf = true) : (m.del k).wf = true := SMap.sortedFrom_del m 0 k h

theorem SMap.sortedFrom_filter (m : SMap α) (b : Nat) (p : Nat × α → Bool) (h : SMap.sortedFrom b m = true) :
    SMap.sortedFrom b (m.filter p) = true := by
  induction m generalizing b with
  | nil => rfl
  | cons e m ih =>
    obtain ⟨j, w⟩ := e
    simp only [SMap.sortedFrom, Bool.and_eq_true, decide_eq_true_eq] at h
    simp only [List.filter]
    split
    · simp only [SMap.sortedFrom, Bool.and_eq_true, decide_eq_true_eq]; exact ⟨h.1, ih _ h.2⟩
    · exact ih b (SMap.sortedFrom_mono (by omega) h.2)

theorem SMap.get_del_same (m : SMap α) (k : Nat) (z : α) : (m.del k).get k z = z := by
  induction m with
  | nil => rfl
  | cons e m ih =>
    obtain ⟨j, w⟩ := e
    simp only [SMap.del]
    split
    · exact ih
    · simp only [SMap.get]; rw [if_neg (by assumption), ih]

theorem SMap.get_del_other (m : SMap α) {k j : Nat} (z : α) (h : k ≠ j) : (m.del k).get j z = m.get j z := by
  induction m with
  | nil => rfl
  | cons e m ih =>
    obtain ⟨i, w⟩ := e
    simp only [SMap.del]
    split
    · next hi => subst hi; simp only [SMap.get, if_neg h]; exact ih
    · simp only [SMap.get, ih]

theorem SMap.mem_put {m : SMap α} {k : Nat} {v : α} {e : Nat × α} (h : e ∈ m.put k v) : e = (k, v) ∨ e ∈ m := by
  induction m with
  | nil => simpa [SMap.put] using h
  | cons x m ih =>
    obtain ⟨j, w⟩ := x
    simp only [SMap.put] at h
    split at h
    · simpa using h
    · split at h
      · simp only [List.mem_cons] at h ⊢; rcases h with h | h
        · exact .inl h
        · exact .inr (.inr h)
      · simp only [List.mem_cons] at h ⊢; rcases h with h | h
        · exact .inr (.inl h)
        · rcases ih h with h | h
          · exact .inl h
          · exact .inr (.inr h)

theorem SMap.mem_del {m : SMap α} {k : Nat} {e : Nat × α} (h : e ∈ m.del k) : e ∈ m := by
  induction m with
  | nil => simp [SMap.del] at h
  | cons x m ih =>
    obtain ⟨j, w⟩ := x
    simp only [SMap.del] at h
    split at h
    · exact List.mem_cons_of_mem _ (ih h)
    · simp only [List.mem_cons] at h ⊢; rcases h with h | h
      · exact .inl h
      · exact .inr (ih h)

/-! ## The field store -/

namespace Machine

/-- A field reads as it was written, cut to its width. -/
@[simp] theorem Dev.get_put_same (d : Dev) (f : Field) (v i : Nat) : (d.put f v i).get f i = v % 2 ^ f.width := by
  simp [Dev.get, Dev.put]

/-- Another field keeps its value. -/
theorem Dev.get_put_field (d : Dev) (f g : Field) (v i j : Nat) (h : f.code ≠ g.code) : (d.put f v i).get g j = d.get g j := by
  simp only [Dev.get, Dev.put]; rw [SMap.get_put_other _ _ _ h]

/-- The field's other places keep their values. -/
theorem Dev.get_put_place (d : Dev) (f g : Field) (v i j : Nat) (h : i ≠ j) : (d.put f v i).get g j = d.get g j := by
  by_cases hc : f.code = g.code
  · simp only [Dev.get, Dev.put]; rw [← hc, SMap.get_put_same, SMap.get_put_other _ _ _ h]
  · exact d.get_put_field f g v i j hc

@[simp] theorem Dev.get_emit (d : Dev) (k : SentKind) (n : Nat) (ws : List Nat) (f : Field) (i : Nat) :
    (d.emit k n ws).get f i = d.get f i := rfl

@[simp] theorem Dev.get_putLane (d : Dev) (l : Nat) (x : Lane) (f : Field) (i : Nat) : (d.putLane l x).get f i = d.get f i := rfl

@[simp] theorem Dev.get_putFrm (d : Dev) (l : Nat) (x : Frm) (f : Field) (i : Nat) : (d.putFrm l x).get f i = d.get f i := rfl

@[simp] theorem Dev.get_putBank (d : Dev) (b : Nat) (x : Bank) (f : Field) (i : Nat) : (d.putBank b x).get f i = d.get f i := rfl

@[simp] theorem Dev.get_putLoop (d : Dev) (l : Nat) (x : Loop) (f : Field) (i : Nat) : (d.putLoop l x).get f i = d.get f i := rfl

@[simp] theorem Dev.get_holdMsix (d : Dev) (v : Nat) (f : Field) (i : Nat) : (d.holdMsix v).get f i = d.get f i := by
  unfold Dev.holdMsix; split <;> rfl

@[simp] theorem Dev.get_free (d : Dev) (f : Field) (i : Nat) : (d.free).2.get f i = d.get f i := rfl

/-- A lane reads as it was written. -/
@[simp] theorem Dev.lane_putLane (d : Dev) (l : Nat) (x : Lane) : (d.putLane l x).lane l = x := by
  simp [Dev.lane, Dev.putLane]

/-- The other lanes keep what they hold. -/
theorem Dev.lane_putLane_other (d : Dev) {l k : Nat} (x : Lane) (h : l ≠ k) : (d.putLane l x).lane k = d.lane k := by
  simp only [Dev.lane, Dev.putLane]; exact SMap.get_put_other _ _ _ h

/-- A lane's framing reads as it was written. -/
@[simp] theorem Dev.frm_putFrm (d : Dev) (l : Nat) (x : Frm) : (d.putFrm l x).frm l = x := by
  simp [Dev.frm, Dev.putFrm]

/-- A saturating counter counts by one below its top. -/
theorem Dev.bump_get (d : Dev) (f : Field) (i : Nat) : (d.bump f i).get f i = satAdd f.width (d.get f i) 1 % 2 ^ f.width := by
  simp [Dev.bump]

end Machine

end Sys2Proof
end

