-- ==== Sys2Proof/Laws/Signals.lean ====
section
/-!
SUPPORT. Laws/Signals.lean: what interrupts, ledger records and outgoing packets can change, and what tickets can: one lemma per
shared operation.
-/
namespace Sys2Proof.Machine

variable (d : Dev)

/-! ## Everything but the signalling parts stays -/

@[simp] theorem Dev.put_unsignalled (f : Field) (v i : Nat) : (d.put f v i).unsignalled = d.unsignalled := rfl

@[simp] theorem Dev.putWbit_unsignalled (f : Field) (b : Nat) (v : Bool) : (d.putWbit f b v).unsignalled = d.unsignalled := rfl

@[simp] theorem Dev.bump_unsignalled (f : Field) (i n : Nat) : (d.bump f i n).unsignalled = d.unsignalled := rfl

@[simp] theorem Dev.bumpS_unsignalled (f g : Field) (i n : Nat) : (d.bumpS f g i n).unsignalled = d.unsignalled := by
  unfold Dev.bumpS; simp only; split <;> rfl

@[simp] theorem Dev.emit_unsignalled (k : SentKind) (n : Nat) (ws : List Nat) : (d.emit k n ws).unsignalled = d.unsignalled := rfl

@[simp] theorem Dev.holdMsix_unsignalled (v : Nat) : (d.holdMsix v).unsignalled = d.unsignalled := by
  unfold Dev.holdMsix; split <;> rfl

@[simp] theorem Dev.slSend_unsignalled (h p : List Nat) : (d.slSend h p).unsignalled = d.unsignalled := by
  unfold Dev.slSend; simp only; split <;> rfl

@[simp] theorem Dev.record_unsignalled (k fl : Nat) (b : List Part) (t s : Nat) :
    (d.record k fl b t s).unsignalled = d.unsignalled := by
  unfold Dev.record; split <;> rfl

@[simp] theorem Dev.ldgRefusal_unsignalled : d.ldgRefusal.unsignalled = d.unsignalled := by simp [Dev.ldgRefusal]

@[simp] theorem Dev.summaryAgain_unsignalled (s : Nat) : (d.summaryAgain s).unsignalled = d.unsignalled := by
  unfold Dev.summaryAgain; split <;> rfl

@[simp] theorem Dev.irqDeliver_unsignalled (s : Nat) : (d.irqDeliver s).unsignalled = d.unsignalled := by
  unfold Dev.irqDeliver
  split
  · rfl
  · simp only
    repeat' split
    all_goals first | rfl | simp

@[simp] theorem Dev.irqEdge_unsignalled (s : Nat) : (d.irqEdge s).unsignalled = d.unsignalled := by
  unfold Dev.irqEdge; split <;> simp

@[simp] theorem Dev.pageIrq_unsignalled (p b : Nat) : (d.pageIrq p b).unsignalled = d.unsignalled := by
  unfold Dev.pageIrq; simp only; split <;> simp

@[simp] theorem Dev.privRecord_unsignalled (ch k p o v t r : Nat) :
    (d.privRecord ch k p o v t r).unsignalled = d.unsignalled := by simp [Dev.privRecord]

/-- A part that signalling cannot touch is the same on both sides. -/
theorem Dev.part_of_unsignalled {α : Type} (g : Dev → α) (hg : ∀ d, g d.unsignalled = g d) {d e : Dev}
    (h : e.unsignalled = d.unsignalled) : g e = g d := by rw [← hg e, h, hg d]

/-! ## Every register field but the signalling ones stays -/

theorem Dev.putWbit_get {f : Field} (g : Field) (b i : Nat) (v : Bool) (h : f.code ≠ g.code) :
    (d.putWbit f b v).get g i = d.get g i := by
  unfold Dev.putWbit; exact d.get_put_field _ _ _ _ _ h

theorem Dev.bump_get_other {f g : Field} (i j n : Nat) (h : f.code ≠ g.code) : (d.bump f i n).get g j = d.get g j := by
  unfold Dev.bump; exact d.get_put_field _ _ _ _ _ h

theorem Dev.bumpS_get_other {f s g : Field} (i j n : Nat) (h : f.code ≠ g.code) (hs : s.code ≠ g.code) :
    (d.bumpS f s i n).get g j = d.get g j := by
  unfold Dev.bumpS; simp only
  split
  · exact d.get_put_field _ _ _ _ _ h
  · rw [Dev.get_put_field _ _ _ _ _ _ hs, d.get_put_field _ _ _ _ _ h]

@[simp] theorem Dev.slSend_get (h p : List Nat) (f : Field) (i : Nat) : (d.slSend h p).get f i = d.get f i := by
  unfold Dev.slSend; simp only; split <;> rfl

@[simp] theorem Dev.record_get (k fl : Nat) (b : List Part) (t s : Nat) (f : Field) (i : Nat) :
    (d.record k fl b t s).get f i = d.get f i := by
  unfold Dev.record; split <;> rfl

@[simp] theorem Dev.privRecord_get (ch k p o v t r : Nat) (f : Field) (i : Nat) :
    (d.privRecord ch k p o v t r).get f i = d.get f i := by simp [Dev.privRecord]

theorem signal_ne {f : Field} (h : f.code ∉ signalCodes) :
    IRQ_PEND_pend.code ≠ f.code ∧ IRQ_LOST_count.code ≠ f.code ∧ PAGE_IRQ_RAW_raw.code ≠ f.code ∧
      LDG_FULL_REFUSALS_count.code ≠ f.code ∧ LDG_FULL_REFUSALS_sat.code ≠ f.code := by
  simp only [signalCodes, List.mem_cons, List.not_mem_nil, or_false, not_or] at h
  exact ⟨Ne.symm h.1, Ne.symm h.2.1, Ne.symm h.2.2.1, Ne.symm h.2.2.2.1, Ne.symm h.2.2.2.2⟩

theorem Dev.ldgRefusal_get (f : Field) (i : Nat) (h : f.code ∉ signalCodes) : d.ldgRefusal.get f i = d.get f i := by
  have s := signal_ne h
  exact d.bumpS_get_other _ _ _ s.2.2.2.1 s.2.2.2.2

theorem Dev.summaryAgain_get (src : Nat) (f : Field) (i : Nat) (h : f.code ∉ signalCodes) : (d.summaryAgain src).get f i = d.get f i := by
  unfold Dev.summaryAgain
  split
  · exact Dev.putWbit_get _ _ _ _ _ (signal_ne h).1
  · rfl

theorem Dev.irqDeliver_get (src : Nat) (f : Field) (i : Nat) (h : f.code ∉ signalCodes) :
    (d.irqDeliver src).get f i = d.get f i := by
  have s := signal_ne h
  unfold Dev.irqDeliver
  split
  · rfl
  · simp only
    repeat' split
    all_goals first
      | rfl
      | simp
      | exact d.ldgRefusal_get f i h
      | (rw [Dev.summaryAgain_get _ _ _ _ h, Dev.putWbit_get _ _ _ _ _ s.1]; simp)

/-- An interrupt source's edge changes no field but the signalling ones. -/
theorem Dev.irqEdge_get (src : Nat) (f : Field) (i : Nat) (h : f.code ∉ signalCodes) : (d.irqEdge src).get f i = d.get f i := by
  have s := signal_ne h
  unfold Dev.irqEdge
  split
  · exact d.bump_get_other _ _ _ s.2.1
  · rw [Dev.irqDeliver_get _ _ _ _ h, Dev.putWbit_get _ _ _ _ _ s.1]

/-- A block event changes no field but the signalling ones. -/
theorem Dev.pageIrq_get (p b : Nat) (f : Field) (i : Nat) (h : f.code ∉ signalCodes) : (d.pageIrq p b).get f i = d.get f i := by
  have s := signal_ne h
  unfold Dev.pageIrq
  simp only
  split
  · rw [Dev.irqEdge_get _ _ _ _ h, Dev.get_put_field _ _ _ _ _ _ s.2.2.1]
  · rw [Dev.get_put_field _ _ _ _ _ _ s.2.2.1]

end Sys2Proof.Machine
end

