-- ==== Sys2Proof/Laws/Commands.lean ====
section
/-!
SUPPORT. Laws/Commands.lean: all that a command written to a page can do: it does not reach the page, it waits at its link or for its
ticket, it is refused, or it is accepted.
-/
namespace Sys2Proof.Machine

variable (d : Dev) (page op : Nat) (x : CmdDef) (c : Cmd)

/-- A command that does not reach its page has no effect (R48, R71, R77). -/
theorem Dev.cmd_unreached (h : d.reaches c.ch page = false) : d.cmd page op x c = d := by
  simp [Dev.cmd, Dev.command, h]

/-- A command that comes too soon, or behind commands that wait, waits whole (R118). -/
theorem Dev.cmd_held (h : d.reaches c.ch page = true) (hw : d.mustWait c.ch (x.judge page op c d).priv = false)
    (hs : c.soon = true ∨ d.tkt.held ≠ []) :
    d.cmd page op x c =
      { d with tkt := { d.tkt with
        held := d.tkt.held ++ [⟨page, op, { c with soon := false }, (x.judge page op c d).priv⟩] } } := by
  have hs' : (c.soon || !d.tkt.held.isEmpty) = true := by
    rcases hs with hs | hs
    · simp [hs]
    · cases hl : d.tkt.held with
      | nil => exact absurd hl hs
      | cons _ _ => simp
  simp [Dev.cmd, Dev.command, h, hw, hs']

/-- A command that nothing makes wait is judged and taken at once. -/
theorem Dev.cmd_taken (h : d.reaches c.ch page = true) (hw : d.mustWait c.ch (x.judge page op c d).priv = false)
    (hs : c.soon = false) (hl : d.tkt.held = []) :
    d.cmd page op x c = d.take page op c (x.judge page op c d) (x.effect page c) (x.refused page c) := by
  simp [Dev.cmd, Dev.command, h, hw, hs, hl]

/-- An accepted command takes its ticket and has its effect under it (R79, R118). -/
theorem Dev.cmd_accepted (h : d.accepts page op x c) : d.cmd page op x c = d.accepted page op x c := by
  obtain ⟨h1, h2, h3, h4, h5⟩ := h
  rw [d.cmd_taken page op x c h1 h2 h3 h4]
  simp only [Dev.take, h5, if_true, Dev.accepted]

/-- A refusal for another reason than BUSY is recorded where it is a privileged command's and reported, and has no effect but what the
command's chapter says of a refusal (R79, R84). -/
theorem Dev.cmd_refused (h : d.reaches c.ch page = true) (hw : d.mustWait c.ch (x.judge page op c d).priv = false)
    (hs : c.soon = false) (hl : d.tkt.held = []) (hr : d.verdictResult page (x.judge page op c d) ≠ rOK)
    (hb : d.verdictResult page (x.judge page op c d) ≠ rBusy) :
    d.cmd page op x c =
      let r := d.verdictResult page (x.judge page op c d)
      x.refused page c
        ((if (x.judge page op c d).priv && d.privHeld page c.ch then d.cmdRecord page op c 0 r else d).report page c.ch r 0) := by
  rw [d.cmd_taken page op x c h hw hs hl]
  simp only [Dev.take, if_neg hr, if_neg hb]

/-- A command of a waking page that is accepted: the access wakes first (R300). -/
theorem Dev.wakingCmd_accepted (hw : d.mustWait c.ch (x.judge page op c d).priv = false)
    (h : d.wakeCause.accepts page op x c) : d.wakingCmd page op x c = d.wakeCause.accepted page op x c := by
  have hr : d.wakeCause.channelUp c.ch = true := by
    have := h.1; simp only [Dev.reaches, Bool.and_eq_true] at this; exact this.1.1
  have hc : d.channelUp c.ch = true := by
    have e : d.wakeCause.channelUp c.ch = d.channelUp c.ch := by
      unfold Dev.wakeCause; simp only; split <;> rfl
    rw [← e]; exact hr
  unfold Dev.wakingCmd
  rw [hc, hw]
  exact Dev.cmd_accepted _ page op x c h

/-- The result of a judgement is one of R79's. -/
theorem Dev.verdictResult_cases (v : Verdict) :
    d.verdictResult page v = rOK ∨ d.verdictResult page v = rBadArg ∨ d.verdictResult page v = rBadState ∨
      d.verdictResult page v = rDenied ∨ d.verdictResult page v = rBusy := by
  unfold Dev.verdictResult
  repeat' split
  all_goals simp

end Sys2Proof.Machine
end

