-- ==== Sys2Proof/Laws/Writes.lean ====
section
/-!
SUPPORT. Laws/Writes.lean: how a write of a page's word comes to its page through each view of BAR0, and what a register with an
operation of its own then does.
-/
namespace Sys2Proof.Machine

set_option maxRecDepth 2000

variable (d : Dev)

@[simp] theorem Dev.wakeCause_regs : d.wakeCause.regs = d.regs := by unfold Dev.wakeCause; simp only; split <;> rfl

@[simp] theorem Dev.wakeCause_get (f : Field) (i : Nat) : d.wakeCause.get f i = d.get f i := by simp [Dev.get]

@[simp] theorem Dev.wakeCause_dieLost : d.wakeCause.dieLost = d.dieLost := by unfold Dev.wakeCause; simp only; split <;> rfl

@[simp] theorem Dev.wakeCause_ldg : d.wakeCause.ldg = d.ldg := by unfold Dev.wakeCause; simp only; split <;> rfl

@[simp] theorem Dev.wokenBy_get (p : Nat) (f : Field) (i : Nat) : (d.wokenBy p).get f i = d.get f i := by
  unfold Dev.wokenBy; split <;> simp

@[simp] theorem Dev.wokenBy_ldg (p : Nat) : (d.wokenBy p).ldg = d.ldg := by unfold Dev.wokenBy; split <;> simp

@[simp] theorem Dev.wokenBy_dieLost (p : Nat) : (d.wokenBy p).dieLost = d.dieLost := by unfold Dev.wokenBy; split <;> simp

@[simp] theorem Dev.wokenBy_covers (p ch sc : Nat) : (d.wokenBy p).covers ch sc = d.covers ch sc := by simp [Dev.covers]

@[simp] theorem Dev.wokenBy_serves (p q : Nat) : (d.wokenBy p).serves q = d.serves q := by
  simp [Dev.serves, Dev.pageOn, Dev.railGood, Dev.wbit, Dev.pageLost]

@[simp] theorem Dev.wokenBy_ldgReserve (p : Nat) : (d.wokenBy p).ldgReserve = d.ldgReserve := by simp [Dev.ldgReserve]

/-- A page that no access wakes is left as it is on the way. -/
theorem Dev.wokenBy_other {p : Nat} (h : p ≠ 0x16 ∧ p ≠ 0x17) : d.wokenBy p = d := by
  unfold Dev.wokenBy; rw [if_neg (by omega)]

/-- A write that need not wait although it is privileged need not wait at all. -/
theorem Dev.mustWait_unpriv {ch : Nat} (h : d.mustWait ch true = false) : d.mustWait ch false = false := by
  simp only [Dev.mustWait, Bool.true_and, Bool.false_and, Bool.or_false] at h ⊢
  cases h1 : decide (ch < 2)
  · rfl
  · rw [h1] at h
    simp only [Bool.true_and, Bool.or_eq_false_iff] at h ⊢
    exact h.1

theorem pageAddr_parts (priv : Bool) (page off : Nat) (hp : page < 0x1000) (ho : off < 0x1000) :
    pageAddr priv page off / 2 ^ 24 % 4 = b2n priv ∧ pageAddr priv page off % 2 ^ 24 / 0x1000 = page ∧
      pageAddr priv page off % 2 ^ 24 % 0x1000 = off := by
  cases priv <;> simp only [pageAddr, b2n, if_true, Bool.false_eq_true, if_false] <;> omega

theorem Dev.woken_on_way (area x page : Nat) (ha : area < 2) (hx : x / 0x1000 = page) :
    (if wakesAt area x then d.wakeCause else d) = d.wokenBy page := by
  unfold Dev.wokenBy wakesAt
  rw [if_pos ha, hx]
  by_cases h1 : page = 0x16
  · simp [h1]
  · by_cases h2 : page = 0x17
    · simp [h2]
    · simp [h1, h2]

/-- A write through the unprivileged view comes to its page (R72, R82). -/
theorem Dev.regWrite_unpriv {ch page off v : Nat} {soon : Bool} (h : d.takesWrite ch page) (hp : page < 0x1000)
    (ho : off < 0x1000) : d.regWrite ch false page off v soon = (d.wokenBy page).pageWrite ch false false soon page off v := by
  obtain ⟨hc, hu, hw, hs⟩ := h
  obtain ⟨a1, a2, a3⟩ := pageAddr_parts false page off hp ho
  have ha : b2n false = 0 := rfl
  unfold Dev.regWrite
  rw [if_pos ⟨hp, ho, hc⟩]
  unfold Dev.busWrite
  simp only [a1, a2, a3, ha, hu]
  have hpa : ∀ (e : Dev) y, e.privApplies ch 0 y = false := fun e y => by simp [Dev.privApplies]
  have hpw : ∀ y, d.privWrite ch 0 y = false := fun y => by simp [Dev.privWrite, hpa]
  rw [d.woken_on_way 0 _ page (by omega) a2]
  simp [hpa, hpw, hw]

/-- A write through the privileged view comes to its page with the rights of the session (R72, R82). -/
theorem Dev.regWrite_priv {ch page off v : Nat} {soon : Bool} (h : d.takesPriv ch page) (hp : page < 0x1000)
    (ho : off < 0x1000) (hx : page = 0x11 → off < 0x140) :
    d.regWrite ch true page off v soon =
      (d.wokenBy page).pageWrite ch true (d.covers ch scopeOPS) soon page off v := by
  obtain ⟨hc, hu, hw, hs, hph, hcv, hr⟩ := h
  obtain ⟨a1, a2, a3⟩ := pageAddr_parts true page off hp ho
  have ha : b2n true = 1 := rfl
  have hsc : ∀ e : Dev, (∀ sc, e.covers ch sc = d.covers ch sc) → e.privApplies ch 1 (pageAddr true page off % 2 ^ 24) = true := by
    intro e he
    unfold Dev.privApplies
    simp only [a2, a3, if_pos (show 1 < 2 by omega)]
    rw [if_neg (show ¬ ((1 < 2) ∧ page = 0x11 ∧ 0x140 ≤ off ∧ off < 0x170) by omega)]
    simp [he, hcv]
  unfold Dev.regWrite
  rw [if_pos ⟨hp, ho, hc⟩]
  unfold Dev.busWrite
  simp only [a1, a2, a3, ha, hu]
  rw [d.woken_on_way 1 _ page (by omega) a2]
  have hm : d.mustWait ch (d.privWrite ch 1 (pageAddr true page off % 2 ^ 24)) = false := by
    cases d.privWrite ch 1 (pageAddr true page off % 2 ^ 24)
    · exact d.mustWait_unpriv hw
    · exact hw
  rw [hm, hsc (d.wokenBy page) (fun sc => d.wokenBy_covers page ch sc)]
  simp [hph]

/-- A register with an operation of its own, through the unprivileged view. -/
theorem Dev.pageWrite_own {ch page off v : Nat} {ops soon t : Bool} {e : Dev} (ha : assigned page = true)
    (hs : d.serves page = true) (h4 : off % 4 = 0) (hc : off ≠ 0x14 ∧ off ≠ 0x10)
    (hg : ¬ ((page = 0x15 ∨ page = 0x17) ∧ off = 0x100)) (ho : d.ownWrite ch false page off v = some (t, e)) :
    d.pageWrite ch false ops soon page off v = e := by
  unfold Dev.pageWrite
  simp [ha, hs, h4, hc.1, hc.2, hg, Dev.wordWrite, ho]

/-- A register with an operation of its own, through the privileged view: recorded, then written (R84). -/
theorem Dev.pageWrite_own_priv {ch page off v : Nat} {ops soon : Bool} {e f : Dev} (ha : assigned page = true)
    (hs : d.serves page = true) (h4 : off % 4 = 0) (hc : off ≠ 0x14 ∧ off ≠ 0x10) (hr : d.ldgReserve = false)
    (hg : ¬ ((page = 0x15 ∨ page = 0x17) ∧ off = 0x100)) (ho : d.ownWrite ch true page off v = some (true, f))
    (hp : (d.privRecord ch 0 page off v 0 rOK).ownWrite ch true page off v = some (true, e)) :
    d.pageWrite ch true ops soon page off v = e := by
  unfold Dev.pageWrite
  simp [ha, hs, h4, hc.1, hc.2, hg, hr, Dev.wordWrite, ho, hp]

/-! ## The control word of a page -/

/-- A control word without a reset, where its block allows it, is taken (R76). -/
theorem Dev.ctrlWrite_taken {ch page v : Nat} {p ops soon : Bool} (h : d.enableOk page (bit v 0))
    (hr : (bit v 1 && ops) = false) : d.ctrlWrite ch p ops soon page v = (true, d.ctrlTaken page (bit v 0) (bit v 2)) := by
  unfold Dev.ctrlWrite Dev.ctrlTaken
  obtain ⟨h0, h1, h2⟩ := h
  dsimp only
  rw [hr, if_neg, if_neg]
  · rfl
  · rcases h0 with h0 | h0 <;> simp [h0]
  · cases hb : bit v 0
    · simp [h1 hb]
    · by_cases hp : page = 0x17
      · have h := h2 hb hp
        simp [hp]
        omega
      · simp [hp]

/-- A block reset through `PAGE_CTRL`: the configuration of the same write is taken first, then the command is offered (R76). -/
theorem Dev.ctrlWrite_reset {ch page v : Nat} {p soon : Bool} (h : d.enableOk page (bit v 0)) (hb : bit v 1 = true)
    (hf : d.resetForbidden page = false) (hp : d.resetsSnapshot page = false) : d.ctrlWrite ch p true soon page v =
      (false, (d.ctrlTaken page (bit v 0) (bit v 2)).fieldCmd ch p soon page 0x010) := by
  unfold Dev.ctrlWrite Dev.ctrlTaken
  obtain ⟨h0, h1, h2⟩ := h
  dsimp only
  rw [hb, hf, hp, if_neg, if_neg]
  · rfl
  · rcases h0 with h0 | h0 <;> simp [h0]
  · cases hb : bit v 0
    · simp
    · by_cases hp : page = 0x17
      · have h := h2 hb hp
        simp [hp]
        omega
      · simp [hp]

theorem Dev.wokenBy_resetForbidden (p q : Nat) : (d.wokenBy p).resetForbidden q = d.resetForbidden q := by
  simp [Dev.resetForbidden, Dev.flag, Dev.loopState]

theorem Dev.wokenBy_pairedStandby (p : Nat) : (d.wokenBy p).pairedStandby = d.pairedStandby := by
  simp [Dev.pairedStandby, Dev.standby, Dev.flag]

theorem Dev.wokenBy_resetsSnapshot (p q : Nat) : (d.wokenBy p).resetsSnapshot q = d.resetsSnapshot q := by
  simp [Dev.resetsSnapshot, Dev.wokenBy_pairedStandby]

theorem Dev.wokenBy_memU (p : Nat) : (d.wokenBy p).memU = d.memU := by
  simp [Dev.memU, Dev.memN, Dev.memC]

theorem Dev.wokenBy_enableOk (p q : Nat) (en : Bool) (h : d.enableOk q en) : (d.wokenBy p).enableOk q en := by
  obtain ⟨h0, h1, h2⟩ := h
  exact ⟨h0.imp (fun e => by rw [Dev.wokenBy_pairedStandby]; exact e) id, fun e => by rw [Dev.wokenBy_resetForbidden]; exact h1 e, fun e q => by rw [Dev.wokenBy_memU, Dev.wokenBy_get]; exact h2 e q⟩

/-- The control word through the unprivileged view. -/
theorem Dev.pageWrite_ctrl {ch page v : Nat} {ops soon : Bool} (ha : assigned page = true)
    (hs : d.serves page = true) (h : d.enableOk page (bit v 0)) (hr : (bit v 1 && ops) = false) :
    d.pageWrite ch false ops soon page 0x010 v = d.ctrlTaken page (bit v 0) (bit v 2) := by
  unfold Dev.pageWrite
  simp [ha, hs, Dev.ctrlWrite_taken _ h hr]

theorem Dev.privRecord_resetForbidden (ch a b c e f g p : Nat) :
    (d.privRecord ch a b c e f g).resetForbidden p = d.resetForbidden p := by
  simp [Dev.resetForbidden, Dev.flag, Dev.loopState]
theorem Dev.privRecord_pairedStandby (ch a b c e f g : Nat) : (d.privRecord ch a b c e f g).pairedStandby = d.pairedStandby := by
  simp [Dev.pairedStandby, Dev.standby, Dev.flag]
theorem Dev.privRecord_memU (ch a b c e f g : Nat) : (d.privRecord ch a b c e f g).memU = d.memU := by
  simp [Dev.memU, Dev.memN, Dev.memC]

theorem Dev.privRecord_enableOk (ch a b c e f g q : Nat) (en : Bool) (h : d.enableOk q en) :
    (d.privRecord ch a b c e f g).enableOk q en := by
  obtain ⟨h0, h1, h2⟩ := h
  exact ⟨h0.imp (fun e => by rw [Dev.privRecord_pairedStandby]; exact e) id, fun e => by rw [Dev.privRecord_resetForbidden]; exact h1 e,
    fun e q => by rw [Dev.privRecord_memU, Dev.privRecord_get]; exact h2 e q⟩

/-- The control word through the privileged view: recorded, then taken. -/
theorem Dev.pageWrite_ctrl_priv {ch page v : Nat} {ops soon : Bool} (ha : assigned page = true)
    (hs : d.serves page = true) (h : d.enableOk page (bit v 0)) (hr : (bit v 1 && ops) = false) (hl : d.ldgReserve = false) :
    d.pageWrite ch true ops soon page 0x010 v = (d.privRecord ch 0 page 0x010 v 0 rOK).ctrlTaken page (bit v 0) (bit v 2) := by
  unfold Dev.pageWrite
  simp [ha, hs, Dev.ctrlWrite_taken _ h hr, hl, Dev.ctrlWrite_taken _ (d.privRecord_enableOk ch 0 page 0x010 v 0 rOK page _ h) hr]

/-- The control word with its reset bit set, under a session that covers OPS. -/
theorem Dev.pageWrite_reset {ch page v : Nat} {soon : Bool} (ha : assigned page = true)
    (hs : d.serves page = true) (h : d.enableOk page (bit v 0)) (hb : bit v 1 = true) (hf : d.resetForbidden page = false)
    (hp : d.resetsSnapshot page = false) (hl : d.ldgReserve = false) :
    d.pageWrite ch true true soon page 0x010 v = (d.ctrlTaken page (bit v 0) (bit v 2)).fieldCmd ch true soon page 0x010 := by
  unfold Dev.pageWrite
  simp [ha, hs, Dev.ctrlWrite_reset _ h hb hf hp, hl]

/-- The control word's bits, with its enable written. -/
theorem ctrl_bits_enable (h e : Nat) (en : Bool) (he : e < 2) : bit ((4 * h + e) / 2 * 2 + b2n en) 0 = en ∧
    bit ((4 * h + e) / 2 * 2 + b2n en) 1 = false ∧ bit ((4 * h + e) / 2 * 2 + b2n en) 2 = bit (4 * h + e) 2 := by
  simp only [bit, Nat.testBit_eq_decide_div_mod_eq]
  cases en <;> simp [b2n] <;> omega

theorem ctrl_bits_enable_any (x : Nat) (en : Bool) : bit (x / 2 * 2 + b2n en) 0 = en ∧
    bit (x / 2 * 2 + b2n en) 2 = bit x 2 := by
  simp only [bit, Nat.testBit_eq_decide_div_mod_eq]
  cases en <;> simp [b2n] <;> omega

theorem ctrl_bits_hib (x : Nat) (hib : Bool) : bit (4 * b2n hib + x % 4) 0 = bit x 0 ∧
    bit (4 * b2n hib + x % 4) 1 = bit x 1 ∧ bit (4 * b2n hib + x % 4) 2 = hib := by
  simp only [bit, Nat.testBit_eq_decide_div_mod_eq]
  cases hib <;> simp [b2n] <;> omega

theorem ctrl_bits_reset (h e : Nat) (he : e < 2) : bit (4 * h + e + 2) 0 = bit (4 * h + e) 0 ∧
    bit (4 * h + e + 2) 1 = true ∧ bit (4 * h + e + 2) 2 = bit (4 * h + e) 2 := by
  simp only [bit, Nat.testBit_eq_decide_div_mod_eq]
  simp; omega

theorem ctrl_bit1 (h e : Nat) (he : e < 2) : bit (4 * h + e) 1 = false := by
  simp only [bit, Nat.testBit_eq_decide_div_mod_eq]
  simp; omega

/-! ## The word of PD_CFG -/

/-- The fields of `PD_CFG` that the privileged view writes. -/
theorem alt_rows : ∃ a b c : RegField, writeRows true 0x10 0x104 = [(a, 0), (b, 0), (c, 0)] ∧
    a.fld = PD_CFG_alt_en ∧ b.fld = PD_CFG_src_en ∧ c.fld = PD_CFG_drp_en ∧ a.pos = 2 ∧ b.pos = 1 ∧ c.pos = 0 ∧ a.priv = .rw ∧ b.priv = .rw ∧ c.priv = .rw ∧
    a.mul = 1 ∧ b.mul = 1 ∧ c.mul = 1 ∧ a.add = 0 ∧ b.add = 0 ∧ c.add = 0  :=
  ⟨_, _, _, by rfl, rfl, rfl, rfl, rfl, rfl, rfl, rfl, rfl, rfl, rfl, rfl, rfl, rfl, rfl, rfl⟩

/-- The one word of `PD_CFG` written whole: the alternate mode, the source and the dual role enables (R78, R501). -/
theorem Dev.wordWrite_pd (e : Dev) (ch : Nat) (en : Bool) (a b : Nat) (ha : a < 2) (hb : b < 2) :
    e.wordWrite ch true 0x10 0x104 (4 * b2n en + 2 * a + b) =
      (true, (if en then ((e.put PD_CFG_alt_en (b2n en)).put PD_CFG_src_en a).put PD_CFG_drp_en b else
        (((e.put PD_CFG_alt_en (b2n en)).put PD_CFG_src_en a).put PD_CFG_drp_en b).altExit).pdSettle) := by
  have hb2 : bit (4 * b2n en + 2 * a + b) 2 = en := by
    simp only [bit, Nat.testBit_eq_decide_div_mod_eq]; cases en <;> simp [b2n] <;> omega
  have b2 : bits (4 * b2n en + 2 * a + b) 2 1 = b2n en := by
    simp only [bits, Nat.shiftRight_eq_div_pow]; cases en <;> simp [b2n] <;> omega
  have b1 : bits (4 * b2n en + 2 * a + b) 1 1 = a := by
    simp only [bits, Nat.shiftRight_eq_div_pow]; cases en <;> simp [b2n] <;> omega
  have b0 : bits (4 * b2n en + 2 * a + b) 0 1 = b := by
    simp only [bits, Nat.shiftRight_eq_div_pow]; cases en <;> simp [b2n] <;> omega
  generalize 4 * b2n en + 2 * a + b = v at *
  have ho : e.ownWrite ch true 0x10 0x104 v = none := by simp [Dev.ownWrite, msixTableWord]
  have hl : e.writeLocked 0x10 0x104 v = false := by simp [Dev.writeLocked]
  have hx' : msixTableWord 0x10 0x104 = false := by decide
  have hm : e.writeMasked 0x10 0x104 v = v := by simp [Dev.writeMasked]
  have hr : ∀ x ∈ [PD_CFG_alt_en, PD_CFG_src_en, PD_CFG_drp_en], e.rangeOfField x = none := by
    intro x hx; simp only [List.mem_cons, List.not_mem_nil, or_false] at hx; rcases hx with rfl | rfl | rfl <;> rfl
  have hi : ∀ (f : Field) (r : RegField), f ∈ [PD_CFG_alt_en, PD_CFG_src_en, PD_CFG_drp_en] → r.fld = f → r.mul = 1 → r.add = 0 → 
     ∀ d : Dev, d.fieldIndex ch 0x10 0x104 r 0 = 0 := by
    intro f r hf h1 h2 h3 d; unfold Dev.fieldIndex; simp only [List.mem_cons, List.not_mem_nil, or_false] at hf; rcases hf with rfl | rfl | rfl <;> simp only [h1, h2, h3] <;> rfl
  have hst : ∀ x ∈ [PD_CFG_alt_en, PD_CFG_src_en, PD_CFG_drp_en], ∀ (d : Dev) v, d.storedValue x v = v := by
    intro x hx; simp only [List.mem_cons, List.not_mem_nil, or_false] at hx; rcases hx with rfl | rfl | rfl <;> intro d v <;> rfl
  obtain ⟨x, y, z, hx, f1, f2, f3, p1, p2, p3, q1, q2, q3, m1, m2, m3, a1, a2, a3⟩ := alt_rows
  have i1 := hi _ x (by simp) f1 m1 a1
  have i2 := hi _ y (by simp) f2 m2 a2
  have i3 := hi _ z (by simp) f3 m3 a3
  have w1 : ∀ d : Dev, d.writeField ch true 0x10 0x104 v (x, 0) = d.put PD_CFG_alt_en (b2n en) := by
    intro d; unfold Dev.writeField; simp only [i1, rowAccess, q1, p1, f1, if_true]
    rw [b2, hst _ (by simp)]
  have w2 : ∀ d : Dev, d.writeField ch true 0x10 0x104 v (y, 0) = d.put PD_CFG_src_en a := by
    intro d; unfold Dev.writeField; simp only [i2, rowAccess, q2, p2, f2, if_true]
    rw [b1, hst _ (by simp)]
  have w3 : ∀ d : Dev, d.writeField ch true 0x10 0x104 v (z, 0) = d.put PD_CFG_drp_en b := by
    intro d; unfold Dev.writeField; simp only [i3, rowAccess, q3, p3, f3, if_true]
    rw [b0, hst _ (by simp)]
  have hor : ∀ k f i v, f ∈ [PD_CFG_alt_en, PD_CFG_src_en, PD_CFG_drp_en] → e.outOfRange k f i v = false := by
    intro k f i v hf; unfold Dev.outOfRange; rw [hr _ hf]
  have hwf : e.writeFields ch true 0x10 0x104 v [(x, 0), (y, 0), (z, 0)] =
     (true, ((e.put PD_CFG_alt_en (b2n en)).put PD_CFG_src_en a).put PD_CFG_drp_en b) := by
    unfold Dev.writeFields; simp [f1, f2, f3, hor, w1, w2, w3]
  unfold Dev.wordWrite
  simp only [ho, hx, hl, hm, hwf]
  simp [f1, f2, f3, Dev.afterWrite, hb2]
  exact fun _ => ⟨by decide, by decide, by decide⟩

/-! ## Tables behind windows -/

/-- Where an access through a window shows a table's word. -/
theorem window_parts (a w off : Nat) (ha : a < 4) (hw : w < 16) :
    (a * 2 ^ 24 + w * 2 ^ 20 + off % 2 ^ 20) / 2 ^ 24 % 4 = a ∧
      (a * 2 ^ 24 + w * 2 ^ 20 + off % 2 ^ 20) % 2 ^ 24 / 2 ^ 20 = w ∧
      (a * 2 ^ 24 + w * 2 ^ 20 + off % 2 ^ 20) % 2 ^ 24 % 2 ^ 20 = off % 2 ^ 20 := by omega

/-- A write of a table's word through the unprivileged half comes to the table (R74). -/
theorem Dev.tableAccess_unpriv {ch w off v : Nat} (hc : ch < 2) (hu : d.channelUp ch = true)
    (hb : d.get HIF_WIN_BASE_mib w = off / 2 ^ 20) (h4 : off % 4 = 0) (hw : w < 2 ∨ (6 < w ∧ w < 16))
    (hm : d.mustWait ch false = false) : d.tableAccess ch false w off v = d.windowWrite ch false w off v := by
  have hp := window_parts 2 w off (by omega) (by omega)
  unfold Dev.tableAccess
  rw [if_pos ⟨hb, h4, by omega, hc⟩, if_neg Bool.false_ne_true]
  generalize 2 * 2 ^ 24 + w * 2 ^ 20 + off % 2 ^ 20 = a at hp ⊢
  obtain ⟨a1, a2, a3⟩ := hp
  have ho : d.windowOffset w (a % 2 ^ 20) = off := by
    rw [Nat.mod_mod_of_dvd _ (by decide)] at a3; unfold Dev.windowOffset; rw [hb, a3]; omega
  have hpr : ∀ e : Dev, e.privApplies ch 2 (a % 2 ^ 24) = false := fun e => by simp [Dev.privApplies]
  have hpw : d.privWrite ch 2 (a % 2 ^ 24) = false := by rw [Dev.privWrite, hpr]; rfl
  have hwk : wakesAt 2 (a % 2 ^ 24) = false := by
    unfold wakesAt; rw [if_neg (by omega), a2]; exact decide_eq_false (by omega)
  unfold Dev.busWrite
  simp only [Nat.reducePow] at a1 a2 ho hpr hpw hwk ⊢
  simp [a1, a2, ho, hu, hpw, hm, hwk, hpr]

/-- A write of a table's word through the privileged half, with the rights of an open session (R74, R82). -/
theorem Dev.tableAccess_priv {ch w off v : Nat} (hc : ch < 2) (hu : d.channelUp ch = true)
    (hb : d.get HIF_WIN_BASE_mib w = off / 2 ^ 20) (h4 : off % 4 = 0) (hw : w < 2 ∨ (6 < w ∧ w < 16))
    (hm : d.mustWait ch true = false) (hph : d.get CUS_STATUS_phase ch = 3) :
    d.tableAccess ch true w off v = d.windowWrite ch (d.covers ch (pageScope (windowPage w))) w off v := by
  have hp := window_parts 3 w off (by omega) (by omega)
  unfold Dev.tableAccess
  rw [if_pos ⟨hb, h4, by omega, hc⟩, if_pos rfl]
  generalize 3 * 2 ^ 24 + w * 2 ^ 20 + off % 2 ^ 20 = a at hp ⊢
  obtain ⟨a1, a2, a3⟩ := hp
  have ho : d.windowOffset w (a % 2 ^ 20) = off := by
    rw [Nat.mod_mod_of_dvd _ (by decide)] at a3; unfold Dev.windowOffset; rw [hb, a3]; omega
  have hpr : d.privApplies ch 3 (a % 2 ^ 24) = d.covers ch (pageScope (windowPage w)) := by
    unfold Dev.privApplies; rw [a2]; rfl
  have hmm : ∀ b, d.mustWait ch b = false := by
    intro b; cases b
    · exact d.mustWait_unpriv hm
    · exact hm
  have hwk : wakesAt 3 (a % 2 ^ 24) = false := by
    unfold wakesAt; rw [if_neg (by omega), a2]; exact decide_eq_false (by omega)
  unfold Dev.busWrite
  simp only [Nat.reducePow] at a1 a2 ho hpr hwk ⊢
  simp [a1, a2, ho, hu, hmm, hwk, hpr, hph]

end Sys2Proof.Machine
end

