-- ==== Sys2Proof/Laws/Complete.lean ====
section
/-!
SUPPORT. Laws/Complete.lean: a command completes with an effect where its meaning's function has that effect.
-/
namespace Sys2Proof.Machine

/-- A meaning's next state, reduced to what happens to the device. -/
theorem Completes.of {c : Instr} {cond : Dev → Prop} {effect : Dev → Dev}
    (h : ∀ s : State, s.dev.down = 0 → cond s.dev → ∃ e, exec c s = .next { s with dev := if s.dev.down = 0 then e else s.dev } ∧
      e = effect s.dev) : Completes c cond effect := by
  intro s hd hc
  obtain ⟨e, h1, h2⟩ := h s hd hc
  rw [h1, if_pos hd, h2]

/-- The same for what acts whatever holds D00 off. -/
theorem CompletesAlways.of {c : Instr} {cond : Dev → Prop} {effect : Dev → Dev}
    (h : ∀ s : State, cond s.dev → ∃ e, exec c s = .next { s with dev := e } ∧ e = effect s.dev) :
    CompletesAlways c cond effect := by
  intro s hc
  obtain ⟨e, h1, h2⟩ := h s hc
  rw [h1, h2]

end Sys2Proof.Machine
end

