-- ==== Sys2Proof/Laws/Exec.lean ====
section
/-!
SUPPORT. Laws/Exec.lean: every command acts on the device alone, and all but those of D02 and the power supply only while D00 is not
held off.
-/
namespace Sys2Proof.Machine

/-- What settles the clock unit afterwards acts through `onDev` too. -/
theorem of_onLane {g : State → Host.Outcome State Fault Refusal} (h : ∃ f, ∀ s, g s = onLane f s) : ∃ f, ∀ s, g s = onDev f s :=
  h.elim fun f hf => ⟨fun d => (f d).clockSettle, hf⟩

set_option maxHeartbeats 2000000 in
/-- A command that a held-off D00 does not take acts through `onDev`. -/
theorem exec_onDev (c : Instr) (h : survivesHoldOff c = false) : ∃ f, ∀ s, exec c s = onDev f s := by
  cases c with
  | frameBoundary => exact of_onLane ⟨_, fun s => (rfl : execFrameBoundary _ s = onLane _ s)⟩
  | planAssembled => exact ⟨_, fun s => (rfl : execPlanAssembled _ s = onDev _ s)⟩
  | frameDeadlineMiss => exact ⟨_, fun s => (rfl : execFrameDeadlineMiss _ s = onDev _ s)⟩
  | laneFrameLaunch => exact of_onLane ⟨_, fun s => (rfl : execLaneFrameLaunch _ _ s = onLane _ s)⟩
  | healthWeightWriteComplete => exact ⟨_, fun s => (rfl : execHealthWeightWriteComplete _ s = onDev _ s)⟩
  | rankRefresh => exact ⟨_, fun s => (rfl : execRankRefresh _ s = onDev _ s)⟩
  | filterStep => exact ⟨_, fun s => (rfl : execFilterStep _ s = onDev _ s)⟩
  | restAnchor => exact ⟨_, fun s => (rfl : execRestAnchor _ _ s = onDev _ s)⟩
  | taperDeclaration => exact ⟨_, fun s => (rfl : execTaperDeclaration _ _ s = onDev _ s)⟩
  | upstreamFrameReceived => exact of_onLane ⟨_, fun s => (rfl : execUpstreamFrameReceived _ _ _ _ _ s = onLane _ s)⟩
  | missingUpstreamFrame => exact of_onLane ⟨_, fun s => (rfl : execMissingUpstreamFrame _ _ s = onLane _ s)⟩
  | codewordReceived => exact of_onLane ⟨_, fun s => (rfl : execCodewordReceived _ _ s = onLane _ s)⟩
  | lossOfSignal => exact of_onLane ⟨_, fun s => (rfl : execLossOfSignal _ s = onLane _ s)⟩
  | lossOfSignalClear => exact of_onLane ⟨_, fun s => (rfl : execLossOfSignalClear _ s = onLane _ s)⟩
  | trainingBlockReceived => exact of_onLane ⟨_, fun s => (rfl : execTrainingBlockReceived _ _ s = onLane _ s)⟩
  | coeffTimeout => exact of_onLane ⟨_, fun s => (rfl : execCoeffTimeout _ s = onLane _ s)⟩
  | rxReady => exact of_onLane ⟨_, fun s => (rfl : execRxReady _ _ _ _ s = onLane _ s)⟩
  | trainingComplete => exact of_onLane ⟨_, fun s => (rfl : execTrainingComplete _ _ s = onLane _ s)⟩
  | trainingFail => exact of_onLane ⟨_, fun s => (rfl : execTrainingFail _ _ s = onLane _ s)⟩
  | squelchWaitEnd => exact of_onLane ⟨_, fun s => (rfl : execSquelchWaitEnd _ s = onLane _ s)⟩
  | delayMeasured => exact of_onLane ⟨_, fun s => (rfl : execDelayMeasured _ _ s = onLane _ s)⟩
  | laneEnable => exact of_onLane ⟨_, fun s => (rfl : execLaneEnable _ _ s = onLane _ s)⟩
  | autoEnable => exact of_onLane ⟨_, fun s => (rfl : execAutoEnable _ s = onLane _ s)⟩
  | laneDisable => exact of_onLane ⟨_, fun s => (rfl : execLaneDisable _ _ s = onLane _ s)⟩
  | laneSafe => exact of_onLane ⟨_, fun s => (rfl : execLaneSafe _ _ s = onLane _ s)⟩
  | laneEnumerate => exact of_onLane ⟨_, fun s => (rfl : execLaneEnumerate _ _ s = onLane _ s)⟩
  | laneRetrain => exact of_onLane ⟨_, fun s => (rfl : execLaneRetrain _ _ s = onLane _ s)⟩
  | laneLoop => exact of_onLane ⟨_, fun s => (rfl : execLaneLoop _ _ s = onLane _ s)⟩
  | loopExit => exact of_onLane ⟨_, fun s => (rfl : execLoopExit _ _ s = onLane _ s)⟩
  | laneClearCounters => exact of_onLane ⟨_, fun s => (rfl : execLaneClearCounters _ _ s = onLane _ s)⟩
  | d2dLinkLost => exact of_onLane ⟨_, fun s => (rfl : execD2dLinkLost _ s = onLane _ s)⟩
  | d2dRetrain => exact of_onLane ⟨_, fun s => (rfl : execD2dRetrain _ s = onLane _ s)⟩
  | d2dLinkRetrained => exact of_onLane ⟨_, fun s => (rfl : execD2dLinkRetrained _ s = onLane _ s)⟩
  | mgmtBlockReceived => exact ⟨_, fun s => (rfl : execMgmtBlockReceived _ _ _ s = onDev _ s)⟩
  | mgmtRetransmit => exact ⟨_, fun s => (rfl : execMgmtRetransmit _ s = onDev _ s)⟩
  | inventoryRetry => exact ⟨_, fun s => (rfl : execInventoryRetry _ s = onDev _ s)⟩
  | laneEnterRun => exact ⟨_, fun s => (rfl : execLaneEnterRun _ s = onDev _ s)⟩
  | mapRelease => exact ⟨_, fun s => (rfl : execMapRelease _ s = onDev _ s)⟩
  | mapDefault => exact ⟨_, fun s => (rfl : execMapDefault _ s = onDev _ s)⟩
  | bSet => exact ⟨_, fun s => (rfl : execBSet _ s = onDev _ s)⟩
  | mbxSend => exact ⟨_, fun s => (rfl : execMbxSend _ s = onDev _ s)⟩
  | frmInventory => exact ⟨_, fun s => (rfl : execFrmInventory _ s = onDev _ s)⟩
  | mbxRxRelease => exact ⟨_, fun s => (rfl : execMbxRxRelease _ s = onDev _ s)⟩
  | schCommit => exact ⟨_, fun s => (rfl : execSchCommit _ _ s = onDev _ s)⟩
  | shadowTableWrite => exact ⟨_, fun s => (rfl : execShadowTableWrite _ _ _ _ s = onDev _ s)⟩
  | activeTableWrite => exact ⟨_, fun s => (rfl : execActiveTableWrite _ _ _ s = onDev _ s)⟩
  | bankMode => exact ⟨_, fun s => (rfl : execBankMode _ s = onDev _ s)⟩
  | cellWithdraw => exact ⟨_, fun s => (rfl : execCellWithdraw _ s = onDev _ s)⟩
  | cellReturn => exact ⟨_, fun s => (rfl : execCellReturn _ s = onDev _ s)⟩
  | stringAssign => exact ⟨_, fun s => (rfl : execStringAssign _ s = onDev _ s)⟩
  | gridLockGained => exact ⟨_, fun s => (rfl : execGridLockGained _ _ _ _ s = onDev _ s)⟩
  | gridLockLost => exact ⟨_, fun s => (rfl : execGridLockLost _ s = onDev _ s)⟩
  | stirDwellExpiry => exact ⟨_, fun s => (rfl : execStirDwellExpiry _ _ s = onDev _ s)⟩
  | brokenTRestore => exact ⟨_, fun s => (rfl : execBrokenTRestore _ _ s = onDev _ s)⟩
  | meterPeriod => exact ⟨_, fun s => (rfl : execMeterPeriod _ _ s = onDev _ s)⟩
  | calHandover => exact ⟨_, fun s => (rfl : execCalHandover _ _ s = onDev _ s)⟩
  | planApply => exact ⟨_, fun s => (rfl : execPlanApply _ s = onDev _ s)⟩
  | binPlanTake => exact ⟨_, fun s => (rfl : execBinPlanTake _ _ s = onDev _ s)⟩
  | windowClose => exact ⟨_, fun s => (rfl : execWindowClose _ _ s = onDev _ s)⟩
  | resultDelivery => exact ⟨_, fun s => (rfl : execResultDelivery _ _ s = onDev _ s)⟩
  | offsetRefresh => exact ⟨_, fun s => (rfl : execOffsetRefresh _ s = onDev _ s)⟩
  | offsetRefreshForced => exact ⟨_, fun s => (rfl : execOffsetRefreshForced _ s = onDev _ s)⟩
  | estReload => exact ⟨_, fun s => (rfl : execEstReload _ _ s = onDev _ s)⟩
  | estImport => exact ⟨_, fun s => (rfl : execEstImport _ s = onDev _ s)⟩
  | clearStale => exact ⟨_, fun s => (rfl : execClearStale _ s = onDev _ s)⟩
  | resetLearned => exact ⟨_, fun s => (rfl : execResetLearned _ s = onDev _ s)⟩
  | checkpoint => exact ⟨_, fun s => (rfl : execCheckpoint _ s = onDev _ s)⟩
  | ckptLoad => exact ⟨_, fun s => (rfl : execCkptLoad _ s = onDev _ s)⟩
  | memoryChannelTrained => exact ⟨_, fun s => (rfl : execMemoryChannelTrained _ _ s = onDev _ s)⟩
  | memoryRead => exact ⟨_, fun s => (rfl : execMemoryRead _ _ s = onDev _ s)⟩
  | memoryWrite => exact ⟨_, fun s => (rfl : execMemoryWrite _ _ _ s = onDev _ s)⟩
  | ladleAgeFlush => exact ⟨_, fun s => (rfl : execLadleAgeFlush _ _ s = onDev _ s)⟩
  | blameDecay => exact ⟨_, fun s => (rfl : execBlameDecay _ s = onDev _ s)⟩
  | scrubVisit => exact ⟨_, fun s => (rfl : execScrubVisit _ _ s = onDev _ s)⟩
  | selfRefreshEntry => exact ⟨_, fun s => (rfl : execSelfRefreshEntry _ _ s = onDev _ s)⟩
  | memFence => exact ⟨_, fun s => (rfl : execMemFence _ s = onDev _ s)⟩
  | memZero => exact ⟨_, fun s => (rfl : execMemZero _ s = onDev _ s)⟩
  | memRemap => exact ⟨_, fun s => (rfl : execMemRemap _ s = onDev _ s)⟩
  | memcMark => exact ⟨_, fun s => (rfl : execMemcMark _ s = onDev _ s)⟩
  | memcUnmark => exact ⟨_, fun s => (rfl : execMemcUnmark _ s = onDev _ s)⟩
  | memcClearCounters => exact ⟨_, fun s => (rfl : execMemcClearCounters _ s = onDev _ s)⟩
  | flrArm => exact ⟨_, fun s => (rfl : execFlrArm _ s = onDev _ s)⟩
  | flrTrigger => exact ⟨_, fun s => (rfl : execFlrTrigger _ s = onDev _ s)⟩
  | flrStop => exact ⟨_, fun s => (rfl : execFlrStop _ s = onDev _ s)⟩
  | faultRaise => exact of_onLane ⟨_, fun s => (rfl : execFaultRaise _ _ _ s = onLane _ s)⟩
  | fltAck => exact ⟨_, fun s => (rfl : execFltAck _ s = onDev _ s)⟩
  | fltTrip => exact ⟨_, fun s => (rfl : execFltTrip _ s = onDev _ s)⟩
  | releasePins => exact ⟨_, fun s => (rfl : execReleasePins _ s = onDev _ s)⟩
  | ticketLookup => exact ⟨_, fun s => (rfl : execTicketLookup _ _ _ s = onDev _ s)⟩
  | ticketLookupDone => exact ⟨_, fun s => (rfl : execTicketLookupDone _ s = onDev _ s)⟩
  | registerWrite => exact ⟨_, fun s => (rfl : execRegisterWrite _ _ _ _ _ s = onDev _ s)⟩
  | snapRead => exact ⟨_, fun s => (rfl : execSnapRead _ _ _ s = onDev _ s)⟩
  | pageEnableWrite => exact ⟨_, fun s => (rfl : execPageEnableWrite _ _ _ _ s = onDev _ s)⟩
  | pageHibernateWrite => exact ⟨_, fun s => (rfl : execPageHibernateWrite _ _ _ _ s = onDev _ s)⟩
  | blockReset => exact ⟨_, fun s => (rfl : execBlockReset _ _ _ s = onDev _ s)⟩
  | hifLinkReset => exact ⟨_, fun s => (rfl : execHifLinkReset _ s = onDev _ s)⟩
  | pcieLinkUp => exact ⟨_, fun s => (rfl : execPcieLinkUp _ _ s = onDev _ s)⟩
  | bar2Read => exact ⟨_, fun s => (rfl : execBar2Read _ _ _ s = onDev _ s)⟩
  | bar2Write => exact ⟨_, fun s => (rfl : execBar2Write _ _ _ s = onDev _ s)⟩
  | cusNonce => exact ⟨_, fun s => (rfl : execCusNonce _ s = onDev _ s)⟩
  | signIn => exact ⟨_, fun s => (rfl : execSignIn _ s = onDev _ s)⟩
  | cusOpen => exact ⟨_, fun s => (rfl : execCusOpen _ s = onDev _ s)⟩
  | cusClose => exact ⟨_, fun s => (rfl : execCusClose _ s = onDev _ s)⟩
  | sessionExpiry => exact ⟨_, fun s => (rfl : execSessionExpiry _ s = onDev _ s)⟩
  | nonceExpiry => exact ⟨_, fun s => (rfl : execNonceExpiry _ s = onDev _ s)⟩
  | lockoutExpiry => exact ⟨_, fun s => (rfl : execLockoutExpiry _ s = onDev _ s)⟩
  | cusRotate => exact ⟨_, fun s => (rfl : execCusRotate _ s = onDev _ s)⟩
  | dmaRingEnable => exact ⟨_, fun s => (rfl : execDmaRingEnable _ _ _ _ s = onDev _ s)⟩
  | dmaTailWrite => exact ⟨_, fun s => (rfl : execDmaTailWrite _ _ _ _ s = onDev _ s)⟩
  | descriptorFetch => exact ⟨_, fun s => (rfl : execDescriptorFetch _ _ s = onDev _ s)⟩
  | descriptorComplete => exact ⟨_, fun s => (rfl : execDescriptorComplete _ _ _ s = onDev _ s)⟩
  | dmaHostError => exact ⟨_, fun s => (rfl : execDmaHostError _ s = onDev _ s)⟩
  | irqSourceEdge => exact ⟨_, fun s => (rfl : execIrqSourceEdge _ s = onDev _ s)⟩
  | msixDelivery => exact ⟨_, fun s => (rfl : execMsixDelivery _ _ s = onDev _ s)⟩
  | irqPendWrite => exact ⟨_, fun s => (rfl : execIrqPendWrite _ _ _ _ s = onDev _ s)⟩
  | irqEnWrite => exact ⟨_, fun s => (rfl : execIrqEnWrite _ _ _ _ s = onDev _ s)⟩
  | irqTargetWrite => exact ⟨_, fun s => (rfl : execIrqTargetWrite _ _ _ _ s = onDev _ s)⟩
  | sidePortRead => exact ⟨_, fun s => (rfl : execSidePortRead _ _ _ s = onDev _ s)⟩
  | certLoad => exact ⟨_, fun s => (rfl : execCertLoad _ s = onDev _ s)⟩
  | ldgAck => exact ⟨_, fun s => (rfl : execLdgAck _ s = onDev _ s)⟩
  | ldgSeal => exact ⟨_, fun s => (rfl : execLdgSeal _ s = onDev _ s)⟩
  | attest => exact ⟨_, fun s => (rfl : execAttest _ s = onDev _ s)⟩
  | certify => exact ⟨_, fun s => (rfl : execCertify _ s = onDev _ s)⟩
  | mtrDefine => exact ⟨_, fun s => (rfl : execMtrDefine _ s = onDev _ s)⟩
  | twinFrameReceived => exact of_onLane ⟨_, fun s => (rfl : execTwinFrameReceived _ _ s = onLane _ s)⟩
  | twnHandover => exact ⟨_, fun s => (rfl : execTwnHandover _ s = onDev _ s)⟩
  | twnTake => exact ⟨_, fun s => (rfl : execTwnTake _ s = onDev _ s)⟩
  | clockGate => exact ⟨_, fun s => (rfl : execClockGate _ _ _ s = onDev _ s)⟩
  | timeSrcWrite => exact ⟨_, fun s => (rfl : execTimeSrcWrite _ _ s = onDev _ s)⟩
  | adopt => exact ⟨_, fun s => (rfl : execAdopt _ s = onDev _ s)⟩
  | rearm => exact ⟨_, fun s => (rfl : execRearm _ s = onDev _ s)⟩
  | rearmRestart => exact ⟨_, fun s => (rfl : execRearmRestart _ s = onDev _ s)⟩
  | rtcSet => exact ⟨_, fun s => (rfl : execRtcSet _ s = onDev _ s)⟩
  | armSwitch => exact ⟨_, fun s => (rfl : execArmSwitch _ s = onDev _ s)⟩
  | alarmArm => exact ⟨_, fun s => (rfl : execAlarmArm _ _ _ _ s = onDev _ s)⟩
  | trimGateEnd => exact ⟨_, fun s => (rfl : execTrimGateEnd _ s = onDev _ s)⟩
  | trimCfgWrite => exact ⟨_, fun s => (rfl : execTrimCfgWrite _ _ s = onDev _ s)⟩
  | vinAuxValid => exact ⟨_, fun s => (rfl : execVinAuxValid _ _ s = onDev _ s)⟩
  | vbusValid => exact ⟨_, fun s => (rfl : execVbusValid _ _ s = onDev _ s)⟩
  | pulseTestEnd => exact ⟨_, fun s => (rfl : execPulseTestEnd _ _ _ s = onDev _ s)⟩
  | chgRestart => exact ⟨_, fun s => (rfl : execChgRestart _ s = onDev _ s)⟩
  | chgStop => exact ⟨_, fun s => (rfl : execChgStop _ s = onDev _ s)⟩
  | pulseTest => exact ⟨_, fun s => (rfl : execPulseTest _ s = onDev _ s)⟩
  | powerWarning => exact ⟨_, fun s => (rfl : execPowerWarning _ s = onDev _ s)⟩
  | brnStart => exact ⟨_, fun s => (rfl : execBrnStart _ s = onDev _ s)⟩
  | brnStop => exact ⟨_, fun s => (rfl : execBrnStop _ s = onDev _ s)⟩
  | brnSetvid => exact ⟨_, fun s => (rfl : execBrnSetvid _ s = onDev _ s)⟩
  | shortTestEnd => exact ⟨_, fun s => (rfl : execShortTestEnd _ _ _ _ s = onDev _ s)⟩
  | powerGoodSet => exact ⟨_, fun s => (rfl : execPowerGoodSet _ s = onDev _ s)⟩
  | powerGoodClear => exact ⟨_, fun s => (rfl : execPowerGoodClear _ s = onDev _ s)⟩
  | switchingCycle => exact ⟨_, fun s => (rfl : execSwitchingCycle _ _ _ _ s = onDev _ s)⟩
  | hiccupEnd => exact ⟨_, fun s => (rfl : execHiccupEnd _ s = onDev _ s)⟩
  | retryCountClear => exact ⟨_, fun s => (rfl : execRetryCountClear _ s = onDev _ s)⟩
  | phaseShedEvaluation => exact ⟨_, fun s => (rfl : execPhaseShedEvaluation _ _ _ _ s = onDev _ s)⟩
  | phaseTrimBalance => exact ⟨_, fun s => (rfl : execPhaseTrimBalance _ _ _ s = onDev _ s)⟩
  | phaseHot => exact ⟨_, fun s => (rfl : execPhaseHot _ _ s = onDev _ s)⟩
  | phaseReturn => exact ⟨_, fun s => (rfl : execPhaseReturn _ s = onDev _ s)⟩
  | seqRun => exact ⟨_, fun s => (rfl : execSeqRun _ s = onDev _ s)⟩
  | seqAbort => exact ⟨_, fun s => (rfl : execSeqAbort _ s = onDev _ s)⟩
  | railOn => exact ⟨_, fun s => (rfl : execRailOn _ s = onDev _ s)⟩
  | railOff => exact ⟨_, fun s => (rfl : execRailOff _ s = onDev _ s)⟩
  | recipeHalt => exact ⟨_, fun s => (rfl : execRecipeHalt _ s = onDev _ s)⟩
  | recipeEnable => exact ⟨_, fun s => (rfl : execRecipeEnable _ s = onDev _ s)⟩
  | recipeDisable => exact ⟨_, fun s => (rfl : execRecipeDisable _ s = onDev _ s)⟩
  | recipeWait => exact ⟨_, fun s => (rfl : execRecipeWait _ s = onDev _ s)⟩
  | waitExpiry => exact ⟨_, fun s => (rfl : execWaitExpiry _ s = onDev _ s)⟩
  | recipeWaitPg => exact ⟨_, fun s => (rfl : execRecipeWaitPg _ s = onDev _ s)⟩
  | waitpgSatisfied => exact ⟨_, fun s => (rfl : execWaitpgSatisfied _ s = onDev _ s)⟩
  | waitpgTimeout => exact ⟨_, fun s => (rfl : execWaitpgTimeout _ s = onDev _ s)⟩
  | recipeCheck => exact ⟨_, fun s => (rfl : execRecipeCheck _ s = onDev _ s)⟩
  | recipeJump => exact ⟨_, fun s => (rfl : execRecipeJump _ s = onDev _ s)⟩
  | recipeSetvid => exact ⟨_, fun s => (rfl : execRecipeSetvid _ s = onDev _ s)⟩
  | setvidStepResume => exact ⟨_, fun s => (rfl : execSetvidStepResume _ s = onDev _ s)⟩
  | setvidTimeout => exact ⟨_, fun s => (rfl : execSetvidTimeout _ s = onDev _ s)⟩
  | recipeMark => exact ⟨_, fun s => (rfl : execRecipeMark _ s = onDev _ s)⟩
  | railGood => exact ⟨_, fun s => (rfl : execRailGood _ s = onDev _ s)⟩
  | lossOfGood => exact ⟨_, fun s => (rfl : execLossOfGood _ s = onDev _ s)⟩
  | shutdownDepthAdvance => exact ⟨_, fun s => (rfl : execShutdownDepthAdvance _ s = onDev _ s)⟩
  | dependencyMaskWrite => exact ⟨_, fun s => (rfl : execDependencyMaskWrite _ _ _ _ s = onDev _ s)⟩
  | typecAttach => exact ⟨_, fun s => (rfl : execTypecAttach _ s = onDev _ s)⟩
  | pdMessageReceived => exact ⟨_, fun s => (rfl : execPdMessageReceived _ _ s = onDev _ s)⟩
  | pdPolicyWrite => exact ⟨_, fun s => (rfl : execPdPolicyWrite _ _ _ s = onDev _ s)⟩
  | rxFifoRelease => exact ⟨_, fun s => (rfl : execRxFifoRelease _ _ s = onDev _ s)⟩
  | altEnWrite => exact ⟨_, fun s => (rfl : execAltEnWrite _ _ s = onDev _ s)⟩
  | pdTx => exact ⟨_, fun s => (rfl : execPdTx _ s = onDev _ s)⟩
  | pdHardReset => exact ⟨_, fun s => (rfl : execPdHardReset _ s = onDev _ s)⟩
  | pdRole => exact ⟨_, fun s => (rfl : execPdRole _ s = onDev _ s)⟩
  | slRead => exact ⟨_, fun s => (rfl : execSlRead _ s = onDev _ s)⟩
  | slWrite => exact ⟨_, fun s => (rfl : execSlWrite _ _ s = onDev _ s)⟩
  | slLdg => exact ⟨_, fun s => (rfl : execSlLdg _ s = onDev _ s)⟩
  | slPing => exact ⟨_, fun s => (rfl : execSlPing _ s = onDev _ s)⟩
  | keyInit => exact ⟨_, fun s => (rfl : execKeyInit _ s = onDev _ s)⟩
  | thermalScan => exact ⟨_, fun s => (rfl : execThermalScan _ _ s = onDev _ s)⟩
  | sensorRestore => exact ⟨_, fun s => (rfl : execSensorRestore _ s = onDev _ s)⟩
  | comparatorTrip => exact ⟨_, fun s => (rfl : execComparatorTrip _ s = onDev _ s)⟩
  | wdtKick => exact ⟨_, fun s => (rfl : execWdtKick _ _ _ s = onDev _ s)⟩
  | wdtPeriodEnd => exact ⟨_, fun s => (rfl : execWdtPeriodEnd _ s = onDev _ s)⟩
  | wdtStart => exact ⟨_, fun s => (rfl : execWdtStart _ s = onDev _ s)⟩
  | wdtStop => exact ⟨_, fun s => (rfl : execWdtStop _ s = onDev _ s)⟩
  | otpProgram => exact ⟨_, fun s => (rfl : execOtpProgram _ s = onDev _ s)⟩
  | otpSeal => exact ⟨_, fun s => (rfl : execOtpSeal _ s = onDev _ s)⟩
  | otpIncrement => exact ⟨_, fun s => (rfl : execOtpIncrement _ s = onDev _ s)⟩
  | otpSense => exact ⟨_, fun s => (rfl : execOtpSense _ s = onDev _ s)⟩
  | otpAttempt => exact ⟨_, fun s => (rfl : execOtpAttempt _ s = onDev _ s)⟩
  | coldStart => exact Bool.noConfusion (show true = false from h)
  | powerUp => exact ⟨_, fun s => (rfl : execPowerUp _ s = onDev _ s)⟩
  | powerDown => exact ⟨_, fun s => (rfl : execPowerDown _ s = onDev _ s)⟩
  | reboot => exact ⟨_, fun s => (rfl : execReboot _ s = onDev _ s)⟩
  | partnerTerminationSeen => exact ⟨_, fun s => (rfl : execPartnerTerminationSeen _ _ _ s = onDev _ s)⟩
  | limitTargetExchange => exact ⟨_, fun s => (rfl : execLimitTargetExchange s = onDev _ s)⟩
  | bothCopiesEntryWrite => exact ⟨_, fun s => (rfl : execBothCopiesEntryWrite s = onDev _ s)⟩
  | healthBoundary => exact ⟨_, fun s => (rfl : execHealthBoundary s = onDev _ s)⟩
  | tapDrain => exact ⟨_, fun s => (rfl : execTapDrain s = onDev _ s)⟩
  | recordBoundary => exact ⟨_, fun s => (rfl : execRecordBoundary s = onDev _ s)⟩
  | minuteBoundary => exact ⟨_, fun s => (rfl : execMinuteBoundary s = onDev _ s)⟩
  | stepBoundary => exact ⟨_, fun s => (rfl : execStepBoundary s = onDev _ s)⟩
  | epochRaise => exact ⟨_, fun s => (rfl : execEpochRaise s = onDev _ s)⟩
  | discrepancyWindow => exact ⟨_, fun s => (rfl : execDiscrepancyWindow s = onDev _ s)⟩
  | calStepStart => exact ⟨_, fun s => (rfl : execCalStepStart s = onDev _ s)⟩
  | calOverlapStart => exact ⟨_, fun s => (rfl : execCalOverlapStart s = onDev _ s)⟩
  | estCommandApply => exact ⟨_, fun s => (rfl : execEstCommandApply s = onDev _ s)⟩
  | checkpointPeriod => exact ⟨_, fun s => (rfl : execCheckpointPeriod s = onDev _ s)⟩
  | checkpointSnapshot => exact ⟨_, fun s => (rfl : execCheckpointSnapshot s = onDev _ s)⟩
  | checkpointSigned => exact ⟨_, fun s => (rfl : execCheckpointSigned s = onDev _ s)⟩
  | ckptLoadApply => exact ⟨_, fun s => (rfl : execCkptLoadApply s = onDev _ s)⟩
  | hibProbe => exact ⟨_, fun s => (rfl : execHibProbe s = onDev _ s)⟩
  | pageAccessWake => exact ⟨_, fun s => (rfl : execPageAccessWake s = onDev _ s)⟩
  | estimatorReady => exact ⟨_, fun s => (rfl : execEstimatorReady s = onDev _ s)⟩
  | mapBuild => exact ⟨_, fun s => (rfl : execMapBuild s = onDev _ s)⟩
  | zeroDone => exact ⟨_, fun s => (rfl : execZeroDone s = onDev _ s)⟩
  | flrFreeze => exact ⟨_, fun s => (rfl : execFlrFreeze s = onDev _ s)⟩
  | dripAppend => exact ⟨_, fun s => (rfl : execDripAppend s = onDev _ s)⟩
  | estopAssert => exact ⟨_, fun s => (rfl : execEstopAssert s = onDev _ s)⟩
  | estopRelease => exact ⟨_, fun s => (rfl : execEstopRelease s = onDev _ s)⟩
  | ticketWaitTake => exact ⟨_, fun s => (rfl : execTicketWaitTake s = onDev _ s)⟩
  | privWriteEnterQueue => exact ⟨_, fun s => (rfl : execPrivWriteEnterQueue s = onDev _ s)⟩
  | signInVerifyDone => exact ⟨_, fun s => (rfl : execSignInVerifyDone s = onDev _ s)⟩
  | intNPulse => exact ⟨_, fun s => (rfl : execIntNPulse s = onDev _ s)⟩
  | intNPulseEnd => exact ⟨_, fun s => (rfl : execIntNPulseEnd s = onDev _ s)⟩
  | documentSigned => exact ⟨_, fun s => (rfl : execDocumentSigned s = onDev _ s)⟩
  | ledgerAppend => exact ⟨_, fun s => (rfl : execLedgerAppend s = onDev _ s)⟩
  | sealSigned => exact ⟨_, fun s => (rfl : execSealSigned s = onDev _ s)⟩
  | unitDefApply => exact ⟨_, fun s => (rfl : execUnitDefApply s = onDev _ s)⟩
  | pairingKeyVerified => exact ⟨_, fun s => (rfl : execPairingKeyVerified s = onDev _ s)⟩
  | xsealVerified => exact ⟨_, fun s => (rfl : execXsealVerified s = onDev _ s)⟩
  | snapshotApply => exact ⟨_, fun s => (rfl : execSnapshotApply s = onDev _ s)⟩
  | heartbeatMiss => exact ⟨_, fun s => (rfl : execHeartbeatMiss s = onDev _ s)⟩
  | becomeActive => exact ⟨_, fun s => (rfl : execBecomeActive s = onDev _ s)⟩
  | demote => exact ⟨_, fun s => (rfl : execDemote s = onDev _ s)⟩
  | orphanTakeover => exact ⟨_, fun s => (rfl : execOrphanTakeover s = onDev _ s)⟩
  | oscEdgeLost => exact ⟨_, fun s => (rfl : execOscEdgeLost s = onDev _ s)⟩
  | noneTimeout => exact ⟨_, fun s => (rfl : execNoneTimeout s = onDev _ s)⟩
  | oscStop => exact Bool.noConfusion (show true = false from h)
  | d02PowerOnReset => exact Bool.noConfusion (show true = false from h)
  | oscStart => exact Bool.noConfusion (show true = false from h)
  | setEdgeApply => exact ⟨_, fun s => (rfl : execSetEdgeApply s = onDev _ s)⟩
  | vinAuxLost => exact ⟨_, fun s => (rfl : execVinAuxLost s = onDev _ s)⟩
  | vbusLost => exact ⟨_, fun s => (rfl : execVbusLost s = onDev _ s)⟩
  | prechargeShorted => exact Bool.noConfusion (show true = false from h)
  | alwaysOnRailStop => exact Bool.noConfusion (show true = false from h)
  | pulseTestPeriodic => exact ⟨_, fun s => (rfl : execPulseTestPeriodic s = onDev _ s)⟩
  | prechargeComplete => exact ⟨_, fun s => (rfl : execPrechargeComplete s = onDev _ s)⟩
  | prechargeTimeout => exact ⟨_, fun s => (rfl : execPrechargeTimeout s = onDev _ s)⟩
  | floatReached => exact ⟨_, fun s => (rfl : execFloatReached s = onDev _ s)⟩
  | taperTermination => exact ⟨_, fun s => (rfl : execTaperTermination s = onDev _ s)⟩
  | recharge => exact ⟨_, fun s => (rfl : execRecharge s = onDev _ s)⟩
  | cellTempRecovered => exact ⟨_, fun s => (rfl : execCellTempRecovered s = onDev _ s)⟩
  | safetyTimerExpiry => exact ⟨_, fun s => (rfl : execSafetyTimerExpiry s = onDev _ s)⟩
  | chgTimerMismatch => exact ⟨_, fun s => (rfl : execChgTimerMismatch s = onDev _ s)⟩
  | inputCollapse => exact ⟨_, fun s => (rfl : execInputCollapse s = onDev _ s)⟩
  | seqTimerMismatch => exact ⟨_, fun s => (rfl : execSeqTimerMismatch s = onDev _ s)⟩
  | typecDetach => exact ⟨_, fun s => (rfl : execTypecDetach s = onDev _ s)⟩
  | drpToggle => exact ⟨_, fun s => (rfl : execDrpToggle s = onDev _ s)⟩
  | errorRecoveryEnd => exact ⟨_, fun s => (rfl : execErrorRecoveryEnd s = onDev _ s)⟩
  | goodcrcTimeout => exact ⟨_, fun s => (rfl : execGoodcrcTimeout s = onDev _ s)⟩
  | hardResetReceived => exact ⟨_, fun s => (rfl : execHardResetReceived s = onDev _ s)⟩
  | hardResetVbusWaitEnd => exact ⟨_, fun s => (rfl : execHardResetVbusWaitEnd s = onDev _ s)⟩
  | ppsKeepalive => exact ⟨_, fun s => (rfl : execPpsKeepalive s = onDev _ s)⟩
  | ppsKeepaliveTimeout => exact ⟨_, fun s => (rfl : execPpsKeepaliveTimeout s = onDev _ s)⟩
  | waitRetryExpiry => exact ⟨_, fun s => (rfl : execWaitRetryExpiry s = onDev _ s)⟩
  | serviceLinkUp => exact ⟨_, fun s => (rfl : execServiceLinkUp s = onDev _ s)⟩
  | serviceLinkDown => exact ⟨_, fun s => (rfl : execServiceLinkDown s = onDev _ s)⟩
  | slPingSend => exact ⟨_, fun s => (rfl : execSlPingSend s = onDev _ s)⟩
  | keyReply => exact ⟨_, fun s => (rfl : execKeyReply s = onDev _ s)⟩
  | shutdownRailStop => exact ⟨_, fun s => (rfl : execShutdownRailStop s = onDev _ s)⟩
  | cooledSet => exact ⟨_, fun s => (rfl : execCooledSet s = onDev _ s)⟩
  | wdtTimerMismatch => exact ⟨_, fun s => (rfl : execWdtTimerMismatch s = onDev _ s)⟩
  | otpWorkBegin => exact ⟨_, fun s => (rfl : execOtpWorkBegin s = onDev _ s)⟩
  | senseEnd => exact ⟨_, fun s => (rfl : execSenseEnd s = onDev _ s)⟩
  | d04Off => exact ⟨_, fun s => (rfl : execD04Off s = onDev _ s)⟩
  | alarmFire => exact Bool.noConfusion (show true = false from h)
  | resetNAssert => exact Bool.noConfusion (show true = false from h)
  | powerUpRunStart => exact ⟨_, fun s => (rfl : execPowerUpRunStart s = onDev _ s)⟩
  | hibernateRecipeStart => exact ⟨_, fun s => (rfl : execHibernateRecipeStart s = onDev _ s)⟩
  | wakeRecipeStart => exact ⟨_, fun s => (rfl : execWakeRecipeStart s = onDev _ s)⟩
  | returnToD0 => exact ⟨_, fun s => (rfl : execReturnToD0 s = onDev _ s)⟩
  | k02LockLost => exact ⟨_, fun s => (rfl : execK02LockLost s = onDev _ s)⟩
  | d02SupplyLost => exact Bool.noConfusion (show true = false from h)
  | shortedLatchClear => exact Bool.noConfusion (show true = false from h)
  | trngHealthTestsPass => exact ⟨_, fun s => (rfl : execTrngHealthTestsPass s = onDev _ s)⟩

/-- What a held-off D00 takes acts through `onAny`. -/
theorem exec_onAny (c : Instr) (h : survivesHoldOff c = true) : ∃ f, ∀ s, exec c s = onAny f s := by
  cases c
  case coldStart => exact ⟨_, fun s => (rfl : execColdStart _ _ _ _ _ s = onAny _ s)⟩
  case oscStop => exact ⟨_, fun s => (rfl : execOscStop s = onAny _ s)⟩
  case d02PowerOnReset => exact ⟨_, fun s => (rfl : execD02PowerOnReset s = onAny _ s)⟩
  case oscStart => exact ⟨_, fun s => (rfl : execOscStart s = onAny _ s)⟩
  case prechargeShorted => exact ⟨_, fun s => (rfl : execPrechargeShorted s = onAny _ s)⟩
  case alwaysOnRailStop => exact ⟨_, fun s => (rfl : execAlwaysOnRailStop s = onAny _ s)⟩
  case resetNAssert => exact ⟨_, fun s => (rfl : execResetNAssert s = onAny _ s)⟩
  case d02SupplyLost => exact ⟨_, fun s => (rfl : execD02SupplyLost s = onAny _ s)⟩
  case alarmFire => exact ⟨_, fun s => (rfl : execAlarmFire _ s = onAny _ s)⟩
  case shortedLatchClear => exact ⟨_, fun s => (rfl : execShortedLatchClear s = onAny _ s)⟩
  all_goals exact Bool.noConfusion (show false = true from h)

end Sys2Proof.Machine
end

