-- ==== Sys2Proof/Laws/Memory.lean ====
section
/-!
SUPPORT. Laws/Memory.lean: the bytes of attached memory: every operation on them keeps their canonical form, a byte reads as it
was last written, and a write leaves every other byte alone.
-/
namespace Sys2Proof.Machine

/-! ## The canonical form -/

/-- Memory with nothing listed has the form. -/
theorem Memory.wf_nil : Memory.wf [] := by decide

/-- A written byte keeps the form. -/
theorem Memory.wf_memSet {m : List Host.Cell} (a : Nat) (v : BitVec 8) (h : Memory.wf m) : Memory.wf (memSet m a v) := by
  obtain ⟨h1, h2⟩ := h
  unfold memSet
  split
  · exact ⟨SMap.wf_del a h1, fun e he => h2 e (SMap.mem_del he)⟩
  · next hv =>
    refine ⟨SMap.wf_put a v h1, fun e he => ?_⟩
    rcases SMap.mem_put he with rfl | he
    · exact hv
    · exact h2 e he

/-- Written bytes keep the form. -/
theorem Memory.wf_memSetAll {m : List Host.Cell} (bs : List Nat) (a : Nat) (h : Memory.wf m) : Memory.wf (memSetAll m a bs) := by
  induction bs generalizing m a with
  | nil => exact h
  | cons b bs ih => exact ih (a + 1) (wf_memSet a _ h)

/-- Erased bytes keep the form. -/
theorem Memory.wf_memWipe {m : List Host.Cell} (lo hi : Nat) (h : Memory.wf m) : Memory.wf (memWipe m lo hi) :=
  ⟨SMap.sortedFrom_filter m 0 _ h.1, fun e he => h.2 e (List.mem_filter.1 he).1⟩

/-! ## A read after a write -/

/-- A byte reads as it was written. -/
@[simp] theorem memByte_memSet_same (m : List Host.Cell) (a : Nat) (v : BitVec 8) : memByte (memSet m a v) a = v := by
  unfold memByte memSet
  split
  · next h => rw [h]; exact SMap.get_del_same m a 0
  · exact SMap.get_put_same m a v 0

/-- Another byte keeps its value. -/
theorem memByte_memSet_other (m : List Host.Cell) {a b : Nat} (v : BitVec 8) (h : a ≠ b) :
    memByte (memSet m a v) b = memByte m b := by
  unfold memByte memSet
  split
  · exact SMap.get_del_other m 0 h
  · exact SMap.get_put_other m v 0 h

/-- A byte before the written ones keeps its value. -/
theorem memByte_memSetAll_before (bs : List Nat) (m : List Host.Cell) (a b : Nat) (h : b < a) :
    memByte (memSetAll m a bs) b = memByte m b := by
  induction bs generalizing m a with
  | nil => rfl
  | cons c bs ih =>
    rw [memSetAll, ih _ _ (by omega), memByte_memSet_other _ _ (by omega)]

/-- What a byte reads as after a run of bytes was written. -/
theorem memByte_memSetAll (bs : List Nat) (m : List Host.Cell) (a b : Nat) :
    memByte (memSetAll m a bs) b =
      if a ≤ b ∧ b < a + bs.length then BitVec.ofNat 8 (bs.getD (b - a) 0) else memByte m b := by
  induction bs generalizing m a with
  | nil => rw [memSetAll, if_neg (by simp only [List.length_nil]; omega)]
  | cons c bs ih =>
    rw [memSetAll, ih]
    by_cases h : b = a
    · subst h
      rw [if_neg (by omega), if_pos (by simp only [List.length_cons]; omega), memByte_memSet_same]; simp
    · rw [memByte_memSet_other _ _ (fun e => h e.symm)]
      by_cases h1 : a + 1 ≤ b ∧ b < a + 1 + bs.length
      · rw [if_pos h1, if_pos (by simp only [List.length_cons]; omega)]
        obtain ⟨k, hk⟩ : ∃ k, b - a = k + 1 := ⟨b - a - 1, by omega⟩
        rw [hk, show b - (a + 1) = k by omega]; rfl
      · rw [if_neg h1, if_neg (by simp only [List.length_cons]; omega)]

/-- The map's read of a key that a filter keeps or drops by its key alone. -/
theorem SMap.get_filter_key {α : Type} (m : SMap α) (p : Nat → Bool) (k : Nat) (z : α) :
    SMap.get (m.filter fun e => p e.1) k z = if p k then SMap.get m k z else z := by
  induction m with
  | nil => simp [SMap.get]
  | cons e m ih =>
    obtain ⟨j, w⟩ := e
    simp only [List.filter]
    by_cases hj : j = k
    · subst hj
      cases hp : p j <;> simp_all [SMap.get]
    · cases hp : p j <;> simp_all [SMap.get]

/-- An erased byte reads 0, and every other keeps its value. -/
theorem memByte_memWipe (m : List Host.Cell) (lo hi b : Nat) :
    memByte (memWipe m lo hi) b = if lo ≤ b ∧ b < hi then 0 else memByte m b := by
  unfold memByte memWipe
  rw [SMap.get_filter_key m (fun k => !(decide (lo ≤ k) && decide (k < hi))) b 0]
  by_cases h : lo ≤ b ∧ b < hi
  · rw [if_pos h, if_neg (by simp [h])]
  · rw [if_neg h, if_pos (by simp only [Bool.not_and, Bool.or_eq_true, Bool.not_eq_true', decide_eq_false_iff_not]; omega)]

end Sys2Proof.Machine
end

