-- ==== Sys2Proof/Tests/Slice0.lean ====
section
/-!
SUPPORT. Tests/Slice0.lean: tests. What every test expects comes from the spec: a check of WellFormed, a worked example of a rule, or a
state that meets what a statement assumes.
-/
namespace Sys2Proof.Tests

open Machine

set_option Elab.async false
set_option maxRecDepth 20000

/-! ## Small devices -/

/-- A device with every rail good, both links up, sessions of every scope open on both channels, and its clock running. -/
def live : Dev :=
  let d := each (List.range 3) (fun i (d : Dev) =>
    (d.put SEQ_RAIL_GOOD_good (2 ^ 32 - 1) i).put SEQ_RAIL_ON_on (2 ^ 32 - 1) i) { Dev.reset with seq := { Seq.init with running := 2 ^ 96 - 1 } }
  let d := (((d.put HIF_LINK_up 1).put PD_STATUS_sl_state 2).put CLK_STATUS_state 3).put TWN_STATUS_role 1
  each [0, 1] (fun c (d : Dev) => (d.put CUS_STATUS_phase 3 c).put CUS_SCOPE_scope 0xFFFF c) d

/-- The live device with a lane in a state, codeword and frame lock held. -/
def laneAt (l st : Nat) : Dev :=
  ((live.put LNK_STATUS_state st l).put LNK_STATUS_cw_lock 1 l).put LNK_STATUS_frame_lock 1 l

/-- The live device with a lane in a state, without locks. -/
def laneRaw (l st : Nat) : Dev := live.put LNK_STATUS_state st l

/-- The live device with a channel's custody in a phase. -/
def phaseAt (ch ph : Nat) : Dev := live.put CUS_STATUS_phase ph ch

/-- The live device with a memory map of one channel of 1 GiB. -/
def mapped : Dev := (((live.put MEM_STATUS_channels 1).put MEMC_STATUS_capacity 1).put MEMC_STATUS_present 1).put MEM_STATUS_map_valid 1

/-- The live device with a charger state. -/
def chargerAt (st : Nat) : Dev := live.put PWR_STATUS_chg_state st

/-- The live device with the port in a Type-C state. -/
def portAt (st : Nat) : Dev := live.put PD_STATUS_tc_state st

/-- The live device with its twin enabled. -/
def twinned (pair : Nat) : Dev := (live.put TWN_CFG_en 1).put TWN_STATUS_pair_state pair

/-- The live device with engine 0 working at one step, or waiting for a reason. -/
def engine (st wait step : Nat) : Dev :=
  (live.put SEQ_ENG_STATUS_state st).putEng 0 { Engine.init with steps := [step], waiting := wait, loopTkt := 7 }

/-- The live device with a job in the island. -/
def island (current kind : Nat) : Dev :=
  { live with isl := { live.isl with current := current, docs := [⟨kind, 0, 0, 0, List.replicate 32 1⟩] } }

/-- Ticket 7 in a state, in the rail. -/
def withTicket (d : Dev) (st : Nat) : Dev :=
  { d with tkt := { d.tkt with rail := [(0, { Ticket.none with ticket := 7, state := st, open_ := true })] } }

/-- A request packet of the service link before keying: its header, its payload and their CRC-32. -/
def packet (type : Nat) : List Nat := let b := [type] ++ List.replicate 15 0; b ++ leBytes 4 (crc32 b)

/-- A management block of a kind with sequence number 1. -/
def block (kind : Nat) : List Nat := let b := [kind, 0, if kind = 1 then 1 else 0, 0] ++ List.replicate 120 0; b ++ leBytes 4 (crc32 b)

/-- A header with its CRC in place, its format in the first four bits. -/
def header (fmt : Nat) : Nat := fmt * 2 ^ 156 + crc16Header (fmt * 2 ^ 156)

/-- 700 symbols that are no codeword, and none within 7 symbols of it. -/
def badSymbols : List Nat := List.replicate 350 3 ++ List.replicate 350 0
/-- The live device with a chain of one certificate that holds its own key, the bytes 4, 0, 0, …. -/
def certified : Dev :=
  let chain : List Nat := [0x30, 122, 0x30, 120, 0xA0, 3, 2, 1, 2, 2, 1, 1, 0x30, 0, 0x30, 0, 0x30, 0, 0x30, 0, 0x30, 102, 0x30, 0, 0x03, 98, 0, 4] ++
    List.replicate 96 0
  let d := each (List.range 32) (fun w (d : Dev) => d.put LDG_CERT_DATA_data (leNat ((chain.drop (4 * w)).take 4)) w) live
  (d.put LDG_CERT_LEN_bytes 124).put LDG_DEVKEY_data 4 0

/-! ## WellFormed: an ill-formed term for each check, refused -/

theorem test_wf_refuses_1 : (([.frameBoundary ⟨[(72, 0)], []⟩, .frameBoundary ⟨[], [⟨4, 0, 0, 0, none⟩]⟩, .frameBoundary ⟨[], [⟨0, 2 ^ 32, 0, 0, none⟩]⟩,
    .planAssembled 512, .restAnchor 0 5_120, .upstreamFrameReceived 0 (2 ^ 1_000_000) [] 0 false,
    .upstreamFrameReceived 0 0 [800] 0 false, .codewordReceived 516 (List.replicate 700 0),
    .codewordReceived 0 (List.replicate 699 0), .codewordReceived 0 (4 :: List.replicate 699 0),
    .trainingBlockReceived 0 (2 ^ 32), .trainingFail 0 0, .trainingFail 0 9, .laneEnable false ⟨5, 0, 0, false⟩,
    .laneEnable false ⟨0, 32, 0, false⟩, .laneEnable false ⟨0, 0, 2 ^ 24, false⟩, .autoEnable 32, .d2dLinkLost 8,
    .mgmtBlockReceived 0 (List.replicate 127 0) false, .mgmtBlockReceived 0 (256 :: List.replicate 127 0) false,
    .mbxRxRelease 5, .gridLockGained 4 0 0 0, .stirDwellExpiry 0 128, .meterPeriod (List.replicate 39 0) 0,
    .meterPeriod (2 ^ 24 :: List.replicate 39 0) 0, .binPlanTake 0 16,
    .memoryChannelTrained 0 ⟨true, true, true, 64, 2, 0, 0, 0⟩, .memoryChannelTrained 0 ⟨true, true, true, 64, 0, 2, 0, 0⟩,
    .memoryChannelTrained 0 ⟨true, true, true, 64, 0, 0, 3, 0⟩] : List Instr).all fun i => !i.wf) = true := by
  decide +kernel

theorem test_wf_refuses_2 : (([.memoryChannelTrained 0 ⟨true, true, true, 64, 0, 0, 0, 2 ^ 32⟩, .memoryRead 0 [⟨16, 0, 0, 0, 0⟩],
    .memoryRead 0 [⟨0, 0, 0, 0, 2 ^ 16⟩], .registerWrite 0 0 0 (2 ^ 64) false, .pageEnableWrite 0 false 96 false,
    .bar2Write 0 [(0, 256)] [], .irqSourceEdge 768, .msixDelivery 64 false, .twinFrameReceived 0 [], .clockGate 0 1 0,
    .rearmRestart [], .alarmArm 0 false 2 0, .railGood 96, .pdMessageReceived (2 ^ 16) [],
    .pdMessageReceived 0 (List.replicate 8 0), .pdMessageReceived 0 [2 ^ 32], .thermalScan (List.replicate 81 0) [],
    .thermalScan [2 ^ 16] [], .sensorRestore 80, .coldStart 3 false false 0 0, .coldStart 0 false false 0 17, .slRead [256],
    .clockGate 0 1 0, .switchingCycle 0 0 0 [], .descriptorFetch 16 [], .alarmFire 2, .recipeHalt 2, .comparatorTrip 64] : List Instr).all fun i => !i.wf) = true := by
  decide +kernel

theorem test_wf_accepts : (([.frameBoundary ⟨[], []⟩, .planAssembled 0, .restAnchor 0 0, .upstreamFrameReceived 0 0 [] 0 false,
    .codewordReceived 0 (List.replicate 700 0), .trainingBlockReceived 0 0, .trainingFail 0 1,
    .laneEnable false ⟨0, 0, 0, false⟩, .autoEnable 0, .d2dLinkLost 0, .mgmtBlockReceived 0 (List.replicate 128 0) false,
    .mbxRxRelease 0, .gridLockGained 0 0 0 0, .stirDwellExpiry 0 0, .meterPeriod (List.replicate 40 0) 0, .binPlanTake 0 0,
    .memoryChannelTrained 0 ⟨true, true, true, 64, 0, 0, 0, 0⟩, .memoryRead 0 [], .registerWrite 0 0 0 0 false,
    .pageEnableWrite 0 false 0 false, .bar2Write 0 [] [], .irqSourceEdge 0, .msixDelivery 0 false, .clockGate 1 1 0,
    .rearmRestart [0, 0, 0, 0], .alarmArm 0 false 0 0, .railGood 0, .pdMessageReceived 0 [], .thermalScan [] [],
    .sensorRestore 0, .coldStart 0 false false 0 0] : List Instr).all fun i => i.wf) = true := by
  decide +kernel

/-! ## Worked examples of the spec -/

/-- R8: the packing of `017.122.05`. -/
theorem test_packing : unpackEndpoint 0x089E_8A00 = some ⟨17, 122, 5⟩ := by
  decide +kernel

/-- R94, R96: lane 300's source is 556: bit 12 of word 17; its target nibble is bits [18:16] of word 69, its vector 28. -/
theorem test_interrupt_place : ((live.putWbit IRQ_PEND_pend 556 true).get IRQ_PEND_pend 17 = 0x1000) ∧
    ((live.irqTargetWrite 69 0x1_0000).irqVector 556 = 28) := by
  decide +kernel

/-- R143: a round trip of 2,176.0 ns with a turnaround of 64.0 ns: their difference, twice the one-way delay, is 16,896 eighths of a nanosecond, the advance 29,568 symbols. -/
theorem test_delay : 2_176 * 8 - 512 = 16_896 ∧ delaySymbols 16_896 = 29_568 := by
  decide +kernel

/-- R184: the S command 0x5801 with echo 0x41: the cell is in from the boundary to offset 384. -/
theorem test_echo : echoStates true (header 10) 0x41 (some 0x5801) = some [(0, 1), (384, 0)] := by
  decide +kernel

/-- R218 (one AC cycle, k = 1 and k = 500): nine full cells of 3,654 mV, the tenth of 3,652.05 mV at offset 273; and nothing for 1 mV. -/
theorem test_insertion : (let v : Nat → Int := fun i => if i = 9 then 73_041 else 73_080
     let a := selectCells v (List.range 12) (20 * 33_860) [] false 0 1
     let b := selectCells v (List.range 12) (20 * 1) [] false 0 1
     a.full = List.range 9 ∧ a.frac = some 9 ∧ a.o = 273 ∧ b.full = [] ∧ b.o = 0) := by
  decide +kernel

/-- R264: E of 2,915 A²·s is 0x8DB2; |Z| of 0.8 mΩ has log_mag 4,170, and the word of a GOOD result is 0x8251 (R258). -/
theorem test_exc_word : excWord 2_915 = 0x8DB2 ∧ logMag (80_000 * 80_000) = 4_170 ∧ 4_170 * 8 + 1 = 0x8251 := by
  decide +kernel

/-- R306: with 16 channels, system address 0x1_2345_6780 lies on channel 15 at channel address 0x1234_5600. -/
theorem test_memory_map : (live.put MEM_STATUS_channels 16).memLocate (0x1_2345_6780 / 64) = (15, 0x1234_5600 / 64) := by
  decide +kernel

/-- R310: device 3 stuck at all ones in a line with 0x1234, 0xFFFF, 0x0F0F and 0xA5A5 in its symbols: corrected, device 3 blamed. -/
theorem test_chip_failure : (let data : List Nat := (List.range 64).map fun k =>
        if k = 6 then 0x12 else if k = 7 then 0x34 else if k = 22 ∨ k = 23 then 0xFF else if k = 38 ∨ k = 39 then 0x0F
        else if k = 54 ∨ k = 55 then 0xA5 else k
     lineJudge ((List.range 4).map fun j => (codewordOf data j).set 3 0xFFFF) = (.corrected 3, data)) := by
  decide +kernel

/-- R346: of 180,000 J measured, unit 5 with 1,508,000 of 181,000,000 mJ gets 14,996,685,082,872 units. -/
theorem test_attribution : ((live.attribute 3 1_800_000_000_000_000 0
      [((5 * 32 + 3) * 2 ^ 22, ⟨1_508_000, 0, 0⟩), ((unleased * 32 + 3) * 2 ^ 22, ⟨179_492_000, 0, 0⟩)]).mtr.accs.get 5 UnitAcc.init).eOut =
        14_996_685_082_872 := by
  decide +kernel

/-- R341: with a gain of 12,207, the code 6,442,451 is 1,199,996 mV. -/
theorem test_meter_value : ({ live with mtr := { live.mtr with gains := [(3, 12_207)] } } : Dev).chValue 3 6_442_451 = 1_199_996 := by
  decide +kernel

/-- R415: a gate of 536,870,912 ideal edges with 536,860,175 counted measures 19,999 ppb. -/
theorem test_trim : trimMeas 536_870_912 536_860_175 = 19_999 := by
  decide +kernel

/-- R461: loop A at code 72 with 4.7 µs reported goes to 76; with 5.3 µs it stays. -/
theorem test_adaptation : (let d := ((((live.put BRN_STATUS_state 3 0).put BRN_CFG_adapt_en 1 0).put BRN_VID_target 72 0).put BRN_VID_code_now 72 0)
     (d.adapt [(0, 470)] false).get BRN_VID_target 0 = 76 ∧ (d.adapt [(0, 530)] false).get BRN_VID_target 0 = 72) := by
  decide +kernel

/-- R480: the first 21 step words of recipe slot 0; step 8 of slot 1 (R551). -/
theorem test_factory_recipes : factoryUp.take 21 = [0x5120_001B, 0x8000_0001, 0x1000_0008, 0x4006_F001, 0x7170_A01B, 0x7161_401B, 0x7155_001B, 0x7143_C01B,
      0x8000_0002, 0x1000_000A, 0x4106_F001, 0x1000_000B, 0x4206_F001, 0x1800_0003, 0x4306_F001, 0x8000_0003, 0x1000_0040, 0x4806_F032,
      0x1800_0004, 0x1800_0005, 0x1800_0006] ∧ factoryDown.getD 8 0 = 0x700F_F800 := by
  decide +kernel

/-- R531: slot (1, 2) of a holder is region 13, words 320 to 335. -/
theorem test_otp_slot : regionSpan (3 + 8 + 2) = (320, 16) := by
  decide +kernel

/-- CRC-32 of the nine digits (the check value of the reflected CRC-32, assumption 7). -/
theorem test_check_code : crc32 [49, 50, 51, 52, 53, 54, 55, 56, 57] = 0xCBF4_3926 := by
  decide +kernel

/-- R126: half a codeword of ones and half of zeros is no codeword, and more than 7 symbols away from each. -/
theorem test_uncorrectable : rsDecode (rsSymbols 140 ((badSymbols.map (pamInvert false)).flatMap pamBits)) = none := by
  decide +kernel

/-- The bad codeword is received as bad, on a lane that inverts nothing. -/
theorem rxWord_bad (d : Dev) (l : Nat) (h : (d.lane l).rxInv = false) : (d.rxWord l badSymbols).1.bad = true := by
  simp only [Dev.rxWord, Dev.rxBits, h, test_uncorrectable]

/-! ## What the statements assume is met by states that stand here

One theorem for each statement with hypotheses; for the statements about a family of commands, one conjunct for each clause. -/

theorem test_met_HeldOffDeviceIsDeaf :
    heldOff ⟨[], { live with down := 1 }⟩ ∧ survivesHoldOff .tapDrain = false := by
  unfold heldOff
  decide +kernel

theorem test_met_PageCommandsAreJudgedByTheirPage :
    (∃ x, pageCmdOf (.memFence ⟨0, 0, 0, false⟩) = some x) ∧ live.down = 0 := by
  exact ⟨⟨_, rfl⟩, by decide +kernel⟩

theorem test_met_FirstRefusalIsReported :
    ∀ v ∈ [{ Verdict.ok with denied := true }, { Verdict.ok with badArg := true }, { Verdict.ok with badState := true },
      { Verdict.ok with busy := true }],
      let x : CmdDef := { verdict := fun _ _ _ => v, effect := fun _ _ _ d => d }
      let c : Cmd := ⟨0, 0, 0, false⟩
      (∀ (e : Dev) (k : Nat), (x.refused 0x18 c e).get PAGE_CMD_STATUS_result k = e.get PAGE_CMD_STATUS_result k) ∧
        live.reaches c.ch 0x18 = true ∧ live.mustWait c.ch (x.judge 0x18 1 c live).priv = false ∧ c.soon = false ∧ live.tkt.held = [] ∧
        live.refusing 0x18 = false ∧ (x.judge 0x18 1 c live).denied = v.denied ∧ (x.judge 0x18 1 c live).badArg = v.badArg ∧
        (x.judge 0x18 1 c live).badState = v.badState ∧ (x.judge 0x18 1 c live).busy = v.busy := by
  intro v hv x c
  refine ⟨fun _ _ => rfl, ?_⟩
  simp only [List.mem_cons, List.not_mem_nil, or_false] at hv
  rcases hv with rfl | rfl | rfl | rfl <;> decide +kernel

theorem test_met_RefusedCommandTakesNoTicket :
    pageCmdOf (.memFence ⟨0, 0, 1, false⟩) = some (0x18, 1, memFence, ⟨0, 0, 1, false⟩) ∧ live.down = 0 ∧ live.reaches 0 0x18 = true ∧
      live.mustWait 0 (memFence.judge 0x18 1 ⟨0, 0, 1, false⟩ live).priv = false ∧ live.tkt.held = [] ∧
      live.verdictResult 0x18 (memFence.judge 0x18 1 ⟨0, 0, 1, false⟩ live) ∈ [2, 3, 4] := by
  refine ⟨rfl, ?_⟩
  decide +kernel

theorem test_met_CommandsAreIgnoredOrWaitWhole :
    Dev.reset.reaches 0 0x18 = false ∧ live.reaches 0 0x18 = true ∧
      live.mustWait 0 (memFence.judge 0x18 1 ⟨0, 0, 0, true⟩ live).priv = false ∧ (⟨0, 0, 0, true⟩ : Cmd).soon = true := by
  decide +kernel

theorem test_met_TicketIsIssued :
    live.get TKT_OPEN_count < 65_536 := by
  decide +kernel

theorem test_met_TicketClosesOnce :
    (let t : Ticket := { Ticket.none with ticket := 7, state := 2, open_ := true }
     (withTicket live 2).ticketAt 7 = some (0, t) ∧ t.open_ = true) ∧
    (let t : Ticket := { Ticket.none with ticket := 7, state := 4 }
     ({ live with tkt := { live.tkt with rail := [(0, t)] } } : Dev).ticketAt 7 = some (0, t) ∧ t.open_ = false) := by
  decide +kernel

theorem test_met_EdgeIsLatchedOrCountedLost :
    (live.putWbit IRQ_PEND_pend 767 true).wbit IRQ_PEND_pend 767 = true ∧ live.wbit IRQ_PEND_pend 767 = false ∧
      live.wbit IRQ_EN_en 767 = false ∧
      (let d := (live.putWbit IRQ_EN_en 767 true).put IRQ_TARGET_target 3 767
       d.wbit IRQ_EN_en 767 = true ∧ d.irqTarget 767 = 3 ∧ d.wbit IRQ_PEND_pend 767 = false) := by
  decide +kernel

theorem test_met_PageSummaryRisesOnce :
    ((live.put PAGE_IRQ_EN_en 1 4).put PAGE_IRQ_RAW_raw 1 4).pagePend 4 ≠ 0 ∧ live.pagePend 4 = 0 ∧
      ((live.put PAGE_IRQ_EN_en (2 ^ 31) 4).get PAGE_IRQ_EN_en 4).testBit 31 = true ∧ (live.put PAGE_IRQ_EN_en (2 ^ 31) 4).pagePend 4 = 0 := by
  decide +kernel

theorem test_met_RepeatedFaultIsSuppressed :
    (let d : Dev := { live with time := 327_679_999, flt := { live.flt with holdOff := [(F_DEADLINE_MISS * 2 ^ 32 + 511, ⟨0, 3⟩)] } }
     d.flt.holdOff.has (F_DEADLINE_MISS * 2 ^ 32 + 511) = true ∧
       d.time < (d.flt.holdOff.get (F_DEADLINE_MISS * 2 ^ 32 + 511) ⟨0, 0⟩).taken + 327_680_000) := by
  decide +kernel

theorem test_met_FirstSourceFillsItsLatch :
    F_DEADLINE_MISS < 2 ^ 16 ∧ live.flt.holdOff.has (F_DEADLINE_MISS * 2 ^ 32 + 511) = false ∧ live.flt.queue.length < 32 ∧
      (let cls := faultClass F_DEADLINE_MISS
       let eff := if live.latched cls = true then cls + 1 else cls
       eff < 2 ∧ live.latched eff = false) := by
  decide +kernel

theorem test_met_BadAccessesAreCounted :
    live.down = 0 ∧ live.channelUp 1 = true ∧ live.readWaits 1 (2 ^ 26 - 4) 4 = false ∧ live.readWaits 1 (2 ^ 26 - 8) 8 = false ∧
      live.readWaits 1 (2 ^ 26 - 1) 1 = false := by
  decide +kernel

theorem test_met_ReadsDisturbNoOtherChannel :
    live.down = 0 ∧ live.channelUp 1 = true ∧ live.readWaits 1 0x5100 4 = false ∧ 0x5100 % 2 ^ 24 / 0x1000 ≠ 0x16 := by
  decide +kernel

theorem test_met_SnapPairIsLatched :
    (let e := (live.readWord 1 false 0x005 0x100).2
     live.serves 0x005 = true ∧ e.serves 0x005 = true ∧
       e.snap.get (snapKey 0x005 0x104 1) 0 = (live.readWord 1 false 0x005 0x100).2.snap.get (snapKey 0x005 0x104 1) 0 ∧
       live.get TKT_NEXT_LO_next_lo < 2 ^ 32 ∧ live.get TKT_NEXT_HI_next_hi < 2 ^ 16) := by
  decide +kernel

theorem test_met_LaterIsAsymmetric :
    laterEpoch 5 65_535 = true ∧ (65_535 + 6) % 2 ^ 16 = 5 ∧ laterEpoch 65_535 5 = false := by
  decide +kernel

theorem test_met_HeaderCarriesItsFields :
    (⟨2 ^ 48 - 1, 65_535, 1, 3, 1, 1, 1, 1, 65_535⟩ : DownHead).epoch < 2 ^ 16 := by
  decide +kernel

theorem test_met_EchoFixesTheSwitchStates :
    (0x41 : Nat).testBit 2 = false ∧ (0x41 / 64 % 4 : Nat) ≠ 0x41 / 16 % 4 ∧ (0x51 : Nat).testBit 2 = false ∧ (0x51 / 64 % 4 : Nat) = 0x51 / 16 % 4 ∧
      (0x05 : Nat).testBit 2 = true ∧ hdrField (header 10) 60 69 = 0 ∧ hdrField (2 ^ 90) 60 69 ≠ 0 ∧
      echoBegins 0x5802 1 = true ∧ echoBegins 0x5801 0 = false := by
  decide +kernel

theorem test_met_BankTargetSlewsAndBackoffClamps :
    slewTo 0 100 7 = 7 ∧ nextBackoff 5_120 [200_000] false false 1 1 3 = 5_120 ∧ nextBackoff (-5_120) [-200_000] false false 1 1 3 = -5_120 := by
  decide +kernel

theorem test_met_AttributedEnergySumsToTheMeter :
    (let d : Dev := { live with mtr := { live.mtr with tap := { Tap.init with count := 1 }, accs := [(5, UnitAcc.init)] } }
     d.down = 0 ∧ SMap.wf d.mtr.accs = true ∧ d.tapReady = true ∧ d.mtr.tap.count ≠ 0) := by
  decide +kernel

theorem test_met_SingleDeviceFailureIsCorrected :
    (let d : Dev := { mapped with mem := { mapped.mem with errs := [⟨0, 5, 3, 9, 1⟩] } }
     d.flag MEMC_MARK_marked (0 * 4 + d.memQ 0 5) = false ∧ (d.memChan 0).poison.has 5 = false ∧
       (∀ e ∈ d.mem.errs, e.ch = 0 → e.line = 5 → e.dev = 9) ∧ (1 % 2 ^ 16 : Nat) ≠ 0) := by
  decide +kernel

theorem test_met_MarkedDeviceIsErased :
    (let d : Dev := { mapped.put MEMC_MARK_marked 1 1 with mem := { mapped.mem with errs := [⟨0, 5, 3, 9, 1⟩] } }
     d.flag MEMC_MARK_marked (0 * 4 + d.memQ 0 5) = true ∧ d.get MEMC_MARK_device (0 * 4 + d.memQ 0 5) = 0 ∧ (d.memChan 0).poison.has 5 = false ∧
       (d.put MEMC_MARK_device 9 1).get MEMC_MARK_device (0 * 4 + d.memQ 0 5) = 9 ∧ (∀ e ∈ d.mem.errs, e.dev = 9)) := by
  decide +kernel

theorem test_met_PoisonIsReadAsPoison :
    (List.replicate 64 255).length = 64 ∧ (∀ x ∈ List.replicate 64 255, x < 256) ∧ mapped.flag MEMC_MARK_marked (0 * 4 + mapped.memQ 0 5) = false ∧ mapped.mem.errs = [] := by
  decide +kernel

theorem test_met_MemoryLinesAreSpreadOneToOne :
    0 < (live.put MEM_STATUS_channels 16).memN ∧ (0 : Nat) < (live.put MEM_STATUS_channels 16).memN := by
  decide +kernel

theorem test_met_ReceiveFifoGivesOutInOrder :
    ({ live with pd := { live.pd with fifo := [⟨1, []⟩, ⟨2, [7]⟩] } } : Dev).pd.fifo = ⟨1, []⟩ :: [⟨2, [7]⟩] := by
  decide +kernel

theorem test_met_TrimKeepsTime :
    -500_000 ≤ toSigned 32 (live.get RTC_TRIM_ppb) ∧ toSigned 32 (live.get RTC_TRIM_ppb) ≤ 500_000 ∧
      -1_000_000_000 < live.rtc.acc ∧ live.rtc.acc < 1_000_000_000 ∧ live.tick + 2 < 2 ^ 48 := by
  decide +kernel

theorem test_met_CheckInsAreSorted :
    (let d : Dev := { live.put WDT_CFG_running 1 with wdt := { live.wdt with en := 2, window := 8, period := 500, start := 0 } }
     d.flag WDT_CFG_running = true ∧ d.wdt.en.testBit 1 = true ∧ d.wdtOpen = false ∧ ({ d with time := 2 ^ 40 } : Dev).wdtOpen = true) := by
  decide +kernel

/-- What keeps a device from accepting `CKPT_LOAD`, apart from the checkpoint itself. -/
theorem ckptLoad_met (L : Dev) (m : Mem) (h : L.reaches 0 0x17 = true ∧ L.mustWait 0 false = false ∧ L.tkt.held = [] ∧ L.refusing 0x17 = false ∧
      L.railFull = false ∧ L.pairedStandby = false ∧ L.est.ckpt = 0 ∧ L.flag EST_STATUS_hibernated = false) :
    let d : Dev := { L with mem := m }
    (∀ x ∈ [d, d.wakeCause], x.ckptGood = true ∧ leNat ((x.ckptHeader.drop 8).take 8) = x.ckptGen) →
      d.mustWait 0 (ckptLoadCmd.judge 0x017 5 ⟨0, 0, 0, false⟩ d).priv = false ∧ d.wakeCause.accepts 0x017 5 ckptLoadCmd ⟨0, 0, 0, false⟩ := by
  intro d hx
  obtain ⟨h1, h2, h3, h4, h5, h6, h7, h8⟩ := h
  have J : ∀ x : Dev, x.pairedStandby = false → x.est.ckpt = 0 → x.ckptGood = true → leNat ((x.ckptHeader.drop 8).take 8) = x.ckptGen →
      ckptLoadCmd.judge 0x017 5 ⟨0, 0, 0, false⟩ x = { Verdict.ok with total := allPositions } := by
    intro x a b g e
    simp only [CmdDef.judge, ckptLoadCmd, a, b, g, e]
    simp [Verdict.ok]
  let e : Dev := { d with est := { d.est with idleFrom := d.time, probeWoken := true } }
  have hw : d.wakeCause = e := if_neg (show ¬ L.flag EST_STATUS_hibernated = true by simp [h8])
  rw [hw] at hx ⊢
  have hd := hx d (by simp)
  have he := hx e (by simp)
  have je := J e h6 h7 he.1 he.2
  rw [J d h6 h7 hd.1 hd.2]
  refine ⟨h2, h1, ?_, rfl, h3, ?_⟩
  · rw [je]; exact h2
  · rw [je]
    have h4' : e.refusing 0x17 = false := h4
    have h5' : e.railFull = false := h5
    simp [Dev.verdictResult, Verdict.ok, h4', h5']

/-- `CKPT_LOAD` completes where the checkpoint in memory verifies, which is for the opaque signature and hash to say (assumption 5): given
that, nothing keeps the live device from accepting it, whatever its memory holds. -/
theorem test_met_CkptLoad (m : Mem) :
    let d : Dev := { live with mem := m }
    (∀ x ∈ [d, d.wakeCause], x.ckptGood = true ∧ leNat ((x.ckptHeader.drop 8).take 8) = x.ckptGen) →
      d.mustWait 0 (ckptLoadCmd.judge 0x017 5 ⟨0, 0, 0, false⟩ d).priv = false ∧ d.wakeCause.accepts 0x017 5 ckptLoadCmd ⟨0, 0, 0, false⟩ :=
  ckptLoad_met live m (by decide +kernel)

theorem test_met_NothingButTheClockGoesOnWhileHeldOff :
    FrozenSince { live with down := 1 } ⟨[.tapDrain], { live with down := 1 }⟩ ∧ goesOn (step ⟨[.tapDrain], { live with down := 1 }⟩) ∧ FrozenSince { live with down := 1 } ⟨[], { live with down := 1 }⟩ := by
  have h : FrozenSince { live with down := 1 } ⟨[.tapDrain], { live with down := 1 }⟩ :=
    ⟨Nat.one_ne_zero, by decide +kernel, fun c hc => by simp at hc; subst hc; rfl, rfl, fun _ _ _ => rfl⟩
  exact ⟨h, ⟨_, rfl⟩, h.1, h.2.1, fun _ hc => by simp at hc, rfl, h.2.2.2.2⟩

theorem test_met_ResetNFreezesTheDevice :
    live.flag RTC_STATUS_set_pending = false ∧ survivesHoldOff .tapDrain = false := by
  decide +kernel

theorem test_met_RearmResumesAtAMinute :
    ({ live with ck := { live.ck with started := true } } : Dev).ck.started = true ∧ live.ck.started = false := by
  decide +kernel

theorem test_met_PageAndLinkCommandsComplete_1 :
    (let ch : Nat := 1
     let addr : Nat := 2 ^ 26 - 4
     let size : Nat := 4
     let d : Dev := live
     addr < 2 ^ 26 ∧ ch < 2 ∧ d.channelUp ch ∧ size = 4 ∧ addr % 4 = 0) ∧
    (let ch : Nat := 0
     let addr : Nat := 2 ^ 26 - 8
     let size : Nat := 8
     let d : Dev := live
     addr < 2 ^ 26 ∧ ch < 2 ∧ d.channelUp ch ∧ size = 8 ∧ addr % 8 = 0) ∧
    (let ch : Nat := 1
     let addr : Nat := 2 ^ 26 - 4
     let size : Nat := 4
     let d : Dev := live
     addr < 2 ^ 26 ∧ ch < 2 ∧ d.channelUp ch ∧ d.readWaits ch addr size = false ∧ size = 4 ∧ addr % 4 = 0) ∧
    (let ch : Nat := 0
     let addr : Nat := 2 ^ 26 - 8
     let size : Nat := 8
     let d : Dev := live
     addr < 2 ^ 26 ∧ ch < 2 ∧ d.channelUp ch ∧ d.readWaits ch addr size = false ∧ size = 8 ∧ addr % 8 = 0) ∧
    (let ch : Nat := 0
     let addr : Nat := 0
     let size : Nat := 0
     let d : Dev := live
     addr < 2 ^ 26 ∧ ch < 2 ∧ d.channelUp ch ∧ d.readWaits ch addr size = false ∧ barAccess addr size = false) ∧
    (let ch : Nat := 0
     let addr : Nat := 0
     let size : Nat := 4
     let d : Dev := { live with ldg := { live.ldg with privWait := [⟨1, 0, 0, 0, [], []⟩] } }
     addr < 2 ^ 26 ∧ ch < 2 ∧ d.channelUp ch ∧ d.readWaits ch addr size = true) ∧
    (let ch : Nat := 0
     let page : Nat := 0
     let en : Bool := false
     let d : Dev := live
     assigned page ∧ d.takesWrite ch page ∧ d.enableOk page en) ∧
    (let ch : Nat := 0
     let page : Nat := 0
     let en : Bool := false
     let d : Dev := live
     assigned page ∧ d.takesPriv ch page ∧ d.enableOk page en ∧ d.get PAGE_CTRL_enable page < 2) := by
  refine ⟨?_, ?_, ?_, ?_, ?_, ?_, ?_, ?_⟩ <;>
    (intros; (try unfold Dev.takesWrite); (try unfold Dev.takesPriv); (try unfold Dev.enableOk); decide +kernel)

theorem test_met_PageAndLinkCommandsComplete_2 :
    (let ch : Nat := 0
     let page : Nat := 0
     let d : Dev := live
     assigned page ∧ d.takesWrite ch page ∧ d.enableOk page (bit (d.pageCtrl page) 0)) ∧
    (let ch : Nat := 0
     let page : Nat := 0
     let d : Dev := live
     assigned page ∧ d.takesPriv ch page ∧ d.enableOk page (bit (d.pageCtrl page) 0) ∧ d.get PAGE_CTRL_enable page < 2) ∧
    (let ch : Nat := 0
     let page : Nat := 0
     let soon : Bool := false
     let d : Dev := live
     assigned page ∧ d.takesPriv ch page ∧ d.covers ch scopeOPS ∧ d.get PAGE_CTRL_enable page < 2 ∧
     d.enableOk page (bit (d.pageCtrl page) 0) ∧ d.resetForbidden page = false ∧ d.resetsSnapshot page = false ∧
     ((d.wokenBy page).ctrlTaken page (bit (d.pageCtrl page) 0) (bit (d.pageCtrl page) 2)).accepts page 0 (resetCmd.under true) ⟨ch, page - blockOf page, 0x010, soon⟩) ∧
    (let kind : Nat := 0
     let d : Dev := live
     d.linkCan kind) ∧
    (let width : Nat := 8
     let speed : Nat := 5
     let d : Dev := live
     d.railGood 6 ∧ width ∈ [1, 2, 4, 8] ∧ 1 ≤ speed ∧ speed ≤ 5) ∧
    (let offset : Nat := 0
     let n : Nat := 0
     let errs : List MemErr := []
     let d : Dev := live
     d.hostDecodes ∧ d.mustWait 0 false = false ∧ offset + n ≤ 2 ^ 34 ∧ d.clk ≠ 5 ∧
     ((d.memErrs errs).memReadSpan (d.bar2Addr offset) n).2.1 = true) ∧
    (let offset : Nat := 2 ^ 34 - 64
     let n : Nat := 64
     let d : Dev := live.put CLK_STATUS_state 5
     d.hostDecodes ∧ d.mustWait 0 false = false ∧ offset + n ≤ 2 ^ 34 ∧ d.clk = 5) ∧
    (let d : Dev := { live with ldg := { live.ldg with privWait := [⟨1, 0, 0, 0, [], []⟩] } }
     d.hostDecodes ∧ d.mustWait 0 false) := by
  refine ⟨?_, ?_, ?_, ?_, ?_, ?_, ?_, ?_⟩ <;>
    (intros; (try unfold Dev.accepts); (try unfold Dev.takesWrite); (try unfold Dev.takesPriv); (try unfold Dev.enableOk); decide +kernel)

theorem test_met_PageAndLinkCommandsComplete_3 :
    (let offset : Nat := 0
     let bytes : List (Nat × Nat) := [(0, 1), (63, 2)]
     let d : Dev := mapped.put MEM_HOST_SIZE_gib 1 |>.put MEMC_STATUS_capacity 2
     d.hostDecodes ∧ d.mustWait 0 false = false ∧ offset + spanOf bytes ≤ 2 ^ 34 ∧ d.clk ≠ 5 ∧
     d.inHostRegion (d.bar2Addr offset) (spanOf bytes)) ∧
    (let offset : Nat := 0
     let bytes : List (Nat × Nat) := [(0, 1)]
     let d : Dev := live
     d.hostDecodes ∧ d.mustWait 0 false = false ∧ offset + spanOf bytes ≤ 2 ^ 34 ∧
     (d.clk = 5 ∨ d.inHostRegion (d.bar2Addr offset) (spanOf bytes) = false)) ∧
    (let d : Dev := { live with ldg := { live.ldg with privWait := [⟨1, 0, 0, 0, [], []⟩] } }
     d.hostDecodes ∧ d.mustWait 0 false) ∧
    (let _d : Dev := live
     True) := by
  refine ⟨?_, ?_, ?_, ?_⟩ <;>
    (intros; decide +kernel)

theorem test_met_CustodyCommandsComplete_1 :
    (let _d : Dev := live
     True) ∧
    (let c : Cmd := ⟨0, 0, 0, false⟩
     let d : Dev := phaseAt 0 0
     d.accepts 0x002 1 cusNonce c) ∧
    (let c : Cmd := ⟨0, 0, 0, false⟩
     let d : Dev := ((phaseAt 0 1).put CUS_MAILBOX_REQ_data 1 0).put CUS_MAILBOX_REQ_data 1 2
     d.accepts 0x002 2 signIn c) ∧
    (let j : SigJob := ⟨1, 0, 0, 7, []⟩
     let rest : List SigJob := []
     let d : Dev := { live with isl := { live.isl with current := 2, signIns := [⟨1, 0, 0, 7, []⟩] } }
     d.isl.current = 2 ∧ d.isl.signIns = j :: rest) ∧
    (let c : Cmd := ⟨0, 0, 0, false⟩
     let d : Dev := phaseAt 0 2
     d.accepts 0x002 3 cusOpen c) ∧
    (let c : Cmd := ⟨0, 0, 0, false⟩
     let d : Dev := live
     d.accepts 0x002 4 cusClose c) ∧
    (let ch : Nat := 0
     let d : Dev := live
     d.get CUS_STATUS_phase ch = 3 ∧ d.isl.opened.get ch 0 + d.get CUS_REMAIN_seconds ch * 32_768 ≤ d.tick) ∧
    (let ch : Nat := 0
     let d : Dev := live
     !(ch ∈ d.isl.nonceDead)) := by
  refine ⟨?_, ?_, ?_, ?_, ?_, ?_, ?_, ?_⟩ <;>
    (intros; (try unfold Dev.accepts); decide +kernel)

theorem test_met_CustodyCommandsComplete_2 :
    (let ch : Nat := 1
     let d : Dev := live.put CUS_STATUS_lockout 1 1
     d.get CUS_STATUS_lockout ch = 1) := by
  intros; decide +kernel

theorem test_met_DmaAndInterruptCommandsComplete_1 :
    (let ch : Nat := 0
     let ring : Nat := 0
     let d : Dev := live
     ring < 16 ∧ d.takesWrite ch 0x006) ∧
    (let ch : Nat := 0
     let ring : Nat := 0
     let d : Dev := live
     ring < 16 ∧ d.takesPriv ch 0x006) ∧
    (let ch : Nat := 0
     let ring : Nat := 0
     let d : Dev := live
     ring < 16 ∧ d.takesWrite ch 0x006) ∧
    (let ch : Nat := 0
     let ring : Nat := 0
     let d : Dev := live
     ring < 16 ∧ d.takesPriv ch 0x006) ∧
    (let ring : Nat := 15
     let bytes : List Nat := List.replicate 8 0 ++ List.replicate 8 0 ++ [64] ++ List.replicate 15 0
     let d : Dev := ((live.put DMA_RING_CTRL_enable 1 15).put DMA_RING_STATUS_state 1 15).put DMA_RING_TAIL_tail 1 15
     d.descMay ring (leNat (bytes.take 32)) ∧ d.dmaRing ring = [] ∧ d.ownHeld 5 ring = false ∧ d.spaced ∧
     d.railFull = false ∧
     (descParse (leBytes 32 (leNat (bytes.take 32))) (d.dmaBase ring + 32 * d.get DMA_RING_HEAD_head ring) 0).len ≠ 0) ∧
    (let ring : Nat := 15
     let data : List Nat := []
     let errs : List MemErr := []
     let x : Desc := ⟨0, 0, 64, 2, 0, 0, 0, 7, false, false, false, 0⟩
     let rest : List Desc := []
     let m : Move := Move.refused rBadArg
     let e : Dev := (live.putRing 15 [⟨0, 0, 64, 2, 0, 0, 0, 7, false, false, false, 0⟩]).memErrs []
     let d : Dev := live.putRing 15 [⟨0, 0, 64, 2, 0, 0, 0, 7, false, false, false, 0⟩]
     d.dmaRing ring = x :: rest ∧ d.ringLive ring ∧ (d.memErrs errs).descMove ring x data = (some m, e)) ∧
    (let ring : Nat := 15
     let x : Desc := ⟨0, 0, 64, 2, 0, 0, 0, 7, false, false, false, 0⟩
     let rest : List Desc := []
     let d : Dev := live.putRing 15 [⟨0, 0, 64, 2, 0, 0, 0, 7, false, false, false, 0⟩]
     d.dmaRing ring = x :: rest ∧ d.ringLive ring) ∧
    (let src : Nat := 767
     let d : Dev := live
     irqSource src && d.railGood (irqDomain src)) := by
  refine ⟨?_, ?_, ?_, ?_, ?_, ?_, ?_, ?_⟩ <;>
    (intros; (try unfold Dev.takesWrite); (try unfold Dev.takesPriv); decide +kernel)

theorem test_met_DmaAndInterruptCommandsComplete_2 :
    (let vector : Nat := 63
     let busMaster : Bool := true
     let d : Dev := { live with msixPend := [63], msixTable := [(255, 0)] }
     vector ∈ d.msixPend ∧ d.msixReady busMaster ∧ !bit (d.msixTable.get (4 * vector + 3) 1) 0) ∧
    (let ch : Nat := 0
     let word : Nat := 0
     let d : Dev := live
     word < 32 ∧ d.takesWrite ch 0x003) ∧
    (let ch : Nat := 0
     let word : Nat := 0
     let d : Dev := live
     word < 32 ∧ d.takesPriv ch 0x003) ∧
    (let ch : Nat := 0
     let word : Nat := 0
     let d : Dev := live
     word < 32 ∧ d.takesWrite ch 0x003) ∧
    (let ch : Nat := 0
     let word : Nat := 0
     let d : Dev := live
     word < 32 ∧ d.takesPriv ch 0x003) ∧
    (let ch : Nat := 0
     let word : Nat := 0
     let d : Dev := live
     word < 128 ∧ d.takesWrite ch 0x003) ∧
    (let ch : Nat := 0
     let word : Nat := 0
     let d : Dev := live
     word < 128 ∧ d.takesPriv ch 0x003) ∧
    (let src : Nat := 128
     let e : Dev := (live.putWbit IRQ_PEND_pend 128 true).putWbit IRQ_EN_en 128 true
     let d : Dev := e.put IRQ_TARGET_target 5 128
     d.intN = 0 ∧ d.irqNext 5 = some src) := by
  refine ⟨?_, ?_, ?_, ?_, ?_, ?_, ?_, ?_⟩ <;>
    (intros; (try unfold Dev.takesWrite); (try unfold Dev.takesPriv); decide +kernel)

theorem test_met_DmaAndInterruptCommandsComplete_3 :
    (let d : Dev := { live with intN := 129 }
     !(d.intN = 0)) ∧
    (let opcode : Nat := 0
     let addr : Nat := 0
     let _d : Dev := live
     opcode < 256 ∧ addr < 2 ^ 24) := by
  refine ⟨?_, ?_⟩ <;>
    (intros; decide +kernel)

theorem test_met_PlaneCommandsComplete_1 :
    (let d : Dev := live
     d.k03) ∧
    (let lane : Nat := 0
     let d : Dev := { live with sch := { live.sch with strs := [(0, Str.init)] } }
     d.sch.strs.has lane && d.k03) ∧
    (let lane : Nat := 0
     let d : Dev := { live with sch := { live.sch with strs := [(0, { Str.init with missDue := true })] } }
     (d.str lane).missDue = true ∧ (d.str lane).misses ≠ 3) ∧
    (let lane : Nat := 0
     let d : Dev := { live with sch := { live.sch with strs := [(0, { Str.init with missDue := true, misses := 3 })] } }
     (d.str lane).missDue = true ∧ (d.str lane).misses = 3) ∧
    (let d : Dev := live
     d.railGood 12 && d.k03) ∧
    (let d : Dev := live
     d.railGood 12 && d.k03) ∧
    (let d : Dev := live
     d.k03 && d.atHealth && d.railGood 11) ∧
    (let die : Nat := 0
     let d : Dev := live
     die < 8 ∧ d.dieLost.testBit die = false ∧ d.railGood 11) := by
  refine ⟨?_, ?_, ?_, ?_, ?_, ?_, ?_, ?_⟩ <;>
    (intros; decide +kernel)

theorem test_met_PlaneCommandsComplete_2 :
    (let die : Nat := 7
     let d : Dev := { live with dieLost := 128 }
     d.dieLost.testBit die && d.railGood 11) ∧
    (let ch : Nat := 0
     let soon : Bool := false
     let d : Dev := live
     d.accepts 0x015 0 commitCmd ⟨ch, 0, 0x100, soon⟩) ∧
    (let ch : Nat := 0
     let off : Nat := 0
     let val : Nat := 0
     let d : Dev := live
     d.takesTable ch 1 off ∧ d.mustWait ch true = false ∧ d.get CUS_STATUS_phase ch = 3 ∧ d.covers ch scopeOPS ∧
     d.ldgReserve = false ∧ limLegal off (d.limRead d.sch.active off) val ∧ limFields off ≠ []) ∧
    (let ch : Nat := 0
     let soon : Bool := false
     let d : Dev := live
     d.mustWait ch (estReloadCmd.judge 0x017 0 ⟨ch, 0, 0x100, soon⟩ d).priv = false ∧
     d.wakeCause.accepts 0x017 0 estReloadCmd ⟨ch, 0, 0x100, soon⟩) := by
  refine ⟨?_, ?_, ?_, ?_⟩ <;>
    (intros; (try unfold Dev.accepts); (try unfold Dev.takesTable); decide +kernel)

theorem test_met_FaultAndTicketCommandsComplete_1 :
    (let code : Nat := F_DEADLINE_MISS
     let loc : Nat := 511
     let _d : Dev := live
     faultKnown code && faultPlace code loc) ∧
    (let d : Dev := live
     d.railGood 3) ∧
    (let c : Cmd := ⟨0, 0, 0x500, false⟩
     let d : Dev := ((live.put FLT_STATUS_latched 1).put FLT_FIRST_SEQ_LO_seq_lo 5 0)
     d.accepts 0x004 1 fltAck c) ∧
    (let c : Cmd := ⟨0, 0, 0, false⟩
     let d : Dev := live
     d.accepts 0x004 2 fltTrip c) ∧
    (let c : Cmd := ⟨0, 0, 0x500, false⟩
     let d : Dev := live.put2 FLT_NEXT_SEQ_LO_seq_lo FLT_NEXT_SEQ_HI_seq_hi 6
     d.accepts 0x004 3 releasePins c) ∧
    (let d : Dev := live
     !(d.flag FLT_STATUS_estop)) ∧
    (let d : Dev := live.put FLT_STATUS_estop 1
     d.flag FLT_STATUS_estop) ∧
    (let h : HeldCmd := ⟨0x18, 1, ⟨0, 0, 0, false⟩, false⟩
     let rest : List HeldCmd := []
     let d : Dev := { live with tkt := { live.tkt with held := [⟨0x18, 1, ⟨0, 0, 0, false⟩, false⟩] } }
     d.tkt.held = h :: rest ∧ h.cmd.ch < 2 ∧ ({ d with tkt := { d.tkt with held := rest } } : Dev).reaches h.cmd.ch h.page) := by
  refine ⟨?_, ?_, ?_, ?_, ?_, ?_, ?_, ?_⟩ <;>
    (intros; (try unfold Dev.accepts); decide +kernel)

theorem test_met_FaultAndTicketCommandsComplete_2 :
    (let ch : Nat := 0
     let d : Dev := live
     d.takesWrite ch 0x005) ∧
    (let ch : Nat := 0
     let d : Dev := live
     d.takesPriv ch 0x005) ∧
    (let ch : Nat := 0
     let i : Nat := 0
     let t : Ticket := { Ticket.none with ticket := 7, state := 2, open_ := true }
     let e : Dev := (withTicket live 2).put TKT_LOOKUP_LO_ticket_lo 7
     let d : Dev := { e with tkt := { e.tkt with lookups := [0] } }
     ch ∈ d.tkt.lookups ∧ d.ticketAt (d.get2 TKT_LOOKUP_LO_ticket_lo TKT_LOOKUP_HI_ticket_hi ch) = some (i, t)) ∧
    (let ch : Nat := 0
     let d : Dev := { live with tkt := { live.tkt with lookups := [0] } }
     ch ∈ d.tkt.lookups ∧ d.ticketAt (d.get2 TKT_LOOKUP_LO_ticket_lo TKT_LOOKUP_HI_ticket_hi ch) = none) := by
  refine ⟨?_, ?_, ?_, ?_⟩ <;>
    (intros; (try unfold Dev.takesWrite); (try unfold Dev.takesPriv); decide +kernel)

theorem test_met_LaneEventsComplete_1 :
    (let lane : Nat := 0
     let symbols : List Nat := List.replicate 700 0
     let d : Dev := (laneRaw 0 2).putLane 0 { Lane.init with cwGood := 62 }
     d.laneOn lane ∧ 2 ≤ d.laneState lane ∧ d.laneState lane ≤ 5 ∧ d.flag LNK_STATUS_cw_lock lane = false ∧
     (d.rxWord lane symbols).1.bad = false ∧ (d.lane lane).cwGood < 63) ∧
    (let lane : Nat := 0
     let symbols : List Nat := List.replicate 700 0
     let d : Dev := (laneRaw 0 5).putLane 0 { Lane.init with cwGood := 63 }
     d.laneOn lane ∧ 2 ≤ d.laneState lane ∧ d.laneState lane ≤ 5 ∧ d.flag LNK_STATUS_cw_lock lane = false ∧
     (d.rxWord lane symbols).1.bad = false ∧ 63 ≤ (d.lane lane).cwGood) ∧
    (let lane : Nat := 0
     let d : Dev := laneRaw 0 2
     d.laneOn lane ∧ 2 ≤ d.laneState lane ∧ d.laneState lane ≤ 5 ∧ d.flag LNK_STATUS_cw_lock lane = false ∧
     (d.rxWord lane badSymbols).1.bad = true) ∧
    (let lane : Nat := 0
     let symbols : List Nat := List.replicate 700 0
     let d : Dev := (laneAt 0 4).putLane 0 { Lane.init with cwBad := List.replicate 15 true }
     d.laneOn lane ∧ 2 ≤ d.laneState lane ∧ d.laneState lane ≤ 5 ∧ d.flag LNK_STATUS_cw_lock lane ∧
     (d.rxWord lane symbols).1.bad = false ∧ (((false :: (d.lane lane).cwBad).take 64).filter id).length < 16) ∧
    (let lane : Nat := 511
     let d : Dev := (laneAt 511 3).putLane 511 { Lane.init with cwBad := List.replicate 14 true }
     d.laneOn lane ∧ 2 ≤ d.laneState lane ∧ d.laneState lane ≤ 5 ∧ d.flag LNK_STATUS_cw_lock lane ∧
     (d.rxWord lane badSymbols).1.bad = true ∧ (((true :: (d.lane lane).cwBad).take 64).filter id).length < 16) ∧
    (let lane : Nat := 0
     let d : Dev := (laneAt 0 4).putLane 0 { Lane.init with cwBad := List.replicate 15 true }
     d.laneOn lane ∧ 2 ≤ d.laneState lane ∧ d.laneState lane ≤ 5 ∧ d.flag LNK_STATUS_cw_lock lane ∧
     (d.rxWord lane badSymbols).1.bad = true ∧ 16 ≤ (((true :: (d.lane lane).cwBad).take 64).filter id).length) ∧
    (let lane : Nat := 0
     let d : Dev := laneRaw 0 6
     d.laneOn lane ∧ d.laneState lane = 6) ∧
    (let lane : Nat := 515
     let d : Dev := (laneRaw 515 1).put LNK_STATUS_los 0 515
     d.laneOn lane ∧ d.flag LNK_STATUS_los lane = false ∧ isTwin lane ∧ d.laneState lane < 2) := by
  refine ⟨?_, ?_, ?c2, ?_, ?c4, ?c5, ?_, ?_⟩
  case c2 => intro lane d; exact ⟨by decide +kernel, by decide +kernel, by decide +kernel, by decide +kernel, rxWord_bad d lane (by decide +kernel)⟩
  case c4 => intro lane d; exact ⟨by decide +kernel, by decide +kernel, by decide +kernel, by decide +kernel, rxWord_bad d lane (by decide +kernel), by decide +kernel⟩
  case c5 => intro lane d; exact ⟨by decide +kernel, by decide +kernel, by decide +kernel, by decide +kernel, rxWord_bad d lane (by decide +kernel), by decide +kernel⟩
  all_goals (intros; decide +kernel)

theorem test_met_LaneEventsComplete_2 :
    (let lane : Nat := 511
     let d : Dev := (laneRaw 511 2).put LNK_STATUS_los 0 511
     d.laneOn lane ∧ d.flag LNK_STATUS_los lane = false ∧ isTwin lane = false ∧ 2 ≤ d.laneState lane ∧ d.laneState lane ≤ 5) ∧
    (let lane : Nat := 0
     let d : Dev := live
     d.laneOn lane ∧ isTwin lane = false) ∧
    (let lane : Nat := 0
     let word : Nat := crc8Control 0
     let d : Dev := (laneRaw 0 1).putLane 0 { Lane.init with coeffSeen := 2, coeffWord := crc8Control 0 }
     d.trains lane ∧ bits word 29 3 = 0 ∧ crc8Control word = word % 256 ∧ (d.lane lane).coeffWord = word ∧
     (d.lane lane).coeffSeen = 2) ∧
    (let lane : Nat := 0
     let word : Nat := 2 ^ 29 + crc8Control (2 ^ 29)
     let d : Dev := (laneRaw 0 1).putLane 0 { Lane.init with infoSeen := 2, infoWord := 2 ^ 29 + crc8Control (2 ^ 29) }
     d.trains lane ∧ bits word 29 3 = 1 ∧ crc8Control word = word % 256 ∧ (d.lane lane).infoWord = word ∧
     (d.lane lane).infoSeen = 2) ∧
    (let lane : Nat := 515
     let d : Dev := (laneRaw 515 1).putLane 515 { Lane.init with rqMain := 1 }
     d.laneOn lane ∧ d.laneState lane = 1 ∧ (d.lane lane).squelched = false ∧ (d.lane lane).heldByClock = false ∧
     ((d.lane lane).rqPreset ≠ 0 ∨ (d.lane lane).rqPre ≠ 0 ∨ (d.lane lane).rqMain ≠ 0 ∨ (d.lane lane).rqPost ≠ 0)) ∧
    (let lane : Nat := 0
     let upper : Nat := 12
     let middle : Nat := 12
     let lower : Nat := 12
     let d : Dev := laneRaw 0 1
     d.trains lane ∧ d.flag LNK_STATUS_rx_ready lane = false ∧ 12 ≤ upper ∧ 12 ≤ middle ∧ 12 ≤ lower) ∧
    (let lane : Nat := 515
     let d : Dev := (laneRaw 515 1).put LNK_STATUS_rx_ready 1 515
     d.laneOn lane ∧ d.flag LNK_STATUS_rx_ready lane) ∧
    (let lane : Nat := 0
     let d : Dev := ((laneRaw 0 1).put LNK_STATUS_far_ready 1).putLane 0 { Lane.init with further := true, infoValid := true }
     d.trains lane ∧ (d.lane lane).further = true ∧ d.flag LNK_STATUS_far_ready lane ∧ (d.lane lane).infoValid = true ∧
     d.k03 = true) := by
  refine ⟨?_, ?_, ?_, ?_, ?_, ?_, ?_, ?_⟩ <;>
    (intros; (try unfold Dev.trains); decide +kernel)

theorem test_met_LaneEventsComplete_3 :
    (let lane : Nat := 511
     let reason : Nat := 5
     let d : Dev := laneRaw 511 2
     d.laneOn lane ∧ (d.lane lane).squelched = false ∧ (d.lane lane).heldByClock = false ∧ d.failHolds lane reason) ∧
    (let lane : Nat := 0
     let d : Dev := (laneRaw 0 1).putLane 0 { Lane.init with squelched := true }
     d.laneOn lane ∧ d.laneState lane = 1 ∧ (d.lane lane).squelched = true) ∧
    (let lane : Nat := 0
     let rtt : Nat := 32_001
     let d : Dev := laneAt 0 2
     d.measures lane ∧ 32_000 < rtt - d.get LNK_DELAY_turnaround lane) ∧
    (let lane : Nat := 0
     let rtt : Nat := 32_000
     let d : Dev := (laneAt 0 2).putLane 0 { Lane.init with measured := true, lastOneWay := 31_984 }
     d.measures lane ∧ rtt - d.get LNK_DELAY_turnaround lane ≤ 32_000 ∧ isTwin lane = false ∧
     ((d.lane lane).measured = true ∨ (d.lane lane).keepAdv = true) ∧
     absDiff (rtt - d.get LNK_DELAY_turnaround lane) (d.lane lane).lastOneWay ≤ 16) ∧
    (let lane : Nat := 511
     let rtt : Nat := 32_000
     let d : Dev := laneAt 511 2
     d.measures lane ∧ rtt - d.get LNK_DELAY_turnaround lane ≤ 32_000 ∧ isTwin lane = false ∧
     (d.lane lane).measured = false ∧ (d.lane lane).keepAdv = false) ∧
    (let lane : Nat := 512
     let rtt : Nat := 0
     let d : Dev := laneAt 512 2
     d.measures lane ∧ rtt - d.get LNK_DELAY_turnaround lane ≤ 32_000 ∧ isTwin lane = true) := by
  refine ⟨?_, ?_, ?_, ?_, ?_, ?_⟩ <;>
    (intros; (try unfold Dev.measures); decide +kernel)

theorem test_met_LaneCommandsComplete_1 :
    (let twin : Bool := false
     let c : Cmd := ⟨0, 0, 0, false⟩
     let d : Dev := live.put LNK_GRP_STATUS_otp_enabled 1
     d.accepts (laneCmdPage twin c) 1 laneEnable c) ∧
    (let twin : Bool := false
     let c : Cmd := ⟨0, 0, 0, false⟩
     let d : Dev := laneRaw 0 5
     d.accepts (laneCmdPage twin c) 2 laneDisable c) ∧
    (let twin : Bool := false
     let c : Cmd := ⟨0, 0, 0, false⟩
     let d : Dev := laneRaw 0 4
     d.accepts (laneCmdPage twin c) 3 laneSafe c) ∧
    (let twin : Bool := false
     let c : Cmd := ⟨0, 0, 0, false⟩
     let d : Dev := laneRaw 0 5
     d.accepts (laneCmdPage twin c) 4 laneEnumerate c) ∧
    (let twin : Bool := false
     let c : Cmd := ⟨0, 0, 0, false⟩
     let d : Dev := laneRaw 0 3
     d.accepts (laneCmdPage twin c) 5 laneRetrain c) ∧
    (let twin : Bool := false
     let c : Cmd := ⟨0, 0, 16, false⟩
     let d : Dev := live
     d.accepts (laneCmdPage twin c) 6 laneLoop c) ∧
    (let twin : Bool := false
     let c : Cmd := ⟨0, 0, 0, false⟩
     let d : Dev := laneRaw 0 6
     d.accepts (laneCmdPage twin c) 7 laneLoopExit c) ∧
    (let twin : Bool := false
     let c : Cmd := ⟨0, 0, 0, false⟩
     let d : Dev := live
     d.accepts (laneCmdPage twin c) 8 laneClear c) := by
  refine ⟨?_, ?_, ?_, ?_, ?_, ?_, ?_, ?_⟩ <;>
    (intros; unfold Dev.accepts; decide +kernel)

theorem test_met_LaneCommandsComplete_2 :
    (let die : Nat := 7
     let d : Dev := { live with dieLost := 128, dieTraining := 128 }
     d.dieLost.testBit die && d.dieTraining.testBit die) ∧
    (let ch : Nat := 0
     let val : Nat := 0
     let d : Dev := live
     (bit val 9 = false ∨ bits val 0 9 ≤ 3) ∧ d.takesPriv ch 0x007) := by
  refine ⟨?_, ?_⟩ <;>
    (intros; (try unfold Dev.takesPriv); decide +kernel)

theorem test_met_FrameCommandsComplete_1 :
    (let lane : Nat := 0
     let d : Dev := laneAt 0 4
     d.launches lane ∧ ((d.lane lane).disTkt = 0 ∨ (d.lane lane).postureLeft ≠ 0)) ∧
    (let lane : Nat := 511
     let d : Dev := (laneAt 511 5).putLane 511 { Lane.init with disTkt := 1 }
     d.launches lane ∧ (d.lane lane).disTkt ≠ 0 ∧ (d.lane lane).postureLeft = 0) ∧
    (let lane : Nat := 511
     let payload : Nat := 0
     let bad : List Nat := []
     let corr : Nat := 0
     let d : Dev := ((laneRaw 511 2).put LNK_STATUS_cw_lock 1 511).putLane 511 { Lane.init with rx := List.replicate 800 ⟨0, false, 0⟩ }
     d.hears lane ∧ d.flag LNK_STATUS_frame_lock lane = false ∧ d.rxFrame lane = some (payload, bad, corr)) ∧
    (let lane : Nat := 0
     let payload : Nat := header 10 * 2 ^ 999_840
     let bad : List Nat := []
     let corr : Nat := 0
     let d : Dev := (laneAt 0 5).putLane 0 { Lane.init with rx := List.replicate 799 ⟨0, false, 0⟩ ++ [⟨header 10 * 2 ^ 1_090, false, 0⟩], rxCount := 800 }
     d.hears lane ∧ d.flag LNK_STATUS_frame_lock lane ∧ 3 ≤ d.laneState lane ∧ 0 ∉ bad ∧ hdrGood (payField payload 0 160) ∧
     hdrField (payField payload 0 160) 0 3 = 10 ∧ hdrField (payField payload 0 160) 54 55 ≠ 3 ∧
     d.rxFrame lane = some (payload, bad, corr)) ∧
    (let lane : Nat := 511
     let payload : Nat := header 10 * 2 ^ 999_840
     let bad : List Nat := []
     let corr : Nat := 0
     let d : Dev := (laneAt 511 2).putLane 511 { Lane.init with rx := List.replicate 799 ⟨0, false, 0⟩ ++ [⟨header 10 * 2 ^ 1_090, false, 0⟩], rxCount := 800 }
     d.hears lane ∧ d.flag LNK_STATUS_frame_lock lane ∧ d.laneState lane = 2 ∧ 0 ∉ bad ∧ hdrGood (payField payload 0 160) ∧
     hdrField (payField payload 0 160) 0 3 = 10 ∧ hdrField (payField payload 0 160) 54 55 ≠ 3 ∧
     d.rxFrame lane = some (payload, bad, corr)) ∧
    (let lane : Nat := 511
     let d : Dev := (laneAt 511 3).putFrm 511 { Frm.init with placed := true }
     d.laneOn lane ∧ isTwin lane = false ∧ 3 ≤ d.laneState lane ∧ d.laneState lane ≤ 5 ∧ d.flag LNK_STATUS_frame_lock lane) ∧
    (let lane : Nat := 0
     let d : Dev := laneAt 0 2
     d.laneOn lane ∧ isTwin lane = false ∧ d.laneState lane = 2 ∧ d.flag LNK_STATUS_frame_lock lane) ∧
    (let d : Dev := { live with epochPend := 3 }
     !(d.epochPend = 0 ∨ !d.k03)) := by
  refine ⟨?_, ?_, ?_, ?_, ?_, ?_, ?_, ?_⟩ <;>
    (intros; (try unfold Dev.launches); (try unfold Dev.hears); decide +kernel)

theorem test_met_FrameCommandsComplete_2 :
    (let lane : Nat := 0
     let block : List Nat := block 0
     let bad : Bool := false
     let d : Dev := laneAt 0 3
     d.laneOn lane ∧ isTwin lane = false ∧ mgmtState (d.laneState lane) ∧ bad = false ∧ block.length = 128 ∧
     crc32 (block.take 124) = leNat ((block.drop 124).take 4) ∧ byteAt block 0 = 0) ∧
    (let lane : Nat := 511
     let block : List Nat := block 1
     let bad : Bool := false
     let d : Dev := (laneAt 511 5).putFrm 511 { Frm.init with rxAck := 0 }
     d.laneOn lane ∧ isTwin lane = false ∧ mgmtState (d.laneState lane) ∧ bad = false ∧ block.length = 128 ∧
     crc32 (block.take 124) = leNat ((block.drop 124).take 4) ∧ byteAt block 0 = 1 ∧
     leNat ((block.drop 2).take 2) = (((d.mgmtAck lane (leNat ((block.drop 4).take 2))).frm lane).rxAck + 1) % 2 ^ 16) ∧
    (let lane : Nat := 0
     let d : Dev := (laneAt 0 4).putFrm 0 { Frm.init with mgmtHigh := 1, stall := 32 }
     d.laneOn lane ∧ mgmtState (d.laneState lane) ∧ 0 < (d.frm lane).mgmtHigh ∧ 32 ≤ (d.frm lane).stall) ∧
    (let lane : Nat := 0
     let d : Dev := (laneAt 0 3).put FRM_L_INV_phase 2
     d.laneOn lane ∧ d.laneState lane = 3 ∧ (d.get FRM_L_INV_phase lane = 2 ∨ d.get FRM_L_INV_phase lane = 3)) ∧
    (let lane : Nat := 0
     let d : Dev := (laneAt 0 3).putFrm 0 { Frm.init with runNext := true }
     (d.frm lane).runNext && d.k03 && d.laneState lane == 3) ∧
    (let c : Cmd := ⟨0, 0, 0, false⟩
     let d : Dev := (laneAt 0 3).put FRM_L_INV_phase 4
     d.accepts 0x014 1 mapRelease c) ∧
    (let c : Cmd := ⟨0, 0, 0, false⟩
     let d : Dev := (laneAt 0 3).put FRM_L_INV_phase 4
     d.accepts 0x014 2 mapDefault c) ∧
    (let c : Cmd := ⟨0, 0, 0, false⟩
     let d : Dev := (((laneAt 0 4).put FRM_L_MAP_in_force 1).putFrm 0 { Frm.init with nodes := [(0, ⟨0, 1, 0, []⟩)] }).put FRM_B_ADDR_addr 1536
     d.accepts 0x014 3 bSet c) := by
  refine ⟨?_, ?_, ?_, ?_, ?_, ?_, ?_, ?_⟩ <;>
    (intros; (try unfold Dev.accepts); decide +kernel)

theorem test_met_FrameCommandsComplete_3 :
    (let c : Cmd := ⟨0, 0, 0, false⟩
     let d : Dev := ((laneAt 0 3).put FRM_L_INV_node_count 1).put FRM_MBX_TX_data 0x0005_0000 0
     d.accepts 0x014 4 mbxSend c) ∧
    (let c : Cmd := ⟨0, 0, 0, false⟩
     let d : Dev := laneAt 0 3
     d.accepts 0x014 5 frmInventory c) ∧
    (let ch : Nat := 0
     let d : Dev := live
     d.reaches ch 0x014 = true ∧ d.mustWait ch false = false) := by
  refine ⟨?_, ?_, ?_⟩ <;>
    (intros; (try unfold Dev.accepts); decide +kernel)

theorem test_met_SchedulerAndImpedanceCommandsComplete_1 :
    (let m : Nat × Nat × Nat := (0, 0, 0)
     let e : Dev := live.put IMP_CFG_spectra_en 1
     let d : Dev := { e with imp := { e.imp with minute := some (0, 0, 0) } }
     d.imp.minute = some m ∧ d.resultsOwed m.1 = false ∧
     (d.flag IMP_CFG_spectra_en && d.estimationSet && d.memLive && decide (d.frame < m.1 + 250)) = true) ∧
    (let lane : Nat := 511
     let d : Dev := laneAt 511 4
     d.k03 && d.laneState lane == 4 && lane < 512 && d.frame % 50 == 0) ∧
    (let ch : Nat := 0
     let off : Nat := 0
     let d : Dev := live
     d.takesTable ch 0 off ∧ d.mustWait ch false = false) ∧
    (let ch : Nat := 0
     let off : Nat := 0
     let val : Nat := 0
     let d : Dev := live
     d.takesTable ch 0 off ∧ d.mustWait ch true = false ∧ d.get CUS_STATUS_phase ch = 3 ∧ d.covers ch scopeOPS ∧
     d.ldgReserve = false ∧ limLegal off (d.limRead d.sch.shadow off) val ∧ limFields off ≠ []) ∧
    (let c : Cmd := ⟨0, 0, 0, false⟩
     let d : Dev := live
     d.accepts (0x20 + c.inst) 1 modeCmd c) ∧
    (let c : Cmd := ⟨0, 0, 0, false⟩
     let d : Dev := live
     d.accepts 0x015 1 (positionCmd 1) c) ∧
    (let c : Cmd := ⟨0, 0, 0, false⟩
     let d : Dev := live
     d.accepts 0x015 2 (positionCmd 2) c) ∧
    (let c : Cmd := ⟨0, 0, 0, false⟩
     let d : Dev := live
     d.accepts 0x015 3 assignCmd c) := by
  refine ⟨?_, ?_, ?_, ?_, ?_, ?_, ?_, ?_⟩ <;>
    (intros; (try unfold Dev.accepts); (try unfold Dev.takesTable); decide +kernel)

theorem test_met_SchedulerAndImpedanceCommandsComplete_2 :
    (let g : Nat := 3
     let freq : Nat := 0
     let amp : Nat := 0
     let phase : Nat := 0
     let d : Dev := { live with sch := { live.sch with gvGood := [(3, 25)] } }
     d.railGood 12 && d.railGood 9 && decide (g < 4 ∧ 25 ≤ d.sch.gvGood.get g 0) && !d.flag SCH_GV_STATUS_locked g && d.gridShown g == (freq, amp, phase)) ∧
    (let g : Nat := 3
     let d : Dev := live.put SCH_GV_STATUS_locked 1 3
     d.railGood 12 ∧ d.gridFails g ∧ d.flag SCH_GV_STATUS_locked g) ∧
    (let lane : Nat := 0
     let slot : Nat := 0
     let d : Dev := { laneAt 0 4 with sch := { live.sch with strs := [(0, { Str.init with slots := [⟨0, 1⟩] })] } }
     d.laneState lane == 4 && lane < 512 && slot < (d.str lane).slots.length) ∧
    (let lane : Nat := 0
     let idx : Nat := 0
     let e : Nat := 1
     let d : Dev := { live.putFrm 0 { Frm.init with nodes := [(0, ⟨0, 1, 0, []⟩)] } with sch := { live.sch with cells := [(0, { Cell.init with tSubst := true })], temps := [(1, ⟨0, 0⟩), (5, ⟨0, 0⟩), (9, ⟨0, 0⟩)] } }
     d.cellT lane idx = some e ∧ (d.cell lane idx).tSubst = true ∧ 2 ≤ (d.otherTemps lane (idx / 16) e).length ∧
     withinTol (d.clsN lane idx 0x10 0) (median2 (d.otherTemps lane (idx / 16) e)) (d.sch.temps.get (epKey lane (idx / 16) e) ⟨0, 0⟩).val) ∧
    (let c : Cmd := ⟨0, 0, 0, false⟩
     let d : Dev := live
     d.mustWait c.ch (planApply.judge 0x016 1 c d).priv = false ∧ d.wakeCause.accepts 0x016 1 planApply c) ∧
    (let lane : Nat := 0
     let bin : Nat := 0
     let d : Dev := live
     !(d.windowOpen lane bin d.frame)) ∧
    (let d : Dev := live
     d.railGood 11) ∧
    (let lane : Nat := 0
     let bin : Nat := 0
     let d : Dev := (live.put PAGE_CTRL_enable 1 0x17).putImp 0 { ImpLane.init with deliver := [0] }
     bin ∈ (d.impLane lane).deliver ∧ d.filtersOn lane ∧ d.flag EST_STATUS_hibernated = false) := by
  refine ⟨?_, ?_, ?_, ?_, ?_, ?_, ?_, ?_⟩ <;>
    (intros; (try unfold Dev.accepts); decide +kernel)

theorem test_met_SchedulerAndImpedanceCommandsComplete_3 :
    (let lane : Nat := 0
     let d : Dev := live.put IMP_CFG_refresh_period 0 |>.putImp 0 { ImpLane.init with stirFree := true }
     d.imp.lanes.has lane && decide (d.refreshDue lane ≤ d.frame) && (d.impLane lane).stirFree) ∧
    (let lane : Nat := 0
     let d : Dev := ((laneAt 0 4).putImp 0 ImpLane.init).put2 CLK_FRAME_LO_frame_lo CLK_FRAME_HI_frame_hi 100_000_000
     d.imp.lanes.has lane && decide (d.refreshDue lane + 500_000 ≤ d.frame) && d.carriesV lane) := by
  refine ⟨?_, ?_⟩ <;>
    (intros; decide +kernel)

theorem test_met_EstimationCommandsComplete_1 :
    (let lane : Nat := 511
     let d : Dev := (live.put PAGE_CTRL_enable 1 0x17).putEstLane 511 { EstLane.init with health := true }
     (d.estLane lane).health = true ∧ d.stepRun lane ∧ d.filtersOn lane) ∧
    (let d : Dev := live
     d.k03 && d.frame % 500 == 0) ∧
    (let lane : Nat := 511
     let d : Dev := (live.put PAGE_CTRL_enable 1 0x17).putEstLane 511 { EstLane.init with due := true }
     (d.estLane lane).due = true ∧ d.filtersOn lane) ∧
    (let lane : Nat := 0
     let idx : Nat := 0
     let soc : Rat := 1 / 2
     let d : Dev := { live with est := { live.est with cells := [(0, { EstCell.init with restDue := some (1 / 2, true) })] } }
     (d.estCell lane idx).restDue = some (soc, true) ∧ (d.estCell lane idx).declDue = 0 ∧ d.importDue lane idx = false) ∧
    (let lane : Nat := 0
     let idx : Nat := 0
     let d : Dev := { live with est := { live.est with cells := [(0, { EstCell.init with declDue := 1 })] } }
     (d.estCell lane idx).declDue ≠ 0 ∧ d.importDue lane idx = false) ∧
    (let lane : Nat := 0
     let idx : Nat := 0
     let e : Dev := { live with est := { live.est with cells := [(0, { EstCell.init with declDue := 2 })], cmds := [⟨1, 0, 0, 31, 7, 4_999⟩] } }
     let d : Dev := e.put2 CLK_FRAME_LO_frame_lo CLK_FRAME_HI_frame_hi 5_000
     (d.estCell lane idx).declDue ≠ 0 ∧ d.importDue lane idx = true) ∧
    (let c : Cmd := ⟨0, 0, 0, false⟩
     let d : Dev := live
     d.mustWait c.ch (((learnCmd 1)).judge 0x017 1 c d).priv = false ∧ d.wakeCause.accepts 0x017 1 (learnCmd 1) c) ∧
    (let c : Cmd := ⟨0, 0, 0, false⟩
     let d : Dev := live
     d.mustWait c.ch (((learnCmd 2)).judge 0x017 2 c d).priv = false ∧ d.wakeCause.accepts 0x017 2 (learnCmd 2) c) := by
  refine ⟨?_, ?_, ?_, ?c3, ?_, ?_, ?_, ?_⟩
  case c3 => intros; exact ⟨rfl, rfl, rfl⟩
  all_goals (intros; (try unfold Dev.accepts); decide +kernel)

theorem test_met_EstimationCommandsComplete_2 :
    (let c : Cmd := ⟨0, 0, 0, false⟩
     let d : Dev := live
     d.mustWait c.ch (((learnCmd 3)).judge 0x017 3 c d).priv = false ∧ d.wakeCause.accepts 0x017 3 (learnCmd 3) c) ∧
    (let c : EstCmd := ⟨1, 0, 0, 31, 7, 4_999⟩
     let rest : List EstCmd := []
     let d : Dev := { live with est := { live.est with cmds := [⟨1, 0, 0, 31, 7, 4_999⟩] } }.put2 CLK_FRAME_LO_frame_lo CLK_FRAME_HI_frame_hi 5_000
     d.k03 ∧ d.railGood 15 ∧ d.est.cmds = c :: rest ∧ c.op ≠ 5 ∧ d.estDue c) ∧
    (let c : Cmd := ⟨0, 0, 0, false⟩
     let d : Dev := live.put LDG_STATUS_ident_ok 1
     d.mustWait c.ch (checkpointCmd.judge 0x017 4 c d).priv = false ∧ d.wakeCause.accepts 0x017 4 checkpointCmd c) ∧
    (let d : Dev := ((live.put LDG_STATUS_ident_ok 1).put EST_CKPT_CFG_period 1).put2 RTC_TICK_LO_tick_lo RTC_TICK_HI_tick_hi 117_964_800
     (d.railGood 15 && d.get EST_CKPT_CFG_period != 0 && d.est.ckpt == 0 && decide (d.est.ckptTick + d.get EST_CKPT_CFG_period * 117_964_800 ≤ d.tick)) = true ∧
     d.accepts 0x017 4 checkpointCmd { ch := 4, inst := 0, arg := 0, soon := false }) ∧
    (let d : Dev := { live with est := { live.est with ckpt := 1 } }
     d.k03 && d.frame % 5_000 == 0 && d.railGood 15 && d.est.ckpt == 1) ∧
    (let j : SigJob := ⟨4, 0, 0, 0, List.replicate 32 1⟩
     let rest : List SigJob := []
     let d : Dev := island 3 4
     d.isl.docs = j :: rest ∧ d.isl.current = 3 ∧ j.kind = 4) ∧
    (let c : EstCmd := ⟨5, 0, 0, 0, 7, 4_999⟩
     let rest : List EstCmd := []
     let d : Dev := { live with est := { live.est with ckpt := 3, cmds := [⟨5, 0, 0, 0, 7, 4_999⟩] } }.put2 CLK_FRAME_LO_frame_lo CLK_FRAME_HI_frame_hi 5_000
     (d.k03 && d.railGood 15 && d.est.ckpt == 3) = true ∧ (d.estRun d.est.cmds).est.cmds = c :: rest ∧ c.op = 5 ∧
     c.at_ < (d.estRun d.est.cmds).frame / 5_000 * 5_000) ∧
    (let d : Dev := { (live.put EST_STATUS_hibernated 1).put EST_PROBE_CFG_period 1 with time := 60 * secondTime }
     d.flag EST_STATUS_hibernated ∧ d.wake = 0 ∧ d.get EST_PROBE_CFG_period ≠ 0 ∧
     d.est.hibTime + d.get EST_PROBE_CFG_period * 60 * secondTime ≤ d.time) := by
  refine ⟨?_, ?_, ?_, ?_, ?_, ?_, ?_, ?_⟩ <;>
    (intros; (try unfold Dev.accepts); decide +kernel)

theorem test_met_EstimationCommandsComplete_3 :
    (let d : Dev := live.put EST_STATUS_hibernated 1
     d.flag EST_STATUS_hibernated ∧ d.wake = 0) ∧
    (let d : Dev := live
     d.flag EST_STATUS_hibernated = false) ∧
    (let d : Dev := { live.put EST_STATUS_hibernated 1 with wake := 1 }
     d.flag EST_STATUS_hibernated ∧ d.wake ≠ 0 ∧ d.wake ≠ 2 ∧ (d.wake ≠ 1 ∨ d.flag PWR_PS_CFG_hib_recipes = false)) := by
  refine ⟨?_, ?_, ?_⟩ <;>
    (intros; decide +kernel)

theorem test_met_MemoryCommandsComplete_1 :
    (let ch : Nat := 15
     let x : Dimm := ⟨true, true, true, 64, 1, 0, 0, 1⟩
     let d : Dev := live
     ch < 16 ∧ d.railGood (16 + ch / 2) ∧ (dimmSupported x && x.trained) = true) ∧
    (let ch : Nat := 15
     let x : Dimm := ⟨true, false, true, 64, 1, 0, 0, 1⟩
     let d : Dev := live
     ch < 16 ∧ d.railGood (16 + ch / 2) ∧ dimmSupported x = false) ∧
    (let e : Dev := (live.put MEMC_STATUS_present 1).put MEMC_STATUS_trained 1
     let d : Dev := { e with mem := { e.mem with tried := 65_535 } }
     d.mem.built = false ∧ d.railGood 15 ∧ d.memPairOn ∧ d.memAllTried ∧ mapChannels d.memQualified ≠ 0) ∧
    (let d : Dev := live
     d.memLive) ∧
    (let d : Dev := live
     d.memLive) ∧
    (let ch : Nat := 0
     let e : LadleEntry := ⟨0, [(0, 1)], []⟩
     let rest : List LadleEntry := []
     let d : Dev := live.putMemChan 0 { MemChan.init with ladle := [⟨0, [(0, 1)], []⟩] }
     (d.memChan ch).ladle = e :: rest ∧ d.memLive) ∧
    (let ch : Nat := 0
     let _d : Dev := live
     ch < 16) ∧
    (let ch : Nat := 0
     let d : Dev := live
     d.memLive ∧ ch < 16) := by
  refine ⟨?_, ?_, ?_, ?_, ?_, ?_, ?_, ?_⟩ <;>
    (intros; decide +kernel)

theorem test_met_MemoryCommandsComplete_2 :
    (let ch : Nat := 15
     let d : Dev := (live.put EST_STATUS_hibernated 1).put MEMC_STATUS_trained 1 15
     d.memLive && d.flag EST_STATUS_hibernated && d.flag MEMC_STATUS_trained ch && decide (ch < 16)) ∧
    (let c : Cmd := ⟨0, 0, 0, false⟩
     let d : Dev := live
     d.accepts 0x018 1 memFence c) ∧
    (let c : Cmd := ⟨0, 0, 0, false⟩
     let d : Dev := mapped
     d.accepts 0x018 2 memZero c) ∧
    (let n : Nat := 7
     let rest : List Nat := []
     let d : Dev := { live with mem := { live.mem with zeros := [7] } }
     d.mem.zeros = n :: rest) ∧
    (let c : Cmd := ⟨0, 0, 0, false⟩
     let d : Dev := live
     d.accepts 0x018 3 memRemap c) ∧
    (let c : Cmd := ⟨0, 0, 9, false⟩
     let d : Dev := live.put MEMC_STATUS_present 1
     d.accepts (0x030 + c.inst % 16) 1 memcMark c) ∧
    (let c : Cmd := ⟨0, 0, 0, false⟩
     let d : Dev := live.put MEMC_MARK_marked 1
     d.accepts (0x030 + c.inst % 16) 2 memcUnmark c) ∧
    (let c : Cmd := ⟨0, 0, 0, false⟩
     let d : Dev := live
     d.accepts (0x030 + c.inst % 16) 3 memcClear c) := by
  refine ⟨?_, ?_, ?_, ?_, ?_, ?_, ?_, ?_⟩ <;>
    (intros; (try unfold Dev.accepts); decide +kernel)

theorem test_met_MemoryCommandsComplete_3 :
    (let c : Cmd := ⟨0, 0, 0, false⟩
     let d : Dev := ((mapped.put FLR_CFG_en 1).put FLR_LANES_N_count 1).put FLR_SIZE_gib 1 |>.put MEMC_STATUS_capacity 4
     d.accepts 0x019 1 flrArm c) ∧
    (let c : Cmd := ⟨0, 0, 0, false⟩
     let d : Dev := live.put FLR_STATUS_state 1
     d.accepts 0x019 2 flrTriggerCmd c) ∧
    (let c : Cmd := ⟨0, 0, 0, false⟩
     let d : Dev := live.put FLR_STATUS_state 3
     d.accepts 0x019 3 flrStop c) ∧
    (let d : Dev := (live.put FLR_STATUS_state 2).put FLR_SLOTS_slots 1
     d.get FLR_STATUS_state = 2 ∧ d.flr.left = 0 ∧ d.flr.filled < d.get FLR_SLOTS_slots) ∧
    (let d : Dev := live.put FLR_STATUS_state 2
     d.get FLR_STATUS_state = 2 ∧ d.flr.left = 0 ∧ d.get FLR_SLOTS_slots ≤ d.flr.filled) := by
  refine ⟨?_, ?_, ?_, ?_, ?_⟩ <;>
    (intros; (try unfold Dev.accepts); decide +kernel)

theorem test_met_LedgerAndMeteringCommandsComplete_1 :
    (let d : Dev := { live with mtr := { live.mtr with tap := { Tap.init with count := 1 } } }
     d.tapReady ∧ d.mtr.tap.count ≠ 0) ∧
    (let f : Nat := 0
     let d : Dev := { live with mtr := { live.mtr with recDue := some 0 } }
     d.mtr.recDue = some f ∧ (d.k03 && d.tapReady) = true) ∧
    (let d : Dev := live.put CLK_FRAME_LO_frame_lo 4
     d.railGood 9 && d.k03 && d.frame % 5 == 4 && d.mtr.period != d.frame / 5 + 1) ∧
    (let d : Dev := live.put MTR_DISC_WIN_window 0
     (d.railGood 9 && d.k03 && d.tapReady && decide (d.winEnd ≤ d.frame)) = true ∧ d.tapDrain.frame < d.winEnd + 5_000) ∧
    (let d : Dev := live
     d.railGood 9 && !d.flag MTR_STATUS_no_spare && d.mtr.calPhase == 0 && d.calDue) ∧
    (let d : Dev := { live with time := secondTime, mtr := { live.mtr with calPhase := 1 } }
     d.railGood 9 && d.k03 && d.frame % 5_000 == 0 && d.mtr.calPhase == 1 && decide (d.mtr.calTime - 1 + secondTime ≤ d.time)) ∧
    (let d : Dev := { live with mtr := { live.mtr with calPhase := 2, calFrame := 1 } }
     d.railGood 9 && d.k03 && d.frame % 5_000 == 0 && d.mtr.calPhase == 2 && d.frame != d.mtr.calFrame) ∧
    (let c : Cmd := ⟨0, 0, 0, false⟩
     let d : Dev := { live.put OTP_SEALED_sealed (2 ^ 4) with otp := { live.otp with shadow := [(176, 1)] } }
     d.accepts 0x002 5 rotate c) := by
  refine ⟨?_, ?_, ?_, ?_, ?_, ?_, ?_, ?_⟩ <;>
    (intros; (try unfold Dev.accepts); decide +kernel)

theorem test_met_LedgerAndMeteringCommandsComplete_2 :
    (let c : Cmd := ⟨0, 0, 0, false⟩
     let d : Dev := certified
     d.accepts 0x012 5 certLoad c) ∧
    (let c : Cmd := ⟨0, 0, 0, false⟩
     let d : Dev := ((live.put2 LDG_ACK_ARG_LO_lo LDG_ACK_ARG_HI_hi 3).put2 LDG_SEAL_LO_lo LDG_SEAL_HI_hi 5).put2 LDG_ACK_LO_lo LDG_ACK_HI_hi 2
     d.accepts 0x012 1 ldgAckCmd c) ∧
    (let c : Cmd := ⟨0, 0, 0, false⟩
     let d : Dev := { live with ldg := { live.ldg with sinceSeal := 1 } }
     d.accepts 0x012 2 ldgSealCmd c) ∧
    (let c : Cmd := ⟨0, 0, 0, false⟩
     let d : Dev := live.put LDG_STATUS_ident_ok 1
     d.accepts 0x012 3 attest c) ∧
    (let c : Cmd := ⟨0, 0, 0, false⟩
     let d : Dev := { live.put LDG_STATUS_ident_ok 1 with mtr := { live.mtr with units := [(0, 2 ^ 31)] } }
     d.accepts 0x012 4 certify c) ∧
    (let j : SigJob := ⟨2, 0, 0, 0, List.replicate 32 1⟩
     let rest : List SigJob := []
     let d : Dev := island 3 2
     d.isl.docs = j :: rest ∧ d.isl.current = 3 ∧ j.kind = 2) ∧
    (let j : SigJob := ⟨3, 0, 0, 0, List.replicate 32 1⟩
     let rest : List SigJob := []
     let d : Dev := island 3 3
     d.isl.docs = j :: rest ∧ d.isl.current = 3 ∧ j.kind = 3) ∧
    (let j : SigJob := ⟨8, 0, 0, 0, List.replicate 32 1⟩
     let rest : List SigJob := []
     let d : Dev := (island 3 8).put TWN_STATUS_pair_state 2
     d.isl.docs = j :: rest ∧ d.isl.current = 3 ∧ j.kind = 8 ∧
     ({ d with isl := { d.isl with docs := rest } }.engineFree).get TWN_STATUS_pair_state = 2) := by
  refine ⟨?_, ?_, ?_, ?_, ?_, ?_, ?_, ?_⟩ <;>
    (intros; (try unfold Dev.accepts); decide +kernel)

theorem test_met_LedgerAndMeteringCommandsComplete_3 :
    (let d : Dev := live
     d.railGood 1 && d.railGood 3) ∧
    (let n : Nat := 3
     let t : Nat := 0
     let rest : List (Nat × Nat) := []
     let d : Dev := { live with isl := { live.isl with current := 1 }, ldg := { live.ldg with seals := [(3, 0)] } }
     d.isl.current = 1 ∧ d.ldg.seals = (n, t) :: rest) ∧
    (let c : Cmd := ⟨0, 0, 0, false⟩
     let d : Dev := live
     d.accepts 0x013 1 mtrDefine c) ∧
    (let d : Dev := live
     d.k03 && d.frame % 5_000 == 0) ∧
    (let d : Dev := live
     !(!d.railGood 1)) := by
  refine ⟨?_, ?_, ?_, ?_, ?_⟩ <;>
    (intros; (try unfold Dev.accepts); decide +kernel)

theorem test_met_TwinCommandsComplete_1 :
    (let lane : Nat := 3
     let payload : Nat := header 6 * 2 ^ 999_840
     let bad : List Nat := []
     let corr : Nat := 0
     let d : Dev := ((laneAt 515 4).put TWN_CFG_en 1).putLane 515 { Lane.init with rx := List.replicate 799 ⟨0, false, 0⟩ ++ [⟨header 6 * 2 ^ 1_090, false, 0⟩], rxCount := 800 }
     lane < 4 ∧ d.laneOn (512 + lane) ∧ d.flag LNK_STATUS_cw_lock (512 + lane) ∧ d.laneState (512 + lane) = 4 ∧
     d.flag LNK_STATUS_frame_lock (512 + lane) ∧ 0 ∉ bad ∧ hdrGood (beNat ((frameBytes payload).take 20)) ∧
     hdrField (beNat ((frameBytes payload).take 20)) 0 3 = 6 ∧
     hdrField (beNat ((frameBytes payload).take 20)) 69 69 = 0 ∧ d.twinOn ∧ d.paired = false ∧
     d.rxFrame (512 + lane) = some (payload, bad, corr)) ∧
    (let d : Dev := twinned 2
     d.twinOn) ∧
    (let d : Dev := twinned 2
     d.twinOn) ∧
    (let d : Dev := live
     d.k03) ∧
    (let d : Dev := (twinned 3).put CLK_FRAME_LO_frame_lo 9
     d.twinOn ∧ d.k03 ∧ d.paired ∧ d.twn.heard < d.frame ∧ d.twn.judged ≠ d.frame + 1 ∧
     ({ d.bump TWN_STATUS_missed with twn := { d.twn with judged := d.frame + 1 } } : Dev).get TWN_STATUS_missed < 3) ∧
    (let r : RoleDue := ⟨0, true, 2, 0⟩
     let d : Dev := { (twinned 3).put TWN_STATUS_role 0 with twn := { live.twn with due := [⟨0, true, 2, 0⟩] } }
     d.twn.due = [r] ∧ d.k03 ∧ r.active = true ∧ r.frame ≤ d.frame ∧ d.flag TWN_STATUS_role = false) ∧
    (let r : RoleDue := ⟨0, false, 2, 0⟩
     let d : Dev := { twinned 3 with twn := { live.twn with due := [⟨0, false, 2, 0⟩] } }
     d.twn.due = [r] ∧ d.k03 ∧ r.active = false ∧ r.frame ≤ d.frame ∧ d.flag TWN_STATUS_role) ∧
    (let d : Dev := { (twinned 1).put TWN_STATUS_role 0 with twn := { live.twn with orphan := 100 }, time := 2 ^ 40 }
     d.twinOn ∧ d.standby ∧ d.paired = false ∧ d.k03 ∧ (if d.flag TWN_CFG_pref_role then 4 else 100) ≤ d.twn.orphan ∧
     d.twn.since + max 1 (d.get TWN_CFG_pair_wait) * 3_276_800_000 ≤ d.time) := by
  refine ⟨?_, ?_, ?_, ?_, ?_, ?_, ?_, ?_⟩ <;>
    (intros; decide +kernel)

theorem test_met_TwinCommandsComplete_2 :
    (let c : Cmd := ⟨0, 0, 0, false⟩
     let d : Dev := { twinned 3 with twn := { live.twn with hb := List.replicate 11 0 ++ [1] ++ List.replicate 8 0 } }
     d.accepts 0x011 0x10 twnHandoverCmd c) ∧
    (let c : Cmd := ⟨0, 0, 0, false⟩
     let d : Dev := (twinned 0).put TWN_STATUS_role 0
     d.accepts 0x011 0x11 twnTakeCmd c) := by
  refine ⟨?_, ?_⟩ <;>
    (intros; unfold Dev.accepts; decide +kernel)

theorem test_met_TimeCommandsComplete_1 :
    (let d : Dev := live
     d.railGood 10) ∧
    (let d : Dev := live
     d.railGood 10) ∧
    (let d : Dev := live.put CLK_STATUS_state 0
     d.railGood 10 && d.clk == 0 && !d.flag CLK_STATUS_osc_ok) ∧
    (let c : Cmd := ⟨0, 0, 0, false⟩
     let d : Dev := (live.put CLK_STATUS_state 1).put CLK_STATUS_rec_qualified 1
     d.accepts 0x007 2 clkAdopt c) ∧
    (let c : Cmd := ⟨0, 0, 0, false⟩
     let d : Dev := (live.put CLK_STATUS_state 5).put CLK_STATUS_osc_ok 1
     d.accepts 0x007 1 clkRearm c) ∧
    (let d : Dev := live
     d.railGood 10) ∧
    (let d : Dev := live.put RTC_STATUS_osc_running 1
     !(d.rtc.d02Held || !d.flag RTC_STATUS_osc_running)) ∧
    (let _d : Dev := live
     True) := by
  refine ⟨?_, ?_, ?_, ?_, ?_, ?_, ?_, ?_⟩ <;>
    (intros; (try unfold Dev.accepts); decide +kernel)

theorem test_met_TimeCommandsComplete_2 :
    (let d : Dev := live
     !(d.rtc.d02Held)) ∧
    (let c : Cmd := ⟨0, 0, 0, false⟩
     let d : Dev := live.put RTC_STATUS_osc_running 1
     d.accepts 0x008 1 rtcSet c) ∧
    (let d : Dev := live.put RTC_STATUS_osc_running 1
     d.flag RTC_STATUS_osc_running) ∧
    (let c : Cmd := ⟨0, 0, 0, false⟩
     let d : Dev := live
     d.accepts 0x008 2 armSwitch c) ∧
    (let ch : Nat := 0
     let alarm : Nat := 0
     let d : Dev := live
     alarm < 2 ∧ d.takesWrite ch 0x008) ∧
    (let ch : Nat := 0
     let alarm : Nat := 0
     let d : Dev := live
     alarm < 2 ∧ d.takesPriv ch 0x008) ∧
    (let a : Nat := 1
     let d : Dev := { live with down := 1 }.put RTC_STATUS_osc_running 1 |>.put RTC_ALM_HI_arm 1 1
     d.edgeFires a) ∧
    (let d : Dev := (live.put RTC_TRIM_STATUS_running 1).put RTC_TRIM_CFG_src 2 |>.put RTC_TRIM_CFG_auto_apply 0
     d.flag RTC_TRIM_STATUS_running ∧ d.trimRuns ∧ d.flag RTC_TRIM_CFG_auto_apply = false) := by
  refine ⟨?_, ?_, ?_, ?_, ?_, ?_, ?_, ?_⟩ <;>
    (intros; (try unfold Dev.accepts); (try unfold Dev.takesWrite); (try unfold Dev.takesPriv); decide +kernel)

theorem test_met_TimeCommandsComplete_3 :
    (let ch : Nat := 0
     let val : Nat := 0
     let d : Dev := live
     bits val 0 2 ≠ 3 ∧ d.takesPriv ch 0x008) ∧
    (let d : Dev := live
     d.railGood 10) ∧
    (let d : Dev := live
     !(d.rtc.d02Held)) := by
  refine ⟨?_, ?_, ?_⟩ <;>
    (intros; (try unfold Dev.takesPriv); decide +kernel)

theorem test_met_SupplyCommandsComplete_1 :
    (let mv : Nat := 9_000
     let d : Dev := live
     d.flag PWR_STATUS_vin_ok = false ∧ 9_000 ≤ mv ∧ mv ≤ 16_000) ∧
    (let d : Dev := live.put PWR_STATUS_vin_ok 1
     d.flag PWR_STATUS_vin_ok) ∧
    (let mv : Nat := 4_001
     let d : Dev := live
     d.flag PWR_STATUS_vbus_ok = false ∧ 4_000 < mv) ∧
    (let d : Dev := live.put PWR_STATUS_vbus_ok 1
     d.flag PWR_STATUS_vbus_ok) ∧
    (let d : Dev := live
     (d.down = 3 ∨ !d.pwr.booted) ∧ !d.pwr.shorted) ∧
    (let d : Dev := { live with down := 1 }
     (d.down ≠ 0 ∨ d.flag PWR_PSTATE_collapse_block) ∧
     ((d.flt.queue.any fun r => r.source == F_INPUT_COLLAPSE) = false ∨ d.rtc.d02Held = true)) ∧
    (let d : Dev := { live with flt := { live.flt with queue := [⟨0, 0, 0, 0, false, F_INPUT_COLLAPSE, 9, 0, 0, 0, 0, 0, 0, 0, 0, 0⟩] } }
     d.down = 0 ∧ d.flag PWR_PSTATE_collapse_block = false) ∧
    (let d : Dev := chargerAt 5
     d.chg = 5 ∨ d.chg = 7) := by
  refine ⟨?_, ?_, ?_, ?_, ?_, ?_, ?_, ?_⟩ <;>
    (intros; decide +kernel)

theorem test_met_SupplyCommandsComplete_2 :
    (let rise : Nat := 150
     let peak : Nat := 0
     let d : Dev := chargerAt 1
     d.chg = 1 ∧ (150 ≤ rise ∨ 4300 ≤ peak)) ∧
    (let rise : Nat := 149
     let peak : Nat := 4299
     let d : Dev := chargerAt 1
     d.chg = 1 ∧ rise < 150 ∧ peak < 4300) ∧
    (let d : Dev := chargerAt 2
     d.chg = 2) ∧
    (let d : Dev := chargerAt 2
     d.chg = 2) ∧
    (let d : Dev := chargerAt 3
     d.chg = 3) ∧
    (let d : Dev := chargerAt 4
     d.chg = 4 ∧ d.timerLast = false) ∧
    (let d : Dev := chargerAt 5
     d.chg = 5) ∧
    (let d : Dev := { chargerAt 6 with time := 10 * secondTime, pwr := { live.pwr with innerFrom := 1 } }
     d.chg = 6 ∧ d.pwr.innerFrom ≠ 0 ∧ d.pwr.innerFrom - 1 + 10 * secondTime ≤ d.time) := by
  refine ⟨?_, ?_, ?_, ?_, ?_, ?_, ?_, ?_⟩ <;>
    (intros; decide +kernel)

theorem test_met_SupplyCommandsComplete_3 :
    (let d : Dev := (chargerAt 3).put PWR_CHG_TIMER_count (2 ^ 32 - 1)
     d.timerLast) ∧
    (let d : Dev := chargerAt 2
     charging d.chg) ∧
    (let c : Cmd := ⟨0, 0, 0, false⟩
     let d : Dev := chargerAt 8
     d.accepts 0x009 1 chgRestart c) ∧
    (let c : Cmd := ⟨0, 0, 0, false⟩
     let d : Dev := chargerAt 3
     d.accepts 0x009 2 chgStop c) ∧
    (let c : Cmd := ⟨0, 0, 0, false⟩
     let d : Dev := chargerAt 3
     d.accepts 0x009 3 pulseTest c) ∧
    (let node : Nat := 0
     let d : Dev := live
     node < d.get PWR_WARN_CFG_v_warn ∧ d.flag PWR_STATUS_vin_ok = false ∧ d.flag PWR_STATUS_vbus_ok = false) ∧
    (let _d : Dev := live
     True) ∧
    (let d : Dev := live
     d.down ≠ 0 ∨ d.pwr.booted = false ∨ ((d.flag PWR_STATUS_vin_ok || d.flag PWR_STATUS_vbus_ok || decide (d.time < d.pwr.inputAt + secondTime)) = false)) := by
  refine ⟨?_, ?_, ?_, ?_, ?_, ?_, ?_, ?_⟩ <;>
    (intros; (try unfold Dev.accepts); decide +kernel)

theorem test_met_RegulatorCommandsComplete_1 :
    (let c : Cmd := ⟨0, 0, 0, false⟩
     let d : Dev := live
     d.accepts 0x00B 1 brnStart c) ∧
    (let c : Cmd := ⟨0, 0, 0, false⟩
     let d : Dev := live.put BRN_STATUS_state 3
     d.accepts 0x00B 2 brnStop c) ∧
    (let c : Cmd := ⟨0, 0, 0, false⟩
     let d : Dev := live.put BRN_STATUS_state 3
     d.accepts 0x00B 3 brnSetvid c) ∧
    (let loop : Nat := 3
     let d : Dev := live.put BRN_STATUS_state 1 3
     d.loopState loop = 1 ∧ loop < 4) ∧
    (let loop : Nat := 0
     let d : Dev := ((live.put BRN_STATUS_state 2 0).put BRN_PROT_pg_win 1 0).putLoop 0 { Loop.init with ref := vidRef 0 (live.get BRN_VID_target 0), sense := 5 * vidRef 0 (live.get BRN_VID_target 0) / 4 }
     d.inWindow loop ∧ d.loopState loop = 2 ∧ d.atTarget loop ∧
     ((((d.putLoop loop { d.loop loop with sink := true }).loopEnter loop 3).put BRN_STATUS_pg 1 loop).loop loop).kind ≠ 1) ∧
    (let loop : Nat := 0
     let d : Dev := ((live.put BRN_STATUS_state 2 0).put BRN_PROT_pg_win 1 0).putLoop 0 { Loop.init with kind := 1, ref := vidRef 0 (live.get BRN_VID_target 0), sense := 5 * vidRef 0 (live.get BRN_VID_target 0) / 4 }
     d.inWindow loop ∧ d.loopState loop = 2 ∧ d.atTarget loop ∧
     ((((d.putLoop loop { d.loop loop with sink := true }).loopEnter loop 3).put BRN_STATUS_pg 1 loop).loop loop).kind = 1) ∧
    (let loop : Nat := 3
     let d : Dev := ((live.put BRN_STATUS_state 3 3).put BRN_PROT_pg_win 1 3).putLoop 3 { Loop.init with sense := 5 * vidRef 3 (live.get BRN_VID_code_now 3) / 4 }
     d.inWindow loop ∧ d.loopState loop = 3) ∧
    (let loop : Nat := 3
     let d : Dev := live.put BRN_STATUS_state 3 3
     d.loopState loop = 3 ∧ d.inWindow loop = false) := by
  refine ⟨?_, ?_, ?_, ?_, ?_, ?_, ?_, ?_⟩ <;>
    (intros; (try unfold Dev.accepts); decide +kernel)

theorem test_met_RegulatorCommandsComplete_2 :
    (let loop : Nat := 3
     let d : Dev := live.put BRN_STATUS_state 3 3
     loop < 4 ∧ (d.loopState loop = 2 ∨ d.loopState loop = 3)) ∧
    (let loop : Nat := 3
     let d : Dev := live.put BRN_STATUS_state 4 3
     d.loopState loop = 4) ∧
    (let loop : Nat := 3
     let d : Dev := live.put BRN_STATUS_state 3 3
     d.loopState loop = 3) ∧
    (let loop : Nat := 0
     let d : Dev := live
     loop < 4 ∧ d.railGood 8) ∧
    (let loop : Nat := 0
     let d : Dev := live
     loop < 4 ∧ d.railGood 8) ∧
    (let phase : Nat := 0
     let d : Dev := live
     phase < 32 ∧ d.railGood 8) ∧
    (let phase : Nat := 0
     let d : Dev := live
     phase < 32 ∧ d.railGood 8) := by
  refine ⟨?_, ?_, ?_, ?_, ?_, ?_, ?_⟩ <;>
    (intros; decide +kernel)

theorem test_met_SequencerCommandsComplete_1 :
    (let c : Cmd := ⟨0, 0, 0, false⟩
     let d : Dev := { live with seq := { live.seq with book := [(0, 0x0001_0001), (4, crc32 (List.replicate 252 0))] } }
     d.accepts 0x00A 1 seqRun c) ∧
    (let c : Cmd := ⟨0, 0, 0, false⟩
     let d : Dev := engine 1 0 0
     d.accepts 0x00A 2 seqAbort c) ∧
    (let c : Cmd := ⟨0, 0, 95, false⟩
     let d : Dev := live
     d.accepts 0x00A 3 railOnCmd c) ∧
    (let c : Cmd := ⟨0, 0, 95, false⟩
     let d : Dev := live
     d.accepts 0x00A 4 railOffCmd c) ∧
    (let e : Nat := 0
     let d : Dev := engine 1 0 (0 * 2 ^ 28)
     d.atStep e 0) ∧
    (let e : Nat := 0
     let d : Dev := engine 1 0 (1 * 2 ^ 28)
     d.atStep e 1) ∧
    (let e : Nat := 0
     let d : Dev := engine 1 0 (2 * 2 ^ 28)
     d.atStep e 2) ∧
    (let e : Nat := 0
     let d : Dev := engine 1 0 (3 * 2 ^ 28)
     d.atStep e 3) := by
  refine ⟨?_, ?_, ?_, ?_, ?_, ?_, ?_, ?_⟩ <;>
    (intros; (try unfold Dev.accepts); decide +kernel)

theorem test_met_SequencerCommandsComplete_2 :
    (let e : Nat := 0
     let d : Dev := engine 2 1 0
     d.engState e = 2 ∧ (d.eng e).waiting = 1) ∧
    (let e : Nat := 0
     let d : Dev := engine 1 0 (4 * 2 ^ 28)
     d.atStep e 4) ∧
    (let e : Nat := 0
     let d : Dev := engine 2 2 0
     d.engState e = 2 ∧ (d.eng e).waiting = 2 ∧ (d.maskRails e (d.eng e).waitMask).all (fun r => d.railGood r)) ∧
    (let e : Nat := 0
     let d : Dev := engine 2 2 0
     d.engState e = 2 ∧ (d.eng e).waiting = 2) ∧
    (let e : Nat := 0
     let d : Dev := engine 1 0 (5 * 2 ^ 28)
     d.atStep e 5) ∧
    (let e : Nat := 0
     let d : Dev := engine 1 0 (6 * 2 ^ 28)
     d.atStep e 6) ∧
    (let e : Nat := 0
     let d : Dev := engine 1 0 (7 * 2 ^ 28)
     d.atStep e 7 ∧ d.ownHeld (2 + e) e = false ∧ d.spaced) ∧
    (let e : Nat := 0
     let d : Dev := { engine 1 0 (7 * 2 ^ 28) with tkt := { live.tkt with held := [⟨0x18, 1, ⟨0, 0, 0, false⟩, false⟩] } }
     d.atStep e 7 ∧ d.ownHeld (2 + e) e = false ∧ d.spaced = false) := by
  refine ⟨?_, ?_, ?_, ?_, ?_, ?_, ?_, ?_⟩ <;>
    (intros; decide +kernel)

theorem test_met_SequencerCommandsComplete_3 :
    (let e : Nat := 0
     let d : Dev := withTicket (engine 2 3 0) 3
     d.waitsSetvid e ∧ 3 ≤ d.ticketState (d.eng e).loopTkt) ∧
    (let e : Nat := 0
     let d : Dev := withTicket (engine 2 3 0) 2
     d.waitsSetvid e ∧ d.ticketState (d.eng e).loopTkt < 3) ∧
    (let e : Nat := 0
     let d : Dev := engine 1 0 (8 * 2 ^ 28)
     d.atStep e 8) ∧
    (let rail : Nat := 95
     let d : Dev := live.putWbit SEQ_RAIL_GOOD_good 95 false
     rail < 96 ∧ d.railOn rail ∧ !d.railGood rail) ∧
    (let rail : Nat := 0
     let _d : Dev := live
     rail < 96) ∧
    (let root : Nat := 64
     let x : Shutdown := ⟨64, [], 0⟩
     let d : Dev := { live with seq := { live.seq with shutdowns := [⟨64, [], 0⟩] } }
     (d.seq.shutdowns.find? fun y => y.root == root) = some x ∧ x.left = []) ∧
    (let root : Nat := 64
     let x : Shutdown := ⟨64, [(65, 1)], 0⟩
     let d : Dev := { live with seq := { live.seq with shutdowns := [⟨64, [(65, 1)], 0⟩] } }
     (d.seq.shutdowns.find? fun y => y.root == root) = some x ∧ x.left ≠ []) ∧
    (let ch : Nat := 0
     let rail : Nat := 95
     let word : Nat := 2
     let val : Nat := 1
     let e : Dev := (live.bookWrite (0x1_2000 + 0x10 * 95 + 4 * 2) 1).2
     let d : Dev := live
     rail < 96 ∧ word < 3 ∧ d.takesTable ch 12 (0x1_2000 + 0x10 * rail + 4 * word) ∧ d.mustWait ch true = false ∧
     d.get CUS_STATUS_phase ch = 3 ∧ d.covers ch scopeOPS ∧ d.ldgReserve = false ∧
     d.bookWrite (0x1_2000 + 0x10 * rail + 4 * word) val = (true, e)) := by
  refine ⟨?_, ?_, ?_, ?_, ?_, ?_, ?_, ?_⟩ <;>
    (intros; (try unfold Dev.takesTable); decide +kernel)

theorem test_met_SequencerCommandsComplete_4 :
    (let d : Dev := engine 1 0 0
     d.engState 0 ≠ 0 ∧ d.engState 1 = 0) := by
  intros; decide +kernel

theorem test_met_ServicePortCommandsComplete_1 :
    (let d : Dev := live
     !(!d.railGood 5)) ∧
    (let d : Dev := live
     !(!d.railGood 5)) ∧
    (let d : Dev := ((((portAt 1).put PD_CFG_drp_en 1).put PD_CFG_src_en 1).put PWR_STATUS_vin_ok 1).put PD_POLICY_host 1
     !(!d.railGood 5 || !d.drpOn)) ∧
    (let d : Dev := portAt 7
     d.railGood 5 ∧ d.tc = 7) ∧
    (let header : Nat := 1
     let d : Dev := portAt 3
     d.railGood 5 ∧ d.attached ∧ bit header 15 = false ∧ bits header 12 3 = 0 ∧ bits header 0 5 = 1 ∧
     bits header 9 3 = d.pd.txId) ∧
    (let header : Nat := 2 + 7 * 2 ^ 9
     let d : Dev := portAt 3
     d.railGood 5 ∧ d.attached ∧ bits header 0 5 ≠ 1 ∧ d.flag PD_POLICY_host = false ∧ d.pd.rxId ≠ bits header 9 3 + 1) ∧
    (let d : Dev := live
     d.railGood 5) ∧
    (let d : Dev := portAt 6
     d.railGood 5 && d.attached) := by
  refine ⟨?_, ?_, ?_, ?_, ?_, ?_, ?_, ?_⟩ <;>
    (intros; decide +kernel)

theorem test_met_ServicePortCommandsComplete_2 :
    (let d : Dev := { live with pd := { live.pd with hardWait := true } }
     d.railGood 5 && d.pd.hardWait) ∧
    (let d : Dev := (portAt 3).put PD_STATUS_contract 2
     d.railGood 5 && d.tc == 3 && d.get PD_STATUS_contract == 2 && !d.flag PD_STATUS_waiting && !d.pdSequence) ∧
    (let d : Dev := { live with pd := { live.pd with keep := true } }
     d.railGood 5 && d.pd.keep) ∧
    (let d : Dev := (portAt 3).put PD_STATUS_waiting 1
     d.railGood 5 && d.tc == 3 && d.flag PD_STATUS_waiting) ∧
    (let ch : Nat := 0
     let d : Dev := live
     d.takesWrite ch 0x010) ∧
    (let ch : Nat := 0
     let d : Dev := live
     d.takesPriv ch 0x010) ∧
    (let ch : Nat := 0
     let d : Dev := live
     d.takesWrite ch 0x010) ∧
    (let ch : Nat := 0
     let d : Dev := live
     d.takesPriv ch 0x010) := by
  refine ⟨?_, ?_, ?_, ?_, ?_, ?_, ?_, ?_⟩ <;>
    (intros; (try unfold Dev.takesWrite); (try unfold Dev.takesPriv); decide +kernel)

theorem test_met_ServicePortCommandsComplete_3 :
    (let ch : Nat := 0
     let d : Dev := live
     d.takesPriv ch 0x010 ∧ d.get PD_CFG_src_en < 2 ∧ d.get PD_CFG_drp_en < 2) ∧
    (let c : Cmd := ⟨0, 0, 0, false⟩
     let d : Dev := ((portAt 3).put PD_POLICY_host 1).put PD_TX_HDR_header 8
     d.accepts 0x010 1 pdTx c) ∧
    (let c : Cmd := ⟨0, 0, 0, false⟩
     let d : Dev := (portAt 3).put PD_POLICY_host 1
     d.accepts 0x010 2 pdHardReset c) ∧
    (let c : Cmd := ⟨0, 0, 1, false⟩
     let d : Dev := ((portAt 3).put PD_POLICY_host 1).put PD_CFG_src_en 1
     d.accepts 0x010 3 pdRole c) ∧
    (let d : Dev := live
     !(!d.railGood 5)) ∧
    (let d : Dev := live.put PD_STATUS_sl_state 1
     d.railGood 5 && d.get PD_STATUS_sl_state == 1) ∧
    (let d : Dev := live
     d.slUp) ∧
    (let d : Dev := live
     d.slUp) := by
  refine ⟨?_, ?_, ?_, ?_, ?_, ?_, ?_, ?_⟩ <;>
    (intros; (try unfold Dev.accepts); (try unfold Dev.takesPriv); decide +kernel)

theorem test_met_ServicePortCommandsComplete_4 :
    (let bytes : List Nat := packet 1
     let r : SlReq := ⟨[1] ++ List.replicate 15 0, []⟩
     let e : Dev := live
     let d : Dev := live
     d.slUp ∧ d.slCheck bytes = (some r, e) ∧ (e.pd.answers.find? fun a => a.request == r.header) = none ∧ r.type = 0x01 ∧
     e.slWaiting = 0 ∧ e.slMustWait r = false) ∧
    (let bytes : List Nat := packet 2
     let r : SlReq := ⟨[2] ++ List.replicate 15 0, []⟩
     let e : Dev := live
     let d : Dev := live
     d.slUp ∧ d.slCheck bytes = (some r, e) ∧ (e.pd.answers.find? fun a => a.request == r.header) = none ∧ r.type = 0x02 ∧
     e.slWaiting = 0 ∧ e.slMustWait r = false) ∧
    (let bytes : List Nat := packet 3
     let r : SlReq := ⟨[3] ++ List.replicate 15 0, []⟩
     let e : Dev := live
     let d : Dev := live
     d.slUp ∧ d.slCheck bytes = (some r, e) ∧ (e.pd.answers.find? fun a => a.request == r.header) = none ∧ r.type = 0x03 ∧
     e.slWaiting = 0 ∧ e.slMustWait r = false) ∧
    (let bytes : List Nat := packet 4
     let r : SlReq := ⟨[4] ++ List.replicate 15 0, []⟩
     let e : Dev := live
     let d : Dev := live
     d.slUp ∧ d.slCheck bytes = (some r, e) ∧ (e.pd.answers.find? fun a => a.request == r.header) = none ∧ r.type = 0x04 ∧
     e.slWaiting = 0 ∧ e.slMustWait r = false) ∧
    (let bytes : List Nat := packet 4
     let r : SlReq := ⟨[4] ++ List.replicate 15 0, []⟩
     let e : Dev := { live with pd := { live.pd with answers := [⟨[4] ++ List.replicate 15 0, [], []⟩] } }
     let a : SlAnswer := ⟨[4] ++ List.replicate 15 0, [], []⟩
     let d : Dev := { live with pd := { live.pd with answers := [⟨[4] ++ List.replicate 15 0, [], []⟩] } }
     d.slUp ∧ d.slCheck bytes = (some r, e) ∧ (e.pd.answers.find? fun a => a.request == r.header) = some a) ∧
    (let bytes : List Nat := []
     let e : Dev := (live.slCheck []).2
     let d : Dev := live
     d.slUp ∧ d.slCheck bytes = (none, e)) ∧
    (let bytes : List Nat := packet 16
     let r : SlReq := ⟨[16] ++ List.replicate 15 0, []⟩
     let e : Dev := live
     let d : Dev := live
     d.slUp ∧ d.slCheck bytes = (some r, e) ∧ (e.pd.answers.find? fun a => a.request == r.header) = none ∧ r.type = 0x10) ∧
    (let j : SigJob := ⟨7, 0, 0, 0, List.replicate 32 1⟩
     let rest : List SigJob := []
     let d : Dev := { island 3 7 with pd := { live.pd with nonce := 1 } }
     d.isl.docs = j :: rest ∧ d.isl.current = 3 ∧ j.kind = 7 ∧
     (let e : Dev := { d with isl := { d.isl with docs := rest } }.engineFree; (e.slUp && e.get PD_STATUS_sl_state == 2 && e.pd.nonce != 0) = true)) := by
  refine ⟨?_, ?_, ?_, ?_, ?_, ?_, ?_, ?_⟩ <;>
    (intros; decide +kernel)

theorem test_met_ThermalWatchdogAndOtpCommandsComplete_1 :
    (let _d : Dev := live
     True) ∧
    (let input : Nat := 0
     let _d : Dev := live
     input < 80) ∧
    (let sensor : Nat := 0
     let d : Dev := live
     sensor < 64 ∧ !d.compMasked sensor) ∧
    (let d : Dev := live.put THM_STATUS_sd_latched 1
     d.flag THM_STATUS_sd_latched) ∧
    (let d : Dev := { live with time := 10 * secondTime, thm := { live.thm with coolFrom := 1 } }
     d.thm.coolFrom ≠ 0 ∧ d.thm.coolFrom - 1 + 10 * secondTime ≤ d.time ∧ !d.flag THM_STATUS_cooled) ∧
    (let ch : Nat := 0
     let d : Dev := live
     d.takesWrite ch 0x00D) ∧
    (let ch : Nat := 0
     let d : Dev := live
     d.takesPriv ch 0x00D) ∧
    (let d : Dev := live
     d.flag WDT_CFG_running) := by
  refine ⟨?_, ?_, ?_, ?_, ?_, ?_, ?_, ?_⟩ <;>
    (intros; (try unfold Dev.takesWrite); (try unfold Dev.takesPriv); decide +kernel)

theorem test_met_ThermalWatchdogAndOtpCommandsComplete_2 :
    (let d : Dev := live
     d.flag WDT_CFG_running) ∧
    (let c : Cmd := ⟨0, 0, 0, false⟩
     let d : Dev := (live.put WDT_SLOT_EN_en 1).put WDT_CFG_running 0
     d.accepts 0x00D 1 wdtStart c) ∧
    (let c : Cmd := ⟨0, 0, 0, false⟩
     let d : Dev := (live.put WDT_CFG_running 1).put WDT_CFG_hw_start 0
     d.accepts 0x00D 2 wdtStop c) ∧
    (let c : Cmd := ⟨0, 0, 0, false⟩
     let d : Dev := live
     d.accepts 0x00E 1 otpProgram c) ∧
    (let c : Cmd := ⟨0, 0, 0, false⟩
     let d : Dev := live
     d.accepts 0x00E 2 otpSeal c) ∧
    (let c : Cmd := ⟨0, 0, 7, false⟩
     let d : Dev := live
     d.accepts 0x00E 3 otpIncrement c) ∧
    (let c : Cmd := ⟨0, 0, 0, false⟩
     let d : Dev := live
     d.accepts 0x00E 4 otpSense c) ∧
    (let w : OtpWork := ⟨4, 0, 0, 0⟩
     let rest : List OtpWork := []
     let d : Dev := { live with otp := { live.otp with job := none, work := [⟨4, 0, 0, 0⟩] } }
     d.otp.job = none ∧ d.otp.work = w :: rest) := by
  refine ⟨?_, ?_, ?_, ?_, ?_, ?_, ?_, ?_⟩ <;>
    (intros; (try unfold Dev.accepts); decide +kernel)

theorem test_met_ThermalWatchdogAndOtpCommandsComplete_3 :
    (let j : OtpJob := ⟨⟨1, 0, 1, 7⟩, [⟨5, 1, 5, 0⟩], 0, 0, 0, (0, 0)⟩
     let p : OtpStep := ⟨5, 1, 5, 0⟩
     let rest : List OtpStep := []
     let d : Dev := { live with otp := { live.otp with job := some ⟨⟨1, 0, 1, 7⟩, [⟨5, 1, 5, 0⟩], 0, 0, 0, (0, 0)⟩ } }
     d.otp.job = some j ∧ j.work.kind ≠ 4 ∧ j.todo = p :: rest) ∧
    (let j : OtpJob := ⟨⟨1, 0, 1, 7⟩, [], 0, 0, 0, (0, 0)⟩
     let d : Dev := { live with otp := { live.otp with job := some ⟨⟨1, 0, 1, 7⟩, [], 0, 0, 0, (0, 0)⟩ } }
     d.otp.job = some j ∧ j.work.kind ≠ 4 ∧ j.todo = []) ∧
    (let j : OtpJob := ⟨⟨4, 0, 0, 7⟩, [], 0, 0, 0, (0, 0)⟩
     let d : Dev := { live with otp := { live.otp with job := some ⟨⟨4, 0, 0, 7⟩, [], 0, 0, 0, (0, 0)⟩ } }
     d.otp.job = some j ∧ j.work.kind = 4) ∧
    (let d : Dev := live
     d.otp.job.isNone && d.otp.work.isEmpty) := by
  refine ⟨?_, ?_, ?_, ?_⟩ <;>
    (intros; decide +kernel)

theorem test_met_PowerStateCommandsComplete_1 :
    (let group : Nat := 0
     let d : Dev := live
     d.railGood (32 + group) && d.k03 && decide (group < 32)) ∧
    (let d : Dev := live
     d.down ≠ 3) ∧
    (let d : Dev := { live with down := 3 }
     d.down = 3) ∧
    (let cause : Nat := 0
     let d : Dev := live
     d.coldCan cause) ∧
    (let d : Dev := { live.put PWR_STATUS_vin_ok 1 with seq := Seq.init, pwr := { live.pwr with booted := true, upCmd := true } }
     d.upReady) ∧
    (let c : Cmd := ⟨0, 0, 0, false⟩
     let d : Dev := { live with seq := Seq.init }.put PWR_STATUS_vin_ok 1
     d.accepts 0x009 4 powerUp c) ∧
    (let c : Cmd := ⟨0, 0, 0, false⟩
     let d : Dev := live
     d.accepts 0x009 5 powerDown c) ∧
    (let c : Cmd := ⟨0, 0, 0, false⟩
     let d : Dev := live
     d.accepts 0x009 6 reboot c) := by
  refine ⟨?_, ?_, ?_, ?_, ?_, ?_, ?_, ?_⟩ <;>
    (intros; (try unfold Dev.accepts); decide +kernel)

theorem test_met_PowerStateCommandsComplete_2 :
    (let d : Dev := (live.put EST_STATUS_hibernated 1).put PWR_PS_CFG_hib_recipes 1
     (d.flag EST_STATUS_hibernated && d.flag PWR_PS_CFG_hib_recipes && d.wake == 0 && d.engState 0 == 0 && d.pwr.hibRun != d.est.hibTime + 1) = true) ∧
    (let d : Dev := { live.put PWR_PS_CFG_hib_recipes 1 with wake := 1 }
     d.wake = 1 ∧ d.flag PWR_PS_CFG_hib_recipes ∧ d.engState 0 = 0) := by
  refine ⟨?_, ?_⟩ <;>
    (intros; decide +kernel)

end Sys2Proof.Tests
end

/-!
Proofs of the statements on 00_scope.md: packed endpoint addresses (R8), the `SNAP` pair of the next ticket number (R7), and where
register accesses, `PAGE_CTRL`, the host link's events and BAR2 complete.
-/
section
namespace Sys2Proof.Machine

/-! ## Packed endpoint addresses (R8) -/

/-- The endpoint address of a position as R8 packs it. -/
def packEndpoint (p : Pos) : Nat := p.lane * 2 ^ 23 + p.node * 2 ^ 14 + p.cell * 2 ^ 9

/-- `unpackEndpoint` in plain arithmetic. -/
theorem unpackEndpoint_eq (w : Nat) :
    unpackEndpoint w =
      if w / 2 ^ 14 % 2 ^ 9 ≤ 319 ∧ w % 512 = 0 ∧ w < 2 ^ 32 then
        some ⟨w / 2 ^ 23 % 2 ^ 9, w / 2 ^ 14 % 2 ^ 9, w / 2 ^ 9 % 2 ^ 5⟩
      else none := by
  simp only [unpackEndpoint, bits, Nat.shiftRight_eq_div_pow]

/-- A number unpacks to a position exactly where it is that position's packed address. -/
theorem unpackEndpoint_eq_some_iff (w : Nat) (p : Pos) :
    unpackEndpoint w = some p ↔ p.lane < 512 ∧ p.node ≤ 319 ∧ p.cell < 32 ∧ packEndpoint p = w := by
  obtain ⟨lane, node, ep⟩ := p
  rw [unpackEndpoint_eq, Option.ite_none_right_eq_some, Option.some_inj, Pos.mk.injEq, packEndpoint]
  dsimp only
  omega

/-- The 32-bit numbers that unpack: node field at most 319, bits [8:0] zero. -/
theorem unpackEndpoint_isSome_iff {w : Nat} (hw : w < 2 ^ 32) :
    (unpackEndpoint w).isSome = true ↔ w / 2 ^ 14 % 2 ^ 9 ≤ 319 ∧ w % 512 = 0 := by
  rw [unpackEndpoint_eq, Option.isSome_ite]
  simp only [hw, and_true]

/-- Settles O21: what unpacks is exactly a packed address. -/
theorem packedAddressesRoundTrip : Obligations.PackedAddressesRoundTrip := by
  refine ⟨fun lane node ep hl hn he => ?_, fun w hw => ⟨unpackEndpoint_isSome_iff hw, fun p hp => ?_⟩⟩
  · exact (unpackEndpoint_eq_some_iff _ ⟨lane, node, ep⟩).mpr ⟨hl, hn, he, rfl⟩
  · obtain ⟨-, -, -, hpack⟩ := (unpackEndpoint_eq_some_iff w p).mp hp
    exact hpack

/-! ## The two words of the next ticket number (R7, R124) -/

section TicketWords

variable (d : Dev) (ch : Nat)

/-- A word on which a single row lies holds that row's field, where the view wants it. -/
theorem Dev.wordOf_single {priv : Bool} {page off : Nat} {want : Access → Bool} {r : RegField} {k : Nat}
    (h : rowsAt page off = [(r, k)]) :
    d.wordOf ch priv page off want =
      if want (if priv then r.priv else r.unpriv) then
        d.fieldRead ch page off r.fld (d.fieldIndex ch page off r k) * 2 ^ r.pos
      else 0 := by
  simp only [Dev.wordOf, h, List.foldl_cons, List.foldl_nil, Nat.zero_add]

theorem rowsAt_ticketLo : rowsAt 0x005 0x100 = [(rf TKT_NEXT_LO_next_lo 4 1 .snap .snap, 0)] := rfl
theorem rowsAt_ticketHi : rowsAt 0x005 0x104 = [(rf TKT_NEXT_HI_next_hi 4 1 .snap .snap, 0)] := rfl

theorem snapHigh_ticketLo : snapHigh 0x005 0x100 = false := by decide
theorem snapHigh_ticketHi : snapHigh 0x005 0x104 = true := by decide

/-- `TKT_NEXT_LO` holds the field alone, from bit 0. -/
theorem Dev.wordOf_ticketLo (want : Access → Bool) :
    d.wordOf ch false 0x005 0x100 want =
      if want .snap then d.get TKT_NEXT_LO_next_lo % 2 ^ 32 else 0 := by
  rw [d.wordOf_single ch rowsAt_ticketLo]
  exact congrArg (if want .snap then · else 0) (Nat.mul_one _)

/-- `TKT_NEXT_HI` holds the field alone, from bit 0. -/
theorem Dev.wordOf_ticketHi (want : Access → Bool) :
    d.wordOf ch false 0x005 0x104 want =
      if want .snap then d.get TKT_NEXT_HI_next_hi % 2 ^ 16 else 0 := by
  rw [d.wordOf_single ch rowsAt_ticketHi]
  exact congrArg (if want .snap then · else 0) (Nat.mul_one _)

variable {d}

/-- While `TKT` is served, a read of `TKT_NEXT_LO` shows the low half of the next ticket number. -/
theorem Dev.readWord_ticketLo_value (hs : d.serves 0x005 = true) :
    (d.readWord ch false 0x005 0x100).1 = d.get TKT_NEXT_LO_next_lo % 2 ^ 32 := by
  have ha : assigned 0x005 = true := rfl
  simp [Dev.readWord, Dev.peek, ha, hs, snapHigh_ticketLo, Dev.wordOf_ticketLo, readable]

/-- A read of `TKT_NEXT_HI` shows what the channel's latch holds. -/
theorem Dev.readWord_ticketHi_value (hs : d.serves 0x005 = true) :
    (d.readWord ch false 0x005 0x104).1 = d.snap.get (snapKey 0x005 0x104 ch) 0 := by
  have ha : assigned 0x005 = true := rfl
  simp [Dev.readWord, Dev.peek, ha, hs, snapHigh_ticketHi, Dev.wordOf_ticketHi, snapped]

/-- A read of `TKT_NEXT_LO` latches the high half for the channel (R7). -/
theorem Dev.readWord_ticketLo_latch (hs : d.serves 0x005 = true) :
    (d.readWord ch false 0x005 0x100).2.snap.get (snapKey 0x005 0x104 ch) 0 = d.get TKT_NEXT_HI_next_hi % 2 ^ 16 := by
  have ha : assigned 0x005 = true := rfl
  simp [Dev.readWord, Dev.readEffect, ha, hs, snapHigh_ticketLo, rowsAt_ticketLo, rf, Dev.wordOf_ticketHi, snapped]

end TicketWords

/-- Settles O20: the low word is read where it stands, the high word from the latch that the low word's read has filled. -/
theorem snapPairIsLatched : Obligations.SnapPairIsLatched := by
  intro d e ch _ hd he hlatch hlo hhi
  rw [Dev.readWord_ticketHi_value ch he, hlatch, Dev.readWord_ticketLo_latch ch hd, Dev.readWord_ticketLo_value ch hd,
    Nat.mod_eq_of_lt hlo, Nat.mod_eq_of_lt hhi]
  rfl

section Accesses

variable {d : Dev} {ch addr size val page : Nat} {soon : Bool}

/-! ## Accesses to BAR0 by size (R73) -/

/-- The host link decodes BAR0 where its channel is up (R71). -/
theorem Dev.decodes_of_channelUp (hu : d.channelUp ch = true) : ¬(ch = 0 ∧ (!d.hostDecodes) = true) := by
  rintro ⟨rfl, hn⟩
  simp only [Dev.channelUp, if_true] at hu
  simp only [hu, Bool.not_true, Bool.false_eq_true] at hn

/-- R73 takes 4 bytes aligned to 4. -/
theorem barAccess_four (ha : addr % 4 = 0) : barAccess addr 4 = true := by simp [barAccess, ha]

/-- R73 takes 8 bytes aligned to 8. -/
theorem barAccess_eight (ha : addr % 8 = 0) : barAccess addr 8 = true := by simp [barAccess, ha]

/-- An aligned write of 32 bits is one write of a word. -/
theorem Dev.barWrite_four (hu : d.channelUp ch = true) (ha : addr % 4 = 0) :
    d.barWrite ch addr 4 val soon = d.busWrite ch addr (val % 2 ^ 32) soon := by
  rw [Dev.barWrite, if_neg (Dev.decodes_of_channelUp hu), barAccess_four ha]
  rfl

/-- An aligned write of 64 bits is two writes of words, the lower address first. -/
theorem Dev.barWrite_eight (hu : d.channelUp ch = true) (ha : addr % 8 = 0) :
    d.barWrite ch addr 8 val soon =
      (d.busWrite ch addr (val % 2 ^ 32) soon).busWrite ch (addr + 4) (val / 2 ^ 32 % 2 ^ 32) soon := by
  rw [Dev.barWrite, if_neg (Dev.decodes_of_channelUp hu), barAccess_eight ha]
  rfl

/-- An aligned read of 32 bits answers one word. -/
theorem Dev.answerRead_four (ha : addr % 4 = 0) :
    d.answerRead ch addr 4 = (d.busRead ch addr).2.emit .readData ch [addr, (d.busRead ch addr).1] := by
  rw [Dev.answerRead, Dev.barRead, barAccess_four ha]
  rfl

/-- An aligned read of 64 bits answers two words, the lower address read first. -/
theorem Dev.answerRead_eight (ha : addr % 8 = 0) :
    d.answerRead ch addr 8 =
      let lo := d.busRead ch addr
      let hi := lo.2.busRead ch (addr + 4)
      hi.2.emit .readData ch [addr, lo.1 + hi.1 * 2 ^ 32] := by
  rw [Dev.answerRead, Dev.barRead, barAccess_eight ha]
  rfl

/-- A read of any size is answered with what BAR0 gives for it. -/
theorem Dev.answerRead_eq :
    d.answerRead ch addr size = (d.barRead ch addr size).2.emit .readData ch [addr, (d.barRead ch addr size).1] := rfl

/-! ## `PAGE_CTRL` through each view (R76, R78) -/

theorem page_lt_of_assigned (ha : assigned page = true) : page < 0x1000 := by
  simp only [assigned, decide_eq_true_eq] at ha
  omega

/-- `PAGE_CTRL` written through the unprivileged view. -/
theorem Dev.regWrite_ctrl {v : Nat} (ha : assigned page = true) (ht : d.takesWrite ch page)
    (hen : d.enableOk page (bit v 0)) :
    d.regWrite ch false page 0x010 v = (d.wokenBy page).ctrlTaken page (bit v 0) (bit v 2) := by
  have hs : (d.wokenBy page).serves page = true := (d.wokenBy_serves page page).trans ht.2.2.2
  rw [d.regWrite_unpriv ht (page_lt_of_assigned ha) (by decide)]
  exact Dev.pageWrite_ctrl _ ha hs (d.wokenBy_enableOk page page _ hen) (Bool.and_false _)

/-- `PAGE_CTRL` written through the privileged view without its reset bit. -/
theorem Dev.regWrite_ctrl_priv {v : Nat} (ha : assigned page = true) (ht : d.takesPriv ch page)
    (hen : d.enableOk page (bit v 0)) (hr : bit v 1 = false) :
    d.regWrite ch true page 0x010 v =
      ((d.wokenBy page).privRecord ch 0 page 0x010 v 0 rOK).ctrlTaken page (bit v 0) (bit v 2) := by
  rw [d.regWrite_priv ht (page_lt_of_assigned ha) (by decide) (fun _ => by decide)]
  obtain ⟨-, -, -, hs, -, -, hl⟩ := ht
  exact Dev.pageWrite_ctrl_priv _ ha ((d.wokenBy_serves page page).trans hs) (d.wokenBy_enableOk page page _ hen)
    (by rw [hr, Bool.false_and]) ((d.wokenBy_ldgReserve page).trans hl)

/-- `PAGE_CTRL` written with its reset bit through the privileged view, under a session that covers OPS. -/
theorem Dev.regWrite_reset {v : Nat} (ha : assigned page = true) (ht : d.takesPriv ch page)
    (hops : d.covers ch scopeOPS = true) (hen : d.enableOk page (bit v 0)) (hb : bit v 1 = true)
    (hf : d.resetForbidden page = false) (hp : d.resetsSnapshot page = false) :
    d.regWrite ch true page 0x010 v soon =
      ((d.wokenBy page).ctrlTaken page (bit v 0) (bit v 2)).fieldCmd ch true soon page 0x010 := by
  rw [d.regWrite_priv ht (page_lt_of_assigned ha) (by decide) (fun _ => by decide), hops]
  obtain ⟨-, -, -, hs, -, -, hl⟩ := ht
  exact Dev.pageWrite_reset _ ha ((d.wokenBy_serves page page).trans hs) (d.wokenBy_enableOk page page _ hen) hb
    ((d.wokenBy_resetForbidden page page).trans hf) ((d.wokenBy_resetsSnapshot page page).trans hp)
    ((d.wokenBy_ldgReserve page).trans hl)

/-- `PAGE_CTRL` reads its reset bit as 0. -/
theorem Dev.pageCtrl_bit1 (he : d.get PAGE_CTRL_enable page < 2) : bit (d.pageCtrl page) 1 = false :=
  ctrl_bit1 _ _ he

/-- Writing `enable` alone leaves the reset bit 0. -/
theorem Dev.pageCtrl_enable_bit1 (he : d.get PAGE_CTRL_enable page < 2) (en : Bool) :
    bit (d.pageCtrl page / 2 * 2 + b2n en) 1 = false :=
  (ctrl_bits_enable _ _ en he).2.1

/-- Setting the reset bit leaves `enable` and `hibernate` as they read. -/
theorem Dev.pageCtrl_reset_bits (he : d.get PAGE_CTRL_enable page < 2) :
    bit (d.pageCtrl page + 2) 0 = bit (d.pageCtrl page) 0 ∧ bit (d.pageCtrl page + 2) 1 = true ∧
      bit (d.pageCtrl page + 2) 2 = bit (d.pageCtrl page) 2 :=
  ctrl_bits_reset _ _ he

/-- A block reset whose command meets no obstacle is the accepted command. -/
theorem Dev.fieldCmd_reset_accepted
    (h : d.accepts page 0 (resetCmd.under true) ⟨ch, page - blockOf page, 0x010, soon⟩) :
    d.fieldCmd ch true soon page 0x010 =
      d.accepted page 0 (resetCmd.under true) ⟨ch, page - blockOf page, 0x010, soon⟩ :=
  d.cmd_accepted page 0 (resetCmd.under true) _ h

/-! ## Accesses to BAR2 (R81, R406) -/

variable {offset n : Nat} {errs : List MemErr} {bytes : List (Nat × Nat)}

/-- What BAR2 takes of an access: the host link decodes it, and it ends inside the BAR. -/
theorem Dev.bar2_takes {o len : Nat} (hh : d.hostDecodes = true) (hn : o + len ≤ 2 ^ 34) :
    ¬((!d.hostDecodes) = true ∨ 2 ^ 34 < o + len) := by
  rintro (h | h)
  · simp only [hh, Bool.not_true, Bool.false_eq_true] at h
  · exact Nat.not_lt.mpr hn h

/-- A read whose lines are all good answers their bytes. -/
theorem Dev.bar2Read_good (hh : d.hostDecodes = true) (hn : offset + n ≤ 2 ^ 34) (hk : d.clk ≠ 5)
    (hg : ((d.memErrs errs).memReadSpan (d.bar2Addr offset) n).2.1 = true) :
    d.bar2Read offset n errs =
      let r := (d.memErrs errs).memReadSpan (d.bar2Addr offset) n
      r.2.2.emit .readData 0 ((2 ^ 26 + offset) :: r.1) := by
  rw [Dev.bar2Read, if_neg (Dev.bar2_takes hh hn), if_neg hk]
  generalize (d.memErrs errs).memReadSpan (d.bar2Addr offset) n = r at hg ⊢
  obtain ⟨data, good, e⟩ := r
  exact if_pos hg

/-- While the clock unit is `LOST` a read answers all ones with the EP bit. -/
theorem Dev.bar2Read_stopped (hh : d.hostDecodes = true) (hn : offset + n ≤ 2 ^ 34) (hk : d.clk = 5) :
    d.bar2Read offset n errs = d.emit .ep 0 (List.replicate n 0xFF) := by
  rw [Dev.bar2Read, if_neg (Dev.bar2_takes hh hn), if_pos hk]

/-- A write inside the host region in force writes its enabled bytes line by line. -/
theorem Dev.bar2Write_inside (hh : d.hostDecodes = true) (hn : offset + spanOf bytes ≤ 2 ^ 34) (hk : d.clk ≠ 5)
    (hr : d.inHostRegion (d.bar2Addr offset) (spanOf bytes) = true) :
    d.bar2Write offset bytes errs =
      let a := d.bar2Addr offset
      each (List.range ((a % 64 + spanOf bytes + 63) / 64)) (fun i (d : Dev) =>
        (d.memWrite (a / 64 + i) (enabledBytes a bytes (a / 64 + i))).2) (d.memErrs errs) := by
  have hdrop : ¬(d.clk = 5 ∨ (!d.inHostRegion (d.bar2Addr offset) (spanOf bytes)) = true) := by simp [hk, hr]
  exact (if_neg (Dev.bar2_takes hh hn)).trans (if_neg hdrop)

/-- A write that is not inside the host region in force, or comes while the clock unit is `LOST`, is dropped and counted. -/
theorem Dev.bar2Write_dropped (hh : d.hostDecodes = true) (hn : offset + spanOf bytes ≤ 2 ^ 34)
    (hr : d.clk = 5 ∨ d.inHostRegion (d.bar2Addr offset) (spanOf bytes) = false) :
    d.bar2Write offset bytes errs = d.bump HIF_BAR2_DROPS_count := by
  have hdrop : d.clk = 5 ∨ (!d.inHostRegion (d.bar2Addr offset) (spanOf bytes)) = true := by
    rwa [Bool.not_eq_true']
  exact (if_neg (Dev.bar2_takes hh hn)).trans (if_pos hdrop)

/-! ## Completion -/

/-- A command that acts through `onDev` completes with an effect where its action on the device is that effect. -/
theorem Completes.of_onDev {c : Instr} {cond : Dev → Prop} {f effect : Dev → Dev} (hf : ∀ s, exec c s = onDev f s)
    (h : ∀ d, cond d → f d = effect d) : Completes c cond effect :=
  Completes.of fun s _ hc => ⟨f s.dev, hf s, h s.dev hc⟩

/-- `REGISTER_WRITE` through a link's channel, inside BAR0, is the write of its size. -/
theorem Completes.registerWrite {cond : Dev → Prop} {effect : Dev → Dev}
    (h : ∀ d, cond d → (addr < 2 ^ 26 ∧ ch < 2) ∧ d.barWrite ch addr size val soon = effect d) :
    Completes (.registerWrite ch addr size val soon) cond effect :=
  .of_onDev (fun s => (rfl : execRegisterWrite _ _ _ _ _ s = onDev _ s)) fun d hc =>
    (if_pos (h d hc).1).trans (h d hc).2

/-- `SNAP_READ` through a link's channel that is up, inside BAR0, is answered where it need not wait. -/
theorem Completes.snapRead {cond : Dev → Prop} {effect : Dev → Dev}
    (h : ∀ d, cond d → (addr < 2 ^ 26 ∧ ch < 2 ∧ d.channelUp ch = true ∧ d.readWaits ch addr size = false) ∧
      d.answerRead ch addr size = effect d) :
    Completes (.snapRead ch addr size) cond effect :=
  .of_onDev (fun s => (rfl : execSnapRead _ _ _ s = onDev _ s)) fun d hc => by
    obtain ⟨⟨ha, hch, hu, hw⟩, he⟩ := h d hc
    simp only [ha, hch, hu, hw, and_self, decide_true, Bool.and_self, if_true, Bool.false_eq_true, if_false, he]

/-- `BAR2_READ` that waits behind no write acts at once. -/
theorem Completes.bar2Read {cond : Dev → Prop} {effect : Dev → Dev}
    (h : ∀ d, cond d → d.mustWait 0 false = false ∧ d.bar2Read offset n errs = effect d) :
    Completes (.bar2Read offset n errs) cond effect :=
  .of_onDev (fun s => (rfl : execBar2Read _ _ _ s = onDev _ s)) fun d hc => by
    obtain ⟨hw, he⟩ := h d hc
    simp only [hw, Bool.and_false, Bool.false_eq_true, if_false, he]

/-- `BAR2_WRITE` that waits behind no write acts at once. -/
theorem Completes.bar2Write {cond : Dev → Prop} {effect : Dev → Dev}
    (h : ∀ d, cond d → d.mustWait 0 false = false ∧ d.bar2Write offset bytes errs = effect d) :
    Completes (.bar2Write offset bytes errs) cond effect :=
  .of_onDev (fun s => (rfl : execBar2Write _ _ _ s = onDev _ s)) fun d hc => by
    obtain ⟨hw, he⟩ := h d hc
    simp only [hw, Bool.and_false, Bool.false_eq_true, if_false, he]

end Accesses

/-- Settles O41: each command's branch of its meaning, by the lemma of the access it makes. -/
theorem pageAndLinkCommandsComplete : Obligations.PageAndLinkCommandsComplete := by
  refine ⟨?_, ?_, ?_, ?_, ?_, ?_, ?_, ?_, ?_, ?_, ?_, ?_, ?_, ?_, ?_, ?_, ?_, ?_, ?_, ?_⟩
  · intro ch addr size val soon
    refine .registerWrite ?_
    rintro d ⟨ha, hch, hu, rfl, h4⟩
    exact ⟨⟨ha, hch⟩, Dev.barWrite_four hu h4⟩
  · intro ch addr size val soon
    refine .registerWrite ?_
    rintro d ⟨ha, hch, hu, rfl, h8⟩
    exact ⟨⟨ha, hch⟩, Dev.barWrite_eight hu h8⟩
  · intro ch addr size
    refine .snapRead ?_
    rintro d ⟨ha, hch, hu, hw, rfl, h4⟩
    exact ⟨⟨ha, hch, hu, hw⟩, Dev.answerRead_four h4⟩
  · intro ch addr size
    refine .snapRead ?_
    rintro d ⟨ha, hch, hu, hw, rfl, h8⟩
    exact ⟨⟨ha, hch, hu, hw⟩, Dev.answerRead_eight h8⟩
  · intro ch addr size
    exact .snapRead fun d ⟨ha, hch, hu, hw, _⟩ => ⟨⟨ha, hch, hu, hw⟩, Dev.answerRead_eq⟩
  · intro ch addr size
    refine .of_onDev (fun s => (rfl : execSnapRead _ _ _ s = onDev _ s)) ?_
    rintro d ⟨ha, hch, hu, hw⟩
    simp only [ha, hch, hu, hw, and_self, decide_true, Bool.and_self, if_true]
  · intro ch page en
    refine .of_onDev (fun s => (rfl : execPageEnableWrite _ _ _ _ s = onDev _ s)) ?_
    rintro d ⟨ha, ht, hen⟩
    obtain ⟨h0, h2⟩ := ctrl_bits_enable_any (d.pageCtrl page) en
    rw [Dev.regWrite_ctrl ha ht (by rwa [h0]), h0, h2]
  · intro ch page en
    refine .of_onDev (fun s => (rfl : execPageEnableWrite _ _ _ _ s = onDev _ s)) ?_
    rintro d ⟨ha, ht, hen, he⟩
    obtain ⟨h0, h2⟩ := ctrl_bits_enable_any (d.pageCtrl page) en
    rw [Dev.regWrite_ctrl_priv ha ht (by rwa [h0]) (Dev.pageCtrl_enable_bit1 he en), h0, h2]
  · intro ch page hib
    refine .of_onDev (fun s => (rfl : execPageHibernateWrite _ _ _ _ s = onDev _ s)) ?_
    rintro d ⟨ha, ht, hen⟩
    obtain ⟨h0, -, h2⟩ := ctrl_bits_hib (d.pageCtrl page) hib
    rw [Dev.regWrite_ctrl ha ht (by rwa [h0]), h0, h2]
  · intro ch page hib
    refine .of_onDev (fun s => (rfl : execPageHibernateWrite _ _ _ _ s = onDev _ s)) ?_
    rintro d ⟨ha, ht, hen, he⟩
    obtain ⟨h0, h1, h2⟩ := ctrl_bits_hib (d.pageCtrl page) hib
    rw [Dev.regWrite_ctrl_priv ha ht (by rwa [h0]) (h1.trans (Dev.pageCtrl_bit1 he)), h0, h2]
  · intro ch page soon
    refine .of_onDev (fun s => (rfl : execBlockReset _ _ _ s = onDev _ s)) ?_
    rintro d ⟨ha, ht, hops, he, hen, hf, hp, hacc⟩
    obtain ⟨h0, h1, h2⟩ := Dev.pageCtrl_reset_bits he
    rw [Dev.regWrite_reset ha ht hops (by rwa [h0]) h1 hf hp, h0, h2]
    exact Dev.fieldCmd_reset_accepted hacc
  · intro kind
    exact .of_onDev (fun s => (rfl : execHifLinkReset _ s = onDev _ s)) fun d hc => if_pos hc
  · intro width speed
    exact .of_onDev (fun s => (rfl : execPcieLinkUp _ _ s = onDev _ s)) fun d hc => if_pos hc
  · intro offset n errs
    exact .bar2Read fun d ⟨hh, hw, hn, hk, hg⟩ => ⟨hw, Dev.bar2Read_good hh hn hk hg⟩
  · intro offset n errs
    exact .bar2Read fun d ⟨hh, hw, hn, hk⟩ => ⟨hw, Dev.bar2Read_stopped hh hn hk⟩
  · intro offset n errs
    exact .of_onDev (fun s => (rfl : execBar2Read _ _ _ s = onDev _ s)) fun d ⟨hh, hw⟩ => if_pos (by rw [hh, hw]; rfl)
  · intro offset bytes errs
    exact .bar2Write fun d ⟨hh, hw, hn, hk, hr⟩ => ⟨hw, Dev.bar2Write_inside hh hn hk hr⟩
  · intro offset bytes errs
    exact .bar2Write fun d ⟨hh, hw, hn, hr⟩ => ⟨hw, Dev.bar2Write_dropped hh hn hr⟩
  · intro offset bytes errs
    exact .of_onDev (fun s => (rfl : execBar2Write _ _ _ s = onDev _ s)) fun d ⟨hh, hw⟩ => if_pos (by rw [hh, hw]; rfl)
  · exact .of_onDev (fun s => (rfl : execReturnToD0 s = onDev _ s)) fun _ _ => rfl

end Sys2Proof.Machine
end

/-!
Proofs of the statements on 02_architecture.md: which `PAGE_CMD` commands are ignored and which wait (R48, R118), and where the
commands of the two planes and of their exchange complete.
-/
section
namespace Sys2Proof.Machine

/-! ## `PAGE_CMD` commands at their page -/

/-- Each command that `pageCmdOf` lists acts through its page's gate alone. -/
theorem exec_of_pageCmdOf {i : Instr} {p op : Nat} {x : CmdDef} {c : Cmd} (h : pageCmdOf i = some (p, op, x, c)) (s : State) :
    exec i s = onDev (fun d => d.cmd p op x c) s := by
  unfold pageCmdOf at h
  split at h <;> cases h <;> rfl

/-- While D00 is not held off, a listed command takes the device to the one that its page's gate answers. -/
theorem exec_pageCmd {i : Instr} {p op : Nat} {x : CmdDef} {c : Cmd} (h : pageCmdOf i = some (p, op, x, c)) {s : State}
    (hd : s.dev.down = 0) : exec i s = .next { s with dev := s.dev.cmd p op x c } := by
  rw [exec_of_pageCmdOf h, onDev, if_pos hd]

/-- Settles O11: the gate leaves the device alone before a page that is not reached, and puts a command that comes too soon behind
those that wait. -/
theorem commandsAreIgnoredOrWaitWhole : Obligations.CommandsAreIgnoredOrWaitWhole := by
  intro i p op x c hi s hd
  refine ⟨fun hr => ?_, fun hr hw hs => ?_⟩
  · rw [exec_pageCmd hi hd, Dev.cmd_unreached _ p op x c hr]
  · rw [exec_pageCmd hi hd, Dev.cmd_held _ p op x c hr hw hs]

section Planes

variable {d : Dev} {ch off val : Nat}

/-! ## The frame boundary and the deadline (R44, R45) -/

/-- A boundary while K03 runs: loop A judges, the frame gets its number, role changes happen and the frame begins. -/
theorem Dev.frameBoundary_running {slack : List (Nat × Nat)} {grid : List GridReading} (hk : d.k03 = true) :
    d.frameBoundary slack grid =
      let d := d.adapt slack d.anyMissed
      let r := ({ d with time := d.time + 65_536 }).twnFrame (d.frame + 1)
      (((r.2.gridFrame grid).twnBefore r.1).beginAt r.1).twnAfter.flrIdle r.1 :=
  if_neg (by simp only [hk, Bool.not_true, Bool.false_eq_true, not_false_eq_true])

/-- A missed deadline that is not the third in a row on its lane: counted and raised (R45). -/
theorem Dev.deadlineMiss_counted {lane : Nat} (hd : (d.str lane).missDue = true) (h3 : (d.str lane).misses ≠ 3) :
    d.deadlineMiss lane =
      ((d.strUpd lane fun x => { x with missDue := false }).bump GEN_DEADLINE_MISS_count).raise F_DEADLINE_MISS 0x000 lane :=
  (if_pos hd).trans (if_neg h3)

/-- The third missed deadline in a row on a lane: counted, raised, and raised as `DEADLINE_MISS_3` (R45). -/
theorem Dev.deadlineMiss_third {lane : Nat} (hd : (d.str lane).missDue = true) (h3 : (d.str lane).misses = 3) :
    d.deadlineMiss lane =
      (((d.strUpd lane fun x => { x with missDue := false }).bump GEN_DEADLINE_MISS_count).raise F_DEADLINE_MISS 0x000 lane).raise
        F_DEADLINE_MISS_3 0x000 lane :=
  (if_pos hd).trans (if_pos h3)

/-! ## A lost die (R43) -/

/-- A die's link that stood is lost: the die's lanes in ENUM or RUN go to SAFE, and the fault is raised. -/
theorem Dev.dieLose_lost {die detail : Nat} (h8 : die < 8) (hn : d.dieLost.testBit die = false) (hr : d.railGood 11 = true) :
    d.dieLose die detail =
      (each (dieLanes die) (fun l (d : Dev) =>
        if d.laneState l = 3 ∨ d.laneState l = 4 then
          (d.putFrm l { d.frm l with runNext := false }).laneEnter l 5 9
        else d) { d with dieLost := setBit d.dieLost die }).raise F_D2D_LOST 0x000 die detail :=
  if_pos (by simp only [h8, hn, hr, decide_true, Bool.not_false, Bool.and_self])

/-! ## Writes of the active table (R60, R235) -/

/-- A legal write of an active entry under the privileged view takes its word. -/
theorem Dev.tableWrite_active (hl : limLegal off (d.limRead d.sch.active off) val = true) (hf : limFields off ≠ []) :
    d.tableWrite ch true 1 off val = (true, d.activeWrite off val) := by
  have htook : (limLegal off (d.limRead d.sch.active off) val && !(limFields off).isEmpty) = true := by
    rw [hl, List.isEmpty_eq_false_iff.mpr hf]
    rfl
  exact congrArg (·, d.activeWrite off val) htook

/-- Such a write through the active table's window is taken, then recorded (R84). -/
theorem Dev.windowWrite_active (hon : d.pageOn (windowPage 1) = true) (hp : d.pairedStandby = false) (hr : d.ldgReserve = false)
    (hl : limLegal off (d.limRead d.sch.active off) val = true) (hf : limFields off ≠ []) :
    d.windowWrite ch true 1 off val = (d.activeWrite off val).privRecord ch 1 1 off val 0 rOK := by
  simp only [Dev.windowWrite, hon, hp, hr, Dev.tableWrite_active hl hf, Bool.not_true, Bool.false_eq_true, Nat.reduceLeDiff,
    false_and, and_false, or_self, if_false, Bool.and_self, if_true]

end Planes

/-! ## Completion -/

/-- A command whose meaning settles the clock unit afterwards completes with an effect settled in the same way. -/
theorem Completes.of_onLane {c : Instr} {cond : Dev → Prop} {f effect : Dev → Dev} (hf : ∀ s, exec c s = onLane f s)
    (h : ∀ d, cond d → f d = effect d) : Completes c cond (fun d => (effect d).clockSettle) :=
  .of_onDev (f := fun d => (f d).clockSettle) hf fun d hc => congrArg Dev.clockSettle (h d hc)

/-- Settles O44: each command's branch of its meaning; commands by the gate of their page, table writes by their window. -/
theorem planeCommandsComplete : Obligations.PlaneCommandsComplete := by
  refine ⟨?_, ?_, ?_, ?_, ?_, ?_, ?_, ?_, ?_, ?_, ?_, ?_⟩
  · intro start
    exact .of_onLane (fun s => (rfl : execFrameBoundary _ s = onLane _ s)) fun d hk => Dev.frameBoundary_running hk
  · intro lane
    exact .of_onDev (fun s => (rfl : execPlanAssembled _ s = onDev _ s)) fun d hc => if_pos hc
  · intro lane
    exact .of_onDev (fun s => (rfl : execFrameDeadlineMiss _ s = onDev _ s)) fun d ⟨hd, h3⟩ => Dev.deadlineMiss_counted hd h3
  · intro lane
    exact .of_onDev (fun s => (rfl : execFrameDeadlineMiss _ s = onDev _ s)) fun d ⟨hd, h3⟩ => Dev.deadlineMiss_third hd h3
  · exact .of_onDev (fun s => (rfl : execLimitTargetExchange s = onDev _ s)) fun d hc => if_pos hc
  · exact .of_onDev (fun s => (rfl : execBothCopiesEntryWrite s = onDev _ s)) fun d hc => if_pos hc
  · exact .of_onDev (fun s => (rfl : execHealthBoundary s = onDev _ s)) fun d hc => if_pos hc
  · intro die
    exact .of_onLane (fun s => (rfl : execD2dLinkLost _ s = onLane _ s)) fun d ⟨h8, hn, hr⟩ => Dev.dieLose_lost h8 hn hr
  · intro die
    exact .of_onLane (fun s => (rfl : execD2dRetrain _ s = onLane _ s)) fun d hc => if_pos hc
  · intro ch soon
    exact .of_onDev (fun s => (rfl : execSchCommit _ _ s = onDev _ s)) fun d hc => d.cmd_accepted _ _ _ _ hc
  · intro ch off val
    refine .of_onDev (fun s => (rfl : execActiveTableWrite _ _ _ s = onDev _ s)) ?_
    rintro d ⟨⟨hch, hu, hb, h4, hon, hp⟩, hw, hph, hcov, hr, hl, hf⟩
    have hops : d.covers ch (pageScope (windowPage 1)) = true := hcov
    rw [d.tableAccess_priv hch hu hb h4 (.inl Nat.one_lt_two) hw hph, hops, Dev.windowWrite_active hon hp hr hl hf]
  · intro ch soon
    exact .of_onDev (fun s => (rfl : execEstReload _ _ s = onDev _ s)) fun d ⟨hw, hacc⟩ => d.wakingCmd_accepted _ _ _ _ hw hacc

end Sys2Proof.Machine
end

/-!
Proofs of the statements on 03_register_pages_and_host_link.md: the queue of commands (R69), what a page's refusal changes (R79),
interrupt edges and page summaries (R76, R94–R96), accesses to BAR0 by size (R73), what a read disturbs (R7, R68), and where the
custody, DMA, interrupt and side-port commands complete.
-/
section
namespace Sys2Proof.Machine

/-! ## The queue of commands (R69) -/

/-- Settles O1. -/
theorem stepTakesFrontCommand : Obligations.StepTakesFrontCommand := fun _ _ _ => rfl

/-- Every command acts on the device alone: it answers a next state, and leaves the queue as it is. -/
theorem exec_acts_on_dev (c : Instr) : ∃ f : Dev → Dev, ∀ s, exec c s = .next { s with dev := f s.dev } := by
  cases hc : survivesHoldOff c with
  | false =>
    obtain ⟨f, hf⟩ := exec_onDev c hc
    exact ⟨fun d => if d.down = 0 then f d else d, hf⟩
  | true => exact exec_onAny c hc

/-- Settles O4, by induction on the commands: the first is taken alike with and without the rest behind it. -/
theorem queueDrainsInOrder : Obligations.QueueDrainsInOrder := by
  intro cs rest d
  induction cs generalizing d with
  | nil => exact ⟨d, rfl, rfl⟩
  | cons c cs ih =>
    obtain ⟨f, hf⟩ := exec_acts_on_dev c
    have hstep : ∀ q, core.step ⟨c :: q, d⟩ = .next ⟨q, f d⟩ := fun q => hf ⟨q, d⟩
    obtain ⟨e, hrest, halone⟩ := ih (f d)
    refine ⟨e, ?_, ?_⟩
    · simpa only [List.length_cons, List.cons_append, Host.Core.run, hstep] using hrest
    · simpa only [List.length_cons, Host.Core.run, hstep] using halone

/-! ## Commands judged and refused by their page (R79, R118) -/

/-- Settles O8. -/
theorem pageCommandsAreJudgedByTheirPage : Obligations.PageCommandsAreJudgedByTheirPage :=
  fun _ _ _ _ _ hi _ hd => exec_pageCmd hi hd

/-- The device with another queue of ledger records. -/
def Dev.withLdgQueue (d : Dev) (q : List LdgPend) : Dev := { d with ldg := { d.ldg with queue := q } }

/-- A record handed to the ledger changes its queue alone. -/
theorem Dev.record_eq_withLdgQueue (d : Dev) (kind flags : Nat) (body : List Part) (t src : Nat) :
    ∃ q, d.record kind flags body t src = d.withLdgQueue q := by
  unfold Dev.record
  split
  · exact ⟨d.ldg.queue, rfl⟩
  · exact ⟨_, rfl⟩

/-- The refusal of a listed command has no consequence of its own, but for `OPEN`, whose refusal is recorded (R87). -/
theorem pageCmdOf_refused {i : Instr} {p op : Nat} {x : CmdDef} {c : Cmd} (h : pageCmdOf i = some (p, op, x, c)) :
    x = cusOpen ∨ ∀ d, x.refused p c d = d := by
  unfold pageCmdOf at h
  split at h
  case h_8 => cases h; exact .inl rfl
  all_goals cases h <;> exact .inr fun _ => rfl

/-- What a listed command's refusal entails changes the ledger's queue alone. -/
theorem pageCmdOf_refused_eq_withLdgQueue {i : Instr} {p op : Nat} {x : CmdDef} {c : Cmd}
    (h : pageCmdOf i = some (p, op, x, c)) (d : Dev) : ∃ q, x.refused p c d = d.withLdgQueue q := by
  rcases pageCmdOf_refused h with rfl | hx
  · simp only [cusOpen]
    split
    · exact d.record_eq_withLdgQueue ..
    · exact ⟨d.ldg.queue, rfl⟩
  · exact ⟨d.ldg.queue, hx d⟩

/-- A listed command refused for another reason than BUSY is reported without a ticket, and beside that only the ledger's queue
can change. -/
theorem pageCmdOf_cmd_refused {i : Instr} {p op : Nat} {x : CmdDef} {c : Cmd} (h : pageCmdOf i = some (p, op, x, c)) (d : Dev)
    (hr : d.reaches c.ch p = true) (hw : d.mustWait c.ch (x.judge p op c d).priv = false) (hs : c.soon = false)
    (hl : d.tkt.held = []) (hv : d.verdictResult p (x.judge p op c d) ∈ [rBadArg, rBadState, rDenied]) :
    ∃ q, d.cmd p op x c = (d.report p c.ch (d.verdictResult p (x.judge p op c d)) 0).withLdgQueue q := by
  have hok : d.verdictResult p (x.judge p op c d) ≠ rOK := fun e => absurd (e ▸ hv) (by decide)
  have hbusy : d.verdictResult p (x.judge p op c d) ≠ rBusy := fun e => absurd (e ▸ hv) (by decide)
  rw [d.cmd_refused p op x c hr hw hs hl hok hbusy]
  generalize d.verdictResult p (x.judge p op c d) = r
  obtain ⟨q, hq⟩ : ∃ q, (if (x.judge p op c d).priv && d.privHeld p c.ch then d.cmdRecord p op c 0 r else d) = d.withLdgQueue q := by
    split
    · exact d.record_eq_withLdgQueue ..
    · exact ⟨d.ldg.queue, rfl⟩
  obtain ⟨q', hq'⟩ := pageCmdOf_refused_eq_withLdgQueue h ((d.withLdgQueue q).report p c.ch r 0)
  exact ⟨q', by simp only [hq, hq']; rfl⟩

/-- A report shows no ticket where none was issued. -/
theorem Dev.report_no_ticket (d : Dev) (page ch r : Nat) :
    (d.report page ch r 0).get PAGE_CMD_STATUS_ticket_lo (chPage page ch) = 0 ∧
      (d.report page ch r 0).get PAGE_TICKET_HI_ticket_hi (chPage page ch) = 0 := by
  refine ⟨?_, Dev.get_put_same ..⟩
  rw [Dev.report, Dev.get_put_field _ _ _ _ _ _ (by decide)]
  exact Dev.get_put_same ..

/-- A report changes the words of its page and channel alone. -/
theorem Dev.report_get_place (d : Dev) {page ch k : Nat} (r n : Nat) (f : Field) (h : k ≠ chPage page ch) :
    (d.report page ch r n).get f k = d.get f k := by
  simp only [Dev.report, Dev.get_put_place _ _ _ _ _ _ h.symm]

/-- A report changes no field but those of `PAGE_CMD_STATUS` and `PAGE_TICKET_HI`. -/
theorem Dev.report_get_field (d : Dev) (page ch r n : Nat) {f : Field} (k : Nat)
    (h : f.code ∉ [PAGE_CMD_STATUS_result.code, PAGE_CMD_STATUS_ticket_lo.code, PAGE_TICKET_HI_ticket_hi.code]) :
    (d.report page ch r n).get f k = d.get f k := by
  simp only [List.mem_cons, List.not_mem_nil, or_false, not_or] at h
  obtain ⟨hres, hlo, hhi⟩ := h
  rw [Dev.report, Dev.get_put_field _ _ _ _ _ _ (Ne.symm hhi), Dev.get_put_field _ _ _ _ _ _ (Ne.symm hlo),
    Dev.get_put_field _ _ _ _ _ _ (Ne.symm hres)]

/-- Settles O10: a refusal is a report without a ticket, over another queue of the ledger. -/
theorem refusedCommandTakesNoTicket : Obligations.RefusedCommandTakesNoTicket := by
  intro i p op x c hi s hd hr hw hs hl hv
  obtain ⟨q, hq⟩ := pageCmdOf_cmd_refused hi s.dev hr hw hs hl hv
  refine ⟨_, exec_pageCmd hi hd, rfl, ?_⟩
  simp only [hq]
  exact ⟨rfl, rfl, fun f k hf => s.dev.report_get_field p c.ch _ _ k hf, fun f k hk => s.dev.report_get_place _ _ f hk,
    s.dev.report_no_ticket p c.ch _⟩

/-! ## Bits of sets of words -/

/-- Setting a bit leaves the others. -/
theorem testBit_setBit_ne (n : Nat) {b c : Nat} (h : c ≠ b) : (setBit n b).testBit c = n.testBit c := by
  simp [setBit, Nat.testBit_or, Nat.testBit_two_pow_of_ne h.symm]

/-- Clearing a bit leaves the others. -/
theorem testBit_clrBit_ne (n : Nat) {b c : Nat} (h : c ≠ b) : (clrBit n b).testBit c = n.testBit c := by
  unfold clrBit
  split
  case isFalse => rfl
  case isTrue hb =>
    induction b generalizing n c with
    | zero =>
      obtain ⟨c, rfl⟩ := Nat.exists_eq_succ_of_ne_zero h
      simp only [Nat.testBit_zero, decide_eq_true_eq] at hb
      rw [Nat.testBit_succ, Nat.testBit_succ]
      congr 1
      omega
    | succ b ih =>
      have hle := Nat.ge_two_pow_of_testBit hb
      have h2 : 2 ^ (b + 1) = 2 * 2 ^ b := Nat.pow_succ'
      cases c with
      | zero =>
        simp only [Nat.testBit_zero, decide_eq_decide]
        omega
      | succ c =>
        have hhalf : (n - 2 ^ (b + 1)) / 2 = n / 2 - 2 ^ b := by omega
        rw [Nat.testBit_succ, Nat.testBit_succ, hhalf]
        exact ih _ (by omega) (by rwa [Nat.testBit_succ] at hb)

/-- A set of 32-bit words: writing one bit leaves the others. -/
theorem Dev.wbit_putWbit_ne (d : Dev) {f : Field} (hf : f.width = 32) {b c : Nat} (v : Bool) (h : c ≠ b) :
    (d.putWbit f b v).wbit f c = d.wbit f c := by
  unfold Dev.wbit Dev.putWbit
  by_cases hw : b / 32 = c / 32
  · have hne : c % 32 ≠ b % 32 := by omega
    have hlt : c % 32 < 32 := Nat.mod_lt _ (by decide)
    rw [hw, Dev.get_put_same, hf, bit, bit, Nat.testBit_mod_two_pow]
    cases v <;> simp [hlt, testBit_clrBit_ne _ hne, testBit_setBit_ne _ hne]
  · rw [Dev.get_put_place _ _ _ _ _ _ hw]

/-- A bit that was set reads as set. -/
theorem Dev.wbit_putWbit_set (d : Dev) {f : Field} (hf : f.width = 32) (b : Nat) : (d.putWbit f b true).wbit f b = true := by
  have hlt : b % 32 < 32 := Nat.mod_lt _ (by decide)
  rw [Dev.wbit, Dev.putWbit, Dev.get_put_same, hf, bit, Nat.testBit_mod_two_pow]
  simp [setBit, hlt]

/-- The bits of another set stay. -/
theorem Dev.wbit_putWbit_field (d : Dev) {f g : Field} (b c : Nat) (v : Bool) (h : f.code ≠ g.code) :
    (d.putWbit f b v).wbit g c = d.wbit g c := by
  rw [Dev.wbit, d.putWbit_get g b _ v h, Dev.wbit]

/-! ## Interrupt edges (R94–R96) -/

/-- A source that is not both pending and enabled is not delivered. -/
theorem Dev.irqDeliver_idle {d : Dev} {src : Nat} (h : d.irqLive src = false) : d.irqDeliver src = d := by
  simp [Dev.irqDeliver, h]

/-- A live source of a target from 0 to 3 holds its MSI-X message. -/
theorem Dev.irqDeliver_msix {d : Dev} {src : Nat} (h : d.irqLive src = true) (ht : d.irqTarget src ≤ 3) :
    d.irqDeliver src = d.holdMsix (d.irqVector src) := by
  simp [Dev.irqDeliver, h, ht]

/-- A held MSI-X message is waiting to be sent. -/
theorem Dev.mem_holdMsix (d : Dev) (v : Nat) : v ∈ (d.holdMsix v).msixPend := by
  unfold Dev.holdMsix
  split
  · assumption
  · exact List.mem_append_right _ (List.mem_singleton_self v)

/-- An edge of a source that does not pend sets its bit, and the source is delivered. -/
theorem Dev.irqEdge_clear {d : Dev} {src : Nat} (h : d.wbit IRQ_PEND_pend src = false) :
    d.irqEdge src = (d.putWbit IRQ_PEND_pend src true).irqDeliver src := by
  simp [Dev.irqEdge, h]

section Edges

variable (d : Dev) (src : Nat)

/-- What a delivery does to the register fields: a live source of target 7 goes out on a service link that is up, and its bit
clears; otherwise no field changes but the count of refused records. -/
theorem Dev.irqDeliver_cases :
    (d.irqLive src = true ∧ d.irqTarget src = 7 ∧ 2 ≤ d.get PD_STATUS_sl_state ∧
      d.irqDeliver src = ((d.slSend (slHeader 0xA0 0 0 0 0 src) []).putWbit IRQ_PEND_pend src false).summaryAgain src) ∨
    ∀ (f : Field) (k : Nat), LDG_FULL_REFUSALS_count.code ≠ f.code → LDG_FULL_REFUSALS_sat.code ≠ f.code →
      (d.irqDeliver src).get f k = d.get f k := by
  unfold Dev.irqDeliver
  split
  · exact .inr fun _ _ _ _ => rfl
  next hlive =>
    simp only [Bool.not_eq_true, Bool.not_eq_false'] at hlive
    simp only
    split
    · exact .inr fun f k _ _ => d.get_holdMsix _ f k
    split
    · exact .inr fun _ _ _ _ => by split <;> rfl
    split
    · refine .inr fun f k hc hs => ?_
      split
      · exact d.bumpS_get_other 0 k 1 hc hs
      · split
        · rfl
        · exact d.record_get ..
    split
    next h7 =>
      split
      next hup => exact .inl ⟨hlive, h7, hup, rfl⟩
      next => exact .inr fun _ _ _ _ => rfl
    · exact .inr fun _ _ _ _ => rfl

/-- A page summary that pends again touches no bit but its own. -/
theorem Dev.summaryAgain_wbit_ne {c : Nat} (h : c ≠ src) :
    (d.summaryAgain src).wbit IRQ_PEND_pend c = d.wbit IRQ_PEND_pend c := by
  unfold Dev.summaryAgain
  split
  · exact d.wbit_putWbit_ne rfl true h
  · rfl

/-- A page summary that pends again changes no other field. -/
theorem Dev.summaryAgain_get_other {f : Field} (k : Nat) (hp : IRQ_PEND_pend.code ≠ f.code) :
    (d.summaryAgain src).get f k = d.get f k := by
  unfold Dev.summaryAgain
  split
  · exact d.putWbit_get _ _ _ _ hp
  · rfl

/-- A delivery changes the pending bits and the count of refused records alone. -/
theorem Dev.irqDeliver_get_other {f : Field} (k : Nat) (hp : IRQ_PEND_pend.code ≠ f.code)
    (hc : LDG_FULL_REFUSALS_count.code ≠ f.code) (hs : LDG_FULL_REFUSALS_sat.code ≠ f.code) :
    (d.irqDeliver src).get f k = d.get f k := by
  rcases d.irqDeliver_cases src with ⟨-, -, -, heq⟩ | hget
  · rw [heq, Dev.summaryAgain_get_other _ _ _ hp, Dev.putWbit_get _ _ _ _ _ hp, Dev.slSend_get]
  · exact hget f k hc hs

/-- An edge leaves the raw bits of the pages. -/
theorem Dev.irqEdge_raw (k : Nat) : (d.irqEdge src).get PAGE_IRQ_RAW_raw k = d.get PAGE_IRQ_RAW_raw k := by
  unfold Dev.irqEdge
  split
  · exact d.bump_get_other _ _ _ (by decide)
  · rw [Dev.irqDeliver_get_other _ _ _ (by decide) (by decide) (by decide), Dev.putWbit_get _ _ _ _ _ (by decide)]

/-- A delivery touches no pending bit but its source's. -/
theorem Dev.irqDeliver_wbit_ne {c : Nat} (h : c ≠ src) :
    (d.irqDeliver src).wbit IRQ_PEND_pend c = d.wbit IRQ_PEND_pend c := by
  rcases d.irqDeliver_cases src with ⟨-, -, -, heq⟩ | hget
  · rw [heq, Dev.summaryAgain_wbit_ne _ _ h, Dev.wbit_putWbit_ne _ rfl _ h, Dev.wbit, Dev.slSend_get, Dev.wbit]
  · rw [Dev.wbit, hget _ _ (by decide) (by decide), Dev.wbit]

/-- A delivery leaves its source's bit, unless it is sent on the service link. -/
theorem Dev.irqDeliver_wbit_same
    (h : ¬(d.irqLive src = true ∧ d.irqTarget src = 7 ∧ 2 ≤ d.get PD_STATUS_sl_state)) :
    (d.irqDeliver src).wbit IRQ_PEND_pend src = d.wbit IRQ_PEND_pend src := by
  rcases d.irqDeliver_cases src with ⟨hlive, h7, hup, -⟩ | hget
  · exact absurd ⟨hlive, h7, hup⟩ h
  · rw [Dev.wbit, hget _ _ (by decide) (by decide), Dev.wbit]

/-- The device with the source's bit set: the source is live exactly where it is enabled. -/
theorem Dev.irqLive_pended : (d.putWbit IRQ_PEND_pend src true).irqLive src = d.wbit IRQ_EN_en src := by
  rw [Dev.irqLive, d.wbit_putWbit_set rfl, d.wbit_putWbit_field _ _ _ (by decide), Bool.true_and]

/-- Setting a pending bit leaves the targets. -/
theorem Dev.irqTarget_pended : (d.putWbit IRQ_PEND_pend src true).irqTarget src = d.irqTarget src :=
  d.putWbit_get _ _ _ _ (by decide)

end Edges

/-- Settles O14: an edge on a pending source is counted; any other sets the bit and is delivered, which the cases of a delivery
describe. -/
theorem edgeIsLatchedOrCountedLost : Obligations.EdgeIsLatchedOrCountedLost := by
  intro d src _
  refine ⟨fun hpend => ?_, fun hclear => ?_, fun f k hf => d.irqEdge_get src f k hf, d.irqEdge_unsignalled src⟩
  · rw [Dev.irqEdge, if_pos hpend]
    rfl
  · rw [Dev.irqEdge_clear hclear]
    refine ⟨?_, fun c _ hc => ?_, fun hsent => ?_, fun hen => ?_, fun hen htarget => ?_⟩
    · rw [Dev.irqDeliver_get_other _ _ _ (by decide) (by decide) (by decide), Dev.putWbit_get _ _ _ _ _ (by decide)]
    · rw [Dev.irqDeliver_wbit_ne _ _ hc, d.wbit_putWbit_ne rfl _ hc]
    · rw [Dev.irqDeliver_wbit_same, d.wbit_putWbit_set rfl]
      rwa [d.irqLive_pended, d.irqTarget_pended, Dev.putWbit_get _ _ _ _ _ (by decide)]
    · exact Dev.irqDeliver_idle ((d.irqLive_pended src).trans hen)
    · rw [← d.irqTarget_pended src] at htarget
      rw [Dev.irqDeliver_msix ((d.irqLive_pended src).trans hen) htarget, ← d.irqTarget_pended src]
      exact Dev.mem_holdMsix ..

/-! ## Page summaries (R76, R94) -/

/-- The device with a bit of a page's `PAGE_IRQ_RAW` set. -/
def Dev.setRaw (d : Dev) (page b : Nat) : Dev := d.put PAGE_IRQ_RAW_raw (setBit (d.get PAGE_IRQ_RAW_raw page) b) page

/-- A block event sets its raw bit; the summary has an edge where that makes `PAGE_IRQ_PEND` non-zero. -/
theorem Dev.pageIrq_eq (d : Dev) (page b : Nat) :
    d.pageIrq page b =
      if d.pagePend page = 0 ∧ (d.setRaw page b).pagePend page ≠ 0 then (d.setRaw page b).irqEdge page else d.setRaw page b := rfl

/-- Where nothing pends, a raw bit that is set makes `PAGE_IRQ_PEND` non-zero exactly where the bit is enabled. -/
theorem pend_setBit_eq_zero_iff {raw en b : Nat} (hb : b < 32) (h : raw &&& en = 0) :
    setBit raw b % 2 ^ 32 &&& en = 0 ↔ en.testBit b = false := by
  have hbit : ∀ c, (setBit raw b % 2 ^ 32 &&& en).testBit c = (decide (c = b) && en.testBit b) := by
    intro c
    have hc : (raw.testBit c && en.testBit c) = false := by rw [← Nat.testBit_and, h, Nat.zero_testBit]
    rw [Nat.testBit_and, Nat.testBit_mod_two_pow]
    by_cases hcb : c = b
    · subst hcb
      simp [setBit, hb]
    · rw [testBit_setBit_ne raw hcb, Bool.and_assoc, hc]
      simp [hcb]
  constructor
  · intro h0
    rw [h0] at hbit
    simpa using (hbit b).symm
  · intro hen
    exact Nat.eq_of_testBit_eq fun c => by rw [hbit, hen, Bool.and_false, Nat.zero_testBit]

/-- Where nothing pends on the page, an event makes `PAGE_IRQ_PEND` non-zero exactly where its bit is enabled. -/
theorem Dev.pagePend_setRaw_eq_zero_iff {d : Dev} {page b : Nat} (hb : b < 32) (h : d.pagePend page = 0) :
    (d.setRaw page b).pagePend page = 0 ↔ (d.get PAGE_IRQ_EN_en page).testBit b = false := by
  rw [Dev.pagePend, Dev.setRaw, Dev.get_put_same, Dev.get_put_field _ _ _ _ _ _ (by decide)]
  exact pend_setBit_eq_zero_iff hb h

/-- Settles O15: whether the summary rises is whether the event's bit is the first to pend. -/
theorem pageSummaryRisesOnce : Obligations.PageSummaryRisesOnce := by
  intro d page b hb
  rw [Dev.pageIrq_eq]
  refine ⟨?_, fun hquiet => if_neg ?_, fun hzero hen => if_pos ⟨hzero, ?_⟩⟩
  · split
    · rw [Dev.irqEdge_raw]
      exact Dev.get_put_same ..
    · exact Dev.get_put_same ..
  · rintro ⟨hzero, hpend⟩
    have hen := hquiet.resolve_left (not_not_intro hzero)
    exact hpend ((Dev.pagePend_setRaw_eq_zero_iff hb hzero).mpr hen)
  · rw [Ne, Dev.pagePend_setRaw_eq_zero_iff hb hzero, hen]
    decide

/-! ## Accesses to BAR0 (R7, R68, R73) -/

section Accesses

variable {s : State} {ch addr size v : Nat} {soon : Bool}

/-- An access that R73 does not take. -/
theorem barAccess_bad (h4 : ¬(size = 4 ∧ addr % 4 = 0)) (h8 : ¬(size = 8 ∧ addr % 8 = 0)) : barAccess addr size = false := by
  simp only [barAccess, Bool.or_eq_false_iff, Bool.and_eq_false_iff, beq_eq_false_iff_ne]
  exact ⟨Decidable.not_and_iff_not_or_not.mp h4, Decidable.not_and_iff_not_or_not.mp h8⟩

/-- A read that need not wait stands behind no write that waits at its link. -/
theorem Dev.mustWait_of_readWaits {d : Dev} (hw : d.readWaits ch addr size = false) : d.mustWait ch false = false := by
  simp only [Dev.readWaits, Bool.or_eq_false_iff] at hw
  exact hw.1

/-- A write of a wrong size or alignment that need not wait is counted. -/
theorem Dev.barWrite_bad {d : Dev} (hu : d.channelUp ch = true) (hw : d.mustWait ch false = false)
    (hb : barAccess addr size = false) : d.barWrite ch addr size v soon = d.badAccess := by
  simp only [Dev.barWrite, Dev.decodes_of_channelUp hu, hb, hw, Bool.not_false, Bool.false_eq_true, if_true, if_false]

/-- A read of a wrong size or alignment answers 0 and is counted. -/
theorem Dev.answerRead_bad {d : Dev} (hb : barAccess addr size = false) :
    d.answerRead ch addr size = d.badAccess.emit .readData ch [addr, 0] := by
  rw [Dev.answerRead, Dev.barRead, hb]
  rfl

/-- `REGISTER_WRITE` to BAR0 through a link's channel. -/
theorem exec_registerWrite (hd : s.dev.down = 0) (hch : ch < 2) (ha : addr < 2 ^ 26) :
    exec (.registerWrite ch addr size v soon) s = .next { s with dev := s.dev.barWrite ch addr size v soon } :=
  Completes.registerWrite (cond := fun _ => True) (fun _ _ => ⟨⟨ha, hch⟩, rfl⟩) s hd trivial

/-- `SNAP_READ` of BAR0 through a link's channel that is up, where it need not wait. -/
theorem exec_snapRead (hd : s.dev.down = 0) (hch : ch < 2) (ha : addr < 2 ^ 26) (hu : s.dev.channelUp ch = true)
    (hw : s.dev.readWaits ch addr size = false) :
    exec (.snapRead ch addr size) s = .next { s with dev := s.dev.answerRead ch addr size } :=
  Completes.snapRead (cond := fun d => d.channelUp ch = true ∧ d.readWaits ch addr size = false)
    (fun _ ⟨hu, hw⟩ => ⟨⟨ha, hch, hu, hw⟩, rfl⟩) s hd ⟨hu, hw⟩

end Accesses

/-- Settles O18: by the size and alignment that R73 takes or does not take. -/
theorem badAccessesAreCounted : Obligations.BadAccessesAreCounted := by
  intro s ch addr size v soon hd hch ha hu hw
  rw [exec_registerWrite hd hch ha, exec_snapRead hd hch ha hu hw]
  refine ⟨fun h4 h8 => ?_, ?_, ?_⟩
  · have hb := barAccess_bad h4 h8
    rw [Dev.barWrite_bad hu (Dev.mustWait_of_readWaits hw) hb, Dev.answerRead_bad hb]
    exact ⟨rfl, rfl⟩
  · rintro rfl h4
    rw [Dev.barWrite_four hu h4, Dev.answerRead_four h4]
    exact ⟨rfl, rfl⟩
  · rintro rfl h8
    rw [Dev.barWrite_eight hu h8, Dev.answerRead_eight h8]
    exact ⟨rfl, rfl⟩

/-- What reads through a channel leave as it was: all but that channel's latches and the note on `SCH_REJ_COUNT`. -/
structure ReadFrame (ch : Nat) (d e : Dev) : Prop where
  rest : { e with snap := d.snap, sch := { e.sch with rejSince := d.sch.rejSince } } = d
  latches : ∀ k z, k % 8 ≠ ch → e.snap.get k z = d.snap.get k z

/-- A read without effects. -/
theorem ReadFrame.refl (ch : Nat) (d : Dev) : ReadFrame ch d d := ⟨rfl, fun _ _ _ => rfl⟩

/-- A latch's key names its channel. -/
theorem snapKey_mod_eight (page off : Nat) {ch : Nat} (h : ch < 8) : snapKey page off ch % 8 = ch := by
  unfold snapKey
  omega

/-- Reading a word of a page keeps to the channel's own latches. -/
theorem Dev.readEffect_frame (d : Dev) {ch : Nat} (h : ch < 8) (page off : Nat) : ReadFrame ch d (d.readEffect ch page off) := by
  have hlatch : ∀ w, ReadFrame ch d { d with snap := d.snap.put (snapKey page (off + 4) ch) w } := fun w =>
    ⟨rfl, fun k z hk => SMap.get_put_other _ _ _ fun he => hk (he ▸ snapKey_mod_eight page (off + 4) h)⟩
  have hnote : ∀ e, ReadFrame ch d e → ReadFrame ch d { e with sch := { e.sch with rejSince := false } } :=
    fun e he => ⟨he.rest, he.latches⟩
  unfold Dev.readEffect
  split
  · exact .refl ch d
  · dsimp only
    split
    · split
      · exact hnote _ (hlatch _)
      · exact hnote _ (.refl ch d)
    · split
      · exact hlatch _
      · exact .refl ch d

/-- An address of the lower half of BAR0, not of the `EST` and `IMP` pages, reads a page without waking anything. -/
theorem Dev.busRead_page_frame (d : Dev) {ch addr : Nat} (hch : ch < 2) (ha : addr < 2 ^ 25) (h16 : addr % 2 ^ 24 / 0x1000 ≠ 0x16)
    (h17 : addr % 2 ^ 24 / 0x1000 ≠ 0x17) : ReadFrame ch d (d.busRead ch addr).2 := by
  have harea : addr / 2 ^ 24 % 4 < 2 := by omega
  have hwake : wakesAt (addr / 2 ^ 24 % 4) (addr % 2 ^ 24) = false := by
    simp only [wakesAt, harea, if_true, Bool.or_eq_false_iff, beq_eq_false_iff_ne]
    exact ⟨h16, h17⟩
  simp only [Dev.busRead, hwake, Bool.false_eq_true, if_false, harea, if_true]
  split
  · exact .refl ch d
  split
  · exact .refl ch d
  · exact d.readEffect_frame (by omega) _ _

/-- Settles O19: the completion leaves, over a device that the read of a page's word gives. -/
theorem readsDisturbNoOtherChannel : Obligations.ReadsDisturbNoOtherChannel := by
  intro s ch addr hd hch ha h4 hu hw h16 h17
  obtain ⟨hrest, hlatches⟩ := s.dev.busRead_page_frame hch ha h16 h17
  refine ⟨_, exec_snapRead hd hch (by omega) hu hw, rfl, ?_⟩
  rw [Dev.answerRead_four h4]
  have hsent : (s.dev.busRead ch addr).2.sent = s.dev.sent := (congrArg Dev.sent hrest :)
  refine ⟨?_, ⟨_, congrArg (_ :: ·) hsent⟩, hlatches⟩
  rw [← hsent]
  exact hrest

/-! ## Custody (R84–R89) -/

/-- Settles O42: each command's branch of its meaning; commands by the gate of the `CUS` page. -/
theorem custodyCommandsComplete : Obligations.CustodyCommandsComplete := by
  refine ⟨?_, ?_, ?_, ?_, ?_, ?_, ?_, ?_, ?_⟩
  · exact .of_onDev (fun s => (rfl : execPrivWriteEnterQueue s = onDev _ s)) fun _ _ => rfl
  · intro c
    exact .of_onDev (fun s => (rfl : execCusNonce _ s = onDev _ s)) fun d hc => d.cmd_accepted _ _ _ _ hc
  · intro c
    exact .of_onDev (fun s => (rfl : execSignIn _ s = onDev _ s)) fun d hc => d.cmd_accepted _ _ _ _ hc
  · intro j rest
    refine .of_onDev (fun s => (rfl : execSignInVerifyDone s = onDev _ s)) fun d ⟨hcur, hjobs⟩ => ?_
    simp only [hcur, hjobs, bne_self_eq_false, Bool.false_eq_true, if_false]
  · intro c
    exact .of_onDev (fun s => (rfl : execCusOpen _ s = onDev _ s)) fun d hc => d.cmd_accepted _ _ _ _ hc
  · intro c
    exact .of_onDev (fun s => (rfl : execCusClose _ s = onDev _ s)) fun d hc => d.cmd_accepted _ _ _ _ hc
  · intro ch
    exact .of_onDev (fun s => (rfl : execSessionExpiry _ s = onDev _ s)) fun d ⟨hopen, hdue⟩ =>
      (if_pos (decide_eq_true hdue)).trans (if_pos hopen)
  · intro ch
    refine .of_onDev (fun s => (rfl : execNonceExpiry _ s = onDev _ s)) fun d hlive => if_neg ?_
    simpa using hlive
  · intro ch
    exact .of_onDev (fun s => (rfl : execLockoutExpiry _ s = onDev _ s)) fun _ _ => rfl

/-! ## Registers written by an operation of their own (R90, R95, R96) -/

section OwnRegisters

/-- The word of a page's own registers, on a page below `TWN`, is written by an operation of its own through both views. -/
structure OwnWord (page off val : Nat) (act : Dev → Dev) : Prop where
  page_lt : page < 0x11 := by omega
  off_ge : 0x100 ≤ off := by omega
  off_lt : off < 0x1000 := by omega
  aligned : off % 4 = 0 := by omega
  written : ∀ (d : Dev) ch p, d.ownWrite ch p page off val = some (true, act d)

variable {ch page off val word ring : Nat} {act : Dev → Dev}

/-- `IRQ_PEND` is written by its own operation. -/
theorem OwnWord.irqPend (h : word < 32) : OwnWord 0x003 (0x100 + 4 * word) val (fun d => d.irqPendWrite word val) where
  written d ch p := by
    have hoff : 0x100 + 4 * word < 0x180 := by omega
    simp [Dev.ownWrite, msixTableWord, hoff]

/-- `IRQ_EN` is written by its own operation. -/
theorem OwnWord.irqEn (h : word < 32) : OwnWord 0x003 (0x180 + 4 * word) val (fun d => d.irqEnWrite word val) where
  written d ch p := by
    have hpend : ¬0x180 + 4 * word < 0x180 := by omega
    have hoff : 0x180 + 4 * word < 0x200 := by omega
    simp [Dev.ownWrite, msixTableWord, hpend, hoff]

/-- `IRQ_TARGET` is written by its own operation. -/
theorem OwnWord.irqTarget (h : word < 128) : OwnWord 0x003 (0x200 + 4 * word) val (fun d => d.irqTargetWrite word val) where
  written d ch p := by
    have hpend : ¬0x200 + 4 * word < 0x180 := by omega
    have hen : ¬0x200 + 4 * word < 0x200 := by omega
    have hoff : 0x200 + 4 * word < 0x400 := by omega
    simp [Dev.ownWrite, msixTableWord, hpend, hen, hoff]

/-- A ring's `DMA_RING_TAIL` is written by its own operation. -/
theorem OwnWord.dmaTail (h : ring < 16) : OwnWord 0x006 (0x10C + 32 * ring) val (fun d => d.dmaTail ring val) where
  written d ch p := by
    have hoff : 0x100 ≤ 0x10C + 32 * ring ∧ 0x10C + 32 * ring < 0x300 := by omega
    have hring : (0x10C + 32 * ring - 0x100) / 32 = ring := by omega
    have hmod : (0x10C + 32 * ring) % 32 = 0x0C := by omega
    simp [Dev.ownWrite, msixTableWord, hoff, hring, hmod]

/-- A ring's `DMA_RING_CTRL` is written by its own operation. -/
theorem OwnWord.dmaEnable (h : ring < 16) : OwnWord 0x006 (0x114 + 32 * ring) val (fun d => d.dmaEnable ring val) where
  written d ch p := by
    have hoff : 0x100 ≤ 0x114 + 32 * ring ∧ 0x114 + 32 * ring < 0x300 := by omega
    have hring : (0x114 + 32 * ring - 0x100) / 32 = ring := by omega
    have hmod : (0x114 + 32 * ring) % 32 = 0x14 := by omega
    simp [Dev.ownWrite, msixTableWord, hoff, hring, hmod]

/-- Such a word through the unprivileged view. -/
theorem OwnWord.regWrite (h : OwnWord page off val act) {d : Dev} (ht : d.takesWrite ch page) :
    d.regWrite ch false page off val = act d := by
  obtain ⟨hp, h100, ho, h4, hown⟩ := h
  rw [d.regWrite_unpriv ht (by omega) ho, d.wokenBy_other (by omega)]
  obtain ⟨-, -, -, hs⟩ := ht
  exact d.pageWrite_own (decide_eq_true (by omega)) hs h4 (by omega) (by omega) (hown d ch false)

/-- Such a word through the privileged view: recorded, then written (R84). -/
theorem OwnWord.regWrite_priv (h : OwnWord page off val act) {d : Dev} (ht : d.takesPriv ch page) :
    d.regWrite ch true page off val = act (d.privRecord ch 0 page off val 0 rOK) := by
  obtain ⟨hp, h100, ho, h4, hown⟩ := h
  rw [d.regWrite_priv ht (by omega) ho (by omega), d.wokenBy_other (by omega)]
  obtain ⟨-, -, -, hs, -, -, hl⟩ := ht
  exact d.pageWrite_own_priv (decide_eq_true (by omega)) hs h4 (by omega) hl (by omega) (hown d ch true) (hown _ ch true)

variable {c : Instr} {k : Prop} [Decidable k]

/-- A command that writes such a word, where its operands allow it, completes with the word's operation. -/
theorem Completes.ownWord (h : k → OwnWord page off val act)
    (hf : ∀ s, exec c s = onDev (fun d => if k then d.regWrite ch false page off val else d) s) :
    Completes c (fun d => k ∧ d.takesWrite ch page) act :=
  .of_onDev hf fun _ ⟨hk, ht⟩ => (if_pos hk).trans ((h hk).regWrite ht)

/-- The same through the privileged view. -/
theorem Completes.ownWord_priv (h : k → OwnWord page off val act)
    (hf : ∀ s, exec c s = onDev (fun d => if k then d.regWrite ch true page off val else d) s) :
    Completes c (fun d => k ∧ d.takesPriv ch page) (fun d => act (d.privRecord ch 0 page off val 0 rOK)) :=
  .of_onDev hf fun _ ⟨hk, ht⟩ => (if_pos hk).trans ((h hk).regWrite_priv ht)

end OwnRegisters

/-! ## Descriptors (R90–R93) -/

/-- Writing a ring's head leaves the count of open tickets. -/
theorem Dev.railFull_put_head (d : Dev) (v ring : Nat) : (d.put DMA_RING_HEAD_head v ring).railFull = d.railFull := by
  rw [Dev.railFull, Dev.get_put_field _ _ _ _ _ _ (by decide), Dev.railFull]

/-- A descriptor that has data to move is fetched under its ticket and joins its ring. -/
theorem Dev.descTake_issued {d : Dev} {ring bytes : Nat} (hmay : d.descMay ring bytes = true) (hfull : d.railFull = false)
    (hlen : (descParse (leBytes 32 bytes) (d.dmaBase ring + 32 * d.get DMA_RING_HEAD_head ring) 0).len ≠ 0) :
    d.descTake ring bytes =
      let head := d.get DMA_RING_HEAD_head ring
      let slot := d.dmaBase ring + 32 * head
      let x := descParse (leBytes 32 bytes) slot 0
      let d := (d.emit .hostRead ring [slot, 32]).put DMA_RING_HEAD_head ((head + 1) % d.dmaSize ring) ring
      let r := d.issue 0 0x006 0 (0x10C + 0x20 * ring) (descUnits x.space x.dev x.len)
      r.2.putRing ring (r.2.dmaRing ring ++ [{ x with ticket := r.1 }]) := by
  have hemit : ∀ ws, (d.emit .hostRead ring ws).railFull = false := fun _ => hfull
  simp only [Dev.descTake, hmay, Bool.not_true, Bool.false_eq_true, if_false, Dev.railFull_put_head, hemit]
  exact if_neg hlen

/-- Settles O43: each command's branch of its meaning; register writes by the operation of their word. -/
theorem dmaAndInterruptCommandsComplete : Obligations.DmaAndInterruptCommandsComplete := by
  refine ⟨?_, ?_, ?_, ?_, ?_, ?_, ?_, ?_, ?_, ?_, ?_, ?_, ?_, ?_, ?_, ?_, ?_, ?_⟩
  · exact fun _ _ _ => .ownWord .dmaEnable (fun s => (rfl : execDmaRingEnable _ _ _ _ s = onDev _ s))
  · exact fun _ _ _ => .ownWord_priv .dmaEnable (fun s => (rfl : execDmaRingEnable _ _ _ _ s = onDev _ s))
  · exact fun _ _ _ => .ownWord .dmaTail (fun s => (rfl : execDmaTailWrite _ _ _ _ s = onDev _ s))
  · exact fun _ _ _ => .ownWord_priv .dmaTail (fun s => (rfl : execDmaTailWrite _ _ _ _ s = onDev _ s))
  · intro ring bytes
    refine .of_onDev (fun s => (rfl : execDescriptorFetch _ _ s = onDev _ s)) ?_
    rintro d ⟨hmay, -, hheld, hspaced, hfull, hlen⟩
    simp only [Dev.descFetch, hmay, hheld, hspaced, Bool.not_true, Bool.or_self, Bool.false_eq_true, if_false, if_true]
    exact Dev.descTake_issued hmay hfull hlen
  · intro ring data errs x rest m e
    refine .of_onDev (fun s => (rfl : execDescriptorComplete _ _ _ s = onDev _ s)) ?_
    rintro d ⟨hring, hlive, hmove⟩
    simp only [hring, hlive, if_true, hmove]
  · intro ring x rest
    refine .of_onDev (fun s => (rfl : execDmaHostError _ s = onDev _ s)) ?_
    rintro d ⟨hring, hlive⟩
    simp only [hring, hlive, if_true]
  · intro src
    exact .of_onDev (fun s => (rfl : execIrqSourceEdge _ s = onDev _ s)) fun d hc => if_pos hc
  · intro vector busMaster
    exact .of_onDev (fun s => (rfl : execMsixDelivery _ _ s = onDev _ s)) fun d hc => if_pos hc
  · exact fun _ _ _ => .ownWord .irqPend (fun s => (rfl : execIrqPendWrite _ _ _ _ s = onDev _ s))
  · exact fun _ _ _ => .ownWord_priv .irqPend (fun s => (rfl : execIrqPendWrite _ _ _ _ s = onDev _ s))
  · exact fun _ _ _ => .ownWord .irqEn (fun s => (rfl : execIrqEnWrite _ _ _ _ s = onDev _ s))
  · exact fun _ _ _ => .ownWord_priv .irqEn (fun s => (rfl : execIrqEnWrite _ _ _ _ s = onDev _ s))
  · exact fun _ _ _ => .ownWord .irqTarget (fun s => (rfl : execIrqTargetWrite _ _ _ _ s = onDev _ s))
  · exact fun _ _ _ => .ownWord_priv .irqTarget (fun s => (rfl : execIrqTargetWrite _ _ _ _ s = onDev _ s))
  · intro src
    refine .of_onDev (fun s => (rfl : execIntNPulse s = onDev _ s)) ?_
    rintro d ⟨hidle, hnext⟩
    simp only [hidle, hnext, bne_self_eq_false, Bool.false_eq_true, if_false]
  · exact .of_onDev (fun s => (rfl : execIntNPulseEnd s = onDev _ s)) fun d hbusy => if_neg (by simpa using hbusy)
  · intro opcode addr n
    exact .of_onDev (fun s => (rfl : execSidePortRead _ _ _ s = onDev _ s)) fun d hc => if_pos hc

end Sys2Proof.Machine
end

/-!
Proofs of the statements on 04_faults_and_tickets.md: the order of refusals (R123), issuing and closing tickets (R118–R122), the
hold-off of a fault (R106), what reset leaves, and where the commands of faults, acknowledgements and tickets complete.
-/
section
namespace Sys2Proof.Machine

/-! ## The order of refusals (R79, R123) -/

section Refusals

variable {d : Dev} {page op : Nat} {v : Verdict} {c : Cmd} {effect : Nat → Dev → Dev} {refused : Dev → Dev}

/-- A privilege refusal comes first. -/
theorem Dev.verdictResult_denied (h : v.denied = true) : d.verdictResult page v = rDenied := if_pos h

/-- A bad argument comes next. -/
theorem Dev.verdictResult_badArg (hd : v.denied = false) (h : v.badArg = true) : d.verdictResult page v = rBadArg := by
  simp only [Dev.verdictResult, hd, h, Bool.false_eq_true, if_false, if_true]

/-- A wrong state, or a contained block, comes after them. -/
theorem Dev.verdictResult_badState (hd : v.denied = false) (ha : v.badArg = false)
    (h : v.badState = true ∨ d.refusing page = true) : d.verdictResult page v = rBadState := by
  have hs : (v.badState || d.refusing page) = true := (Bool.or_eq_true _ _).mpr h
  simp only [Dev.verdictResult, hd, ha, hs, Bool.false_eq_true, if_false, if_true]

/-- What is busy comes last: the resource, the rail (R122) or the ledger (R360). -/
theorem Dev.verdictResult_busy (hd : v.denied = false) (ha : v.badArg = false) (hs : v.badState = false)
    (hr : d.refusing page = false)
    (h : v.busy = true ∨ d.railFull = true ∨ ((v.makesRecord = true ∨ v.priv = true) ∧ d.ldgReserve = true)) :
    d.verdictResult page v = rBusy := by
  have hb : (v.busy || d.railFull || ((v.makesRecord || v.priv) && d.ldgReserve)) = true := by
    simpa only [Bool.or_eq_true, Bool.and_eq_true, or_assoc] using h
  simp only [Dev.verdictResult, hd, ha, hs, hr, hb, Bool.or_self, Bool.false_eq_true, if_false, if_true]

/-- A report shows its result, which `PAGE_CMD_STATUS.result` has 4 bits for. -/
theorem Dev.report_result (d : Dev) (page ch n : Nat) {r : Nat} (hr : r < 2 ^ 4) :
    (d.report page ch r n).get PAGE_CMD_STATUS_result (chPage page ch) = r := by
  rw [Dev.report, Dev.get_put_field _ _ _ _ _ _ (by decide), Dev.get_put_field _ _ _ _ _ _ (by decide), Dev.get_put_same]
  exact Nat.mod_eq_of_lt hr

/-- A command that is turned away is reported with the result of its judgement, unless its own consequence of a refusal overwrites
the report. -/
theorem Dev.take_refused_result
    (href : ∀ (e : Dev) (k : Nat), (refused e).get PAGE_CMD_STATUS_result k = e.get PAGE_CMD_STATUS_result k) {r : Nat}
    (hv : d.verdictResult page v = r) (hok : r ≠ rOK) (hr : r < 2 ^ 4) :
    (d.take page op c v effect refused).get PAGE_CMD_STATUS_result (chPage page c.ch) = r := by
  simp only [Dev.take, hv, if_neg hok]
  split <;> rw [href, Dev.report_result _ _ _ _ hr]

end Refusals

/-- Settles O9: what the page's gate reports is the judgement's result, which takes the refusals in order. -/
theorem firstRefusalIsReported : Obligations.FirstRefusalIsReported := by
  intro d p op x c href hreach hwait hsoon hheld
  dsimp only
  rw [d.cmd_taken p op x c hreach hwait hsoon hheld]
  refine ⟨fun hd => ?_, fun hd ha => ?_, fun hd ha hs => ?_, fun hd ha hs hr hb => ?_⟩
  · exact Dev.take_refused_result href (Dev.verdictResult_denied hd) (by decide) (by decide)
  · exact Dev.take_refused_result href (Dev.verdictResult_badArg hd ha) (by decide) (by decide)
  · exact Dev.take_refused_result href (Dev.verdictResult_badState hd ha hs) (by decide) (by decide)
  · exact Dev.take_refused_result href (Dev.verdictResult_busy hd ha hs hr hb) (by decide) (by decide)

/-! ## Numbers in two fields -/

/-- A number written to two fields reads cut to their widths together. -/
theorem Dev.get2_put2_same (d : Dev) {lo hi : Field} (v i : Nat) (h : hi.code ≠ lo.code) :
    (d.put2 lo hi v i).get2 lo hi i = v % 2 ^ (lo.width + hi.width) := by
  rw [Dev.get2, Dev.put2, Dev.get_put_field _ _ _ _ _ _ h, Dev.get_put_same, Dev.get_put_same, Nat.pow_add, Nat.mod_mul]

/-- Other fields keep their values. -/
theorem Dev.get_put2_field (d : Dev) {lo hi f : Field} (v i k : Nat) (hlo : lo.code ≠ f.code) (hhi : hi.code ≠ f.code) :
    (d.put2 lo hi v i).get f k = d.get f k := by
  rw [Dev.put2, Dev.get_put_field _ _ _ _ _ _ hhi, Dev.get_put_field _ _ _ _ _ _ hlo]

/-! ## Issuing a ticket (R118, R119, R122) -/

section Issue

variable (d : Dev) (ch page op arg total : Nat)

/-- The rail entry that the next ticket takes. -/
def Dev.issueSlot : Nat := closedFrom d.tkt.rail Ticket.none (d.get TKT_OPEN_count) (d.get TKT_ALLOC_index)

/-- The entry as the next ticket is issued. -/
def Dev.queuedTicket : Ticket :=
  { Ticket.none with
    ticket := d.nextTicket, state := 1, open_ := true, result := 1, channel := ch, opcode := op, page := page, arg := arg,
    total := total, issueEpoch := d.epoch, issueTick := d.tick, issueFrame := d.frameRec }

/-- The device with the next ticket in its entry. -/
def Dev.railTaken : Dev :=
  { d with tkt := { d.tkt with
    rail := d.tkt.rail.put d.issueSlot (d.queuedTicket ch page op arg total), issued := d.time + 1 } }

/-- The device with the next ticket issued, before the rail's warning is signalled. -/
def Dev.ticketTaken : Dev :=
  let e := ((d.railTaken ch page op arg total).put2 TKT_NEXT_LO_next_lo TKT_NEXT_HI_next_hi (d.nextTicket + 1)).put TKT_OPEN_count
    (d.get TKT_OPEN_count + 1)
  e.put TKT_ALLOC_index (closedFrom e.tkt.rail Ticket.none (e.get TKT_OPEN_count) ((d.issueSlot + 1) % 65_536))

/-- A ticket is issued by taking its number and entry; the 61,440th open one is signalled on the page. -/
theorem Dev.issue_eq :
    d.issue ch page op arg total =
      (d.nextTicket, if (d.ticketTaken ch page op arg total).get TKT_OPEN_count = 61_440 then
        (d.ticketTaken ch page op arg total).pageIrq 0x005 0 else d.ticketTaken ch page op arg total) := by
  have hcount : ((d.railTaken ch page op arg total).put2 TKT_NEXT_LO_next_lo TKT_NEXT_HI_next_hi (d.nextTicket + 1)).get
      TKT_OPEN_count = d.get TKT_OPEN_count := Dev.get_put2_field _ _ _ _ (by decide) (by decide)
  rw [Dev.ticketTaken, ← hcount]
  rfl

/-- The warning signals alone. -/
theorem Dev.issue_unsignalled :
    (d.issue ch page op arg total).2.unsignalled = (d.ticketTaken ch page op arg total).unsignalled := by
  rw [Dev.issue_eq]
  dsimp only
  split
  · exact Dev.pageIrq_unsignalled ..
  · rfl

/-- The warning changes no field but those of signalling. -/
theorem Dev.issue_get {f : Field} (k : Nat) (h : f.code ∉ signalCodes) :
    (d.issue ch page op arg total).2.get f k = (d.ticketTaken ch page op arg total).get f k := by
  rw [Dev.issue_eq]
  dsimp only
  split
  · exact Dev.pageIrq_get _ _ _ _ _ h
  · rfl

/-- The tickets after an issue are those with the next one in its entry. -/
theorem Dev.issue_tkt : (d.issue ch page op arg total).2.tkt = (d.railTaken ch page op arg total).tkt :=
  Dev.part_of_unsignalled Dev.tkt (fun _ => rfl) (d.issue_unsignalled ch page op arg total)

/-- The next ticket number goes on by 1, in 48 bits. -/
theorem Dev.issue_nextTicket : (d.issue ch page op arg total).2.nextTicket = (d.nextTicket + 1) % 2 ^ 48 := by
  rw [Dev.nextTicket, Dev.get2, Dev.issue_get _ _ _ _ _ _ _ (by decide), Dev.issue_get _ _ _ _ _ _ _ (by decide), Dev.ticketTaken]
  rw [Dev.get_put_field _ _ _ _ _ _ (by decide), Dev.get_put_field _ _ _ _ _ _ (by decide),
    Dev.get_put_field _ _ _ _ _ _ (by decide), Dev.get_put_field _ _ _ _ _ _ (by decide)]
  exact Dev.get2_put2_same _ _ _ (by decide)

/-- The open count goes up by 1, in 17 bits. -/
theorem Dev.issue_openCount :
    (d.issue ch page op arg total).2.get TKT_OPEN_count = (d.get TKT_OPEN_count + 1) % 2 ^ 17 := by
  rw [Dev.issue_get _ _ _ _ _ _ _ (by decide), Dev.ticketTaken]
  rw [Dev.get_put_field _ _ _ _ _ _ (by decide)]
  exact Dev.get_put_same ..

/-- An issue changes no field but those of the next number, the open count, the allocation index and signalling. -/
theorem Dev.issue_get_other {f : Field} (k : Nat) (hs : f.code ∉ signalCodes)
    (h : f.code ∉ [TKT_NEXT_LO_next_lo.code, TKT_NEXT_HI_next_hi.code, TKT_OPEN_count.code, TKT_ALLOC_index.code]) :
    (d.issue ch page op arg total).2.get f k = d.get f k := by
  simp only [List.mem_cons, List.not_mem_nil, or_false, not_or] at h
  obtain ⟨hlo, hhi, hopen, halloc⟩ := h
  rw [Dev.issue_get _ _ _ _ _ _ _ hs, Dev.ticketTaken]
  rw [Dev.get_put_field _ _ _ _ _ _ (Ne.symm halloc), Dev.get_put_field _ _ _ _ _ _ (Ne.symm hopen),
    Dev.get_put2_field _ _ _ _ (Ne.symm hlo) (Ne.symm hhi)]
  rfl

end Issue

/-- Settles O12: the entry taken is the one that `TKT_ALLOC` leads to. -/
theorem ticketIsIssued : Obligations.TicketIsIssued := by
  intro d ch page op arg total hroom
  refine ⟨rfl, d.issue_nextTicket .., ?_, ⟨d.issueSlot, ?_, fun j hj => ?_⟩, ?_, ?_,
    fun f k hs h => d.issue_get_other _ _ _ _ _ k hs h, ?_⟩
  · rw [Dev.issue_openCount]
    omega
  · rw [Dev.issue_tkt]
    exact SMap.get_put_same ..
  · rw [Dev.issue_tkt]
    exact SMap.get_put_other _ _ _ hj.symm
  · rw [Dev.issue_tkt]
    rfl
  · rw [Dev.issue_tkt]
    rfl
  · rw [Dev.issue_unsignalled]
    rfl

/-! ## Closing a ticket (R119, R120) -/

section Close

variable {d : Dev} {n state seq i : Nat} {t : Ticket}

/-- A ticket's entry as it closes. -/
def Dev.closedTicket (d : Dev) (t : Ticket) (state seq : Nat) : Ticket :=
  { t with
    state := state, open_ := false, endEpoch := d.epoch, endTick := d.tick, endFrame := d.frameRec, faultSeq := seq,
    done := if state = 4 then t.total else t.done }

/-- A closed ticket does not close again. -/
theorem Dev.close_closed (h : d.ticketAt n = some (i, t)) (ho : t.open_ = false) : d.close n state seq = d := by
  simp only [Dev.close, h, ho, Bool.false_eq_true, if_false]

/-- An open ticket's entry takes its end, and one entry fewer is open. -/
theorem Dev.close_open (h : d.ticketAt n = some (i, t)) (ho : t.open_ = true) :
    d.close n state seq =
      ({ d with tkt := { d.tkt with rail := d.tkt.rail.put i (d.closedTicket t state seq) } } : Dev).put TKT_OPEN_count
        (d.get TKT_OPEN_count - 1) := by
  simp only [Dev.close, h, ho, if_true, Dev.closedTicket]

end Close

/-- Settles O13. -/
theorem ticketClosesOnce : Obligations.TicketClosesOnce := by
  intro d n state seq i t hat
  refine ⟨Dev.close_closed hat, fun hopen => ?_⟩
  rw [Dev.close_open hat hopen]
  exact ⟨SMap.get_put_same .., fun j hj => SMap.get_put_other _ _ _ hj.symm, Dev.get_put_same ..,
    fun f k hf => Dev.get_put_field _ _ _ _ _ _ hf.symm, rfl⟩

/-! ## The hold-off of a fault (R106) -/

/-- A count changes registers alone: the collector stands as it stood. -/
@[simp] theorem Dev.bumpS_flt (d : Dev) (f s : Field) (i n : Nat) : (d.bumpS f s i n).flt = d.flt :=
  Dev.part_of_unsignalled Dev.flt (fun _ => rfl) (d.bumpS_unsignalled f s i n)

/-- A count takes no time. -/
@[simp] theorem Dev.bumpS_time (d : Dev) (f s : Field) (i n : Nat) : (d.bumpS f s i n).time = d.time :=
  Dev.part_of_unsignalled Dev.time (fun _ => rfl) (d.bumpS_unsignalled f s i n)

/-- Settles O16: the collector takes its branch of the hold-off, with no ticket to close. -/
theorem repeatedFaultIsSuppressed : Obligations.RepeatedFaultIsSuppressed := by
  intro d code page loc detail hhas htime
  have hsoon : decide (d.time < (d.flt.holdOff.get (code * 2 ^ 32 + loc) ⟨0, 0⟩).taken + holdOffTime) = true :=
    decide_eq_true htime
  simp only [Dev.raise, Dev.raiseWith, Dev.raiseCore, Dev.bumpS_flt, Dev.bumpS_time, hhas, hsoon, Bool.not_false, Bool.and_self,
    if_true, each, List.foldl_nil, Bool.false_eq_true, if_false]

/-! ## Reset -/

/-- A field that the reset store does not list reads its reset value everywhere. -/
theorem Dev.reset_get {f : Field} (h : resetRegs.get f.code [] = []) (k : Nat) : Dev.reset.get f k = f.reset := by
  rw [Dev.get, show Dev.reset.regs = resetRegs from rfl, h]
  rfl

/-- Settles O40: what the reset store lists is read there, all else at its reset value. -/
theorem resetValues : Obligations.ResetValues := by
  refine ⟨rfl, rfl, ?_, ?_, ?_, fun w => ⟨?_, ?_⟩, rfl, rfl, rfl, rfl, ?_, ?_, ?_, ?_, rfl, fun c => ⟨Memory.wf_nil, rfl⟩,
    fun l => ?_, fun b => ?_, fun l => ?_⟩
  all_goals exact Dev.reset_get (by decide) _

/-! ## The ticket lookup (R124) -/

section Lookup

variable {d : Dev} {ch hi : Nat}

/-- `TKT_LOOKUP_HI` is written by the start of the channel's lookup. -/
theorem Dev.ownWrite_lookup (d : Dev) (ch hi : Nat) (p : Bool) :
    d.ownWrite ch p 0x005 0x124 hi = some (true, d.startLookup ch (hi % 2 ^ 16)) := by
  simp [Dev.ownWrite, msixTableWord]

/-- `TKT_LOOKUP_HI` written through the unprivileged view. -/
theorem Dev.regWrite_lookup (ht : d.takesWrite ch 0x005) :
    d.regWrite ch false 0x005 0x124 hi = d.startLookup ch (hi % 2 ^ 16) := by
  rw [d.regWrite_unpriv ht (by decide) (by decide), d.wokenBy_other (by decide)]
  obtain ⟨-, -, -, hs⟩ := ht
  exact d.pageWrite_own rfl hs rfl (by decide) (by decide) (d.ownWrite_lookup ch hi false)

/-- The same through the privileged view: recorded, then started (R84). -/
theorem Dev.regWrite_lookup_priv (ht : d.takesPriv ch 0x005) :
    d.regWrite ch true 0x005 0x124 hi = (d.privRecord ch 0 0x005 0x124 hi 0 rOK).startLookup ch (hi % 2 ^ 16) := by
  rw [d.regWrite_priv ht (by decide) (by decide) (by decide), d.wokenBy_other (by decide)]
  obtain ⟨-, -, -, hs, -, -, hl⟩ := ht
  exact d.pageWrite_own_priv rfl hs rfl (by decide) hl (by decide) (d.ownWrite_lookup ch hi true)
    (Dev.ownWrite_lookup _ ch hi true)

/-- The device with other lookups that wait. -/
def Dev.withLookups (d : Dev) (ls : List Nat) : Dev := { d with tkt := { d.tkt with lookups := ls } }

/-- What the channel's lookup shows: found, with the entry's state and index, or zeros. -/
def Dev.lookupResult (d : Dev) (ch : Nat) : Nat × Nat × Nat :=
  match d.ticketAt (d.get2 TKT_LOOKUP_LO_ticket_lo TKT_LOOKUP_HI_ticket_hi ch) with
  | some (i, t) => (1, t.state, i)
  | none => (0, 0, 0)

/-- A lookup that waits is over, and its result is shown. -/
theorem Dev.lookupDone_eq (hch : ch ∈ d.tkt.lookups) :
    d.lookupDone ch =
      (((d.withLookups (d.tkt.lookups.filter (· != ch))).put TKT_LOOKUP_RESULT_found (d.lookupResult ch).1 ch).put
        TKT_LOOKUP_RESULT_state (d.lookupResult ch).2.1 ch).put TKT_LOOKUP_RESULT_index (d.lookupResult ch).2.2 ch :=
  if_pos hch

/-- A ticket that stands on the rail is found. -/
theorem Dev.lookupResult_found {i : Nat} {t : Ticket}
    (hat : d.ticketAt (d.get2 TKT_LOOKUP_LO_ticket_lo TKT_LOOKUP_HI_ticket_hi ch) = some (i, t)) :
    d.lookupResult ch = (1, t.state, i) := by
  rw [Dev.lookupResult, hat]

/-- A ticket that does not stand there is not. -/
theorem Dev.lookupResult_none (hat : d.ticketAt (d.get2 TKT_LOOKUP_LO_ticket_lo TKT_LOOKUP_HI_ticket_hi ch) = none) :
    d.lookupResult ch = (0, 0, 0) := by
  rw [Dev.lookupResult, hat]

end Lookup

/-! ## Completion -/

/-- The device once the command that waited longest has left the line (R118). -/
def Dev.withHeld (d : Dev) (rest : List HeldCmd) : Dev := { d with tkt := { d.tkt with held := rest } }

/-- The command of a link that has waited longest, if it still reaches its page, is judged and taken (R118). -/
theorem Dev.takeHeld_reached {d : Dev} {h : HeldCmd} {rest : List HeldCmd} (hheld : d.tkt.held = h :: rest) (hch : h.cmd.ch < 2)
    (hr : (d.withHeld rest).reaches h.cmd.ch h.page = true) :
    d.takeHeld =
      let x := (heldCmd h.page h.op h.cmd.arg).under h.priv
      ((d.withHeld rest).take h.page h.op h.cmd (x.judge h.page h.op h.cmd (d.withHeld rest)) (x.effect h.page h.cmd)
        (x.refused h.page h.cmd)).afterCmd h.page := by
  rw [Dev.takeHeld, hheld]
  exact (if_neg (Nat.not_le.mpr hch)).trans (if_pos hr)

/-- Settles O45: each command's branch of its meaning; commands by the gate of the `FLT` page. -/
theorem faultAndTicketCommandsComplete : Obligations.FaultAndTicketCommandsComplete := by
  refine ⟨?_, ?_, ?_, ?_, ?_, ?_, ?_, ?_, ?_, ?_, ?_, ?_⟩
  · intro code loc detail
    exact .of_onLane (fun s => (rfl : execFaultRaise _ _ _ s = onLane _ s)) fun d hc => if_pos hc
  · exact .of_onDev (fun s => (rfl : execDripAppend s = onDev _ s)) fun d hc => if_pos hc
  · intro c
    exact .of_onDev (fun s => (rfl : execFltAck _ s = onDev _ s)) fun d hc => d.cmd_accepted _ _ _ _ hc
  · intro c
    exact .of_onDev (fun s => (rfl : execFltTrip _ s = onDev _ s)) fun d hc => d.cmd_accepted _ _ _ _ hc
  · intro c
    exact .of_onDev (fun s => (rfl : execReleasePins _ s = onDev _ s)) fun d hc => d.cmd_accepted _ _ _ _ hc
  · exact .of_onDev (fun s => (rfl : execEstopAssert s = onDev _ s)) fun d hc => if_neg (by simpa using hc)
  · exact .of_onDev (fun s => (rfl : execEstopRelease s = onDev _ s)) fun _ _ => rfl
  · intro h rest
    exact .of_onDev (fun s => (rfl : execTicketWaitTake s = onDev _ s)) fun d ⟨hheld, hch, hr⟩ =>
      congrArg Dev.retryReads (Dev.takeHeld_reached hheld hch hr)
  · intro ch hi
    exact .of_onDev (fun s => (rfl : execTicketLookup _ _ _ s = onDev _ s)) fun d ht => Dev.regWrite_lookup ht
  · intro ch hi
    exact .of_onDev (fun s => (rfl : execTicketLookup _ _ _ s = onDev _ s)) fun d ht => Dev.regWrite_lookup_priv ht
  · intro ch i t
    refine .of_onDev (fun s => (rfl : execTicketLookupDone _ s = onDev _ s)) fun d ⟨hch, hat⟩ => ?_
    rw [Dev.lookupDone_eq hch, Dev.lookupResult_found hat]
    rfl
  · intro ch
    refine .of_onDev (fun s => (rfl : execTicketLookupDone _ s = onDev _ s)) fun d ⟨hch, hat⟩ => ?_
    rw [Dev.lookupDone_eq hch, Dev.lookupResult_none hat]
    rfl

end Sys2Proof.Machine
end

/-!
Proofs of the statements on 05_string_lanes.md: what the scrambler sends and its receiver restores (R127), and where the commands and
the events of the lanes complete.
-/
section
namespace Sys2Proof.Machine

/-! ## The payload scrambler (R127) -/

/-- The newest bit of the register after a shift. -/
theorem testBit_shifted_zero (st : Nat) (b : Bool) : ((st * 2 + b2n b) % 2 ^ 31).testBit 0 = b := by
  simp only [Nat.testBit_eq_decide_div_mod_eq]
  cases b <;> simp [b2n]

/-- Every other bit of the register comes from the place before it. -/
theorem testBit_shifted_succ (st : Nat) (b : Bool) {i : Nat} (hi : i + 1 < 31) :
    ((st * 2 + b2n b) % 2 ^ 31).testBit (i + 1) = st.testBit i := by
  have hb : b2n b < 2 := by cases b <;> decide
  have hhalf : (st * 2 + b2n b) / 2 = st := by omega
  rw [Nat.testBit_mod_two_pow, decide_eq_true hi, Bool.true_and, Nat.testBit_succ, hhalf]

/-- The bit on the line j + 1 places before the k-th of `line`: one of the line's own, or, before its first, one of the register's. -/
def bitBefore (st : Nat) (line : List Bool) (k j : Nat) : Bool :=
  if j < k then line.getD (k - 1 - j) false else st.testBit (j - k)

/-- What R127 adds to the k-th bit: the bits 28 and 31 places before it on the line. -/
def lineSum (st : Nat) (line : List Bool) (k : Nat) (b : Bool) : Bool :=
  (b != bitBefore st line k 27) != bitBefore st line k 30

/-- A bit that has left is shifted into the register: what stands before a later bit does not change. -/
theorem bitBefore_cons (st : Nat) (o : Bool) (line : List Bool) (k : Nat) {j : Nat} (hj : j < 31) :
    bitBefore st (o :: line) (k + 1) j = bitBefore ((st * 2 + b2n o) % 2 ^ 31) line k j := by
  unfold bitBefore
  rcases Nat.lt_trichotomy j k with h | rfl | h
  · obtain ⟨m, hm⟩ : ∃ m, k - j = m + 1 := ⟨k - j - 1, by omega⟩
    rw [if_pos (by omega), if_pos h, show k + 1 - 1 - j = m + 1 by omega, show k - 1 - j = m by omega, List.getD_cons_succ]
  · rw [if_pos (Nat.lt_succ_self j), if_neg (Nat.lt_irrefl j), Nat.add_sub_cancel, Nat.sub_self, testBit_shifted_zero,
      List.getD_cons_zero]
  · obtain ⟨m, hm⟩ : ∃ m, j - k = m + 1 := ⟨j - k - 1, by omega⟩
    rw [if_neg (by omega), if_neg (by omega), hm, testBit_shifted_succ st o (by omega), show j - (k + 1) = m by omega]

/-- The sum with a later bit likewise. -/
theorem lineSum_cons (st : Nat) (o : Bool) (line : List Bool) (k : Nat) (b : Bool) :
    lineSum st (o :: line) (k + 1) b = lineSum ((st * 2 + b2n o) % 2 ^ 31) line k b := by
  rw [lineSum, bitBefore_cons st o line k (by decide), bitBefore_cons st o line k (by decide), lineSum]

/-- From the 31st bit on, the sum does not depend on where the register started. -/
theorem lineSum_late (st : Nat) (line : List Bool) {k : Nat} (b : Bool) (hk : 31 ≤ k) :
    lineSum st line k b = ((b != line.getD (k - 28) false) != line.getD (k - 31) false) := by
  rw [lineSum, bitBefore, bitBefore, if_pos (by omega), if_pos (by omega), show k - 1 - 27 = k - 28 by omega,
    show k - 1 - 30 = k - 31 by omega]

/-- Adding the line's bits twice adds nothing. -/
theorem lineSum_lineSum (st : Nat) (line : List Bool) (k : Nat) (b : Bool) :
    lineSum st line k (lineSum st line k b) = b := by
  unfold lineSum
  cases b <;> cases bitBefore st line k 27 <;> cases bitBefore st line k 30 <;> rfl

@[simp] theorem length_scramble (st : Nat) (bs : List Bool) : (scramble st bs).1.length = bs.length := by
  induction bs generalizing st with
  | nil => rfl
  | cons b bs ih => exact congrArg (· + 1) (ih _)

@[simp] theorem length_descramble (st : Nat) (line : List Bool) : (descramble st line).1.length = line.length := by
  induction line generalizing st with
  | nil => rfl
  | cons o line ih => exact congrArg (· + 1) (ih _)

/-- Each bit that the scrambler sends is the payload bit and the sum of its line (R127). -/
theorem getD_scramble (st : Nat) (bs : List Bool) {k : Nat} (hk : k < bs.length) :
    (scramble st bs).1.getD k false = lineSum st (scramble st bs).1 k (bs.getD k false) := by
  induction bs generalizing st k with
  | nil => exact absurd hk (Nat.not_lt_zero k)
  | cons b bs ih =>
    cases k with
    | zero => rfl
    | succ k => exact (ih _ (Nat.lt_of_succ_lt_succ hk)).trans (lineSum_cons st (scrambleBit st b).1 _ k _).symm

/-- Each bit that the descrambler gives is the line's bit and the sum of the line (R127). -/
theorem getD_descramble (st : Nat) (line : List Bool) {k : Nat} (hk : k < line.length) :
    (descramble st line).1.getD k false = lineSum st line k (line.getD k false) := by
  induction line generalizing st k with
  | nil => exact absurd hk (Nat.not_lt_zero k)
  | cons o line ih =>
    cases k with
    | zero => rfl
    | succ k => exact (ih _ (Nat.lt_of_succ_lt_succ hk)).trans (lineSum_cons st o line k _).symm

/-- From the state in which the scrambler began, the descrambler restores each bit. -/
theorem getD_descramble_scramble (st : Nat) (bs : List Bool) {k : Nat} (hk : k < bs.length) :
    (descramble st (scramble st bs).1).1.getD k false = bs.getD k false := by
  rw [getD_descramble st _ (by rwa [length_scramble]), getD_scramble st bs hk, lineSum_lineSum]

/-- From the 31st bit on, the descrambler's start does not matter. -/
theorem getD_descramble_late (st st' : Nat) (line : List Bool) {k : Nat} (h31 : 31 ≤ k) (hk : k < line.length) :
    (descramble st' line).1.getD k false = (descramble st line).1.getD k false := by
  rw [getD_descramble st' line hk, getD_descramble st line hk, lineSum_late st' line _ h31, lineSum_late st line _ h31]

/-- Bit strings of one length that agree from place n on agree in what follows their first n bits. -/
theorem drop_eq_of_getD {as bs : List Bool} (n : Nat) (hlen : as.length = bs.length)
    (h : ∀ k, n ≤ k → k < bs.length → as.getD k false = bs.getD k false) : as.drop n = bs.drop n := by
  refine List.ext_getElem (by simp only [List.length_drop, hlen]) fun i hi hi' => ?_
  rw [List.length_drop] at hi hi'
  have hk := h (n + i) (Nat.le_add_right n i) (by omega)
  rw [List.getElem_drop, List.getElem_drop]
  rwa [List.getD_eq_getElem?_getD, List.getD_eq_getElem?_getD, List.getElem?_eq_getElem (by omega),
    List.getElem?_eq_getElem (by omega), Option.getD_some, Option.getD_some] at hk

/-- Settles O23: scrambler and descrambler add the same two bits of the line, which adds nothing in all. -/
theorem descramblingRestoresThePayload : Obligations.DescramblingRestoresThePayload := by
  intro st bs _
  have hlen : ∀ s, (descramble s (scramble st bs).1).1.length = bs.length := fun s => by simp
  refine ⟨fun k h31 hk => ?_, ?_, fun st' _ => ?_⟩
  · exact (getD_scramble st bs hk).trans (lineSum_late st _ _ h31)
  · exact drop_eq_of_getD 0 (hlen st) fun k _ hk => getD_descramble_scramble st bs hk
  · refine drop_eq_of_getD 31 (hlen st') fun k h31 hk => ?_
    rw [getD_descramble_late st st' _ h31 (by rwa [length_scramble]), getD_descramble_scramble st bs hk]

/-! ## Lane commands (R132, R148–R150) -/

section LaneCommands

variable {d : Dev} {ch val : Nat}

/-- `CLK_TIME_SRC` is written by an operation of its own through the privileged view, where it names a lane that there is. -/
theorem Dev.ownWrite_timeSrc (d : Dev) (ch : Nat) (hv : bit val 9 = false ∨ bits val 0 9 ≤ 3) :
    d.ownWrite ch true 0x007 0x100 val = some (true, d.timeSrcWrite val) := by
  have hgood : (bit val 9 && decide (3 < bits val 0 9)) = false := by
    rw [Bool.and_eq_false_iff, decide_eq_false_iff_not, Nat.not_lt]
    exact hv
  simp [Dev.ownWrite, msixTableWord, hgood]

/-- Such a write is recorded, then designates the time lane (R84, R132). -/
theorem Dev.regWrite_timeSrc (hv : bit val 9 = false ∨ bits val 0 9 ≤ 3) (ht : d.takesPriv ch 0x007) :
    d.regWrite ch true 0x007 0x100 val = (d.privRecord ch 0 0x007 0x100 val 0 rOK).timeSrcWrite val := by
  rw [d.regWrite_priv ht (by decide) (by decide) (by decide), d.wokenBy_other (by decide)]
  obtain ⟨-, -, -, hs, -, -, hl⟩ := ht
  exact d.pageWrite_own_priv rfl hs rfl (by decide) hl (by decide) (d.ownWrite_timeSrc ch hv) (Dev.ownWrite_timeSrc _ ch hv)

/-- A lane command that nothing turns away or makes wait completes as accepted, and the clock unit sees it (R401). -/
theorem Completes.laneCommand {i : Instr} {page op : Nat} {x : CmdDef} {c : Cmd}
    (hf : ∀ s, exec i s = onLane (fun d => d.cmd page op x c) s) :
    Completes i (fun d => d.accepts page op x c) (fun d => (d.accepted page op x c).clockSettle) :=
  .of_onLane hf fun d hc => d.cmd_accepted page op x c hc

end LaneCommands

/-- Settles O47: commands by the gate of their lane group's or the twin page. -/
theorem laneCommandsComplete : Obligations.LaneCommandsComplete := by
  refine ⟨?_, ?_, ?_, ?_, ?_, ?_, ?_, ?_, ?_, ?_⟩
  · exact fun _ _ => .laneCommand (fun s => (rfl : execLaneEnable _ _ s = onLane _ s))
  · exact fun _ _ => .laneCommand (fun s => (rfl : execLaneDisable _ _ s = onLane _ s))
  · exact fun _ _ => .laneCommand (fun s => (rfl : execLaneSafe _ _ s = onLane _ s))
  · exact fun _ _ => .laneCommand (fun s => (rfl : execLaneEnumerate _ _ s = onLane _ s))
  · exact fun _ _ => .laneCommand (fun s => (rfl : execLaneRetrain _ _ s = onLane _ s))
  · exact fun _ _ => .laneCommand (fun s => (rfl : execLaneLoop _ _ s = onLane _ s))
  · exact fun _ _ => .laneCommand (fun s => (rfl : execLoopExit _ _ s = onLane _ s))
  · exact fun _ _ => .laneCommand (fun s => (rfl : execLaneClearCounters _ _ s = onLane _ s))
  · intro die
    exact .of_onLane (fun s => (rfl : execD2dLinkRetrained _ s = onLane _ s)) fun d hc => if_pos hc
  · intro ch val
    exact .of_onDev (fun s => (rfl : execTimeSrcWrite _ _ s = onDev _ s)) fun d ⟨hv, ht⟩ => Dev.regWrite_timeSrc hv ht

/-! ## Codewords (R141, R151, R152, R155) -/

section Codewords

variable {d : Dev} {l : Nat} {symbols : List Nat} {errs : Nat}

/-- A codeword in ALIGN to SAFE is kept, then judged for lock. -/
theorem Dev.codeword_judged (hon : d.laneOn l = true) (h2 : 2 ≤ d.laneState l) (h5 : d.laneState l ≤ 5) :
    d.codeword l symbols =
      (d.rxKeep l (d.rxWord l symbols)).codewordJudge l (d.rxWord l symbols).1.bad (d.rxWord l symbols).1.corr := by
  have h6 : d.laneState l ≠ 6 := by omega
  simp only [Dev.codeword, hon, h2, h5, h6, and_self, decide_true, Bool.not_true, Bool.false_eq_true, if_false]

/-- In LOOP the symbols feed the PRBS31 checker, or what the serialiser sends does. -/
theorem Dev.codeword_loop (hon : d.laneOn l = true) (h6 : d.laneState l = 6) :
    d.codeword l symbols =
      let r := prbs31Bits 1_400 (d.lane l).loopGen
      let near := d.get LNK_STATUS_loop_mode l == 1
      let d := if near then d.putLane l { d.lane l with loopGen := r.2 } else d
      each (d.rxBits l (if near then (pamSymbols r.1).map (pamInvert (d.lane l).txInv) else symbols))
        (fun b (d : Dev) => d.prbsBit l b) d := by
  simp only [Dev.codeword, hon, h6, Bool.not_true, Bool.false_eq_true, if_false, if_true]

/-- `CODEWORD_RECEIVED` in ALIGN to SAFE completes with what the judgement of its word does. -/
theorem Completes.codeword {cond : Dev → Prop} {effect : Dev → Dev}
    (h : ∀ d, cond d → (d.laneOn l = true ∧ 2 ≤ d.laneState l ∧ d.laneState l ≤ 5) ∧
      (d.rxKeep l (d.rxWord l symbols)).codewordJudge l (d.rxWord l symbols).1.bad (d.rxWord l symbols).1.corr = effect d) :
    Completes (.codewordReceived l symbols) cond (fun d => (effect d).clockSettle) :=
  .of_onLane (fun s => (rfl : execCodewordReceived _ _ s = onLane _ s)) fun d hc => by
    obtain ⟨⟨hon, h2, h5⟩, he⟩ := h d hc
    rw [Dev.codeword_judged hon h2 h5, he]

variable (w : RxWord × Nat)

/-- Keeping a word changes no register. -/
@[simp] theorem Dev.rxKeep_get (f : Field) (i : Nat) : (d.rxKeep l w).get f i = d.get f i := by
  unfold Dev.rxKeep
  dsimp only
  split <;> rfl

@[simp] theorem Dev.rxKeep_flag (f : Field) (i : Nat) : (d.rxKeep l w).flag f i = d.flag f i := by simp [Dev.flag]

/-- Keeping a word leaves the count of good codewords. -/
@[simp] theorem Dev.rxKeep_cwGood : ((d.rxKeep l w).lane l).cwGood = (d.lane l).cwGood := by
  unfold Dev.rxKeep
  dsimp only
  split <;> rw [Dev.lane_putLane]

/-- Keeping a word leaves the record of bad codewords. -/
@[simp] theorem Dev.rxKeep_cwBad : ((d.rxKeep l w).lane l).cwBad = (d.lane l).cwBad := by
  unfold Dev.rxKeep
  dsimp only
  split <;> rw [Dev.lane_putLane]

/-- Without lock, a good codeword is counted, and the 64th in a row declares lock. -/
theorem Dev.codewordJudge_good (hlock : d.flag LNK_STATUS_cw_lock l = false) :
    d.codewordJudge l false errs =
      let x := d.lane l
      let d := d.putLane l { x with cwGood := x.cwGood + 1 }
      if 64 ≤ x.cwGood + 1 then (d.put LNK_STATUS_cw_lock 1 l).putLane l { d.lane l with cwBad := [] } else d := by
  simp only [Dev.codewordJudge, hlock, Bool.false_eq_true, if_false]

/-- Without lock, an uncorrectable codeword begins the count again at the next symbol offset. -/
theorem Dev.codewordJudge_slip (hlock : d.flag LNK_STATUS_cw_lock l = false) :
    d.codewordJudge l true errs =
      d.putLane l { d.lane l with cwGood := 0, rxOffset := ((d.lane l).rxOffset + 1) % 700 } := by
  simp only [Dev.codewordJudge, hlock, Bool.false_eq_true, if_false, if_true]

/-- With lock, a good codeword's corrected symbols are counted; fewer than 16 uncorrectable ones of the last 64 keep lock. -/
theorem Dev.codewordJudge_corrected (hlock : d.flag LNK_STATUS_cw_lock l = true)
    (hwin : (((false :: (d.lane l).cwBad).take 64).filter id).length < 16) :
    d.codewordJudge l false errs =
      (d.laneCorr l errs).putLane l { (d.laneCorr l errs).lane l with cwBad := (false :: (d.lane l).cwBad).take 64 } := by
  simp only [Dev.codewordJudge, hlock, Nat.not_le.mpr hwin, Bool.false_eq_true, if_false, if_true]

/-- With lock, an uncorrectable codeword is counted and raises `LANE_UNCORRECTABLE`; the 16th of the last 64 loses lock. -/
theorem Dev.codewordJudge_uncorrectable (hlock : d.flag LNK_STATUS_cw_lock l = true) :
    d.codewordJudge l true errs =
      let win := (true :: (d.lane l).cwBad).take 64
      let d := d.laneCount l LNK_UNCORR_count 1 1
      let d := d.putLane l { d.lane l with cwBad := win }
      (if 16 ≤ (win.filter id).length then d.lockLost l true else d).raise F_LANE_UNCORRECTABLE (lanePageOf l) l := by
  simp only [Dev.codewordJudge, hlock, if_true]

end Codewords

/-! ## Signal (R153) -/

section Signal

variable {d : Dev} {l : Nat}

/-- A twin lane below ALIGN only shows the loss. -/
theorem Dev.lossOfSignal_twin (hon : d.laneOn l = true) (hlos : d.flag LNK_STATUS_los l = false) (ht : isTwin l = true)
    (h2 : d.laneState l < 2) : d.lossOfSignal l = d.put LNK_STATUS_los 1 l := by
  have hst : (d.put LNK_STATUS_los 1 l).laneState l = d.laneState l := d.get_put_field _ _ _ _ _ (by decide)
  have hlow : ¬(2 ≤ d.laneState l ∧ d.laneState l ≤ 5) := by omega
  simp only [Dev.lossOfSignal, hon, hlos, ht, hst, hlow, Bool.not_true, Bool.or_self, Bool.false_eq_true, if_false, if_true]

/-- A string lane in ALIGN to SAFE counts the loss and trains again, unless it is leaving. -/
theorem Dev.lossOfSignal_string (hon : d.laneOn l = true) (hlos : d.flag LNK_STATUS_los l = false) (ht : isTwin l = false)
    (h2 : 2 ≤ d.laneState l) (h5 : d.laneState l ≤ 5) :
    d.lossOfSignal l =
      let d := d.put LNK_STATUS_los 1 l
      let d := d.put LNK_GRP_LOS_los (setBit (d.get LNK_GRP_LOS_los (l / 16)) (l % 16)) (l / 16)
      let st := d.laneState l
      let d := d.laneCount l LNK_LOL_count 3 1
      let d := if d.leaving l then d else d.enterTrain l 6 false
      if st = 4 then d.raise F_LANE_LOCK_LOST (lanePageOf l) l else d := by
  have hst : ∀ v, ((d.put LNK_STATUS_los 1 l).put LNK_GRP_LOS_los v (l / 16)).laneState l = d.laneState l := fun v =>
    (Dev.get_put_field _ _ _ _ _ _ (by decide)).trans (d.get_put_field _ _ _ _ _ (by decide))
  simp only [Dev.lossOfSignal, hon, hlos, ht, hst, h2, h5, and_self, Bool.not_true, Bool.or_self, Bool.false_eq_true, if_false,
    if_true]

/-- A string lane's signal is shown again, by the lane and by its group. -/
theorem Dev.signalBack_string (hon : d.laneOn l = true) (ht : isTwin l = false) :
    d.signalBack l =
      let d := d.put LNK_STATUS_los 0 l
      d.put LNK_GRP_LOS_los (clrBit (d.get LNK_GRP_LOS_los (l / 16)) (l % 16)) (l / 16) := by
  simp only [Dev.signalBack, hon, ht, Bool.not_true, Bool.false_eq_true, if_false]

end Signal

/-! ## Training (R135–R140) -/

section Training

variable {d : Dev} {l w duration : Nat}

/-- A lane that trains has its transmitter on: what an event of training asks of it. -/
theorem Dev.trains_on (ht : d.trains l) :
    (d.laneOn l && d.laneState l == 1 && !(d.lane l).squelched && !(d.lane l).heldByClock) = true := by
  obtain ⟨hon, hst, hsq, hck⟩ := ht
  rw [hon, hst, hsq, hck]
  rfl

/-- The device once it has seen a training block's marker (R135). -/
def Dev.withMarker (d : Dev) (l : Nat) : Dev := d.putLane l { d.lane l with marker := true }

/-- A `COEFF` word that comes for the third time in a row is acted on. -/
theorem Dev.trainingBlock_coeff (ht : d.trains l) (hty : bits w 29 3 = 0) (hcrc : crc8Control w = w % 256)
    (hw : (d.lane l).coeffWord = w) (hseen : (d.lane l).coeffSeen = 2) :
    d.trainingBlock l w =
      ((d.withMarker l).putLane l { (d.withMarker l).lane l with coeffWord := w, coeffSeen := 3 }).actCoeff l w := by
  obtain ⟨hon, hst, hsq, hck⟩ := ht
  simp [Dev.trainingBlock, Dev.withMarker, hon, hst, hsq, hck, hty, hcrc, hw, hseen]

/-- An `INFO` word that comes for the third time in a row is acted on. -/
theorem Dev.trainingBlock_info (ht : d.trains l) (hty : bits w 29 3 = 1) (hcrc : crc8Control w = w % 256)
    (hw : (d.lane l).infoWord = w) (hseen : (d.lane l).infoSeen = 2) :
    d.trainingBlock l w =
      ((d.withMarker l).putLane l { (d.withMarker l).lane l with infoWord := w, infoSeen := 3 }).actInfo l w := by
  obtain ⟨hon, hst, hsq, hck⟩ := ht
  simp [Dev.trainingBlock, Dev.withMarker, hon, hst, hsq, hck, hty, hcrc, hw, hseen]

/-- Training that both ends are ready to leave completes at the frame boundary: the lane aligns. -/
theorem Dev.trainDone_aligns (ht : d.trains l) (hfur : (d.lane l).further = true) (hfar : d.flag LNK_STATUS_far_ready l = true)
    (hinfo : (d.lane l).infoValid = true) (hk : d.k03 = true) :
    d.trainDone l duration =
      let x := d.lane l
      let d := (d.put LNK_TRAIN_duration (min duration 0xFFFF) l).putLane l
        { x with scrambler := 2 ^ 31 - 1, cwGood := 0, cwBad := [], hdrGood := 0, hdrBad := 0 }
      (d.laneEnter l 2 2).progress x.enTkt 1 := by
  simp only [Dev.trainDone, Dev.trains_on ht, hfur, hfar, hinfo, hk, Bool.and_self, Bool.not_true, Bool.false_eq_true, if_false,
    if_true]

end Training

/-! ## The measured delay (R143) -/

section Delay

variable {d : Dev} {l rtt : Nat}

/-- A delay above 2,000 ns fails. -/
theorem Dev.delayMeasured_long (hm : d.measures l) (hlong : 32_000 < rtt - d.get LNK_DELAY_turnaround l) :
    d.delayMeasured l rtt = d.trainFail l 7 := by
  obtain ⟨hon, hst, hlock⟩ := hm
  simp only [Dev.delayMeasured, hon, hst, hlock, hlong, Bool.not_true, bne_self_eq_false, Bool.or_self, Bool.false_eq_true,
    if_false, if_true]

/-- A twin lane enters RUN, and its `ENABLE` is done. -/
theorem Dev.delayMeasured_twin (hm : d.measures l) (hshort : rtt - d.get LNK_DELAY_turnaround l ≤ 32_000)
    (ht : isTwin l = true) :
    d.delayMeasured l rtt =
      let x := d.lane l
      let d := ((d.put LNK_DELAY_one_way ((rtt - d.get LNK_DELAY_turnaround l) / 2) l).laneEnter l 4 3).done x.enTkt
      d.putLane l { d.lane l with enTkt := 0 } := by
  obtain ⟨hon, hst, hlock⟩ := hm
  simp only [Dev.delayMeasured, hon, hst, hlock, ht, Nat.not_lt.mpr hshort, Bool.not_true, bne_self_eq_false, Bool.or_self,
    Bool.false_eq_true, if_false, if_true]

/-- A string lane's first measurement steps the launch advance. -/
theorem Dev.delayMeasured_first (hm : d.measures l) (hshort : rtt - d.get LNK_DELAY_turnaround l ≤ 32_000)
    (ht : isTwin l = false) (hmeas : (d.lane l).measured = false) (hkeep : (d.lane l).keepAdv = false) :
    d.delayMeasured l rtt =
      (d.put LNK_DELAY_one_way ((rtt - d.get LNK_DELAY_turnaround l) / 2) l).stepAdvance l
        (rtt - d.get LNK_DELAY_turnaround l) := by
  obtain ⟨hon, hst, hlock⟩ := hm
  simp only [Dev.delayMeasured, hon, hst, hlock, ht, hmeas, hkeep, Nat.not_lt.mpr hshort, Bool.not_true, bne_self_eq_false,
    Bool.or_self, Bool.false_eq_true, if_false]

/-- A measurement within 1.0 ns of the last completes alignment. -/
theorem Dev.delayMeasured_agrees (hm : d.measures l) (hshort : rtt - d.get LNK_DELAY_turnaround l ≤ 32_000)
    (ht : isTwin l = false) (hlater : (d.lane l).measured = true ∨ (d.lane l).keepAdv = true)
    (hagree : absDiff (rtt - d.get LNK_DELAY_turnaround l) (d.lane l).lastOneWay ≤ 16) :
    d.delayMeasured l rtt =
      let twice := rtt - d.get LNK_DELAY_turnaround l
      (((d.put LNK_DELAY_one_way (twice / 2) l).putLane l
        { d.lane l with disagree := 0, keepAdv := false, lastOneWay := twice }).enterEnum l 3).dieHold l := by
  obtain ⟨hon, hst, hlock⟩ := hm
  have hlater' : ((d.lane l).measured || (d.lane l).keepAdv) = true := by rwa [Bool.or_eq_true]
  simp only [Dev.delayMeasured, hon, hst, hlock, ht, hlater', hagree, Nat.not_lt.mpr hshort, Bool.not_true, bne_self_eq_false,
    Bool.or_self, Bool.false_eq_true, if_false, if_true]

end Delay

/-! ## Events complete -/

/-- Settles O46: each event's branch of its meaning. -/
theorem laneEventsComplete : Obligations.LaneEventsComplete := by
  refine ⟨?_, ?_, ?_, ?_, ?_, ?_, ?_, ?_, ?_, ?_, ?_, ?_, ?_, ?_, ?_, ?_, ?_, ?_, ?_, ?_, ?_, ?_⟩
  · intro lane symbols
    refine .codeword fun d ⟨hon, h2, h5, hlock, hgood, hn⟩ => ⟨⟨hon, h2, h5⟩, ?_⟩
    rw [hgood, Dev.codewordJudge_good ((Dev.rxKeep_flag _ _ _).trans hlock)]
    exact if_neg (by rw [Dev.rxKeep_cwGood]; omega)
  · intro lane symbols
    refine .codeword fun d ⟨hon, h2, h5, hlock, hgood, hn⟩ => ⟨⟨hon, h2, h5⟩, ?_⟩
    rw [hgood, Dev.codewordJudge_good ((Dev.rxKeep_flag _ _ _).trans hlock)]
    exact if_pos (by rw [Dev.rxKeep_cwGood]; omega)
  · intro lane symbols
    refine .codeword fun d ⟨hon, h2, h5, hlock, hbad⟩ => ⟨⟨hon, h2, h5⟩, ?_⟩
    rw [hbad, Dev.codewordJudge_slip ((Dev.rxKeep_flag _ _ _).trans hlock)]
  · intro lane symbols
    refine .codeword fun d ⟨hon, h2, h5, hlock, hgood, hwin⟩ => ⟨⟨hon, h2, h5⟩, ?_⟩
    rw [hgood, Dev.codewordJudge_corrected ((Dev.rxKeep_flag _ _ _).trans hlock) (by rwa [Dev.rxKeep_cwBad])]
  · intro lane symbols
    refine .codeword fun d ⟨hon, h2, h5, hlock, hbad, hwin⟩ => ⟨⟨hon, h2, h5⟩, ?_⟩
    rw [hbad, Dev.codewordJudge_uncorrectable ((Dev.rxKeep_flag _ _ _).trans hlock)]
    exact congrArg (Dev.raise · _ _ _) (if_neg (by rwa [Dev.rxKeep_cwBad, Nat.not_le]))
  · intro lane symbols
    refine .codeword fun d ⟨hon, h2, h5, hlock, hbad, hwin⟩ => ⟨⟨hon, h2, h5⟩, ?_⟩
    rw [hbad, Dev.codewordJudge_uncorrectable ((Dev.rxKeep_flag _ _ _).trans hlock)]
    exact congrArg (Dev.raise · _ _ _) (if_pos (by rwa [Dev.rxKeep_cwBad]))
  · intro lane symbols
    exact .of_onLane (fun s => (rfl : execCodewordReceived _ _ s = onLane _ s)) fun d ⟨hon, h6⟩ => Dev.codeword_loop hon h6
  · intro lane
    exact .of_onLane (fun s => (rfl : execLossOfSignal _ s = onLane _ s)) fun d ⟨hon, hlos, ht, h2⟩ =>
      Dev.lossOfSignal_twin hon hlos ht h2
  · intro lane
    exact .of_onLane (fun s => (rfl : execLossOfSignal _ s = onLane _ s)) fun d ⟨hon, hlos, ht, h2, h5⟩ =>
      Dev.lossOfSignal_string hon hlos ht h2 h5
  · intro lane
    exact .of_onLane (fun s => (rfl : execLossOfSignalClear _ s = onLane _ s)) fun d ⟨hon, ht⟩ => Dev.signalBack_string hon ht
  · intro lane word
    exact .of_onLane (fun s => (rfl : execTrainingBlockReceived _ _ s = onLane _ s)) fun d ⟨ht, hty, hcrc, hw, hseen⟩ =>
      Dev.trainingBlock_coeff ht hty hcrc hw hseen
  · intro lane word
    exact .of_onLane (fun s => (rfl : execTrainingBlockReceived _ _ s = onLane _ s)) fun d ⟨ht, hty, hcrc, hw, hseen⟩ =>
      Dev.trainingBlock_info ht hty hcrc hw hseen
  · intro lane
    refine .of_onLane (fun s => (rfl : execCoeffTimeout _ s = onLane _ s)) fun d ⟨hon, hst, hsq, hck, hwaits⟩ => if_pos ?_
    rw [Dev.trains_on ⟨hon, hst, hsq, hck⟩]
    simpa [or_assoc] using hwaits
  · intro lane upper middle lower
    refine .of_onLane (fun s => (rfl : execRxReady _ _ _ _ s = onLane _ s)) fun d ⟨ht, hrdy, heyes⟩ => ?_
    have hnot : ¬(d.laneOn lane && d.flag LNK_STATUS_rx_ready lane) = true := by simp [hrdy]
    exact (if_neg hnot).trans (if_pos (Bool.and_eq_true_iff.mpr ⟨Dev.trains_on ht, decide_eq_true heyes⟩))
  · intro lane upper middle lower
    refine .of_onLane (fun s => (rfl : execRxReady _ _ _ _ s = onLane _ s)) fun d ⟨hon, hrdy⟩ => if_pos ?_
    rw [hon, hrdy]
    rfl
  · intro lane duration
    exact .of_onLane (fun s => (rfl : execTrainingComplete _ _ s = onLane _ s)) fun d ⟨ht, hfur, hfar, hinfo, hk⟩ =>
      Dev.trainDone_aligns ht hfur hfar hinfo hk
  · intro lane reason
    refine .of_onLane (fun s => (rfl : execTrainingFail _ _ s = onLane _ s)) fun d ⟨hon, hsq, hck, hfail⟩ => if_pos ?_
    rw [hon, hsq, hck, hfail]
    rfl
  · intro lane
    refine .of_onLane (fun s => (rfl : execSquelchWaitEnd _ s = onLane _ s)) fun d ⟨hon, hst, hsq⟩ => if_pos ?_
    rw [hon, hst, hsq]
    rfl
  · intro lane rtt
    exact .of_onLane (fun s => (rfl : execDelayMeasured _ _ s = onLane _ s)) fun d ⟨hm, hlong⟩ =>
      Dev.delayMeasured_long hm hlong
  · intro lane rtt
    exact .of_onLane (fun s => (rfl : execDelayMeasured _ _ s = onLane _ s)) fun d ⟨hm, hshort, ht, hlater, hagree⟩ =>
      Dev.delayMeasured_agrees hm hshort ht hlater hagree
  · intro lane rtt
    exact .of_onLane (fun s => (rfl : execDelayMeasured _ _ s = onLane _ s)) fun d ⟨hm, hshort, ht, hmeas, hkeep⟩ =>
      Dev.delayMeasured_first hm hshort ht hmeas hkeep
  · intro lane rtt
    exact .of_onLane (fun s => (rfl : execDelayMeasured _ _ s = onLane _ s)) fun d ⟨hm, hshort, ht⟩ =>
      Dev.delayMeasured_twin hm hshort ht

end Sys2Proof.Machine
end

/-!
Proofs of the statements on 06_frame_protocol.md: downstream headers and their check (R161, R164, R166), epochs and frame numbers
(R163, R168), what an echo fixes (R182, R183), and where the commands of the frame protocol complete.
-/
section
namespace Sys2Proof.Machine

/-! ## Packed fields -/

/-- The bits that packed fields take together. -/
def fieldsWidth (l : List (Nat × Nat)) : Nat := (l.map Prod.fst).sum

@[simp] theorem fieldsWidth_nil : fieldsWidth [] = 0 := rfl

@[simp] theorem fieldsWidth_cons (x : Nat × Nat) (l : List (Nat × Nat)) : fieldsWidth (x :: l) = x.1 + fieldsWidth l := rfl

@[simp] theorem fieldsWidth_append (l r : List (Nat × Nat)) : fieldsWidth (l ++ r) = fieldsWidth l + fieldsWidth r := by
  rw [fieldsWidth, List.map_append, List.sum_append, fieldsWidth, fieldsWidth]

/-- Packing onto a number shifts it by the fields' width. -/
theorem packFields_onto (l : List (Nat × Nat)) (a : Nat) :
    l.foldl (fun (a : Nat) (x : Nat × Nat) => a * 2 ^ x.1 + x.2 % 2 ^ x.1) a = a * 2 ^ fieldsWidth l + packFields l := by
  induction l generalizing a with
  | nil => exact (Nat.mul_one a).symm
  | cons x l ih =>
    rw [packFields, List.foldl_cons, List.foldl_cons, ih, ih, fieldsWidth_cons, Nat.pow_add, Nat.zero_mul, Nat.zero_add, Nat.add_mul, Nat.mul_assoc,
      Nat.add_assoc]

theorem packFields_cons (w v : Nat) (l : List (Nat × Nat)) :
    packFields ((w, v) :: l) = v % 2 ^ w * 2 ^ fieldsWidth l + packFields l := by
  rw [packFields, List.foldl_cons, packFields_onto, Nat.zero_mul, Nat.zero_add]

theorem packFields_singleton (w v : Nat) : packFields [(w, v)] = v % 2 ^ w := by
  simp only [packFields, List.foldl_cons, List.foldl_nil, Nat.zero_mul, Nat.zero_add]

theorem packFields_append (l r : List (Nat × Nat)) :
    packFields (l ++ r) = packFields l * 2 ^ fieldsWidth r + packFields r := by
  rw [packFields, List.foldl_append, packFields_onto]
  rfl

theorem packFields_lt (l : List (Nat × Nat)) : packFields l < 2 ^ fieldsWidth l := by
  induction l with
  | nil => exact Nat.one_pos
  | cons x l ih =>
    obtain ⟨w, v⟩ := x
    have hv : v % 2 ^ w + 1 ≤ 2 ^ w := Nat.mod_lt v (Nat.two_pow_pos w)
    calc packFields ((w, v) :: l) < (v % 2 ^ w + 1) * 2 ^ fieldsWidth l := by rw [packFields_cons, Nat.succ_mul]; omega
      _ ≤ 2 ^ w * 2 ^ fieldsWidth l := Nat.mul_le_mul_right _ hv
      _ = 2 ^ fieldsWidth ((w, v) :: l) := (Nat.pow_add 2 w _).symm

/-- Shifting out the last fields leaves the first. -/
theorem packFields_shift (l r : List (Nat × Nat)) : packFields (l ++ r) >>> fieldsWidth r = packFields l := by
  rw [packFields_append, Nat.shiftRight_eq_div_pow, Nat.mul_comm, Nat.mul_add_div (Nat.two_pow_pos _),
    Nat.div_eq_of_lt (packFields_lt r), Nat.add_zero]

/-- Each packed field reads back as it was, cut to its width. -/
theorem bits_packFields (l r : List (Nat × Nat)) (w v : Nat) :
    bits (packFields (l ++ (w, v) :: r)) (fieldsWidth r) w = v % 2 ^ w := by
  rw [bits, List.append_cons, packFields_shift, packFields_append, packFields_cons]
  show (packFields l * 2 ^ w + (v % 2 ^ w * 1 + 0)) % 2 ^ w = _
  rw [Nat.mul_one, Nat.add_zero, Nat.mul_comm, Nat.mul_add_mod, Nat.mod_mod]

/-- A field of a 160-bit header stands at the payload bits that it counts from the header's end (R161). -/
theorem hdrField_packFields {fs : List (Nat × Nat)} (l : List (Nat × Nat)) {r : List (Nat × Nat)} {w v a b : Nat}
    (hfs : fs = l ++ (w, v) :: r) (hr : fieldsWidth r = 159 - b) (hw : b - a + 1 = w) :
    hdrField (packFields fs) a b = v % 2 ^ w := by
  rw [hdrField, hw, ← hr, hfs, bits_packFields]

/-! ## The header's CRC (R166) -/

theorem crcBit16_lt (crc : Nat) (b : Bool) : crcBit 16 0x1021 crc b < 2 ^ 16 := by
  have hsh : crc * 2 % 2 ^ 16 < 2 ^ 16 := Nat.mod_lt _ (Nat.two_pow_pos 16)
  simp only [crcBit]
  split
  · exact Nat.xor_lt_two_pow hsh (by decide)
  · exact hsh

/-- The polynomial ends in 1: a CRC's last bit says whether it was added. -/
theorem crcBit16_mod_two (crc : Nat) (b : Bool) : crcBit 16 0x1021 crc b % 2 = b2n (crc.testBit 15 != b) := by
  simp only [crcBit]
  cases crc.testBit 15 != b with
  | false =>
    show crc * 2 % 2 ^ 16 % 2 = 0
    omega
  | true =>
    show (crc * 2 % 2 ^ 16 ^^^ 0x1021) % 2 = 1
    rw [Nat.xor_mod_two_eq_one]
    omega

theorem xor_right_cancel {x y z : Nat} (h : x ^^^ z = y ^^^ z) : x = y := by
  have hundo (n : Nat) : n ^^^ z ^^^ z = n := by rw [Nat.xor_assoc, Nat.xor_self, Nat.xor_zero]
  rw [← hundo x, h, hundo]

theorem b2n_injective {b b' : Bool} (h : b2n b = b2n b') : b = b' := by
  revert b b'
  decide

/-- Equal CRCs have both or neither had the polynomial added. -/
theorem crcBit16_feedback {c c' : Nat} {b b' : Bool} (h : crcBit 16 0x1021 c b = crcBit 16 0x1021 c' b') :
    (c.testBit 15 != b) = (c'.testBit 15 != b') :=
  b2n_injective (by rw [← crcBit16_mod_two, h, crcBit16_mod_two])

/-- From one CRC, different bits lead to different ones. -/
theorem crcBit16_bit_injective {c : Nat} {b b' : Bool} (h : crcBit 16 0x1021 c b = crcBit 16 0x1021 c b') : b = b' :=
  Bool.bne_right_inj.mp (crcBit16_feedback h)

/-- From different CRCs, one bit leads to different ones. -/
theorem crcBit16_injective {c c' : Nat} (b : Bool) (hc : c < 2 ^ 16) (hc' : c' < 2 ^ 16)
    (h : crcBit 16 0x1021 c b = crcBit 16 0x1021 c' b) : c = c' := by
  have htop : c.testBit 15 = c'.testBit 15 := Bool.bne_left_inj.mp (crcBit16_feedback h)
  have hshift : c * 2 % 2 ^ 16 = c' * 2 % 2 ^ 16 := by
    simp only [crcBit, htop] at h
    split at h
    · exact xor_right_cancel h
    · exact h
  rw [Nat.testBit_eq_decide_div_mod_eq, Nat.testBit_eq_decide_div_mod_eq, decide_eq_decide] at htop
  omega

/-- So do the same bits in a row. -/
theorem crcBits16_injective (bs : List Bool) {c c' : Nat} (hc : c < 2 ^ 16) (hc' : c' < 2 ^ 16)
    (h : bs.foldl (crcBit 16 0x1021) c = bs.foldl (crcBit 16 0x1021) c') : c = c' := by
  induction bs generalizing c c' with
  | nil => exact h
  | cons b bs ih => exact crcBit16_injective b hc hc' (ih (crcBit16_lt c b) (crcBit16_lt c' b) h)

theorem crcBits16_lt (bs : List Bool) {c : Nat} (hc : c < 2 ^ 16) : bs.foldl (crcBit 16 0x1021) c < 2 ^ 16 := by
  induction bs generalizing c with
  | nil => exact hc
  | cons b bs ih => exact ih (crcBit16_lt c b)

/-- Inverting a bit above the low n leaves these. -/
theorem bitsMsb_flip_above {n j : Nat} (v : Nat) (h : n ≤ j) : bitsMsb n (v ^^^ 2 ^ j) = bitsMsb n v := by
  induction n with
  | zero => rfl
  | succ n ih =>
    rw [bitsMsb, bitsMsb, ih (by omega), Nat.testBit_xor, Nat.testBit_two_pow_of_ne (by omega), Bool.xor_false]

/-- One inverted bit changes the CRC. -/
theorem crcBits16_flip {n j : Nat} (v c : Nat) (h : j < n) :
    (bitsMsb n (v ^^^ 2 ^ j)).foldl (crcBit 16 0x1021) c ≠ (bitsMsb n v).foldl (crcBit 16 0x1021) c := by
  induction n generalizing c with
  | zero => exact absurd h (Nat.not_lt_zero j)
  | succ n ih =>
    rw [bitsMsb, bitsMsb, List.foldl_cons, List.foldl_cons, Nat.testBit_xor]
    rcases Nat.lt_succ_iff_lt_or_eq.mp h with hj | rfl
    · rw [Nat.testBit_two_pow_of_ne (by omega), Bool.xor_false]
      exact ih _ hj
    · rw [Nat.testBit_two_pow_self, Bool.xor_true, bitsMsb_flip_above v (Nat.le_refl _)]
      exact fun he => (Bool.not_eq_self _).mp
        (crcBit16_bit_injective (crcBits16_injective _ (crcBit16_lt c _) (crcBit16_lt c _) he))

theorem crc16Header_lt (hdr : Nat) : crc16Header hdr < 2 ^ 16 := crcBits16_lt _ (by decide)

/-- A header is good where its last 16 bits are the CRC of the bits before. -/
theorem hdrGood_iff (hdr : Nat) : hdrGood hdr = true ↔ hdr % 2 ^ 16 = crc16Header hdr := beq_iff_eq

/-- One inverted bit of a good header is noticed: in the CRC itself, or by the CRC of the bits before it. -/
theorem hdrGood_flip {hdr k : Nat} (hg : hdrGood hdr = true) (hk : k < 160) : hdrGood (hdr ^^^ 2 ^ k) = false := by
  rw [hdrGood_iff] at hg
  rw [← Bool.not_eq_true, hdrGood_iff, Nat.xor_mod_two_pow, hg, crc16Header, crc16Header, Nat.shiftRight_xor_distrib]
  rcases Nat.lt_or_ge k 16 with h | h
  · have hout : 2 ^ k >>> 16 = 0 := by
      rw [Nat.shiftRight_eq_div_pow, Nat.div_eq_of_lt (Nat.pow_lt_pow_right (by decide) h)]
    have hin : 2 ^ k % 2 ^ 16 = 2 ^ k := Nat.mod_eq_of_lt (Nat.pow_lt_pow_right (by decide) h)
    rw [hout, hin, Nat.xor_zero]
    exact fun he => Nat.ne_of_gt (Nat.two_pow_pos k)
      (xor_right_cancel ((Nat.xor_comm _ _).trans (he.trans (Nat.zero_xor _).symm)))
  · have hout : 2 ^ k >>> 16 = 2 ^ (k - 16) := by
      rw [Nat.shiftRight_eq_div_pow, Nat.pow_div h (by decide)]
    have hin : 2 ^ k % 2 ^ 16 = 0 := Nat.mod_eq_zero_of_dvd (Nat.pow_dvd_pow 2 h)
    rw [hout, hin, Nat.xor_zero]
    exact (crcBits16_flip _ _ (by omega)).symm

/-! ## The downstream header (R164) -/

/-- The fields of a downstream header before its CRC, as wide as R164 gives them. -/
def DownHead.fields (h : DownHead) : List (Nat × Nat) :=
  [(4, 5), (32, h.frame), (16, h.epoch), (1, h.role), (2, h.posture), (1, h.trip), (1, h.planValid), (1, h.keep), (1, h.mgmtOpen),
    (5, 0), (16, h.mapId), (64, 0)]

/-- The CRC of the fields before it. -/
def DownHead.crc (h : DownHead) : Nat := crc16Header (packFields (h.fields ++ [(16, 0)]))

theorem DownHead.crc_mod (h : DownHead) : h.crc % 2 ^ 16 = h.crc := Nat.mod_eq_of_lt (crc16Header_lt _)

/-- The CRC is added in the place that the fields leave for it (R166). -/
theorem DownHead.word_eq_add (h : DownHead) : h.word = packFields (h.fields ++ [(16, 0)]) + h.crc := by
  simp only [DownHead.word, DownHead.crc, DownHead.fields, List.cons_append, List.nil_append]

/-- The header is its fields and their CRC, packed. -/
theorem DownHead.word_eq (h : DownHead) : h.word = packFields (h.fields ++ [(16, h.crc)]) := by
  rw [h.word_eq_add, packFields_append, packFields_append, packFields_singleton, packFields_singleton, h.crc_mod, Nat.zero_mod,
    Nat.add_zero, fieldsWidth_cons, fieldsWidth_cons]

theorem DownHead.word_lt (h : DownHead) : h.word < 2 ^ 160 := by
  have hwidth : fieldsWidth (h.fields ++ [(16, h.crc)]) = 160 := by simp [DownHead.fields]
  rw [h.word_eq, ← hwidth]
  exact packFields_lt _

/-- The n-th field of the header reads back at its payload bits. -/
theorem DownHead.hdrField_word (h : DownHead) (n : Nat) {w v a b : Nat} (hfs : h.fields[n]? = some (w, v))
    (hr : fieldsWidth (h.fields.drop (n + 1)) + 16 = 159 - b) (hw : b - a + 1 = w) : hdrField h.word a b = v % 2 ^ w := by
  obtain ⟨hn, hget⟩ := List.getElem?_eq_some_iff.mp hfs
  have hsplit : h.fields = h.fields.take n ++ (w, v) :: h.fields.drop (n + 1) := by
    rw [← hget, List.getElem_cons_drop, List.take_append_drop]
  have hwidth : fieldsWidth (h.fields.drop (n + 1) ++ [(16, h.crc)]) = 159 - b := by
    rw [← hr, fieldsWidth_append, fieldsWidth_cons, fieldsWidth_nil]
  rw [h.word_eq]
  exact hdrField_packFields _ ((congrArg (· ++ [(16, h.crc)]) hsplit).trans (List.append_assoc ..)) hwidth hw

/-- A header that is sent passes its check. -/
theorem DownHead.hdrGood_word (h : DownHead) : hdrGood h.word = true := by
  have hlow : hdrField h.word 144 159 = h.crc % 2 ^ 16 := h.word_eq ▸ hdrField_packFields h.fields rfl rfl rfl
  have hrest (v : Nat) : packFields (h.fields ++ [(16, v)]) >>> 16 = packFields h.fields := packFields_shift h.fields [(16, v)]
  have hcrc : crc16Header h.word = h.crc := by
    rw [h.word_eq, DownHead.crc, crc16Header, crc16Header, hrest, hrest]
  rw [hdrGood, hlow, hcrc, h.crc_mod, beq_self_eq_true]

/-- Settles O24: each field by its place among the packed ones. -/
theorem headerCarriesItsFields : Obligations.HeaderCarriesItsFields := by
  intro h hepoch hrole hposture htrip hplan hkeep hmgmt hmap
  refine ⟨h.word_lt, ?_, ?_, ?_, ?_, ?_, ?_, ?_, ?_, ?_, ?_, ?_, ?_, h.hdrGood_word⟩
  · exact (h.hdrField_word 0 rfl (by simp [DownHead.fields]) rfl).trans (Nat.mod_eq_of_lt (by decide))
  · exact h.hdrField_word 1 rfl (by simp [DownHead.fields]) rfl
  · exact (h.hdrField_word 2 rfl (by simp [DownHead.fields]) rfl).trans (Nat.mod_eq_of_lt hepoch)
  · exact (h.hdrField_word 3 rfl (by simp [DownHead.fields]) rfl).trans (Nat.mod_eq_of_lt hrole)
  · exact (h.hdrField_word 4 rfl (by simp [DownHead.fields]) rfl).trans (Nat.mod_eq_of_lt hposture)
  · exact (h.hdrField_word 5 rfl (by simp [DownHead.fields]) rfl).trans (Nat.mod_eq_of_lt htrip)
  · exact (h.hdrField_word 6 rfl (by simp [DownHead.fields]) rfl).trans (Nat.mod_eq_of_lt hplan)
  · exact (h.hdrField_word 7 rfl (by simp [DownHead.fields]) rfl).trans (Nat.mod_eq_of_lt hkeep)
  · exact (h.hdrField_word 8 rfl (by simp [DownHead.fields]) rfl).trans (Nat.mod_eq_of_lt hmgmt)
  · exact (h.hdrField_word 9 rfl (by simp [DownHead.fields]) rfl).trans (Nat.zero_mod _)
  · exact (h.hdrField_word 10 rfl (by simp [DownHead.fields]) rfl).trans (Nat.mod_eq_of_lt hmap)
  · exact (h.hdrField_word 11 rfl (by simp [DownHead.fields]) rfl).trans (Nat.zero_mod _)

/-- Settles O25: the header that is sent is good, and one inverted bit of a good header is noticed. -/
theorem oneWrongBitFailsTheHeader : Obligations.OneWrongBitFailsTheHeader :=
  fun h _ hk => hdrGood_flip h.hdrGood_word hk

/-! ## Epochs and frame numbers modulo their width (R163, R168) -/

/-- An epoch is later by the distance that leads to it, from 1 to 32,767 (R168). -/
theorem laterEpoch_iff {a b : Nat} (ha : a < 2 ^ 16) (hb : b < 2 ^ 16) :
    laterEpoch a b = true ↔ ∃ k, 1 ≤ k ∧ k ≤ 32_767 ∧ (b + k) % 2 ^ 16 = a := by
  rw [laterEpoch, decide_eq_true_eq]
  constructor
  · exact fun ⟨h1, h2⟩ => ⟨(a + 2 ^ 16 - b) % 2 ^ 16, h1, h2, by omega⟩
  · rintro ⟨k, h1, h2, rfl⟩
    omega

theorem laterEpoch_asymm {a b : Nat} (h : laterEpoch a b = true) :
    laterEpoch b a = false := by
  simp only [laterEpoch, decide_eq_true_eq, decide_eq_false_iff_not] at h ⊢
  omega

/-- Half the circle apart is the one distance at which neither epoch is later. -/
theorem laterEpoch_total {a b : Nat} (ha : a < 2 ^ 16) (hb : b < 2 ^ 16) (hne : a ≠ b) (hhalf : (b + 32_768) % 2 ^ 16 ≠ a) :
    laterEpoch a b = true ∨ laterEpoch b a = true := by
  simp only [laterEpoch, decide_eq_true_eq]
  omega

/-- The number taken for 32 received bits carries them, and no number that does lies nearer to the device's frame (R163). -/
theorem near48_nearest {lo f : Nat} (hlo : lo < 2 ^ 32) (hf : 2 ^ 32 ≤ f) :
    near48 lo f % 2 ^ 32 = lo ∧ near48 lo f ≤ f + 2 ^ 31 ∧ f ≤ near48 lo f + 2 ^ 31 := by
  simp only [near48]
  split
  · omega
  · split <;> omega

/-- Settles O22. -/
theorem laterIsAsymmetric : Obligations.LaterIsAsymmetric :=
  ⟨fun _ _ ha hb => ⟨laterEpoch_iff ha hb, laterEpoch_asymm, laterEpoch_total ha hb⟩, fun _ _ => near48_nearest⟩

/-! ## What an echo fixes (R182, R183) -/

section Echoes

variable {ok : Bool} {hdr echo w : Nat} {cmd : Option Nat}

theorem echo_start (echo : Nat) : bits echo 6 2 = echo / 64 % 4 :=
  congrArg (· % 4) (Nat.shiftRight_eq_div_pow echo 6)

theorem echo_stop (echo : Nat) : bits echo 4 2 = echo / 16 % 4 :=
  congrArg (· % 4) (Nat.shiftRight_eq_div_pow echo 4)

theorem command_offset (w : Nat) : bits w 4 10 = w / 16 % 2 ^ 10 :=
  congrArg (· % 2 ^ 10) (Nat.shiftRight_eq_div_pow w 4)

/-- Without the posture bit, a state that begins and ends the frame holds over it. -/
theorem echoStates_constant (hp : echo.testBit 2 = false) (h : echo / 64 % 4 = echo / 16 % 4) :
    echoStates ok hdr echo cmd = some [(0, echo / 64 % 4)] := by
  simp only [echoStates, bit, hp, echo_start, echo_stop, h, Bool.false_eq_true, if_false, if_true]

/-- A change is placed by a command of which a good header and the echo say that it was applied. -/
theorem echoStates_change (hp : echo.testBit 2 = false) (h : echo / 64 % 4 ≠ echo / 16 % 4) :
    echoStates ok hdr echo (some w) =
      if ok && echoShows w (echo / 64 % 4) (echo / 16 % 4) then
        some [(0, echo / 64 % 4), (w / 16 % 2 ^ 10, echo / 16 % 4)]
      else none := by
  simp only [echoStates, bit, hp, echo_start, echo_stop, command_offset, h, Bool.false_eq_true, if_false]

/-- Without a command, nothing places a change. -/
theorem echoStates_change_unplaced (hp : echo.testBit 2 = false) (h : echo / 64 % 4 ≠ echo / 16 % 4) :
    echoStates ok hdr echo none = none := by
  simp only [echoStates, bit, hp, echo_start, echo_stop, h, Bool.false_eq_true, if_false]

/-- The state of the posture that the header reports: OPEN, or BYPASS. -/
def postureState (hdr : Nat) : Nat := if hdrField hdr 54 55 = 2 then 3 else 0

/-- With the posture bit, a failed header leaves the posture unknown. -/
theorem echoStates_posture_failed (hp : echo.testBit 2 = true) : echoStates false hdr echo cmd = none := by
  simp only [echoStates, bit, hp, Bool.not_false, if_true]

/-- A posture taken at tick 0 holds over the frame. -/
theorem echoStates_posture_whole (hp : echo.testBit 2 = true) (h0 : hdrField hdr 60 69 = 0) :
    echoStates true hdr echo cmd = some [(0, postureState hdr)] := by
  simp only [echoStates, bit, hp, h0, Bool.not_true, Bool.false_eq_true, if_false, if_true, postureState]

/-- A posture taken later leaves what came before unknown without a command. -/
theorem echoStates_posture_unplaced (hp : echo.testBit 2 = true) (h0 : hdrField hdr 60 69 ≠ 0) :
    echoStates true hdr echo none = none := by
  simp only [echoStates, bit, hp, h0, Bool.not_true, Bool.false_eq_true, if_false, if_true]

/-- The changes after the boundary of a switch that enters posture `ps` at tick `t`: first the command's, where it moves the switch,
then that to the posture, where the switch does not yet stand in it. -/
def entryPath (moves : Bool) (offset goal start t ps : Nat) : List (Nat × Nat) :=
  (if moves then [(offset, goal)] else []) ++ if (if moves then goal else start) = ps then [] else [(t, ps)]

/-- It ends in the posture. -/
theorem entryPath_ends (moves : Bool) (offset goal start t ps : Nat) :
    ((0, start) :: entryPath moves offset goal start t ps).getLast?.map Prod.snd = some ps := by
  unfold entryPath
  cases moves with
  | false =>
    by_cases h : start = ps <;> simp [h]
  | true =>
    by_cases h : goal = ps <;> simp [h]

/-- Nothing changes after the posture is taken, if the command comes before it. -/
theorem entryPath_until {moves : Bool} {offset goal start t ps : Nat} (hm : moves = true → offset ≤ t) :
    ∀ e ∈ entryPath moves offset goal start t ps, e.1 ≤ t := by
  intro e he
  rcases List.mem_append.mp he with h | h
  · obtain ⟨hmv, he⟩ := List.mem_ite_nil_right.mp h
    obtain rfl := List.mem_singleton.mp he
    exact hm hmv
  · obtain ⟨-, he⟩ := List.mem_ite_nil_left.mp h
    obtain rfl := List.mem_singleton.mp he
    exact Nat.le_refl t

/-- The state that a command leaves the switch in (R182): a `PULSE` returns it to BYPASS. -/
def commandGoal (w : Nat) : Nat := if w % 4 = 1 then 0 else w / 2 ^ 14

/-- A command moves a switch that begins in `start` within the frame, before tick `t`. -/
def commandMoves (w start t : Nat) : Bool :=
  decide (bits w 4 10 < t ∧ bits w 4 10 ≠ 0 ∧ commandGoal w ≠ start)

/-- A posture taken later follows a command that begins as the echo says. -/
theorem echoStates_posture_entered (hp : echo.testBit 2 = true) (h0 : hdrField hdr 60 69 ≠ 0) :
    echoStates true hdr echo (some w) =
      if echoBegins w (echo / 64 % 4) then
        some ((0, echo / 64 % 4) :: entryPath (commandMoves w (echo / 64 % 4) (hdrField hdr 60 69)) (bits w 4 10) (commandGoal w)
          (echo / 64 % 4) (hdrField hdr 60 69) (postureState hdr))
      else none := by
  cases hb : echoBegins w (echo / 64 % 4) <;>
    simp only [echoStates, bit, hp, h0, hb, echo_start, Bool.not_true, Bool.not_false, Bool.false_eq_true, if_false, if_true]
  rfl

end Echoes

/-- Settles O26: without the posture bit by whether the state changes, with it by when the posture is taken. -/
theorem echoFixesTheSwitchStates : Obligations.EchoFixesTheSwitchStates := by
  intro ok hdr echo cmd
  refine ⟨echoStates_constant, ?_, ?_, ?_, ?_, ?_, ?_⟩
  · rintro hp hne rfl w rfl
    rw [echoStates_change hp hne, Bool.true_and]
  · rintro hp hne rfl
    cases cmd with
    | none => exact echoStates_change_unplaced hp hne
    | some w => exact echoStates_change hp hne
  · rintro hp hne rfl
    exact echoStates_change_unplaced hp hne
  · rintro hp rfl h0
    exact echoStates_posture_whole hp h0
  · rintro hp rfl h0
    refine ⟨?_, ?_, ?_⟩
    · rintro rfl
      exact echoStates_posture_unplaced hp h0
    · rintro w rfl hb
      rw [echoStates_posture_entered hp h0, hb]
      rfl
    · rintro w rfl hb
      refine ⟨_, (echoStates_posture_entered hp h0).trans (if_pos hb), entryPath_ends .., entryPath_until fun hm => ?_⟩
      exact Nat.le_of_lt (of_decide_eq_true hm).1
  · rintro hp rfl
    exact echoStates_posture_failed hp

/-! ## Frames launched and received (R163, R167, R185) -/

section Frames

variable {d : Dev} {l payload corr : Nat} {soon full : Bool} {bad : List Nat}

/-- Nothing keeps a lane that takes frames from its launch. -/
theorem Dev.launches_free (hl : d.launches l) :
    ¬(!d.laneOn l || isTwin l || !d.k03 || !(decide (2 ≤ d.laneState l ∧ d.laneState l ≤ 5))) = true := by
  obtain ⟨hon, ht, hk, h2, h5⟩ := hl
  simp [hon, ht, hk, h2, h5]

/-- A lane whose `DISABLE` has had its frames of posture goes down instead. -/
theorem Dev.frameLaunch_down (hl : d.launches l) (hd : (d.lane l).disTkt ≠ 0) (hp : (d.lane l).postureLeft = 0) :
    d.frameLaunch l soon = d.enterDown l 1 :=
  (if_neg (Dev.launches_free hl)).trans (if_pos ⟨hd, hp⟩)

/-- A header as it is received is good: in codeword 0 without error, by its check, its format and its posture (R185). -/
def headerOk (payload : Nat) (bad : List Nat) : Bool :=
  !(decide (0 ∈ bad)) && hdrGood (payField payload 0 160) && hdrField (payField payload 0 160) 0 3 == 10 &&
    hdrField (payField payload 0 160) 54 55 != 3

theorem headerOk_of_good (h0 : 0 ∉ bad) (hg : hdrGood (payField payload 0 160) = true)
    (hf : hdrField (payField payload 0 160) 0 3 = 10) (hp : hdrField (payField payload 0 160) 54 55 ≠ 3) :
    headerOk payload bad = true := by
  simp [headerOk, h0, hg, hf, hp]

/-- Nothing keeps a frame from a lane that hears. -/
theorem Dev.hears_free (hh : d.hears l) :
    ¬(!d.laneOn l || isTwin l || !(decide (2 ≤ d.laneState l ∧ d.laneState l ≤ 5)) || !d.flag LNK_STATUS_cw_lock l) = true := by
  obtain ⟨hon, ht, h2, h5, hcw⟩ := hh
  simp [hon, ht, h2, h5, hcw]

/-- Before frame alignment a frame is judged for it (R142). -/
theorem Dev.upstream_unaligned (hh : d.hears l) (hlock : d.flag LNK_STATUS_frame_lock l = false) :
    d.upstream l payload bad corr full =
      d.alignHeader l (headerOk payload bad) (hdrField (payField payload 0 160) 4 35) (2 ^ 32) :=
  (if_neg (Dev.hears_free hh)).trans (if_pos (by rw [hlock]; rfl))

/-- A lane on which a good header has come. -/
def Dev.headerGood (d : Dev) (l : Nat) : Dev := d.putLane l { d.lane l with hdrBad := 0 }

/-- With frame alignment a frame with a good header is followed in ALIGN, and takes its place in ENUM to SAFE. -/
theorem Dev.upstream_aligned (hh : d.hears l) (hlock : d.flag LNK_STATUS_frame_lock l = true)
    (hok : headerOk payload bad = true) :
    d.upstream l payload bad corr full =
      if d.laneState l = 2 then (d.headerGood l).alignFrame l payload bad true corr full
      else (d.headerGood l).framePlaced l payload bad true corr full := by
  have hst : (d.headerGood l).laneState l = d.laneState l := rfl
  refine (if_neg (Dev.hears_free hh)).trans ((if_neg (by rw [hlock]; decide)).trans ?_)
  change (let d' := if headerOk payload bad then d.headerGood l else d.headerFailed l
    if d'.laneState l = 2 then (if d.laneState l = 2 then d'.alignFrame l payload bad (headerOk payload bad) corr full else d')
    else d'.framePlaced l payload bad (headerOk payload bad) corr full) = _
  rw [hok, if_pos rfl]
  dsimp only
  rw [hst]
  split <;> rfl

/-- `UPSTREAM_FRAME_RECEIVED` that names the last 800 codewords completes with what the lane makes of the frame. -/
theorem Completes.upstream {cond : Dev → Prop} {effect : Dev → Dev}
    (h : ∀ d, cond d → d.rxFrame l = some (payload, bad, corr) ∧ (d.rxTake l).upstream l payload bad corr full = effect d) :
    Completes (.upstreamFrameReceived l payload bad corr full) cond (fun d => (effect d).clockSettle) :=
  .of_onLane (fun s => (rfl : execUpstreamFrameReceived _ _ _ _ _ s = onLane _ s)) fun d hc =>
    (if_pos (h d hc).1).trans (h d hc).2

/-- A frame can be missed by an aligned string lane from ALIGN to SAFE. -/
theorem Dev.misses_free (hon : d.laneOn l = true) (ht : isTwin l = false) (h2 : 2 ≤ d.laneState l) (h5 : d.laneState l ≤ 5)
    (hlock : d.flag LNK_STATUS_frame_lock l = true) :
    (d.laneOn l && !isTwin l && decide (2 ≤ d.laneState l ∧ d.laneState l ≤ 5) && d.flag LNK_STATUS_frame_lock l) = true := by
  simp [hon, ht, h2, h5, hlock]

/-- The lane's next frame is expected after number `lo`. -/
def Dev.expectAfter (d : Dev) (l lo : Nat) : Dev := d.putFrm l { d.frm l with placed := true, expect := (lo + 1) % 2 ^ 32 }

end Frames

/-! ## Management blocks (R186, R187) -/

section Blocks

variable {d : Dev} {l : Nat} {b : List Nat}

/-- A block that R186 keeps: it came on an open channel without error, and its kind is `IDLE` or a message. -/
theorem Dev.mgmtBlock_kept (hon : d.laneOn l = true) (ht : isTwin l = false) (hst : mgmtState (d.laneState l) = true)
    (hlen : b.length = 128) (hcrc : crc32 (b.take 124) = leNat ((b.drop 124).take 4)) (hkind : byteAt b 0 ≤ 1) :
    d.mgmtBlock l b false =
      let d := d.mgmtAck l (leNat ((b.drop 4).take 2))
      if byteAt b 0 = 1 ∧ leNat ((b.drop 2).take 2) = ((d.frm l).rxAck + 1) % 2 ^ 16 then
        (d.putFrm l { d.frm l with rxAck := leNat ((b.drop 2).take 2) }).mgmtAct l (leNat ((b.drop 6).take 2) % 2 ^ 9) (byteAt b 8)
          ((b.drop 10).take (min (byteAt b 9) 110))
      else d := by
  have hopen : ¬(!d.laneOn l || isTwin l || !mgmtState (d.laneState l)) = true := by simp [hon, ht, hst]
  have hgood : ¬(false || decide (b.length ≠ 128) || decide (crc32 (b.take 124) ≠ leNat ((b.drop 124).take 4)) ||
      decide (1 < byteAt b 0)) = true := by simp [hlen, hcrc, hkind]
  exact (if_neg hopen).trans (if_neg hgood)

end Blocks

/-! ## Completion -/

/-- A listed command that nothing turns away or makes wait completes as accepted by its page's gate. -/
theorem Completes.pageCommand {i : Instr} {page op : Nat} {x : CmdDef} {c : Cmd} (h : pageCmdOf i = some (page, op, x, c)) :
    Completes i (fun d => d.accepts page op x c) (fun d => d.accepted page op x c) :=
  .of_onDev (exec_of_pageCmdOf h) fun d hc => d.cmd_accepted page op x c hc

/-- Settles O48: each command's branch of its meaning; commands by the gate of the `FRM` page. -/
theorem frameCommandsComplete : Obligations.FrameCommandsComplete := by
  refine ⟨?_, ?_, ?_, ?_, ?_, ?_, ?_, ?_, ?_, ?_, ?_, ?_, ?_, fun c => .pageCommand rfl, fun c => .pageCommand rfl,
    fun c => .pageCommand rfl, fun c => .pageCommand rfl, fun c => .pageCommand rfl, ?_⟩
  · intro lane soon
    refine .of_onLane (fun s => (rfl : execLaneFrameLaunch _ _ s = onLane _ s)) fun d ⟨hl, hdis⟩ => ?_
    exact (if_neg (Dev.launches_free hl)).trans (if_neg fun ⟨hd, hp⟩ => hdis.elim hd fun h => h hp)
  · intro lane soon
    exact .of_onLane (fun s => (rfl : execLaneFrameLaunch _ _ s = onLane _ s)) fun d ⟨hl, hd, hp⟩ =>
      Dev.frameLaunch_down hl hd hp
  · intro lane payload bad corr flrFull
    exact .upstream fun d ⟨hh, hlock, hrx⟩ => ⟨hrx, Dev.upstream_unaligned (d := d.rxTake lane) hh hlock⟩
  · intro lane payload bad corr flrFull
    refine .upstream fun d ⟨hh, hlock, h3, h0, hg, hf, hp, hrx⟩ => ⟨hrx, ?_⟩
    rw [Dev.upstream_aligned (d := d.rxTake lane) hh hlock (headerOk_of_good h0 hg hf hp)]
    exact if_neg (show ¬d.laneState lane = 2 by omega)
  · intro lane payload bad corr flrFull
    refine .upstream fun d ⟨hh, hlock, h2, h0, hg, hf, hp, hrx⟩ => ⟨hrx, ?_⟩
    rw [Dev.upstream_aligned (d := d.rxTake lane) hh hlock (headerOk_of_good h0 hg hf hp)]
    exact if_pos h2
  · intro lane flrFull
    refine .of_onLane (fun s => (rfl : execMissingUpstreamFrame _ _ s = onLane _ s)) fun d ⟨hon, ht, h3, h5, hlock⟩ => ?_
    refine (if_pos (Dev.misses_free hon ht (by omega) h5 hlock)).trans ?_
    exact congrArg (Dev.expectAfter · lane (d.expected lane)) (if_neg (by omega))
  · intro lane flrFull
    refine .of_onLane (fun s => (rfl : execMissingUpstreamFrame _ _ s = onLane _ s)) fun d ⟨hon, ht, h2, hlock⟩ => ?_
    refine (if_pos (Dev.misses_free hon ht (by omega) (by omega) hlock)).trans ?_
    exact congrArg (Dev.expectAfter · lane (d.expected lane)) (if_pos h2)
  · exact .of_onDev (fun s => (rfl : execEpochRaise s = onDev _ s)) fun d hpend => if_neg (by simpa using hpend)
  · intro lane block bad
    refine .of_onDev (fun s => (rfl : execMgmtBlockReceived _ _ _ s = onDev _ s)) ?_
    rintro d ⟨hon, ht, hst, rfl, hlen, hcrc, hkind⟩
    rw [Dev.mgmtBlock_kept hon ht hst hlen hcrc (by omega)]
    exact if_neg fun ⟨h1, _⟩ => by omega
  · intro lane block bad
    refine .of_onDev (fun s => (rfl : execMgmtBlockReceived _ _ _ s = onDev _ s)) ?_
    rintro d ⟨hon, ht, hst, rfl, hlen, hcrc, hkind, hseq⟩
    rw [Dev.mgmtBlock_kept hon ht hst hlen hcrc (by omega)]
    exact if_pos ⟨hkind, hseq⟩
  · intro lane
    refine .of_onDev (fun s => (rfl : execMgmtRetransmit _ s = onDev _ s)) fun d ⟨hon, hst, hhigh, hstall⟩ => if_pos ?_
    simp [hon, hst, hhigh, hstall]
  · intro lane
    refine .of_onDev (fun s => (rfl : execInventoryRetry _ s = onDev _ s)) fun d ⟨hon, hst, hph⟩ => if_pos ?_
    simpa [hon, hst] using hph
  · intro lane
    exact .of_onDev (fun s => (rfl : execLaneEnterRun _ s = onDev _ s)) fun d hc => if_pos hc
  · intro ch
    refine .of_onDev (fun s => (rfl : execMbxRxRelease _ s = onDev _ s)) fun d ⟨hr, hw⟩ => ?_
    exact (if_neg (by simp [hr])).trans (if_neg (by simp [hw]))

end Sys2Proof.Machine
end

/-!
Proofs of the statements on 07_insertion_scheduler.md: how bank targets and the current limiter's backoff move (R204, R221), and
where the commands of the scheduler and the impedance engine complete.
-/
section
namespace Sys2Proof.Machine

/-! ## Values held between bounds -/

/-- A clamped value lies between the bounds. -/
theorem clampI_bounds {lo hi : Int} (h : lo ≤ hi) (n : Int) : lo ≤ clampI lo hi n ∧ clampI lo hi n ≤ hi :=
  ⟨Int.le_max_left _ _, Int.max_le.mpr ⟨h, Int.min_le_left _ _⟩⟩

/-- A value above the lower bound is held at the upper one alone. -/
theorem clampI_of_le {lo hi n : Int} (h : lo ≤ hi) (hn : lo ≤ n) : clampI lo hi n = min hi n := Int.max_eq_right (Int.le_min.mpr ⟨h, hn⟩)

/-- A value below the upper bound is held at the lower one alone. -/
theorem clampI_of_ge {lo hi n : Int} (hn : n ≤ hi) : clampI lo hi n = max lo n := congrArg (max lo) (Int.min_eq_right hn)

/-- A value between the bounds stays. -/
theorem clampI_of_mem {lo hi n : Int} (h1 : lo ≤ n) (h2 : n ≤ hi) : clampI lo hi n = n :=
  (clampI_of_ge h2).trans (Int.max_eq_right h1)

/-! ## Bank targets (R204) -/

section Slew

variable {now target : Int} {slew : Nat}

/-- A slew above 0 holds the target within the slew of where it stands. -/
theorem slewTo_of_ne_zero (h : slew ≠ 0) : slewTo now target slew = clampI (now - slew) (now + slew) target := if_neg h

/-- With a slew above 0 a target moves by at most the slew. -/
theorem slewTo_moves_within_slew (h : slew ≠ 0) : (slewTo now target slew - now).natAbs ≤ slew := by
  rw [slewTo_of_ne_zero h]
  have hb := clampI_bounds (show now - slew ≤ now + slew by omega) target
  omega

/-- A level within the slew is reached. -/
theorem slewTo_reaches (h : slew ≠ 0) (hn : (now - target).natAbs ≤ slew) : slewTo now target slew = target := by
  rw [slewTo_of_ne_zero h]
  exact clampI_of_mem (by omega) (by omega)

/-- A target does not move away from its level: beyond the slew it moves toward it by the whole slew. -/
theorem slewTo_not_away (h : slew ≠ 0) : (slewTo now target slew - target).natAbs ≤ (now - target).natAbs := by
  by_cases hn : (now - target).natAbs ≤ slew
  · simp [slewTo_reaches h hn]
  rw [slewTo_of_ne_zero h]
  rcases Int.le_total now target with hup | hdown
  · rw [clampI_of_le (by omega) (by omega)]
    omega
  · rw [clampI_of_ge (by omega)]
    omega

end Slew

/-! ## The backoff (R221) -/

/-- A sample lies above the outward limit, or one was overrange high. -/
def SamplesHigh (xs : List Int) (ovrHi : Bool) (out : Nat) : Prop := ovrHi = true ∨ ∃ x ∈ xs, (out * 100_000 : Int) < x

/-- A sample lies below the inward limit, or one was overrange low. -/
def SamplesLow (xs : List Int) (ovrLo : Bool) (in_ : Nat) : Prop := ovrLo = true ∨ ∃ x ∈ xs, x < -(in_ * 100_000 : Int)

/-- Every sample lies within 90 % of both limits. -/
def SamplesNear (xs : List Int) (out in_ : Nat) : Prop := ∀ x ∈ xs, x ≤ (out * 90_000 : Int) ∧ -(in_ * 90_000 : Int) ≤ x

section Backoff

variable {b : Int} {xs : List Int} {ovrHi ovrLo : Bool} {out in_ step : Nat}

/-- What `nextBackoff` asks of the samples in its outward test. -/
theorem samplesHigh_iff : (ovrHi || xs.any fun x => decide ((out * 100_000 : Int) < x)) = true ↔ SamplesHigh xs ovrHi out := by
  simp only [SamplesHigh, Bool.or_eq_true, List.any_eq_true, decide_eq_true_eq]

/-- What `nextBackoff` asks of the samples in its inward test. -/
theorem samplesLow_iff : (ovrLo || xs.any fun x => decide (x < -(in_ * 100_000 : Int))) = true ↔ SamplesLow xs ovrLo in_ := by
  simp only [SamplesLow, Bool.or_eq_true, List.any_eq_true, decide_eq_true_eq]

/-- What `nextBackoff` asks of the samples in its test for the way back. -/
theorem samplesNear_iff :
    (xs.all fun x => decide (x ≤ (out * 90_000 : Int) ∧ -(in_ * 90_000 : Int) ≤ x)) = true ↔ SamplesNear xs out in_ := by
  simp only [SamplesNear, List.all_eq_true, decide_eq_true_eq]

/-- Whatever the samples, the backoff ends within ±5,120. -/
theorem nextBackoff_bounds :
    -5120 ≤ nextBackoff b xs ovrHi ovrLo out in_ step ∧ nextBackoff b xs ovrHi ovrLo out in_ step ≤ 5120 :=
  clampI_bounds (by decide) _

/-- Samples that are high and not low raise the backoff by a step. -/
theorem nextBackoff_high (hh : SamplesHigh xs ovrHi out) (hl : ¬SamplesLow xs ovrLo in_) :
    nextBackoff b xs ovrHi ovrLo out in_ step = clampI (-5120) 5120 (b + step) := by
  rw [← samplesLow_iff, Bool.not_eq_true] at hl
  simp only [nextBackoff, samplesHigh_iff.mpr hh, hl, Bool.true_or, if_true, Bool.false_eq_true, if_false, Int.sub_zero]

/-- Samples that are low and not high lower the backoff by a step. -/
theorem nextBackoff_low (hl : SamplesLow xs ovrLo in_) (hh : ¬SamplesHigh xs ovrHi out) :
    nextBackoff b xs ovrHi ovrLo out in_ step = clampI (-5120) 5120 (b - step) := by
  rw [← samplesHigh_iff, Bool.not_eq_true] at hh
  simp only [nextBackoff, samplesLow_iff.mpr hl, hh, Bool.or_true, if_true, Bool.false_eq_true, if_false, Int.add_zero]

/-- Samples within both limits move the backoff 1 toward 0, or leave it where some lie beyond 90 % of a limit. -/
theorem nextBackoff_between [Decidable (SamplesNear xs out in_)] (hh : ¬SamplesHigh xs ovrHi out)
    (hl : ¬SamplesLow xs ovrLo in_) :
    nextBackoff b xs ovrHi ovrLo out in_ step = clampI (-5120) 5120
      (if SamplesNear xs out in_ then (if 0 < b then b - 1 else if b < 0 then b + 1 else 0) else b) := by
  rw [← samplesHigh_iff, Bool.not_eq_true] at hh
  rw [← samplesLow_iff, Bool.not_eq_true] at hl
  simp only [nextBackoff, hh, hl, samplesNear_iff, Bool.or_self, Bool.false_eq_true, if_false]

/-- Samples within 90 % of both limits take the backoff 1 toward 0. -/
theorem nextBackoff_near (h1 : -5120 ≤ b) (h2 : b ≤ 5120) (hh : ¬SamplesHigh xs ovrHi out) (hl : ¬SamplesLow xs ovrLo in_)
    (hn : SamplesNear xs out in_) : (nextBackoff b xs ovrHi ovrLo out in_ step).natAbs = b.natAbs - 1 := by
  classical
  rw [nextBackoff_between hh hl, if_pos hn]
  split
  · rw [clampI_of_mem (by omega) (by omega)]
    omega
  · split
    · rw [clampI_of_mem (by omega) (by omega)]
      omega
    · rw [clampI_of_mem (by decide) (by decide)]
      omega

/-- Samples within both limits, but not all within 90 % of them, leave the backoff. -/
theorem nextBackoff_stays (h1 : -5120 ≤ b) (h2 : b ≤ 5120) (hh : ¬SamplesHigh xs ovrHi out) (hl : ¬SamplesLow xs ovrLo in_)
    (hn : ¬SamplesNear xs out in_) : nextBackoff b xs ovrHi ovrLo out in_ step = b := by
  classical
  rw [nextBackoff_between hh hl, if_neg hn]
  exact clampI_of_mem h1 h2

end Backoff

/-- Settles O27: the slew by whether the level lies within it, the backoff by what the samples show. -/
theorem bankTargetSlewsAndBackoffClamps : Obligations.BankTargetSlewsAndBackoffClamps := by
  refine ⟨fun now target slew => ⟨fun h => if_pos h, fun h => ?_⟩, fun b xs ovrHi ovrLo out in_ step h1 h2 => ?_⟩
  · exact ⟨slewTo_moves_within_slew h, slewTo_not_away h, slewTo_reaches h⟩
  · refine ⟨nextBackoff_bounds.2, nextBackoff_bounds.1, fun hh hl => ?_, fun hl hh => ?_, nextBackoff_near h1 h2,
      nextBackoff_stays h1 h2⟩
    · exact (nextBackoff_high hh hl).trans (clampI_of_le (by decide) (by omega))
    · exact (nextBackoff_low hl hh).trans (clampI_of_ge (by omega))

section Scheduler

variable {d : Dev} {ch off val : Nat}

/-! ## Writes of the shadow table (R58, R235) -/

/-- A write of the shadow table without privilege is not recorded (R58, R84). -/
theorem Dev.windowWrite_shadow_unpriv (hon : d.pageOn (windowPage 0) = true) (hp : d.pairedStandby = false) :
    d.windowWrite ch false 0 off val = d.shadowWrite off val := by
  simp only [Dev.windowWrite, Dev.tableWrite, hon, hp, Bool.not_true, Bool.false_eq_true, Nat.reduceLeDiff, false_and, or_self,
    if_false, Bool.and_false, if_true]

/-- A legal write of a shadow entry under the privileged view is taken, then recorded (R84). -/
theorem Dev.windowWrite_shadow_priv (hon : d.pageOn (windowPage 0) = true) (hp : d.pairedStandby = false)
    (hr : d.ldgReserve = false) (hl : limLegal off (d.limRead d.sch.shadow off) val = true) (hf : limFields off ≠ []) :
    d.windowWrite ch true 0 off val = (d.shadowWrite off val).privRecord ch 1 0 off val 0 rOK := by
  simp only [Dev.windowWrite, Dev.tableWrite, hon, hp, hr, hl, List.isEmpty_eq_false_iff.mpr hf, Bool.not_true, Bool.not_false,
    Bool.false_eq_true, Nat.reduceLeDiff, false_and, and_false, or_self, if_false, Bool.and_self, if_true]

/-! ## Events that act on conditions of their own -/

/-- The spectra of a minute boundary whose results are all in are written while the store is in use and the time allows it
(R263). -/
theorem Dev.minuteWrite_written {m : Nat × Nat × Nat} (hm : d.imp.minute = some m) (ho : d.resultsOwed m.1 = false)
    (hc : (d.flag IMP_CFG_spectra_en && d.estimationSet && d.memLive && decide (d.frame < m.1 + 250)) = true) :
    d.minuteWrite =
      let d := { d with imp := { d.imp with minute := none } }
      each (d.imp.lanes.map (·.1)) (fun l (d : Dev) =>
        each (List.range (d.impLane l).cells.length) (fun o (d : Dev) => d.spectraWrite l o m) d) d := by
  unfold Dev.minuteWrite
  rw [hm]
  exact (if_neg (by simp [ho])).trans (if_pos hc)

/-- What a lane keeps of its windows does not say whether its filters run. -/
@[simp] theorem Dev.putImp_filtersOn (l : Nat) (x : ImpLane) (k : Nat) : (d.putImp l x).filtersOn k = d.filtersOn k := rfl

/-- What a lane keeps of its windows is no register field. -/
@[simp] theorem Dev.putImp_flag (l : Nat) (x : ImpLane) (f : Field) (k : Nat) : (d.putImp l x).flag f k = d.flag f k := rfl

end Scheduler

/-- Settles O49: each command's branch of its meaning; commands by the gate of their page, table writes by their window. -/
theorem schedulerAndImpedanceCommandsComplete : Obligations.SchedulerAndImpedanceCommandsComplete := by
  refine ⟨?_, ?_, ?_, ?_, fun c => .pageCommand rfl, fun c => .pageCommand rfl, fun c => .pageCommand rfl,
    fun c => .pageCommand rfl, ?_, ?_, ?_, ?_, ?_, ?_, ?_, ?_, ?_, ?_⟩
  · intro m
    exact .of_onDev (fun s => (rfl : execMinuteBoundary s = onDev _ s)) fun d ⟨hm, ho, hc⟩ => Dev.minuteWrite_written hm ho hc
  · intro lane
    exact .of_onDev (fun s => (rfl : execRankRefresh _ s = onDev _ s)) fun d hc => if_pos hc
  · intro ch off val
    refine .of_onDev (fun s => (rfl : execShadowTableWrite _ _ _ _ s = onDev _ s)) ?_
    rintro d ⟨⟨hch, hu, hb, h4, hon, hp⟩, hw⟩
    rw [d.tableAccess_unpriv hch hu hb h4 (.inl Nat.zero_lt_two) hw, Dev.windowWrite_shadow_unpriv hon hp]
  · intro ch off val
    refine .of_onDev (fun s => (rfl : execShadowTableWrite _ _ _ _ s = onDev _ s)) ?_
    rintro d ⟨⟨hch, hu, hb, h4, hon, hp⟩, hw, hph, hcov, hr, hl, hf⟩
    have hops : d.covers ch (pageScope (windowPage 0)) = true := hcov
    rw [d.tableAccess_priv hch hu hb h4 (.inl Nat.zero_lt_two) hw hph, hops, Dev.windowWrite_shadow_priv hon hp hr hl hf]
  · intro g freq amp phase
    exact .of_onDev (fun s => (rfl : execGridLockGained _ _ _ _ s = onDev _ s)) fun d hc => if_pos hc
  · intro g
    refine .of_onDev (fun s => (rfl : execGridLockLost _ s = onDev _ s)) fun d ⟨hr, hg, hl⟩ => ?_
    exact (if_pos (by simp [hr, hg])).trans (congrArg Dev.trimSettle (if_pos hl))
  · intro lane slot
    exact .of_onDev (fun s => (rfl : execStirDwellExpiry _ _ s = onDev _ s)) fun d hc => if_pos hc
  · intro lane idx e
    refine .of_onDev (fun s => (rfl : execBrokenTRestore _ _ s = onDev _ s)) fun d ⟨he, hs, hn, ht⟩ => ?_
    rw [he]
    exact if_pos (by simp [hs, hn, ht])
  · intro c
    exact .of_onDev (fun s => (rfl : execPlanApply _ s = onDev _ s)) fun d ⟨hw, hacc⟩ => d.wakingCmd_accepted _ _ _ _ hw hacc
  · intro lane bin
    exact .of_onDev (fun s => (rfl : execBinPlanTake _ _ s = onDev _ s)) fun d hc => if_neg (by simpa using hc)
  · intro lane bin
    exact .of_onDev (fun s => (rfl : execWindowClose _ _ s = onDev _ s)) fun d hc => if_pos hc
  · intro lane bin
    exact .of_onDev (fun s => (rfl : execResultDelivery _ _ s = onDev _ s)) fun d ⟨hb, hf, hh⟩ =>
      (if_neg (not_not_intro hb)).trans (if_neg (by simp [hf, hh]))
  · intro lane
    refine .of_onDev (fun s => (rfl : execOffsetRefresh _ s = onDev _ s)) fun d hc => if_pos ?_
    simp only [Bool.and_eq_true, Bool.or_eq_true] at hc ⊢
    obtain ⟨hdue, hfree⟩ := hc
    exact ⟨hdue, .inl hfree⟩
  · intro lane
    exact .of_onDev (fun s => (rfl : execOffsetRefreshForced _ s = onDev _ s)) fun d hc => if_pos hc

end Sys2Proof.Machine
end

/-!
Proofs of the statements on 09_state_estimation.md: the step's work (R268, R276, R281, R283, R286), the commands accepted for a
health boundary (R291, R303), checkpoints (R293), hibernation and waking (R300, R301), and where the commands of state estimation
complete.
-/
section
namespace Sys2Proof.Machine

section Estimation

variable {d : Dev} {l idx : Nat}

/-! ## The step's work (R276, R281, R283) -/

/-- What the estimator keeps of a cell is no command that waits. -/
@[simp] theorem Dev.estUpd_importDue (k i : Nat) (f : EstCell → EstCell) :
    (d.estUpd k i f).importDue l idx = d.importDue l idx := rfl

/-- A rested anchor whose segment's slope suffices is accepted where neither a declaration nor an `IMPORT` takes its place (R281,
R303). -/
theorem Dev.restAnchor_accepted {soc : Rat} (hr : (d.estCell l idx).restDue = some (soc, true)) (hd : (d.estCell l idx).declDue = 0)
    (hi : d.importDue l idx = false) :
    d.restAnchor l idx =
      (d.estUpd l idx fun x => { x with restDue := none }).anchor l idx
        (soc, ((d.estCell l idx).ctot : Rat) + (d.estCell l idx).stepQ) := by
  simp only [Dev.restAnchor, hr]
  exact if_pos (by simp [hd, hi])

/-- A declaration that is due is discarded where an `IMPORT` takes effect at the same boundary, and with it the step's anchor
(R303). -/
theorem Dev.declare_discarded (hd : (d.estCell l idx).declDue ≠ 0) (hi : d.importDue l idx = true) :
    d.declare l idx = d.estUpd l idx fun x => { x with declDue := 0, restDue := none } :=
  (if_neg hd).trans (if_pos hi)

/-! ## Commands accepted for a health boundary (R291, R293, R303) -/

/-- The first of the accepted commands that wait is applied once it is due, before those that follow it. -/
theorem Dev.estRun_due {c : EstCmd} (rest : List EstCmd) (h5 : c.op ≠ 5) (hd : d.estDue c = true) :
    d.estRun (c :: rest) = (d.estApply c).estRun rest :=
  if_neg (by simp [h5, hd])

/-- A `CKPT_LOAD` that the commands before it have left first, and whose boundary has come, places every position's record. -/
theorem Dev.ckptLoadRun_places {c : EstCmd} {rest : List EstCmd} (hc : (d.estRun d.est.cmds).est.cmds = c :: rest) (h5 : c.op = 5)
    (hat : c.at_ < (d.estRun d.est.cmds).frame / 5_000 * 5_000) :
    d.ckptLoadRun =
      let d := d.estRun d.est.cmds
      let d := each (List.range allPositions) (fun k (d : Dev) => d.ckptPlace k) { d with est := { d.est with cmds := rest } }
      (({ d with est := { d.est with ckpt := 0, ckptTkt := 0 } }.put EST_CKPT_STATUS_state 3).done c.ticket).pageIrq 0x017 2 := by
  simp only [Dev.ckptLoadRun, hc]
  exact if_pos ⟨h5, hat⟩

/-- The island's signature of a checkpoint's header ends the checkpoint (R293). -/
theorem Dev.ckptSigned_first {j : SigJob} {rest : List SigJob} (hj : d.isl.docs = j :: rest) (h3 : d.isl.current = 3)
    (h4 : j.kind = 4) :
    d.ckptSigned =
      let sig := Config.ecdsaSign d.isl.priv (Config.sha384 d.est.ckptHead)
      let d := d.memWriteSpan (d.ckptAddr + 128) (beBytes 96 sig)
      let d := d.record 0x23 0 [⟨24, 8, d.ckptGen⟩, ⟨32, 48, leNat (d.est.ckptHead.drop 80)⟩]
      let d := { d with est := { d.est with ckpt := 0, ckptTkt := 0 }, isl := { d.isl with docs := rest } }
      (((d.put EST_CKPT_STATUS_state 2).done j.ticket).pageIrq 0x017 2).engineFree := by
  rw [Dev.ckptSigned, hj]
  exact if_neg (by simp [h3, h4])

/-! ## Waking (R300) -/

/-- The device once an access to a waking page has ended its idle time. -/
def Dev.woken (d : Dev) : Dev := { d with est := { d.est with idleFrom := d.time, probeWoken := true } }

/-- An access wakes a hibernating estimator that nothing wakes yet. -/
theorem Dev.wakeCause_hibernated (hh : d.flag EST_STATUS_hibernated = true) (hw : d.wake = 0) :
    d.wakeCause = { d.woken with wake := 1 } := by
  have hwakes : d.wakeCause = { d.woken with wake := if d.wake = 0 then 1 else d.wake } := if_pos hh
  rw [hwakes, if_pos hw]

/-- An access to an estimator that runs restarts its idle time alone. -/
theorem Dev.wakeCause_running (hh : d.flag EST_STATUS_hibernated = false) : d.wakeCause = d.woken :=
  if_neg (Bool.eq_false_iff.mp hh)

end Estimation

/-- Settles O50: each event's branch of its meaning; commands by the gate of the `EST` page, which the access wakes first. -/
theorem estimationCommandsComplete : Obligations.EstimationCommandsComplete := by
  refine ⟨?_, ?_, ?_, ?_, ?_, ?_, ?_, ?_, ?_, ?_, ?_, ?_, ?_, ?_, ?_, ?_, ?_, ?_, ?_, ?_⟩
  · intro lane
    exact .of_onDev (fun s => (rfl : execHealthWeightWriteComplete _ s = onDev _ s)) fun d ⟨hh, hs, hf⟩ =>
      if_pos (by simp [hh, hs, hf])
  · exact .of_onDev (fun s => (rfl : execStepBoundary s = onDev _ s)) fun d hc => if_pos hc
  · intro lane
    exact .of_onDev (fun s => (rfl : execFilterStep _ s = onDev _ s)) fun d ⟨hd, hf⟩ => if_neg (by simp [hd, hf])
  · intro lane idx soc
    exact .of_onDev (fun s => (rfl : execRestAnchor _ _ s = onDev _ s)) fun d ⟨hr, hd, hi⟩ => Dev.restAnchor_accepted hr hd hi
  · intro lane idx
    exact .of_onDev (fun s => (rfl : execTaperDeclaration _ _ s = onDev _ s)) fun d ⟨hd, hi⟩ =>
      (if_neg hd).trans (if_neg (by simp [hi]))
  · intro lane idx
    exact .of_onDev (fun s => (rfl : execTaperDeclaration _ _ s = onDev _ s)) fun d ⟨hd, hi⟩ => Dev.declare_discarded hd hi
  · intro c
    exact .of_onDev (fun s => (rfl : execEstImport _ s = onDev _ s)) fun d ⟨hw, hacc⟩ => d.wakingCmd_accepted _ _ _ _ hw hacc
  · intro c
    exact .of_onDev (fun s => (rfl : execClearStale _ s = onDev _ s)) fun d ⟨hw, hacc⟩ => d.wakingCmd_accepted _ _ _ _ hw hacc
  · intro c
    exact .of_onDev (fun s => (rfl : execResetLearned _ s = onDev _ s)) fun d ⟨hw, hacc⟩ => d.wakingCmd_accepted _ _ _ _ hw hacc
  · intro c rest
    refine .of_onDev (fun s => (rfl : execEstCommandApply s = onDev _ s)) fun d ⟨hk, hr, hcmds, h5, hdue⟩ => ?_
    have hruns : (if d.k03 && d.railGood 15 then d.estRun d.est.cmds else d) = d.estRun d.est.cmds := if_pos (by simp [hk, hr])
    exact hruns.trans (hcmds ▸ Dev.estRun_due rest h5 hdue)
  · intro c
    exact .of_onDev (fun s => (rfl : execCheckpoint _ s = onDev _ s)) fun d ⟨hw, hacc⟩ => d.wakingCmd_accepted _ _ _ _ hw hacc
  · exact .of_onDev (fun s => (rfl : execCheckpointPeriod s = onDev _ s)) fun d ⟨hc, hacc⟩ =>
      (if_pos hc).trans (d.cmd_accepted _ _ _ _ hacc)
  · exact .of_onDev (fun s => (rfl : execCheckpointSnapshot s = onDev _ s)) fun d hc => if_pos hc
  · intro j rest
    exact .of_onDev (fun s => (rfl : execCheckpointSigned s = onDev _ s)) fun d ⟨hj, h3, h4⟩ => Dev.ckptSigned_first hj h3 h4
  · intro c
    exact .of_onDev (fun s => (rfl : execCkptLoad _ s = onDev _ s)) fun d ⟨hw, hacc⟩ => d.wakingCmd_accepted _ _ _ _ hw hacc
  · intro c rest
    exact .of_onDev (fun s => (rfl : execCkptLoadApply s = onDev _ s)) fun d ⟨hon, hcmds, h5, hat⟩ =>
      (if_pos hon).trans (Dev.ckptLoadRun_places hcmds h5 hat)
  · exact .of_onDev (fun s => (rfl : execHibProbe s = onDev _ s)) fun d ⟨hh, hw, hp, ht⟩ => if_pos (by simp [hh, hw, hp, ht])
  · exact .of_onDev (fun s => (rfl : execPageAccessWake s = onDev _ s)) fun d ⟨hh, hw⟩ => Dev.wakeCause_hibernated hh hw
  · exact .of_onDev (fun s => (rfl : execPageAccessWake s = onDev _ s)) fun d hh => Dev.wakeCause_running hh
  · refine .of_onDev (fun s => (rfl : execEstimatorReady s = onDev _ s)) fun d ⟨hh, h0, h2, hrec⟩ => if_neg ?_
    have hnorec : (d.wake == 1 && d.flag PWR_PS_CFG_hib_recipes) = false :=
      Bool.and_eq_false_iff.mpr (hrec.imp_left beq_false_of_ne)
    simp only [hh, beq_false_of_ne h0, beq_false_of_ne h2, hnorec, Bool.not_true, Bool.or_self, Bool.false_eq_true,
      not_false_eq_true]

end Sys2Proof.Machine
end

/-!
Proofs of the statements on 10_attached_memory.md: the symbol code over GF(2^16) (R309, R310) and what it makes of one failed
device (R310), of a marked device (R313) and of poison (R311), lines stored and read back, their places on the channels (R306),
and where the commands of attached memory and the flight recorder complete. A codeword changed in one symbol reads S0 = e and
S1 = e × α^k, since both sums are linear; products of e with different powers of α differ, so the pair names the symbol.
-/
section
namespace Sys2Proof.Machine

/-! ## Keys of sparse maps -/

theorem SMap.has_put_same {α : Type} (m : SMap α) (k : Nat) (v : α) : (m.put k v).has k = true := by
  induction m with
  | nil => simp [SMap.put, SMap.has]
  | cons e m ih =>
    obtain ⟨j, w⟩ := e
    rw [SMap.put]
    split
    · simp [SMap.has]
    · split
      · simp [SMap.has]
      · simp [SMap.has, ih]

theorem SMap.has_del_same {α : Type} (m : SMap α) (k : Nat) : (m.del k).has k = false := by
  induction m with
  | nil => rfl
  | cons e m ih =>
    obtain ⟨j, w⟩ := e
    rw [SMap.del]
    split
    · exact ih
    · next hj => simp [SMap.has, hj, ih]

/-! ## Sums of symbols -/

theorem xor_xor_cancel (x y : Nat) : x ^^^ y ^^^ y = x := by rw [Nat.xor_assoc, Nat.xor_self, Nat.xor_zero]

/-- A listed place reads as the list has it. -/
theorem getD_of_lt {l : List Nat} {i : Nat} (hi : i < l.length) : l.getD i 0 = l[i] := by
  rw [List.getD_eq_getElem?_getD, List.getElem?_eq_getElem hi, Option.getD_some]


/-- The first symbol of a sum. -/
@[simp] theorem xorAll_cons (a : Nat) (l : List Nat) : xorAll (a :: l) = a ^^^ xorAll l := by
  rw [xorAll, List.foldl_cons, Nat.xor_comm 0 a, xorAll, List.foldl_assoc (op := fun a b : Nat => a ^^^ b)]

@[simp] theorem xorAll_nil : xorAll [] = 0 := rfl

theorem xorAll_append (l r : List Nat) : xorAll (l ++ r) = xorAll l ^^^ xorAll r := by
  induction l with
  | nil => exact (Nat.zero_xor _).symm
  | cons a l ih => rw [List.cons_append, xorAll_cons, xorAll_cons, ih, Nat.xor_assoc]

/-- A sum is as wide as the widest of its symbols. -/
theorem xorAll_lt {n : Nat} {l : List Nat} (h : ∀ x ∈ l, x < 2 ^ n) : xorAll l < 2 ^ n := by
  induction l with
  | nil => exact Nat.two_pow_pos n
  | cons a l ih =>
    rw [xorAll_cons]
    exact Nat.xor_lt_two_pow (h a List.mem_cons_self) (ih fun x hx => h x (List.mem_cons_of_mem a hx))

/-! ## Linear maps of symbols -/

/-- A map of symbols that takes sums to sums. -/
def XorLinear (f : Nat → Nat) : Prop := ∀ a b, f (a ^^^ b) = f a ^^^ f b

namespace XorLinear

variable {f g : Nat → Nat}

theorem map_zero (hf : XorLinear f) : f 0 = 0 := by
  have h0 := hf 0 0
  rwa [Nat.xor_self, Nat.xor_self] at h0

theorem identity : XorLinear (fun x => x) := fun _ _ => rfl

theorem comp (hf : XorLinear f) (hg : XorLinear g) : XorLinear (fun x => f (g x)) := fun a b =>
  (congrArg f (hg a b)).trans (hf _ _)

theorem add (hf : XorLinear f) (hg : XorLinear g) : XorLinear (fun x => f x ^^^ g x) := fun a b => by
  show f (a ^^^ b) ^^^ g (a ^^^ b) = f a ^^^ g a ^^^ (f b ^^^ g b)
  rw [hf, hg]
  ac_rfl

/-- Two linear maps agree on the numbers of n bits where they agree on each single bit. -/
theorem eq_of_eq_on_bits (hf : XorLinear f) (hg : XorLinear g) {n : Nat} (h : ∀ i < n, f (2 ^ i) = g (2 ^ i)) {x : Nat}
    (hx : x < 2 ^ n) : f x = g x := by
  induction n generalizing x with
  | zero => rw [show x = 0 by simpa using hx, hf.map_zero, hg.map_zero]
  | succ n ih =>
    have hlow {y : Nat} (hy : y < 2 ^ n) : f y = g y := ih (fun i hi => h i (by omega)) hy
    rcases Nat.lt_or_ge x (2 ^ n) with hb | hb
    · exact hlow hb
    · have htop : x / 2 ^ n = 1 := Nat.div_eq_of_lt_le (by omega) (by omega)
      have hrest : x ^^^ 2 ^ n < 2 ^ n := by
        rw [← Nat.div_eq_zero_iff_lt (Nat.two_pow_pos n), Nat.xor_div_two_pow, htop, Nat.div_self (Nat.two_pow_pos n),
          Nat.xor_self]
      rw [← xor_xor_cancel x (2 ^ n), hf, hg, hlow hrest, h n (by omega)]

/-- A linear map that another undoes on each single bit takes no number but 0 to 0. -/
theorem ne_zero_of_undone (hf : XorLinear f) (hg : XorLinear g) {n : Nat} (h : ∀ i < n, g (f (2 ^ i)) = 2 ^ i) {x : Nat}
    (hx : x < 2 ^ n) (h0 : x ≠ 0) : f x ≠ 0 := fun hz =>
  h0 <| calc
    x = g (f x) := ((hg.comp hf).eq_of_eq_on_bits identity h hx).symm
    _ = 0 := by rw [hz, hg.map_zero]

end XorLinear

/-! ## Multiplication in GF(2^16) (R309) -/

theorem gf16TimesAlpha_linear : XorLinear gf16TimesAlpha := fun a b => by
  have hshift : (a ^^^ b) * 2 % 65_536 = a * 2 % 65_536 ^^^ b * 2 % 65_536 := by
    have hd : (a ^^^ b) * 2 = a * 2 ^^^ b * 2 := by
      simpa only [Nat.shiftLeft_eq] using Nat.shiftLeft_xor_distrib (i := 1) (a := a) (b := b)
    rw [hd]
    exact Nat.xor_mod_two_pow (n := 16)
  simp only [gf16TimesAlpha, Nat.testBit_xor, hshift]
  generalize a * 2 % 65_536 = u, b * 2 % 65_536 = v
  cases a.testBit 15 <;> cases b.testBit 15
  · rfl
  · exact Nat.xor_assoc u v 0x100B
  · show u ^^^ v ^^^ 0x100B = u ^^^ 0x100B ^^^ v
    ac_rfl
  · show u ^^^ v = u ^^^ 0x100B ^^^ (v ^^^ 0x100B)
    rw [Nat.xor_comm v, ← Nat.xor_assoc, xor_xor_cancel]

theorem gf16TimesAlpha_lt (a : Nat) : gf16TimesAlpha a < 2 ^ 16 := by
  have hsh : a * 2 % 65_536 < 2 ^ 16 := Nat.mod_lt _ (Nat.two_pow_pos 16)
  rw [gf16TimesAlpha]
  split
  · exact Nat.xor_lt_two_pow hsh (by decide)
  · exact hsh

/-- α^n times a symbol. -/
def gf16Shift : Nat → Nat → Nat
  | 0, a => a
  | n + 1, a => gf16TimesAlpha (gf16Shift n a)

theorem gf16Shift_linear (n : Nat) : XorLinear (gf16Shift n) := by
  induction n with
  | zero => exact .identity
  | succ n ih => exact gf16TimesAlpha_linear.comp ih

theorem gf16Shift_add (m n a : Nat) : gf16Shift (m + n) a = gf16Shift n (gf16Shift m a) := by
  induction n with
  | zero => rfl
  | succ n ih => exact congrArg gf16TimesAlpha ih

theorem gf16Shift_lt (n : Nat) {a : Nat} (ha : a < 2 ^ 16) : gf16Shift n a < 2 ^ 16 := by
  cases n with
  | zero => exact ha
  | succ n => exact gf16TimesAlpha_lt _

/-- What one bit of the multiplier does to the product so far and to the multiplicand. -/
def gf16MulStep (b : Nat) (acc : Nat × Nat) (i : Nat) : Nat × Nat :=
  (if b.testBit i then acc.1 ^^^ acc.2 else acc.1, gf16TimesAlpha acc.2)

theorem gf16Mul_eq_steps (a b : Nat) : gf16Mul a b = ((List.range 16).foldl (gf16MulStep b) (0, a % 2 ^ 16)).1 := rfl

theorem gf16MulSteps_add (c : Nat) (l : List Nat) (p q p' q' : Nat) :
    (l.foldl (gf16MulStep c) (p ^^^ p', q ^^^ q')).1 =
      (l.foldl (gf16MulStep c) (p, q)).1 ^^^ (l.foldl (gf16MulStep c) (p', q')).1 := by
  induction l generalizing p q p' q' with
  | nil => rfl
  | cons i l ih =>
    simp only [List.foldl_cons, gf16MulStep, gf16TimesAlpha_linear q q']
    rw [← ih]
    split
    · rw [show p ^^^ p' ^^^ (q ^^^ q') = p ^^^ q ^^^ (p' ^^^ q') by ac_rfl]
    · rfl

theorem gf16MulSteps_lt (c : Nat) (l : List Nat) {p q : Nat} (hp : p < 2 ^ 16) (hq : q < 2 ^ 16) :
    (l.foldl (gf16MulStep c) (p, q)).1 < 2 ^ 16 := by
  induction l generalizing p q with
  | nil => exact hp
  | cons i l ih =>
    refine ih ?_ (gf16TimesAlpha_lt q)
    split
    · exact Nat.xor_lt_two_pow hp hq
    · exact hp

/-- A product is linear in its first factor. -/
theorem gf16Mul_linear (c : Nat) : XorLinear (fun x => gf16Mul x c) := fun a b => by
  simp only [gf16Mul_eq_steps, Nat.xor_mod_two_pow]
  exact gf16MulSteps_add c _ 0 _ 0 _

theorem gf16Mul_add (a b c : Nat) : gf16Mul (a ^^^ b) c = gf16Mul a c ^^^ gf16Mul b c := gf16Mul_linear c a b

theorem gf16Mul_lt (a b : Nat) : gf16Mul a b < 2 ^ 16 :=
  gf16MulSteps_lt b _ (by decide) (Nat.mod_lt a (by decide))

/-- A product with α^k is k products with α. -/
theorem gf16Mul_pow {k x : Nat} (hk : k < 10) (hx : x < 2 ^ 16) : gf16Mul x (gf16Pow k) = gf16Shift k x := by
  have hbits : ∀ k < 10, ∀ i < 16, gf16Mul (2 ^ i) (gf16Pow k) = gf16Shift k (2 ^ i) := by decide
  exact (gf16Mul_linear _).eq_of_eq_on_bits (gf16Shift_linear k) (hbits k hk) hx

/-- α times a symbol is 0 for 0 alone: 0x8805 is its inverse. -/
theorem gf16TimesAlpha_ne_zero {x : Nat} (hx : x < 2 ^ 16) (h0 : x ≠ 0) : gf16TimesAlpha x ≠ 0 :=
  gf16TimesAlpha_linear.ne_zero_of_undone (gf16Mul_linear 0x8805) (by decide) hx h0

/-- The inverses of α^d + 1 for d = 1 to 9. -/
def gf16GapInverses : List Nat := [0xF006, 0x5002, 0x26DA, 0xB004, 0x952C, 0x6F3F, 0xC50D, 0xFBBD, 0x949F]

/-- No power of α from 1 to 9 leaves a symbol but 0 as it is. -/
theorem gf16Shift_ne {d x : Nat} (h1 : d < 9) (hx : x < 2 ^ 16) (h0 : x ≠ 0) : gf16Shift (d + 1) x ≠ x := fun h => by
  have hundo : ∀ d < 9, ∀ i < 16,
      gf16Mul (gf16Shift (d + 1) (2 ^ i) ^^^ 2 ^ i) (gf16GapInverses.getD d 0) = 2 ^ i := by decide
  refine ((gf16Shift_linear (d + 1)).add .identity).ne_zero_of_undone (gf16Mul_linear _) (hundo d h1) hx h0 ?_
  show gf16Shift (d + 1) x ^^^ x = 0
  rw [h, Nat.xor_self]

theorem gf16Shift_ne_zero (n : Nat) {x : Nat} (hx : x < 2 ^ 16) (h0 : x ≠ 0) : gf16Shift n x ≠ 0 := by
  induction n with
  | zero => exact h0
  | succ n ih => exact gf16TimesAlpha_ne_zero (gf16Shift_lt n hx) ih

theorem gf16Mul_pow_ne_of_lt {j k x : Nat} (hjk : j < k) (hk : k < 10) (hx : x < 2 ^ 16) (h0 : x ≠ 0) :
    gf16Mul x (gf16Pow j) ≠ gf16Mul x (gf16Pow k) := by
  obtain ⟨d, rfl⟩ : ∃ d, k = j + (d + 1) := ⟨k - j - 1, by omega⟩
  rw [gf16Mul_pow (by omega) hx, gf16Mul_pow hk hx, gf16Shift_add]
  exact (gf16Shift_ne (by omega) (gf16Shift_lt j hx) (gf16Shift_ne_zero j hx h0)).symm

/-- A symbol's products with different powers of α differ. -/
theorem gf16Mul_pow_ne {j k x : Nat} (hj : j < 10) (hk : k < 10) (hjk : j ≠ k) (hx : x < 2 ^ 16) (h0 : x ≠ 0) :
    gf16Mul x (gf16Pow j) ≠ gf16Mul x (gf16Pow k) := by
  rcases Nat.lt_or_gt_of_ne hjk with h | h
  · exact gf16Mul_pow_ne_of_lt h hk hx h0
  · exact (gf16Mul_pow_ne_of_lt h hj hx h0).symm

theorem gf16Mul_pow_ne_zero {k x : Nat} (hk : k < 10) (hx : x < 2 ^ 16) (h0 : x ≠ 0) : gf16Mul x (gf16Pow k) ≠ 0 := by
  rw [gf16Mul_pow hk hx]
  exact gf16Shift_ne_zero k hx h0

/-! ## A symbol changed (R309, R310) -/

/-- The codeword with e added to symbol k. -/
def symbolAdd (s : List Nat) (k e : Nat) : List Nat := s.set k (s.getD k 0 ^^^ e)

section SymbolAdd

variable {s : List Nat} {k : Nat}

@[simp] theorem length_symbolAdd (s : List Nat) (k e : Nat) : (symbolAdd s k e).length = s.length := List.length_set

theorem symbolAdd_zero (hk : k < s.length) : symbolAdd s k 0 = s := by
  rw [symbolAdd, Nat.xor_zero, getD_of_lt hk, List.set_getElem_self]

theorem getD_symbolAdd (hk : k < s.length) (e : Nat) : (symbolAdd s k e).getD k 0 = s.getD k 0 ^^^ e := by
  rw [symbolAdd, getD_of_lt (by rwa [List.length_set]), List.getElem_set_self]

theorem symbolAdd_symbolAdd (hk : k < s.length) (e f : Nat) : symbolAdd (symbolAdd s k e) k f = symbolAdd s k (e ^^^ f) := by
  rw [symbolAdd, getD_symbolAdd hk, Nat.xor_assoc, symbolAdd, List.set_set, symbolAdd]

theorem xorAll_symbolAdd (hk : k < s.length) (e : Nat) : xorAll (symbolAdd s k e) = xorAll s ^^^ e := by
  induction s generalizing k with
  | nil => exact absurd hk (Nat.not_lt_zero k)
  | cons a s ih =>
    cases k with
    | zero =>
      show xorAll ((a ^^^ e) :: s) = _
      rw [xorAll_cons, xorAll_cons, Nat.xor_assoc, Nat.xor_comm e, ← Nat.xor_assoc]
    | succ k =>
      show xorAll (a :: symbolAdd s k e) = _
      rw [xorAll_cons, xorAll_cons, ih (Nat.lt_of_succ_lt_succ hk), Nat.xor_assoc]

end SymbolAdd

/-! ## The two sums of a codeword (R309) -/

/-- The terms of S1. -/
def synd1Terms (s : List Nat) : List Nat := s.mapIdx fun k x => gf16Mul x (gf16Pow k)

theorem synd1_eq (s : List Nat) : synd1 s = xorAll (synd1Terms s) := by
  rw [synd1, synd1Terms]
  congr 1
  refine List.ext_getElem (by simp) fun k h1 h2 => ?_
  rw [List.getElem_map, List.getElem_range, List.getElem_mapIdx, getD_of_lt]

theorem synd1Terms_symbolAdd {s : List Nat} {k : Nat} (hk : k < s.length) (e : Nat) :
    synd1Terms (symbolAdd s k e) = symbolAdd (synd1Terms s) k (gf16Mul e (gf16Pow k)) := by
  have hk' : k < (synd1Terms s).length := by rwa [synd1Terms, List.length_mapIdx]
  rw [symbolAdd, synd1Terms, List.mapIdx_set, gf16Mul_add, symbolAdd, getD_of_lt hk,
    getD_of_lt hk', ← synd1Terms]
  simp only [synd1Terms, List.getElem_mapIdx]

/-- What e in symbol k adds to S0. -/
theorem synd0_symbolAdd {s : List Nat} {k : Nat} (hk : k < s.length) (e : Nat) : synd0 (symbolAdd s k e) = synd0 s ^^^ e :=
  xorAll_symbolAdd hk e

/-- What e in symbol k adds to S1. -/
theorem synd1_symbolAdd {s : List Nat} {k : Nat} (hk : k < s.length) (e : Nat) :
    synd1 (symbolAdd s k e) = synd1 s ^^^ gf16Mul e (gf16Pow k) := by
  rw [synd1_eq, synd1Terms_symbolAdd hk, xorAll_symbolAdd (by rwa [synd1Terms, List.length_mapIdx]), synd1_eq]

/-- What the check symbols add to S0. -/
theorem synd0_append_check (s : List Nat) (a b : Nat) : synd0 (s ++ [a, b]) = synd0 s ^^^ (a ^^^ b) := by
  rw [synd0, xorAll_append, xorAll_cons, xorAll_cons, xorAll_nil, Nat.xor_zero, synd0]

/-- What the check symbols add to S1. -/
theorem synd1_append_check {s : List Nat} (hs : s.length = 8) (a b : Nat) :
    synd1 (s ++ [a, b]) = synd1 s ^^^ (gf16Mul a (gf16Pow 8) ^^^ gf16Mul b (gf16Pow 9)) := by
  rw [synd1_eq, synd1Terms, List.mapIdx_append, hs, xorAll_append, ← synd1Terms, ← synd1_eq]
  simp

theorem synd1_lt (s : List Nat) : synd1 s < 2 ^ 16 := by
  refine xorAll_lt fun x hx => ?_
  obtain ⟨k, -, rfl⟩ := List.mem_map.mp hx
  exact gf16Mul_lt _ _

/-- The check pair of (a, b) adds a to S0 and b to S1. -/
theorem checkPair_sums {a b : Nat} (hb : b < 2 ^ 16) :
    ∃ c8 c9, checkPair a b = [c8, c9] ∧ c8 ^^^ c9 = a ∧ gf16Mul c8 (gf16Pow 8) ^^^ gf16Mul c9 (gf16Pow 9) = b := by
  have hinv : ∀ i < 16, gf16Mul (gf16Mul (2 ^ i) gf16CheckInv) (gf16Pow 8) ^^^
      gf16Mul (gf16Mul (2 ^ i) gf16CheckInv) (gf16Pow 9) = 2 ^ i := by decide
  refine ⟨_, _, rfl, xor_xor_cancel _ _, ?_⟩
  have hy : b ^^^ gf16Mul a (gf16Pow 8) < 2 ^ 16 := Nat.xor_lt_two_pow hb (gf16Mul_lt _ _)
  generalize hyd : b ^^^ gf16Mul a (gf16Pow 8) = y at hy ⊢
  have hsum : gf16Mul (gf16Mul y gf16CheckInv) (gf16Pow 8) ^^^ gf16Mul (gf16Mul y gf16CheckInv) (gf16Pow 9) = y :=
    (((gf16Mul_linear _).comp (gf16Mul_linear _)).add ((gf16Mul_linear _).comp (gf16Mul_linear _))).eq_of_eq_on_bits .identity
      hinv hy
  rw [gf16Mul_add, Nat.xor_assoc, hsum, ← hyd, Nat.xor_comm, xor_xor_cancel]

/-- A codeword of ten symbols whose sums are 0. -/
structure IsCodeword (s : List Nat) : Prop where
  length : s.length = 10
  sum0 : synd0 s = 0
  sum1 : synd1 s = 0

theorem codewordOf_isCodeword (data : List Nat) (j : Nat) : IsCodeword (codewordOf data j) := by
  simp only [codewordOf]
  generalize hs : List.map _ (List.range 8) = s
  have h8 : s.length = 8 := by rw [← hs, List.length_map, List.length_range]
  obtain ⟨c8, c9, hc, h0, h1⟩ := checkPair_sums (a := synd0 s) (synd1_lt s)
  rw [hc]
  refine ⟨by rw [List.length_append, h8]; rfl, ?_, ?_⟩
  · rw [synd0_append_check, h0, Nat.xor_self]
  · rw [synd1_append_check h8, h1, Nat.xor_self]

/-- Poison changes the two check symbols (R311). -/
theorem poisoned_eq_symbolAdd {s : List Nat} (hs : s.length = 10) {c8 c9 : Nat} (hc : checkPair 1 (gf16Pow 16) = [c8, c9]) :
    poisoned s = symbolAdd (symbolAdd s 8 c8) 9 c9 := by
  obtain ⟨x, y, hxy⟩ : ∃ x y, s.drop 8 = [x, y] := by
    have hd : (s.drop 8).length = 2 := by rw [List.length_drop, hs]
    match s.drop 8, hd with
    | [x, y], _ => exact ⟨x, y, rfl⟩
  have ht : (s.take 8).length = 8 := by rw [List.length_take, hs]; rfl
  rw [poisoned, hc, hxy]
  conv => rhs; rw [← List.take_append_drop 8 s, hxy]
  generalize s.take 8 = t at ht
  simp [symbolAdd, ht]

/-- Poison adds 1 to S0 and α^16 to S1 (R311). -/
theorem IsCodeword.poisoned_sums {s : List Nat} (h : IsCodeword s) :
    synd0 (poisoned s) = 1 ∧ synd1 (poisoned s) = gf16Pow 16 := by
  obtain ⟨c8, c9, hc, h0, h1⟩ := checkPair_sums (a := 1) (b := gf16Pow 16) (by decide)
  have hl := h.length
  rw [poisoned_eq_symbolAdd hl hc, synd0_symbolAdd (by simp [hl]), synd0_symbolAdd (by simp [hl]), synd1_symbolAdd (by simp [hl]),
    synd1_symbolAdd (by simp [hl]), h.sum0, h.sum1, Nat.zero_xor, Nat.zero_xor]
  exact ⟨h0, h1⟩

/-! ## What a codeword with one symbol changed reads as (R310) -/

section StruckCodeword

variable {s : List Nat} {k e : Nat}

theorem IsCodeword.synd0_struck (h : IsCodeword s) (hk : k < 10) : synd0 (symbolAdd s k e) = e := by
  rw [synd0_symbolAdd (by rwa [h.length]), h.sum0, Nat.zero_xor]

theorem IsCodeword.synd1_struck (h : IsCodeword s) (hk : k < 10) : synd1 (symbolAdd s k e) = gf16Mul e (gf16Pow k) := by
  rw [synd1_symbolAdd (by rwa [h.length]), h.sum1, Nat.zero_xor]

theorem IsCodeword.cwRead_clean (h : IsCodeword s) : cwRead s = .clean := if_pos ⟨h.sum0, h.sum1⟩

theorem IsCodeword.struck_zero (h : IsCodeword s) (hk : k < 10) : symbolAdd s k 0 = s := symbolAdd_zero (by rwa [h.length])

/-- A codeword with an error in symbol k blames device k. -/
theorem IsCodeword.cwRead_struck (h : IsCodeword s) (hk : k < 10) (he : e < 2 ^ 16) (h0 : e ≠ 0) :
    cwRead (symbolAdd s k e) = .blames k := by
  have hfind : (List.range 10).find? (fun j => gf16Mul e (gf16Pow j) == gf16Mul e (gf16Pow k)) = some k := by
    rw [List.find?_range_eq_some]
    refine ⟨beq_self_eq_true _, List.mem_range.mpr hk, fun j hj => ?_⟩
    rw [beq_false_of_ne (gf16Mul_pow_ne (by omega) hk (Nat.ne_of_lt hj) he h0), Bool.not_false]
  simp only [cwRead, h.synd0_struck hk, h.synd1_struck hk, hfind, h0, gf16Mul_pow_ne_zero hk he h0, false_and, or_self, if_false]

/-- Adding S0 to the struck symbol restores the codeword (R310, R313). -/
theorem IsCodeword.cwCorrect_struck (h : IsCodeword s) (hk : k < 10) : cwCorrect (symbolAdd s k e) k = s := by
  have hks : k < s.length := by rwa [h.length]
  have hadd : cwCorrect (symbolAdd s k e) k = symbolAdd (symbolAdd s k e) k e := by
    rw [cwCorrect, h.synd0_struck hk, ← symbolAdd]
  rw [hadd, symbolAdd_symbolAdd hks, Nat.xor_self, symbolAdd_zero hks]

/-- A codeword corrected where it is not clean is restored. -/
theorem IsCodeword.restored (h : IsCodeword s) (hk : k < 10) :
    (if synd0 (symbolAdd s k e) = 0 then symbolAdd s k e else cwCorrect (symbolAdd s k e) k) = s := by
  rw [h.synd0_struck hk, h.cwCorrect_struck hk, ite_eq_right_iff]
  rintro rfl
  exact h.struck_zero hk

end StruckCodeword

/-! ## A line judged (R310, R313) -/

/-- The device that a codeword blames. -/
def CwRead.blamed : CwRead → Option Nat
  | .blames k => some k
  | _ => none

theorem cwRead_ne_clean {s : List Nat} (h : synd0 s ≠ 0) : cwRead s ≠ .clean := by
  simp only [cwRead, h, false_and, false_or, if_false]
  split
  · simp
  · split <;> simp

section Judge

variable {cws : List (List Nat)} {k m : Nat}

theorem lineJudge_clean (h : ∀ s ∈ cws, cwRead s = .clean) : lineJudge cws = (.clean, symbolBytes cws) :=
  if_pos (by simpa [List.all_map] using h)

/-- A line of which every codeword shows the poison pattern is poisoned. -/
theorem lineJudge_poison (hne : cws ≠ []) (h : ∀ s ∈ cws, synd0 s = 1 ∧ synd1 s = gf16Pow 16) :
    lineJudge cws = (.poison, symbolBytes cws) := by
  have hclean : ¬ (cws.map cwRead).all (· == .clean) = true := by
    obtain ⟨s, hs⟩ := List.exists_mem_of_ne_nil cws hne
    have hns : cwRead s ≠ .clean := cwRead_ne_clean (by rw [(h s hs).1]; decide)
    simp only [List.all_map, List.all_eq_true, Classical.not_forall]
    exact ⟨s, hs, by simpa using hns⟩
  exact (if_neg hclean).trans (if_pos (by simpa using h))

/-- Where every codeword is clean or blames device k, all that blame name k. -/
theorem blamed_eq_replicate (hall : ∀ s ∈ cws, cwRead s = .clean ∨ cwRead s = .blames k)
    (hsome : ∃ s ∈ cws, cwRead s = .blames k) :
    ∃ n, (cws.map cwRead).filterMap CwRead.blamed = List.replicate (n + 1) k := by
  have hk : ∀ x ∈ (cws.map cwRead).filterMap CwRead.blamed, x = k := by
    intro x hx
    obtain ⟨r, hr, hrx⟩ := List.mem_filterMap.mp hx
    obtain ⟨s, hs, rfl⟩ := List.mem_map.mp hr
    rcases hall s hs with h | h <;> rw [h] at hrx
    · exact absurd hrx (by simp [CwRead.blamed])
    · exact (Option.some.inj hrx).symm
  have hmem : k ∈ (cws.map cwRead).filterMap CwRead.blamed := by
    obtain ⟨s, hs, h⟩ := hsome
    exact List.mem_filterMap.mpr ⟨_, List.mem_map_of_mem hs, by rw [h]; rfl⟩
  obtain ⟨n, hn⟩ := Nat.exists_eq_succ_of_ne_zero (Nat.ne_of_gt (List.length_pos_of_mem hmem))
  exact ⟨n, List.eq_replicate_iff.mpr ⟨hn, hk⟩⟩

/-- A line in which some codewords blame device k, and all others are clean, is corrected in that device's symbols. -/
theorem lineJudge_corrected (hall : ∀ s ∈ cws, cwRead s = .clean ∨ cwRead s = .blames k)
    (hsome : ∃ s ∈ cws, cwRead s = .blames k) (hpoison : ∃ s ∈ cws, ¬ (synd0 s = 1 ∧ synd1 s = gf16Pow 16)) :
    lineJudge cws = (.corrected k, symbolBytes (cws.map fun s => if synd0 s = 0 then s else cwCorrect s k)) := by
  obtain ⟨n, hks⟩ := blamed_eq_replicate hall hsome
  have hclean : ¬ (cws.map cwRead).all (· == .clean) = true := by
    obtain ⟨s, hs, h⟩ := hsome
    simp only [List.all_map, List.all_eq_true, Classical.not_forall]
    exact ⟨s, hs, by simp [h]⟩
  have hpat : ¬ (cws.all fun s => synd0 s == 1 && synd1 s == gf16Pow 16) = true := by
    simpa only [List.all_eq_true, Bool.and_eq_true, beq_iff_eq, Classical.not_forall, exists_prop] using hpoison
  have hgood : ∀ s ∈ cws, (cwRead s == .bad) = false := fun s hs => by
    rcases hall s hs with h | h <;> rw [h] <;> rfl
  have hbad : ¬ ((cws.map cwRead).any (· == .bad) || ((cws.map cwRead).filterMap CwRead.blamed).any
      (· != ((cws.map cwRead).filterMap CwRead.blamed).headD 0)) = true := by
    rw [hks]
    simpa [List.any_map, List.replicate_succ] using hgood
  refine (if_neg hclean).trans ((if_neg hpat).trans ((if_neg hbad).trans ?_))
  show (LineRead.corrected (((cws.map cwRead).filterMap CwRead.blamed).headD 0), symbolBytes (cws.map fun s =>
    if synd0 s = 0 then s else cwCorrect s (((cws.map cwRead).filterMap CwRead.blamed).headD 0))) = _
  rw [hks]
  rfl

/-- Under a mark, a codeword whose S1 is not S0 times the marked device's power of α makes the line uncorrectable. -/
theorem lineErase_uncorrectable (h : ∃ s ∈ cws, synd1 s ≠ gf16Mul (synd0 s) (gf16Pow m)) :
    (lineErase m cws).1 = .uncorrectable := by
  rw [lineErase, if_pos (by simpa using h)]

theorem lineErase_clean (h : ∀ s ∈ cws, synd1 s = gf16Mul (synd0 s) (gf16Pow m)) (h0 : ∀ s ∈ cws, synd0 s = 0) :
    lineErase m cws = (.clean, symbolBytes cws) :=
  (if_neg (by simpa using h)).trans (if_pos (by simpa using h0))

theorem lineErase_erased (h : ∀ s ∈ cws, synd1 s = gf16Mul (synd0 s) (gf16Pow m)) (h0 : ∃ s ∈ cws, synd0 s ≠ 0) :
    lineErase m cws = (.erased, symbolBytes (cws.map fun s => cwCorrect s m)) :=
  (if_neg (by simpa using h)).trans (if_neg (by simpa using h0))

end Judge

/-! ## A line struck in one device (R309) -/

/-- The four codewords of a line. -/
def lineCodewords (data : List Nat) : List (List Nat) := (List.range 4).map (codewordOf data)

/-- The four codewords of a line, with `err j` added to symbol k of codeword j. -/
def struckLine (data : List Nat) (k : Nat) (err : Nat → Nat) : List (List Nat) :=
  (List.range 4).map fun j => symbolAdd (codewordOf data j) k (err j)

/-- The high byte and the low byte of a symbol. -/
theorem symbol_bytes {a b : Nat} (ha : a < 256) (hb : b < 256) : [(a * 256 + b) / 256 % 256, (a * 256 + b) % 256] = [a, b] := by
  rw [show (a * 256 + b) / 256 % 256 = a by omega, show (a * 256 + b) % 256 = b by omega]

theorem getD_lt_of_forall_lt {l : List Nat} {b : Nat} (hb : ∀ x ∈ l, x < b) (h0 : 0 < b) (i : Nat) : l.getD i 0 < b := by
  rcases Nat.lt_or_ge i l.length with hi | hi
  · rw [getD_of_lt hi]
    exact hb _ (List.getElem_mem hi)
  · rwa [List.getD_eq_getElem?_getD, List.getElem?_eq_none hi, Option.getD_none]

theorem map_range_getD (l : List Nat) : (List.range l.length).map (fun i => l.getD i 0) = l := by
  refine List.ext_getElem (by simp) fun i h1 h2 => ?_
  rw [List.getElem_map, List.getElem_range, getD_of_lt]

/-- The data symbols hold the line's bytes, in order. -/
theorem symbolBytes_lineCodewords {data : List Nat} (hl : data.length = 64) (hb : ∀ x ∈ data, x < 256) :
    symbolBytes (lineCodewords data) = data := by
  have hbyte (i : Nat) : data.getD i 0 < 256 := getD_lt_of_forall_lt hb (by decide) i
  have hdata : (List.range 64).map (fun i => data.getD i 0) = data := hl ▸ map_range_getD data
  have hcw (j : Nat) : ((codewordOf data j).take 8).flatMap (fun x => [x / 256 % 256, x % 256]) =
      (List.range 8).flatMap fun k => [data.getD (16 * j + 2 * k) 0, data.getD (16 * j + 2 * k + 1) 0] := by
    rw [codewordOf, List.take_left' (by simp), List.flatMap_map]
    rw [List.flatMap_def, List.flatMap_def]
    exact congrArg List.flatten (List.map_congr_left fun k _ => symbol_bytes (hbyte _) (hbyte _))
  rw [symbolBytes, lineCodewords, List.flatMap_map]
  simp only [hcw]
  exact hdata

section StruckLine

variable {data : List Nat} {k : Nat} {err : Nat → Nat}

theorem mem_struckLine {s : List Nat} :
    s ∈ struckLine data k err ↔ ∃ j < 4, symbolAdd (codewordOf data j) k (err j) = s := by
  simp only [struckLine, List.mem_map, List.mem_range]

/-- What gives back each codeword gives back the line. -/
theorem map_struckLine {f : List Nat → List Nat} (hf : ∀ j, f (symbolAdd (codewordOf data j) k (err j)) = codewordOf data j) :
    (struckLine data k err).map f = lineCodewords data := by
  rw [struckLine, List.map_map]
  exact List.map_congr_left fun j _ => hf j

/-- Without an error the line stands as it was stored. -/
theorem struckLine_of_zero (hk : k < 10) (h0 : ∀ j < 4, err j = 0) : struckLine data k err = lineCodewords data := by
  refine List.map_congr_left fun j hj => ?_
  rw [h0 j (List.mem_range.mp hj), (codewordOf_isCodeword data j).struck_zero hk]

section LineData

variable (hl : data.length = 64) (hb : ∀ x ∈ data, x < 256) (hk : k < 10)
include hl hb hk

/-- A line in which no device errs is clean, without a mark. -/
theorem lineJudge_struckLine_clean (h0 : ∀ j < 4, err j = 0) : lineJudge (struckLine data k err) = (.clean, data) := by
  rw [struckLine_of_zero hk h0]
  have hclean : ∀ s ∈ lineCodewords data, cwRead s = .clean := by
    intro s hs
    obtain ⟨j, -, rfl⟩ := List.mem_map.mp hs
    exact (codewordOf_isCodeword data j).cwRead_clean
  rw [lineJudge_clean hclean, symbolBytes_lineCodewords hl hb]

/-- A line in which device k errs is corrected and blames it, without a mark (R310). -/
theorem lineJudge_struckLine_corrected (he : ∀ j, err j < 2 ^ 16) (hsome : ∃ j < 4, err j ≠ 0) :
    lineJudge (struckLine data k err) = (.corrected k, data) := by
  have hcw := codewordOf_isCodeword data
  have hread (j : Nat) (h0 : err j ≠ 0) : cwRead (symbolAdd (codewordOf data j) k (err j)) = .blames k :=
    (hcw j).cwRead_struck hk (he j) h0
  have hread0 (j : Nat) (h0 : err j = 0) : cwRead (symbolAdd (codewordOf data j) k (err j)) = .clean := by
    rw [h0, (hcw j).struck_zero hk]
    exact (hcw j).cwRead_clean
  obtain ⟨i, hi, h0⟩ := hsome
  have hmem := mem_struckLine.mpr ⟨i, hi, Eq.refl (symbolAdd (codewordOf data i) k (err i))⟩
  rw [lineJudge_corrected ?_ ⟨_, hmem, hread i h0⟩ ⟨_, hmem, ?_⟩]
  · rw [map_struckLine fun j => (hcw j).restored hk, symbolBytes_lineCodewords hl hb]
  · intro s hs
    obtain ⟨j, -, rfl⟩ := mem_struckLine.mp hs
    exact (Classical.em (err j = 0)).imp (hread0 j) (hread j)
  · have hpat : ∀ k < 10, gf16Mul 1 (gf16Pow k) ≠ gf16Pow 16 := by decide
    rw [(hcw i).synd0_struck hk, (hcw i).synd1_struck hk]
    rintro ⟨h1, h2⟩
    exact hpat k hk (h1 ▸ h2)

/-- A line in which the marked device alone errs is erased, and delivers its data (R313). -/
theorem lineErase_struckLine_marked : (lineErase k (struckLine data k err)).2 = data ∧
    ((lineErase k (struckLine data k err)).1 = .clean ∨ (lineErase k (struckLine data k err)).1 = .erased) := by
  have hcw := codewordOf_isCodeword data
  have hfits : ∀ s ∈ struckLine data k err, synd1 s = gf16Mul (synd0 s) (gf16Pow k) := by
    intro s hs
    obtain ⟨j, -, rfl⟩ := mem_struckLine.mp hs
    rw [(hcw j).synd0_struck hk, (hcw j).synd1_struck hk]
  by_cases h0 : ∀ j < 4, err j = 0
  · rw [struckLine_of_zero hk h0] at hfits ⊢
    have hzero : ∀ s ∈ lineCodewords data, synd0 s = 0 := fun s hs => by
      obtain ⟨j, -, rfl⟩ := List.mem_map.mp hs
      exact (hcw j).sum0
    rw [lineErase_clean hfits hzero]
    exact ⟨symbolBytes_lineCodewords hl hb, .inl rfl⟩
  · simp only [Classical.not_forall, exists_prop] at h0
    obtain ⟨j, hj, h0⟩ := h0
    rw [lineErase_erased hfits ⟨_, mem_struckLine.mpr ⟨j, hj, rfl⟩, by rwa [(hcw j).synd0_struck hk]⟩,
      map_struckLine fun j => (hcw j).cwCorrect_struck hk]
    exact ⟨symbolBytes_lineCodewords hl hb, .inr rfl⟩

end LineData

/-- A line in which another device than the marked one errs is uncorrectable (R313). -/
theorem lineErase_struckLine_other {m : Nat} (hk : k < 10) (hm : m < 10) (hkm : k ≠ m) (he : ∀ j, err j < 2 ^ 16)
    (hsome : ∃ j < 4, err j ≠ 0) : (lineErase m (struckLine data k err)).1 = .uncorrectable := by
  obtain ⟨j, hj, h0⟩ := hsome
  have hcw := codewordOf_isCodeword data j
  refine lineErase_uncorrectable ⟨_, mem_struckLine.mpr ⟨j, hj, rfl⟩, ?_⟩
  rw [hcw.synd0_struck hk, hcw.synd1_struck hk]
  exact gf16Mul_pow_ne hk hm hkm (he j) h0

end StruckLine

/-! ## Lines in the DRAM (R309–R311) -/

theorem length_memBytes (m : List Host.Cell) (a n : Nat) : (memBytes m a n).length = n := by
  rw [memBytes, List.length_map, List.length_range]

theorem memBytes_lt (m : List Host.Cell) (a n : Nat) : ∀ x ∈ memBytes m a n, x < 256 := by
  intro x hx
  obtain ⟨k, -, rfl⟩ := List.mem_map.mp hx
  exact (memByte m (a + k)).isLt

/-- Bytes read back as they were written. -/
theorem memBytes_memSetAll (m : List Host.Cell) (a : Nat) {data : List Nat} (hb : ∀ x ∈ data, x < 256) :
    memBytes (memSetAll m a data) a data.length = data := by
  rw [memBytes]
  conv => rhs; rw [← map_range_getD data]
  refine List.map_congr_left fun k hk => ?_
  have hk := List.mem_range.mp hk
  rw [memByte_memSetAll, if_pos (by omega), Nat.add_sub_cancel_left, BitVec.toNat_ofNat]
  exact Nat.mod_eq_of_lt (getD_lt_of_forall_lt hb (by decide) k)

section Burst

variable {d : Dev} {c ln k m : Nat}

/-- The stored bytes of a line. -/
def Dev.lineData (d : Dev) (c ln : Nat) : List Nat := memBytes (d.memChan c).cells (ln * 64) 64

theorem Dev.length_lineData (d : Dev) (c ln : Nat) : (d.lineData c ln).length = 64 := length_memBytes _ _ _

theorem Dev.lineData_lt (d : Dev) (c ln : Nat) : ∀ x ∈ d.lineData c ln, x < 256 := memBytes_lt _ _ _

/-- The errors that the DRAM shows in codeword j of a line. -/
def Dev.cwErrs (d : Dev) (c ln j : Nat) : List MemErr := d.mem.errs.filter fun e => e.ch == c && e.line == ln && e.cw == j

/-- What errors in one device add to its symbol. -/
def errSum (es : List MemErr) : Nat := xorAll (es.map fun e => e.xor % 65_536)

theorem errSum_lt (es : List MemErr) : errSum es < 2 ^ 16 := by
  refine xorAll_lt fun x hx => ?_
  obtain ⟨e, -, rfl⟩ := List.mem_map.mp hx
  exact Nat.mod_lt _ (by decide)

theorem Dev.mem_cwErrs {e : MemErr} {j : Nat} :
    e ∈ d.cwErrs c ln j ↔ e ∈ d.mem.errs ∧ e.ch = c ∧ e.line = ln ∧ e.cw = j := by
  simp only [Dev.cwErrs, List.mem_filter, Bool.and_eq_true, beq_iff_eq, and_assoc]

/-- Errors that all lie in device k add up in its symbol. -/
theorem struck_by_errs {es : List MemErr} (hdev : ∀ e ∈ es, e.dev = k) {s : List Nat} (hk : k < s.length) :
    es.foldl (fun (s : List Nat) e => symbolAdd s e.dev (e.xor % 65_536)) s = symbolAdd s k (errSum es) := by
  induction es generalizing s with
  | nil => exact (symbolAdd_zero hk).symm
  | cons e es ih =>
    obtain ⟨rfl, hes⟩ := List.forall_mem_cons.mp hdev
    rw [List.foldl_cons, ih hes (by rwa [length_symbolAdd]), symbolAdd_symbolAdd hk, errSum, errSum, List.map_cons,
      xorAll_cons]

/-- A line without poison whose errors lie in one device comes with that device's symbols struck. -/
theorem Dev.memBurst_of_device (hk : k < 10) (hp : (d.memChan c).poison.has ln = false)
    (hdev : ∀ e ∈ d.mem.errs, e.ch = c → e.line = ln → e.dev = k) :
    d.memBurst c ln = struckLine (d.lineData c ln) k fun j => errSum (d.cwErrs c ln j) := by
  refine List.map_congr_left fun j _ => ?_
  simp only [hp, Bool.false_eq_true, if_false]
  refine struck_by_errs (fun e he => ?_) (by rwa [(codewordOf_isCodeword _ j).length])
  obtain ⟨hmem, hc, hl, -⟩ := Dev.mem_cwErrs.mp he
  exact hdev e hmem hc hl

/-- A line in which no error shows has none in its codewords. -/
theorem Dev.cwErrs_eq_nil {j : Nat} (herr : ∀ e ∈ d.mem.errs, e.ch = c → e.line ≠ ln) : d.cwErrs c ln j = [] :=
  List.eq_nil_iff_forall_not_mem.mpr fun e he => by
    obtain ⟨hmem, hc, hl, -⟩ := Dev.mem_cwErrs.mp he
    exact herr e hmem hc hl

/-- A line with poison in which no error shows comes with its codewords poisoned. -/
theorem Dev.memBurst_of_poison (hp : (d.memChan c).poison.has ln = true)
    (herr : ∀ e ∈ d.mem.errs, e.ch = c → e.line ≠ ln) :
    d.memBurst c ln = (List.range 4).map fun j => poisoned (codewordOf (d.lineData c ln) j) := by
  refine List.map_congr_left fun j _ => ?_
  have hnone : d.cwErrs c ln j = [] := Dev.cwErrs_eq_nil herr
  rw [Dev.cwErrs] at hnone
  simp only [hp, if_true, hnone, List.foldl_nil]
  rfl

/-- A single error is the whole error of its codeword. -/
theorem Dev.errSum_cwErrs_single {e : MemErr} (h : d.mem.errs = [e]) (hc : e.ch = c) (hl : e.line = ln) :
    errSum (d.cwErrs c ln e.cw) = e.xor % 2 ^ 16 := by
  simp [Dev.cwErrs, h, hc, hl, errSum]

theorem Dev.memFetch_unmarked (hm : d.flag MEMC_MARK_marked (c * 4 + d.memQ c ln) = false) :
    (d.memFetch c ln).1 = (lineJudge (d.memBurst c ln)).1 ∧ (d.memFetch c ln).2.1 = (lineJudge (d.memBurst c ln)).2 := by
  simp only [Dev.memFetch, hm, Bool.false_eq_true, if_false, and_self]

theorem Dev.memFetch_marked (hm : d.flag MEMC_MARK_marked (c * 4 + d.memQ c ln) = true)
    (hd : d.get MEMC_MARK_device (c * 4 + d.memQ c ln) = m) :
    (d.memFetch c ln).1 = (lineErase m (d.memBurst c ln)).1 ∧ (d.memFetch c ln).2.1 = (lineErase m (d.memBurst c ln)).2 := by
  simp only [Dev.memFetch, hm, hd, if_true, and_self]

end Burst

/-- Settles O31: the errors of one device add up in its symbols; each codeword they change blames it, and adding
S0 restores it. -/
theorem singleDeviceFailureIsCorrected : Obligations.SingleDeviceFailureIsCorrected := by
  intro d c ln k hk hm hp hdev
  dsimp only
  obtain ⟨h1, h2⟩ := Dev.memFetch_unmarked hm
  rw [h1, h2, Dev.memBurst_of_device hk hp hdev]
  have hclean := lineJudge_struckLine_clean (err := fun j => errSum (d.cwErrs c ln j)) (d.length_lineData c ln)
    (d.lineData_lt c ln) hk
  have hcorrected := lineJudge_struckLine_corrected (err := fun j => errSum (d.cwErrs c ln j)) (d.length_lineData c ln)
    (d.lineData_lt c ln) hk fun j => errSum_lt _
  rw [← and_assoc]
  refine ⟨?_, fun e hone hc hl hcw hx => ?_⟩
  · by_cases h0 : ∀ j < 4, errSum (d.cwErrs c ln j) = 0
    · rw [hclean h0]
      exact ⟨rfl, .inl rfl⟩
    · rw [hcorrected (by simpa using h0)]
      exact ⟨rfl, .inr rfl⟩
  · rw [hcorrected ⟨e.cw, hcw, by rwa [Dev.errSum_cwErrs_single hone hc hl]⟩]

/-- Settles O32: under the mark of device m a codeword's sums fit an error in m, and no error in another device. -/
theorem markedDeviceIsErased : Obligations.MarkedDeviceIsErased := by
  intro d c ln m hm hmark hd hp
  dsimp only
  obtain ⟨h1, h2⟩ := Dev.memFetch_marked hmark hd
  rw [h1, h2]
  refine ⟨fun hdev => ?_, fun e hone hc hl hcw hk hkm hx => ?_⟩
  · rw [Dev.memBurst_of_device hm hp hdev]
    exact lineErase_struckLine_marked (d.length_lineData c ln) (d.lineData_lt c ln) hm
  · have hdev : ∀ x ∈ d.mem.errs, x.ch = c → x.line = ln → x.dev = e.dev := by
      simp [hone]
    rw [Dev.memBurst_of_device hk hp hdev]
    exact lineErase_struckLine_other hk hm hkm (fun j => errSum_lt _)
      ⟨e.cw, hcw, by rwa [Dev.errSum_cwErrs_single hone hc hl]⟩

/-! ## Lines stored (R309, R311) -/

section Store

variable {d : Dev} {c ln : Nat} {data : List Nat} {p : Bool}

/-- What a channel holds once a line is stored in it. -/
theorem Dev.memChan_memStore_same : (d.memStore c ln data p).memChan c = { d.memChan c with
    cells := memSetAll (d.memChan c).cells (ln * 64) data
    poison := if p then (d.memChan c).poison.put ln 1 else (d.memChan c).poison.del ln } :=
  SMap.get_put_same _ _ _ _

/-- A line stored in one channel leaves the others. -/
theorem Dev.memChan_memStore_other {c' : Nat} (h : c' ≠ c) : (d.memStore c ln data p).memChan c' = d.memChan c' :=
  SMap.get_put_other _ _ _ h.symm

/-- A line is poisoned where it was stored so. -/
theorem Dev.poison_memStore : ((d.memStore c ln data p).memChan c).poison.has ln = p := by
  rw [Dev.memChan_memStore_same]
  cases p with
  | true => exact SMap.has_put_same _ _ _
  | false => exact SMap.has_del_same _ _

theorem Dev.cells_memStore : ((d.memStore c ln data p).memChan c).cells = memSetAll (d.memChan c).cells (ln * 64) data := by
  rw [Dev.memChan_memStore_same]

theorem Dev.lineData_memStore (hl : data.length = 64) (hb : ∀ x ∈ data, x < 256) :
    (d.memStore c ln data p).lineData c ln = data := by
  rw [Dev.lineData, Dev.cells_memStore, ← hl]
  exact memBytes_memSetAll _ _ hb

/-- A line with poison in which no error shows reads poisoned. -/
theorem Dev.memFetch_of_poison (hm : d.flag MEMC_MARK_marked (c * 4 + d.memQ c ln) = false)
    (hp : (d.memChan c).poison.has ln = true) (herr : ∀ e ∈ d.mem.errs, e.ch = c → e.line ≠ ln) :
    (d.memFetch c ln).1 = .poison := by
  obtain ⟨h1, -⟩ := Dev.memFetch_unmarked hm
  rw [h1, Dev.memBurst_of_poison hp herr, lineJudge_poison (by simp)]
  intro s hs
  obtain ⟨j, -, rfl⟩ := List.mem_map.mp hs
  exact (codewordOf_isCodeword _ j).poisoned_sums

/-- A line without poison in which no error shows reads clean, as it is stored. -/
theorem Dev.memFetch_of_no_error (hm : d.flag MEMC_MARK_marked (c * 4 + d.memQ c ln) = false)
    (hp : (d.memChan c).poison.has ln = false) (herr : ∀ e ∈ d.mem.errs, e.ch = c → e.line ≠ ln) :
    (d.memFetch c ln).1 = .clean ∧ (d.memFetch c ln).2.1 = d.lineData c ln := by
  obtain ⟨h1, h2⟩ := Dev.memFetch_unmarked hm
  have hk : 0 < 10 := by decide
  rw [h1, h2, Dev.memBurst_of_device hk hp fun e he hc hl => absurd hl (herr e he hc),
    lineJudge_struckLine_clean (d.length_lineData c ln) (d.lineData_lt c ln) hk fun j _ => ?_]
  · exact ⟨rfl, rfl⟩
  · rw [Dev.cwErrs_eq_nil herr]
    rfl

end Store

/-- Settles O33: poison makes every codeword read S0 = 1 and S1 = α^16; a store touches its line's 64 bytes alone. -/
theorem poisonIsReadAsPoison : Obligations.PoisonIsReadAsPoison := by
  intro d c ln data p hl hb
  dsimp only
  refine ⟨fun hm herr => ⟨?_, ?_⟩, fun a ha => ?_, fun c' hc => Dev.memChan_memStore_other hc, rfl, fun hwf => ?_⟩
  · rintro rfl
    exact Dev.memFetch_of_poison hm Dev.poison_memStore herr
  · rintro rfl
    have hfetch := Dev.memFetch_of_no_error (d := d.memStore c ln data false) hm Dev.poison_memStore herr
    rwa [Dev.lineData_memStore hl hb] at hfetch
  · rw [Dev.cells_memStore, memByte_memSetAll, if_neg (by omega)]
  · rw [Dev.cells_memStore]
    exact Memory.wf_memSetAll data _ hwf

/-! ## Lines spread over the channels (R306) -/

/-- A system line's channel and its line there, by the pair of lines it belongs to. -/
theorem Dev.memLocate_eq (d : Dev) (line : Nat) :
    d.memLocate line = (line / 2 % d.memN, line / 2 / d.memN * 2 + line % 2) := by
  rw [Dev.memLocate, Nat.div_div_eq_div_mul]

/-- A byte's place on its channel (R306). -/
theorem Dev.memLocate_byte (d : Dev) (a : Nat) : (d.memLocate (a / 64)).1 = a / 2 ^ 7 % d.memN ∧
    (d.memLocate (a / 64)).2 * 64 + a % 64 = a / (128 * d.memN) * 128 + a % 128 := by
  have hpair : a / 64 / 2 = a / 128 := Nat.div_div_eq_div_mul a 64 2
  rw [Dev.memLocate_eq, hpair, ← Nat.div_div_eq_div_mul]
  exact ⟨rfl, by omega⟩

theorem Dev.memSysLine_memLocate (d : Dev) (line : Nat) : d.memSysLine (d.memLocate line).1 (d.memLocate line).2 = line := by
  rw [Dev.memLocate_eq, Dev.memSysLine]
  dsimp only
  have hpair : line / 2 / d.memN * d.memN + line / 2 % d.memN = line / 2 := Nat.div_add_mod' _ _
  rw [show (line / 2 / d.memN * 2 + line % 2) / 2 = line / 2 / d.memN by omega,
    show (line / 2 / d.memN * 2 + line % 2) % 2 = line % 2 by omega, Nat.mul_left_comm]
  omega

theorem Dev.memLocate_memSysLine {d : Dev} {c : Nat} (ln : Nat) (hc : c < d.memN) : d.memLocate (d.memSysLine c ln) = (c, ln) := by
  have hline : d.memSysLine c ln = 2 * (c + d.memN * (ln / 2)) + ln % 2 := by
    have hpairs : ln / 2 * (2 * d.memN) = 2 * (d.memN * (ln / 2)) := by ac_rfl
    rw [Dev.memSysLine, hpairs, Nat.mul_add]
    omega
  have hpair : d.memSysLine c ln / 2 = c + d.memN * (ln / 2) := by omega
  have hdiv : (c + d.memN * (ln / 2)) / d.memN = ln / 2 := by
    rw [Nat.add_mul_div_left _ _ (by omega), Nat.div_eq_of_lt hc, Nat.zero_add]
  rw [Dev.memLocate_eq, hpair, hdiv, Nat.add_mul_mod_self_left, Nat.mod_eq_of_lt hc]
  congr 1
  omega

/-- Settles O34: a channel takes two lines, 128 bytes, of every 2N in turn. -/
theorem memoryLinesAreSpreadOneToOne : Obligations.MemoryLinesAreSpreadOneToOne := fun d _ =>
  ⟨d.memLocate_byte, d.memSysLine_memLocate, fun _ ln hc => Dev.memLocate_memSysLine ln hc⟩

/-! ## Completion -/

/-- Settles O51: each event's branch of its meaning; commands by the gate of their page. -/
theorem memoryCommandsComplete : Obligations.MemoryCommandsComplete := by
  refine ⟨?_, ?_, ?_, ?_, ?_, ?_, ?_, ?_, ?_, ?_, ?_, ?_, ?_, ?_, ?_, ?_, ?_, ?_, ?_, ?_, ?_⟩
  · intro ch x
    refine .of_onDev (fun s => (rfl : execMemoryChannelTrained _ _ s = onDev _ s)) fun d ⟨hch, hr, hx⟩ => ?_
    obtain ⟨hs, ht⟩ := Bool.and_eq_true_iff.mp hx
    refine (if_neg (by simp [hr, hch])).trans ?_
    simp only [hs, ht, Bool.and_self, if_true]
  · intro ch x
    refine .of_onDev (fun s => (rfl : execMemoryChannelTrained _ _ s = onDev _ s)) fun d ⟨hch, hr, hx⟩ => ?_
    refine (if_neg (by simp [hr, hch])).trans ?_
    simp only [hx, Bool.false_and, Bool.false_eq_true, if_false]
  · refine .of_onDev (fun s => (rfl : execMapBuild s = onDev _ s)) fun d ⟨hb, hr, hp, ht, hn⟩ => ?_
    simp only [Dev.memBuild, hb, hr, hp, ht, hn, Bool.not_true, Bool.or_self, Bool.false_eq_true, if_false]
  · intro line errs
    exact .of_onDev (fun s => (rfl : execMemoryRead _ _ s = onDev _ s)) fun d hc => if_pos hc
  · intro addr bytes errs
    exact .of_onDev (fun s => (rfl : execMemoryWrite _ _ _ s = onDev _ s)) fun d hc => if_pos hc
  · intro ch errs e rest
    refine .of_onDev (fun s => (rfl : execLadleAgeFlush _ _ s = onDev _ s)) fun d ⟨hl, hc⟩ => ?_
    simp only [hl, hc, if_true]
  · intro ch
    exact .of_onDev (fun s => (rfl : execBlameDecay _ s = onDev _ s)) fun d hc => if_pos hc
  · intro ch errs
    exact .of_onDev (fun s => (rfl : execScrubVisit _ _ s = onDev _ s)) fun d hc => if_pos hc
  · intro ch errs
    exact .of_onDev (fun s => (rfl : execSelfRefreshEntry _ _ s = onDev _ s)) fun d hc => if_pos hc
  · intro c
    exact .of_onDev (fun s => (rfl : execMemFence _ s = onDev _ s)) fun d hc => d.cmd_accepted _ _ _ _ hc
  · intro c
    exact .of_onDev (fun s => (rfl : execMemZero _ s = onDev _ s)) fun d hc => d.cmd_accepted _ _ _ _ hc
  · intro n rest
    refine .of_onDev (fun s => (rfl : execZeroDone s = onDev _ s)) fun d hz => ?_
    simp only [hz]
  · intro c
    exact .of_onDev (fun s => (rfl : execMemRemap _ s = onDev _ s)) fun d hc => d.cmd_accepted _ _ _ _ hc
  · intro c
    exact .of_onDev (fun s => (rfl : execMemcMark _ s = onDev _ s)) fun d hc => d.cmd_accepted _ _ _ _ hc
  · intro c
    exact .of_onDev (fun s => (rfl : execMemcUnmark _ s = onDev _ s)) fun d hc => d.cmd_accepted _ _ _ _ hc
  · intro c
    exact .of_onDev (fun s => (rfl : execMemcClearCounters _ s = onDev _ s)) fun d hc => d.cmd_accepted _ _ _ _ hc
  · intro c
    exact .of_onDev (fun s => (rfl : execFlrArm _ s = onDev _ s)) fun d hc => d.cmd_accepted _ _ _ _ hc
  · intro c
    exact .of_onDev (fun s => (rfl : execFlrTrigger _ s = onDev _ s)) fun d hc => d.cmd_accepted _ _ _ _ hc
  · intro c
    exact .of_onDev (fun s => (rfl : execFlrStop _ s = onDev _ s)) fun d hc => d.cmd_accepted _ _ _ _ hc
  · refine .of_onDev (fun s => (rfl : execFlrFreeze s = onDev _ s)) fun d ⟨hs, hl, hf⟩ => ?_
    simp only [Dev.flrFreeze, hs, hl, hf, and_self, if_true]
  · refine .of_onDev (fun s => (rfl : execFlrFreeze s = onDev _ s)) fun d ⟨hs, hl, hf⟩ => ?_
    simp only [Dev.flrFreeze, hs, hl, Nat.not_lt.mpr hf, and_self, if_true, if_false]

end Sys2Proof.Machine
end

/-!
Proofs of the statements on 11_ledger_and_metering.md: what draining the taps credits to the units (R345, R346), how records stand in
the ring and in the chain (R349–R351), and where the commands of metering, the ledger and attestation complete.
-/
section
namespace Sys2Proof.Machine

/-! ## Sums over lists -/

/-- The members of a list that do not share the key of x hold every other key's fiber. -/
theorem filter_fiber_of_ne {α : Type} {key : α → Nat} {x : α} {u : Nat} (h : u ≠ key x) (l : List α) :
    (x :: l).filter (fun y => key y == u) = (l.filter fun y => !(key y == key x)).filter fun y => key y == u := by
  rw [List.filter_cons_of_neg (by simpa using h.symm), List.filter_filter]
  refine List.filter_congr fun y _ => ?_
  by_cases hy : key y = u
  · simp [hy, h]
  · simp [hy]

/-- Weights summed key by key, each key once, are the weights summed. -/
theorem sum_fibers_eraseDups {α : Type} (key w : α → Nat) : ∀ l : List α,
    ((l.map key).eraseDups.map fun u => ((l.filter fun y => key y == u).map w).sum).sum = (l.map w).sum
  | [] => rfl
  | x :: l => by
    have hother : ∀ u ∈ ((l.filter fun y => !(key y == key x)).map key).eraseDups,
        (((x :: l).filter fun y => key y == u).map w).sum =
          (((l.filter fun y => !(key y == key x)).filter fun y => key y == u).map w).sum := by
      intro u hu
      obtain ⟨y, hy, rfl⟩ := List.mem_map.mp (List.mem_eraseDups.mp hu)
      rw [filter_fiber_of_ne (by simpa using (List.mem_filter.mp hy).2)]
    have hsplit := List.sum_map_filter_add_sum_map_filter_not (fun y => key y = key x) w l
    simp only [← beq_eq_decide, decide_not] at hsplit
    have ih := sum_fibers_eraseDups key w (l.filter fun y => !(key y == key x))
    rw [List.map_cons, List.eraseDups_cons, List.filter_map, List.map_cons, List.sum_cons, Function.comp_def,
      List.map_congr_left hother, ih, List.filter_cons_of_pos (by simp), List.map_cons, List.map_cons, List.sum_cons,
      List.sum_cons, ← hsplit, Nat.add_assoc]
termination_by l => l.length
decreasing_by exact Nat.lt_succ_of_le (l.length_filter_le _)

/-- The part of an energy that a unit's weight has in the total, rounded down; none of it where the total is 0 (R345). -/
def shareOf (e total w : Nat) : Nat := if total = 0 then 0 else e * w / total

/-- Quotients rounded down one by one are together no more than the quotient of the sum. -/
theorem sum_mul_div_le {α : Type} (e total : Nat) (w : α → Nat) (l : List α) :
    (l.map fun u => e * w u / total).sum ≤ e * (l.map w).sum / total := by
  induction l with
  | nil => simp
  | cons u l ih =>
    simp only [List.map_cons, List.sum_cons, Nat.mul_add]
    exact (Nat.add_le_add_left ih _).trans Nat.div_add_div_le_add_div

/-- The shares by weights that sum to the total are together no more than the energy. -/
theorem sum_shareOf_le {α : Type} (e : Nat) (w : α → Nat) (l : List α) :
    (l.map fun u => shareOf e (l.map w).sum (w u)).sum ≤ e := by
  unfold shareOf
  split
  · simp
  next hpos => exact (sum_mul_div_le ..).trans (Nat.mul_div_cancel e (Nat.pos_of_ne_zero hpos)).le

/-! ## Sums over sparse maps -/

section Totals

variable {α : Type} {g : α → Nat} {z : α} {m : SMap α} {b k : Nat}

/-- A figure summed over the values of a sparse map. -/
def SMap.total (g : α → Nat) (m : SMap α) : Nat := (m.map fun e => g e.2).sum

/-- A key below all that are listed reads the default. -/
theorem SMap.get_below (z : α) (h : SMap.sortedFrom b m = true) (hk : k < b) : m.get k z = z := by
  induction m generalizing b with
  | nil => rfl
  | cons e m ih =>
    obtain ⟨j, w⟩ := e
    simp only [SMap.sortedFrom, Bool.and_eq_true, decide_eq_true_eq] at h
    rw [SMap.get, if_neg (by omega), ih h.2 (by omega)]

/-- A write puts the new value's figure in place of the old one's, which is 0 where nothing is listed. -/
theorem SMap.total_put (hz : g z = 0) (v : α) (h : SMap.sortedFrom b m = true) :
    SMap.total g (m.put k v) + g (m.get k z) = SMap.total g m + g v := by
  induction m generalizing b with
  | nil => simp [SMap.put, SMap.total, hz]
  | cons e m ih =>
    obtain ⟨j, w⟩ := e
    simp only [SMap.sortedFrom, Bool.and_eq_true, decide_eq_true_eq] at h
    rw [SMap.put]
    split
    · have hget : SMap.get ((j, w) :: m) k z = z := SMap.get_below (b := j) z (by simp [SMap.sortedFrom, h.2]) (by omega)
      rw [hget, hz]
      simp only [SMap.total, List.map_cons, List.sum_cons]
      omega
    split
    · next hj =>
      rw [SMap.get, if_pos hj]
      simp only [SMap.total, List.map_cons, List.sum_cons]
      omega
    · next hj =>
      have := ih h.2
      rw [SMap.get, if_neg hj]
      simp only [SMap.total, List.map_cons, List.sum_cons] at this ⊢
      omega

/-- A change that adds n to a value's figure adds n to the total. -/
theorem SMap.total_upd (hz : g z = 0) (hm : m.wf = true) {f : α → α} {n : Nat} (hf : ∀ a, g (f a) = g a + n) :
    SMap.total g (m.upd k z f) = SMap.total g m + n := by
  have := SMap.total_put (k := k) hz (f (m.get k z)) hm
  rw [hf] at this
  rw [SMap.upd]
  omega

end Totals

/-! ## Energy credited to the units -/

/-- The energy attributed out to all units and the unleased total, in 0.1 nJ. -/
def Dev.energyOut (d : Dev) : Nat := SMap.total UnitAcc.eOut d.mtr.accs

/-- The energy attributed in. -/
def Dev.energyIn (d : Dev) : Nat := SMap.total UnitAcc.eIn d.mtr.accs

/-- From d to e the units were credited with o out and i in, and the tap stayed. -/
structure Credited (o i : Nat) (d e : Dev) : Prop where
  tap : e.mtr.tap = d.mtr.tap
  wf : SMap.wf d.mtr.accs = true → SMap.wf e.mtr.accs = true
  out : SMap.wf d.mtr.accs = true → e.energyOut = d.energyOut + o
  into : SMap.wf d.mtr.accs = true → e.energyIn = d.energyIn + i

section Credit

variable {d e f : Dev} {o i o' i' : Nat}

/-- What leaves the counters and the tap credits nothing. -/
theorem Credited.of_eq (ht : e.mtr.tap = d.mtr.tap) (ha : e.mtr.accs = d.mtr.accs) : Credited 0 0 d e where
  tap := ht
  wf h := by rwa [ha]
  out _ := by rw [Dev.energyOut, ha]; rfl
  into _ := by rw [Dev.energyIn, ha]; rfl

theorem Credited.trans (h : Credited o i d e) (h' : Credited o' i' e f) : Credited (o + o') (i + i') d f where
  tap := h'.tap.trans h.tap
  wf hd := h'.wf (h.wf hd)
  out hd := by rw [h'.out (h.wf hd), h.out hd, Nat.add_assoc]
  into hd := by rw [h'.into (h.wf hd), h.into hd, Nat.add_assoc]

/-- A change before the credit that leaves the counters and the tap. -/
theorem Credited.of_kept (h : Credited o i e f) (ht : e.mtr.tap = d.mtr.tap) (ha : e.mtr.accs = d.mtr.accs) : Credited o i d f := by
  simpa only [Nat.zero_add] using (Credited.of_eq ht ha).trans h

/-- What credits nothing after it. -/
theorem Credited.trans_none (h : Credited o i d e) (h' : Credited 0 0 e f) : Credited o i d f := h.trans h'

/-- A register field written after it. -/
theorem Credited.put (h : Credited o i d e) (r : Field) (v k : Nat) : Credited o i d (e.put r v k) :=
  h.trans_none (.of_eq rfl rfl)

/-- Items of work taken in order credit the sums of what each credits. -/
theorem Credited.each {α : Type} {step : α → Dev → Dev} {o i : α → Nat} (h : ∀ x d, Credited (o x) (i x) d (step x d)) (l : List α)
    (d : Dev) : Credited (l.map o).sum (l.map i).sum d (Sys2Proof.each l step d) := by
  induction l generalizing d with
  | nil => exact .of_eq rfl rfl
  | cons x l ih => exact (h x d).trans (ih (step x d))

/-- Items of work that credit nothing. -/
theorem Credited.each_none {α : Type} {step : α → Dev → Dev} (h : ∀ x d, Credited 0 0 d (step x d)) (l : List α) (d : Dev) :
    Credited 0 0 d (Sys2Proof.each l step d) := by
  simpa using Credited.each h l d

theorem Credited.accUpd {g : UnitAcc → UnitAcc} (d : Dev) (u : Nat) (ho : ∀ a, (g a).eOut = a.eOut + o)
    (hi : ∀ a, (g a).eIn = a.eIn + i) : Credited o i d (d.accUpd u g) where
  tap := rfl
  wf hd := SMap.wf_put _ _ hd
  out hd := SMap.total_upd (g := UnitAcc.eOut) rfl hd ho
  into hd := SMap.total_upd (g := UnitAcc.eIn) rfl hd hi

end Credit

/-! ## Attribution (R345) -/

/-- The tap entries of a unit. -/
def unitTap (cells : List (Nat × TapCell)) (u : Nat) : List (Nat × TapCell) := cells.filter fun e => tapUnit e.1 == u

theorem tapUnits_sum_dis (cells : List (Nat × TapCell)) :
    ((tapUnits cells).map fun u => (tapSum (unitTap cells u)).1).sum = (tapSum cells).1 :=
  sum_fibers_eraseDups (fun e : Nat × TapCell => tapUnit e.1) (fun e => e.2.dis) cells

theorem tapUnits_sum_chg (cells : List (Nat × TapCell)) :
    ((tapUnits cells).map fun u => (tapSum (unitTap cells u)).2).sum = (tapSum cells).2 :=
  sum_fibers_eraseDups (fun e : Nat × TapCell => tapUnit e.1) (fun e => e.2.chg) cells

/-- What a bank's energies give each unit with cells among those of the tap. -/
def tapShares (ePos eNeg : Nat) (cells : List (Nat × TapCell)) : List (Nat × Nat × Nat) :=
  (tapUnits cells).map fun u =>
    (u, shareOf ePos (tapSum cells).1 (tapSum (unitTap cells u)).1, shareOf eNeg (tapSum cells).2 (tapSum (unitTap cells u)).2)

theorem tapShares_out_le (ePos eNeg : Nat) (cells : List (Nat × TapCell)) :
    ((tapShares ePos eNeg cells).map fun x => x.2.1).sum ≤ ePos := by
  have h := sum_shareOf_le ePos (fun u => (tapSum (unitTap cells u)).1) (tapUnits cells)
  rw [tapUnits_sum_dis] at h
  rwa [tapShares, List.map_map]

theorem tapShares_in_le (ePos eNeg : Nat) (cells : List (Nat × TapCell)) :
    ((tapShares ePos eNeg cells).map fun x => x.2.2).sum ≤ eNeg := by
  have h := sum_shareOf_le eNeg (fun u => (tapSum (unitTap cells u)).2) (tapUnits cells)
  rw [tapUnits_sum_chg] at h
  rwa [tapShares, List.map_map]

/-- Shares of two energies are credited to their units, then the remainders to the unleased total. -/
def Dev.shareOut (d : Dev) (ePos eNeg : Nat) (shares : List (Nat × Nat × Nat)) : Dev :=
  (each shares (fun (x : Nat × Nat × Nat) (d : Dev) =>
    d.accUpd x.1 fun a => { a with eOut := a.eOut + x.2.1, eIn := a.eIn + x.2.2 }) d).accUpd unleased fun a =>
      { a with eOut := a.eOut + (ePos - (shares.map fun x => x.2.1).sum), eIn := a.eIn + (eNeg - (shares.map fun x => x.2.2).sum) }

/-- Whatever the shares, while they do not exceed the energies, the energies are credited whole. -/
theorem Dev.shareOut_credited (d : Dev) {ePos eNeg : Nat} {shares : List (Nat × Nat × Nat)}
    (ho : (shares.map fun x => x.2.1).sum ≤ ePos) (hi : (shares.map fun x => x.2.2).sum ≤ eNeg) :
    Credited ePos eNeg d (d.shareOut ePos eNeg shares) := by
  have h : Credited (_ + (ePos - (shares.map fun x => x.2.1).sum)) (_ + (eNeg - (shares.map fun x => x.2.2).sum)) d
      (d.shareOut ePos eNeg shares) :=
    (Credited.each (o := fun x => x.2.1) (i := fun x => x.2.2)
      (fun x d => .accUpd d x.1 (fun _ => rfl) (fun _ => rfl)) shares d).trans (.accUpd _ unleased (fun _ => rfl) (fun _ => rfl))
  rwa [Nat.add_sub_of_le ho, Nat.add_sub_of_le hi] at h

/-! ## The tap drained (R345–R348) -/

/-- A bank's part of a drained tap changes the bank's own sums, shares its energies out, and marks the bank where an energy has no cells
to go to. -/
theorem Dev.drainBank_eq (d : Dev) (t : Tap) (b : Nat) : ∃ sums : BankAcc → BankAcc, d.drainBank t b =
    let ePos := (t.banks.get b (0, 0)).1
    let eNeg := (t.banks.get b (0, 0)).2
    let cells := t.cells.filter fun e => tapBank e.1 == b
    let e := (d.bankUpd b sums).shareOut ePos eNeg (tapShares ePos eNeg cells)
    if ((tapSum cells).1 = 0 ∧ 0 < ePos) ∨ ((tapSum cells).2 = 0 ∧ 0 < eNeg) then e.put MTR_BANK_FLAGS_unattributed 1 b else e :=
  ⟨_, rfl⟩

/-- A bank's energies go to the units and the unleased total whole. -/
theorem Dev.drainBank_credited (d : Dev) (t : Tap) (b : Nat) :
    Credited (t.banks.get b (0, 0)).1 (t.banks.get b (0, 0)).2 d (d.drainBank t b) := by
  obtain ⟨sums, heq⟩ := d.drainBank_eq t b
  have h := Dev.shareOut_credited (d.bankUpd b sums) (tapShares_out_le (t.banks.get b (0, 0)).1 (t.banks.get b (0, 0)).2 _)
    (tapShares_in_le _ _ (t.cells.filter fun e => tapBank e.1 == b))
  rw [heq]
  dsimp only
  split
  · exact (h.put ..).of_kept rfl rfl
  · exact h.of_kept rfl rfl

/-- The cells of gap intervals and of unassigned strings are credited their own measured energy (R346). -/
theorem Dev.drainMeasured_credited (d : Dev) (cells : SMap TapCell) :
    Credited ((tapSum cells).1 * perMJ) ((tapSum cells).2 * perMJ) d (d.drainMeasured cells) := by
  have h : Credited ((tapUnits cells).map fun u => (tapSum (unitTap cells u)).1 * perMJ).sum
      ((tapUnits cells).map fun u => (tapSum (unitTap cells u)).2 * perMJ).sum d (d.drainMeasured cells) :=
    .each (fun u d => .accUpd d u (fun _ => rfl) (fun _ => rfl)) _ d
  rwa [List.sum_map_mul_right, List.sum_map_mul_right, tapUnits_sum_dis, tapUnits_sum_chg] at h

theorem Dev.drainUnit_credited (d : Dev) (t : Tap) (u : Nat) : Credited 0 0 d (d.drainUnit t u) :=
  .of_kept (.accUpd _ u (fun _ => rfl) (fun _ => rfl)) rfl rfl

theorem Dev.record_mtr (d : Dev) (k fl : Nat) (b : List Part) (t s : Nat) : (d.record k fl b t s).mtr = d.mtr :=
  Dev.part_of_unsignalled Dev.mtr (fun _ => rfl) (d.record_unsignalled k fl b t s)

theorem Dev.drainLost_credited (d : Dev) (lost : SMap (Nat × Nat)) : Credited 0 0 d (d.drainLost lost) :=
  .each_none (fun _ d => .of_eq (congrArg Mtr.tap (d.record_mtr ..)) (congrArg Mtr.accs (d.record_mtr ..))) lost d

/-- The tap is emptied as it is taken. -/
def Dev.tapTaken (d : Dev) : Dev := { d with mtr := { d.mtr with tap := Tap.init } }

/-- A drain of a tap that holds a complete interval: the tap empties, each bank's part is attributed, what is billed as measured is
added, the units' counters take the rest, and what saturation kept out is recorded. -/
theorem Dev.tapDrain_eq {d : Dev} (h : d.mtr.tap.count ≠ 0) : d.tapDrain =
    let t := d.mtr.tap
    let d := each (List.range 16) (fun b (d : Dev) => d.drainBank t b) d.tapTaken
    let d := d.drainMeasured t.gapCells
    let d := each (definedUnits d.mtr.unitsClose ++ [unleased]) (fun u (d : Dev) => d.drainUnit t u) d
    ((((d.drainLost t.lost).put GEN_HATCH_STATUS_mt_folding 0).put GEN_HATCH_STATUS_mt_sat 0).put GEN_HATCH_MT_AGE_frames 0).put
      GEN_HATCH_MT_AGE_sat 0 :=
  if_neg h

/-- A drain credits the banks' energies and the measured energy of the tap that it empties. -/
theorem Dev.tapDrain_credited {d : Dev} (h : d.mtr.tap.count ≠ 0) :
    Credited (((List.range 16).map fun b => (d.mtr.tap.banks.get b (0, 0)).1).sum + (tapSum d.mtr.tap.gapCells).1 * perMJ)
      (((List.range 16).map fun b => (d.mtr.tap.banks.get b (0, 0)).2).sum + (tapSum d.mtr.tap.gapCells).2 * perMJ)
      d.tapTaken d.tapDrain := by
  rw [Dev.tapDrain_eq h]
  have hbanks : Credited _ _ _ (each (List.range 16) (fun b d' => d'.drainBank d.mtr.tap b) d.tapTaken) :=
    .each (fun b d' => d'.drainBank_credited d.mtr.tap b) _ _
  have hmeasured := hbanks.trans (Dev.drainMeasured_credited _ d.mtr.tap.gapCells)
  have hunits := fun us => hmeasured.trans_none (.each_none (fun u d' => d'.drainUnit_credited d.mtr.tap u) us _)
  exact (((((hunits _).trans_none (Dev.drainLost_credited _ d.mtr.tap.lost)).put ..).put ..).put ..).put ..

/-- While D00 is not held off, `TAP_DRAIN` drains the taps once they are complete. -/
theorem exec_tapDrain {s : State} (hd : s.dev.down = 0) (hready : s.dev.tapReady = true) :
    exec .tapDrain s = .next { s with dev := s.dev.tapDrain } := by
  rw [show exec .tapDrain s = onDev (fun d => if d.tapReady then d.tapDrain else d) s from rfl, onDev, if_pos hd, if_pos hready]

/-- Settles O30: each part of the drain credits the units and the unleased total with what it takes from the tap; the shares of a bank
are rounded down, and the remainder goes to the unleased total. -/
theorem attributedEnergySumsToTheMeter : Obligations.AttributedEnergySumsToTheMeter := by
  intro s hd hwf hready hcount
  have h := Dev.tapDrain_credited hcount
  exact ⟨{ s with dev := s.dev.tapDrain }, exec_tapDrain hd hready, rfl, h.wf hwf, (h.out hwf).trans (Nat.add_assoc ..).symm,
    (h.into hwf).trans (Nat.add_assoc ..).symm, h.tap⟩

/-! ## What signalling leaves of the ledger -/

/-- The ledger without the records that wait: what signalling cannot touch of it. -/
def Ldg.unqueued (x : Ldg) : Ldg := { x with queue := [] }

section Signalling

variable (d : Dev)

theorem Dev.record_unqueued (kind flags : Nat) (body : List Part) (t src : Nat) :
    (d.record kind flags body t src).ldg.unqueued = d.ldg.unqueued := by
  obtain ⟨q, hq⟩ := d.record_eq_withLdgQueue kind flags body t src
  rw [hq]
  rfl

theorem Dev.ldgRefusal_ldg : d.ldgRefusal.ldg = d.ldg := by
  unfold Dev.ldgRefusal Dev.bumpS
  simp only
  split <;> rfl

theorem Dev.slSend_ldg (h p : List Nat) : (d.slSend h p).ldg = d.ldg := by
  unfold Dev.slSend
  split <;> rfl

theorem Dev.summaryAgain_ldg (src : Nat) : (d.summaryAgain src).ldg = d.ldg := by
  unfold Dev.summaryAgain
  split <;> rfl

/-- A delivery adds at most a record that waits, that of a source of target 6 (R96). -/
theorem Dev.irqDeliver_unqueued (src : Nat) : (d.irqDeliver src).ldg.unqueued = d.ldg.unqueued := by
  unfold Dev.irqDeliver
  split
  · rfl
  simp only
  split
  · rw [Dev.holdMsix_ldg]
  split
  · split <;> rfl
  split
  · split
    · rw [Dev.ldgRefusal_ldg]
    · split
      · rfl
      · exact d.record_unqueued ..
  split
  · split
    · rw [Dev.summaryAgain_ldg]
      exact congrArg Ldg.unqueued (d.slSend_ldg ..)
    · rfl
  · rfl

theorem Dev.irqEdge_unqueued (src : Nat) : (d.irqEdge src).ldg.unqueued = d.ldg.unqueued := by
  unfold Dev.irqEdge
  split
  · rfl
  · exact Dev.irqDeliver_unqueued _ src

theorem Dev.pageIrq_unqueued (page b : Nat) : (d.pageIrq page b).ldg.unqueued = d.ldg.unqueued := by
  unfold Dev.pageIrq
  simp only
  split
  · exact Dev.irqEdge_unqueued _ page
  · rfl

/-! ## The count of unacknowledged records (R360, R361) -/

/-- A block event where the condition holds. -/
def Dev.ldgIrqIf (c : Bool) (b : Nat) : Dev := onlyIf c (fun d : Dev => d.pageIrq 0x012 b) d

theorem Dev.ldgIrqIf_unqueued (c : Bool) (b : Nat) : (d.ldgIrqIf c b).ldg.unqueued = d.ldg.unqueued := by
  cases c
  · rfl
  · exact d.pageIrq_unqueued 0x012 b

theorem Dev.ldgIrqIf_get (c : Bool) (b : Nat) {f : Field} (k : Nat) (hs : f.code ∉ signalCodes) :
    (d.ldgIrqIf c b).get f k = d.get f k := by
  cases c
  · rfl
  · exact d.pageIrq_get 0x012 b f k hs

/-- The count is written with its two marks, then the events of marks that rose are signalled. -/
theorem Dev.ldgCount_eq : ∃ (n : Nat) (reserve full risen risenFull : Bool), d.ldgCount =
    ((((d.put LDG_UNACKED_count n).putB LDG_STATUS_reserve reserve).putB LDG_STATUS_full full).ldgIrqIf risen 3).ldgIrqIf risenFull 6 :=
  ⟨_, _, _, _, _, rfl⟩

theorem Dev.ldgCount_unqueued : d.ldgCount.ldg.unqueued = d.ldg.unqueued := by
  obtain ⟨n, r, l, c, c', h⟩ := d.ldgCount_eq
  rw [h, Dev.ldgIrqIf_unqueued, Dev.ldgIrqIf_unqueued]
  rfl

theorem Dev.ldgCount_get {f : Field} (k : Nat) (hs : f.code ∉ signalCodes) (hn : LDG_UNACKED_count.code ≠ f.code)
    (hr : LDG_STATUS_reserve.code ≠ f.code) (hf : LDG_STATUS_full.code ≠ f.code) : d.ldgCount.get f k = d.get f k := by
  obtain ⟨n, r, l, c, c', h⟩ := d.ldgCount_eq
  rw [h, Dev.ldgIrqIf_get _ _ _ _ hs, Dev.ldgIrqIf_get _ _ _ _ hs, Dev.putB, Dev.get_put_field _ _ _ _ _ _ hf, Dev.putB,
    Dev.get_put_field _ _ _ _ _ _ hr, Dev.get_put_field _ _ _ _ _ _ hn]

end Signalling

/-! ## Records as bytes (R350) -/

@[simp] theorem length_leBytes (n v : Nat) : (leBytes n v).length = n := by
  induction n generalizing v with
  | zero => rfl
  | succ n ih => rw [leBytes, List.length_cons, ih]

@[simp] theorem length_beBytes (n v : Nat) : (beBytes n v).length = n := by rw [beBytes, List.length_reverse, length_leBytes]

@[simp] theorem length_recHead (r : LdgRec) : (recHead r).length = 80 := by simp [recHead]

theorem recBytes_of_ne_seal {r : LdgRec} (h : r.kind ≠ 3) : recBytes r = recHead r ++ beBytes 48 r.hash := if_neg h

theorem recBytes_of_seal {r : LdgRec} (h : r.kind = 3) : recBytes r = (recHead r).take 32 ++ beBytes 96 r.sig := if_pos h

theorem length_recBytes (r : LdgRec) : (recBytes r).length = 128 := by
  by_cases h : r.kind = 3
  · simp [recBytes_of_seal h]
  · simp [recBytes_of_ne_seal h]

/-! ## A record written (R349–R351) -/

section Written

variable (d : Dev) (kind flags : Nat) (body : List Part)

/-- The record written next, before it has its chain hash. -/
def Dev.nextRec : LdgRec :=
  { seq := d.ldg.next, epoch := d.epoch, tick := d.tick, frame := d.frameRec, kind := kind, flags := flags, body := body, hash := 0,
    sig := 0 }

/-- The chain hash that it gets. -/
def Dev.nextHash : Nat := chainHash d.ldg.hash (d.nextRec kind flags body)

/-- A record written changes the ring, the chain, the next number and the counts of records since a seal and a `SHUTDOWN`. -/
theorem Dev.ldgWrite_unqueued : (d.ldgWrite kind flags body).ldg.unqueued =
    { d.ldg with
      queue := []
      ring := d.ldg.ring.put (d.ldg.next % ldgSlots) { d.nextRec kind flags body with hash := d.nextHash kind flags body }
      hash := d.nextHash kind flags body
      next := d.ldg.next + 1
      sinceSeal := d.ldg.sinceSeal + 1
      lastShutdown := if kind = 0x02 then d.ldg.next + 1 else d.ldg.lastShutdown } :=
  Dev.ldgCount_unqueued _

theorem Dev.ldgWrite_next : (d.ldgWrite kind flags body).ldg.next = d.ldg.next + 1 :=
  congrArg Ldg.next (d.ldgWrite_unqueued kind flags body)

theorem Dev.ldgWrite_hash : (d.ldgWrite kind flags body).ldg.hash = d.nextHash kind flags body :=
  congrArg Ldg.hash (d.ldgWrite_unqueued kind flags body)

theorem Dev.ldgWrite_ring : (d.ldgWrite kind flags body).ldg.ring =
    d.ldg.ring.put (d.ldg.next % 196_608) { d.nextRec kind flags body with hash := d.nextHash kind flags body } :=
  congrArg Ldg.ring (d.ldgWrite_unqueued kind flags body)

theorem Dev.ldgWrite_slot (z : LdgRec) : (d.ldgWrite kind flags body).ldg.ring.get (d.ldg.next % 196_608) z =
    { d.nextRec kind flags body with hash := d.nextHash kind flags body } := by
  rw [Dev.ldgWrite_ring, SMap.get_put_same]

/-- `LDG_HEAD` shows the number of the record written. -/
theorem Dev.ldgWrite_head : (d.ldgWrite kind flags body).get2 LDG_HEAD_LO_lo LDG_HEAD_HI_hi = d.ldg.next % 2 ^ 64 := by
  unfold Dev.ldgWrite Dev.ldgWriteAt
  simp only
  rw [Dev.get2, Dev.ldgCount_get _ _ (by decide) (by decide) (by decide) (by decide),
    Dev.ldgCount_get _ _ (by decide) (by decide) (by decide) (by decide)]
  exact Dev.get2_put2_same _ _ 0 (by decide)

end Written

/-- Settles O29: the record takes the slot of its number in the ring, where no other key is written. -/
theorem ledgerSlotsFillInOrder : Obligations.LedgerSlotsFillInOrder := by
  intro d kind flags body
  refine ⟨d.ldgWrite_next .., d.ldgWrite_head .., ?_, fun k z hk => ?_⟩
  · rw [Dev.ldgWrite_slot, Dev.ldgWrite_hash]
    rfl
  · rw [Dev.ldgWrite_ring, SMap.get_put_other _ _ _ hk.symm]

/-- Settles O28: a record's hash part is not among the bytes that its hash covers, so the slot's own bytes give the hash. -/
theorem ledgerRecordsAreChained : Obligations.LedgerRecordsAreChained := by
  refine ⟨by decide, fun d kind flags body => ?_⟩
  dsimp only
  rw [Dev.ldgWrite_slot, Dev.ldgWrite_hash]
  refine ⟨length_recHead _, length_recBytes _, fun h => ?_, fun h => ?_⟩
  · rw [recBytes_of_ne_seal h, List.take_left' (length_recHead _), List.drop_left' (length_recHead _)]
    exact ⟨rfl, congrArg (fun bs => Config.sha384 (beBytes 48 d.ldg.hash ++ bs)) (if_neg h), rfl⟩
  · have hlen : ((recHead { d.nextRec kind flags body with hash := d.nextHash kind flags body }).take 32).length = 32 := by simp
    rw [recBytes_of_seal h, List.take_left' hlen, List.drop_left' hlen]
    exact ⟨rfl, congrArg (fun bs => Config.sha384 (beBytes 48 d.ldg.hash ++ bs)) (if_pos h), rfl⟩

/-! ## Completion -/

/-- A document that the signature engine has finished (R364). -/
theorem Dev.engineSigned_document {d : Dev} {j : SigJob} {rest : List SigJob} (hj : d.isl.docs = j :: rest)
    (h3 : d.isl.current = 3) (hk : j.kind = 2 ∨ j.kind = 3) :
    d.engineSigned =
      let head := d.docHead j
      let doc := head ++ beBytes 96 (Config.ecdsaSign d.isl.priv (Config.sha384 head))
      let d := each (List.range 128) (fun w (d : Dev) => d.put LDG_OUT_data (leNat ((doc.drop (4 * w)).take 4)) (j.ch * 128 + w))
        { d with isl := { d.isl with docs := rest } }
      let d := if j.kind = 3 then d.record 0x25 0 [⟨24, 2, j.unit⟩, hashPart 32 (Config.sha384 head)] else d
      (((d.put LDG_OUT_STATUS_state 2 j.ch).done j.ticket).pageIrq 0x012 4).engineFree := by
  rw [Dev.engineSigned, hj]
  refine (if_neg (by omega)).trans ?_
  rw [Dev.docSigned, hj]
  exact if_neg (by rcases hk with hk | hk <;> simp [h3, hk])

/-- The signature of the own `KEY`, finished while the pairing waits for it (R378). -/
theorem Dev.engineSigned_key {d : Dev} {j : SigJob} {rest : List SigJob} (hj : d.isl.docs = j :: rest)
    (h3 : d.isl.current = 3) (hk : j.kind = 8)
    (hp : ({ d with isl := { d.isl with docs := rest } }.engineFree).get TWN_STATUS_pair_state = 2) :
    d.engineSigned = ({ d with isl := { d.isl with docs := rest } }.engineFree).sendKey := by
  rw [Dev.engineSigned, hj]
  exact (if_pos ⟨h3, hk⟩).trans (if_pos hp)

/-- The oldest seal that waits for its signature is signed (R352). -/
theorem Dev.sealSigned_first {d : Dev} {n t : Nat} {rest : List (Nat × Nat)} (hc : d.isl.current = 1)
    (hs : d.ldg.seals = (n, t) :: rest) :
    d.sealSigned =
      let r := d.ldg.ring.get (n % ldgSlots) LdgRec.zero
      let sig := Config.ecdsaSign d.isl.priv (Config.sha384 (beBytes 48 r.hash))
      let d := { d with ldg := { d.ldg with seals := rest, ring := d.ldg.ring.put (n % ldgSlots) { r with sig := sig } } }
      (((d.xsealQueue n r.hash sig).sealsShown).sealCounts n t).engineFree := by
  rw [Dev.sealSigned, if_neg (by simp [hc]), hs]

/-- Settles O52: each event's branch of its meaning; commands by the gate of their page. -/
theorem ledgerAndMeteringCommandsComplete : Obligations.LedgerAndMeteringCommandsComplete := by
  refine ⟨?_, ?_, ?_, ?_, ?_, ?_, ?_, fun c => .pageCommand rfl, fun c => .pageCommand rfl, fun c => .pageCommand rfl,
    fun c => .pageCommand rfl, fun c => .pageCommand rfl, fun c => .pageCommand rfl, ?_, ?_, ?_, ?_, ?_, fun c => .pageCommand rfl,
    ?_, ?_⟩
  · exact fun s hd ⟨hr, hc⟩ => (exec_tapDrain hd hr).trans (by rw [Dev.tapDrain_eq hc]; rfl)
  · intro f
    refine .of_onDev (fun s => (rfl : execRecordBoundary s = onDev _ s)) fun d ⟨hf, hc⟩ => ?_
    simp only [hf, hc, if_true]
  · intro codes ovr
    exact .of_onDev (fun s => (rfl : execMeterPeriod _ _ s = onDev _ s)) fun d hc => if_pos hc
  · exact .of_onDev (fun s => (rfl : execDiscrepancyWindow s = onDev _ s)) fun d ⟨hc, hw⟩ => (if_pos hc).trans (if_pos hw)
  · exact .of_onDev (fun s => (rfl : execCalStepStart s = onDev _ s)) fun d hc => if_pos hc
  · exact .of_onDev (fun s => (rfl : execCalOverlapStart s = onDev _ s)) fun d hc => if_pos hc
  · intro diff clipped
    exact .of_onDev (fun s => (rfl : execCalHandover _ _ s = onDev _ s)) fun d hc => if_pos hc
  · intro j rest
    refine .of_onDev (fun s => (rfl : execDocumentSigned s = onDev _ s)) fun d ⟨hj, h3, hk⟩ => ?_
    rw [Dev.engineSigned_document hj h3 (.inl hk)]
    simp only [hk, Nat.reduceEqDiff, if_false]
  · intro j rest
    refine .of_onDev (fun s => (rfl : execDocumentSigned s = onDev _ s)) fun d ⟨hj, h3, hk⟩ => ?_
    rw [Dev.engineSigned_document hj h3 (.inr hk)]
    simp only [hk, if_true]
  · intro j rest
    exact .of_onDev (fun s => (rfl : execDocumentSigned s = onDev _ s)) fun d ⟨hj, h3, hk, hp⟩ => Dev.engineSigned_key hj h3 hk hp
  · exact .of_onDev (fun s => (rfl : execLedgerAppend s = onDev _ s)) fun d hc => if_pos hc
  · intro n t rest
    exact .of_onDev (fun s => (rfl : execSealSigned s = onDev _ s)) fun d ⟨hc, hs⟩ =>
      congrArg Dev.rebootSettle (Dev.sealSigned_first hc hs)
  · exact .of_onDev (fun s => (rfl : execUnitDefApply s = onDev _ s)) fun d hc => if_pos hc
  · exact .of_onDev (fun s => (rfl : execTrngHealthTestsPass s = onDev _ s)) fun d hc => if_neg (by simpa using hc)

end Sys2Proof.Machine
end

/-!
Proofs of the statements on 12_twin_operation.md: what a twin frame in clear brings (R376), when a heartbeat counts as missed (R381) and
a role change takes place (R385, R386), and where the commands of twin operation complete.
-/
section
namespace Sys2Proof.Machine

/-! ## Frames in clear (R375, R376) -/

section Clear

variable {d : Dev} {t : Nat} {bytes bad : List Nat}

/-- A twin lane in RUN, aligned, that takes frames. -/
def Dev.twinHears (d : Dev) (t : Nat) : Prop :=
  t < 4 ∧ d.laneOn (512 + t) = true ∧ d.flag LNK_STATUS_cw_lock (512 + t) = true ∧ d.laneState (512 + t) = 4 ∧
    d.flag LNK_STATUS_frame_lock (512 + t) = true

/-- Nothing keeps a frame from a twin lane that hears. -/
theorem Dev.twinHears_free (hh : d.twinHears t) :
    ¬(decide (4 ≤ t) || !d.laneOn (512 + t) || !d.flag LNK_STATUS_cw_lock (512 + t) ||
      !(d.laneState (512 + t) == 2 || d.laneState (512 + t) == 4)) = true := by
  obtain ⟨ht, hon, hcw, hst, -⟩ := hh
  simp [Nat.not_le.mpr ht, hon, hcw, hst]

/-- A twin frame's header as it is received is good: in codeword 0 without error, by its check and its format (R375). -/
def twinHeaderOk (bytes bad : List Nat) : Bool :=
  !(decide (0 ∈ bad)) && hdrGood (beNat (bytes.take 20)) && hdrField (beNat (bytes.take 20)) 0 3 == 6

theorem twinHeaderOk_of_good (h0 : 0 ∉ bad) (hg : hdrGood (beNat (bytes.take 20)) = true)
    (hf : hdrField (beNat (bytes.take 20)) 0 3 = 6) : twinHeaderOk bytes bad = true := by
  simp [twinHeaderOk, h0, hg, hf]

/-- The number of the partner's frame is noted. -/
def Dev.partnerFrame (d : Dev) (k : Nat) : Dev := { d with twn := { d.twn with pFrame := k } }

/-- Before pairing, a frame in clear with a good header brings its whole blocks, in their order (R376). -/
theorem Dev.twinFrame_clear (hh : d.twinHears t) (hok : twinHeaderOk bytes bad = true)
    (hclear : hdrField (beNat (bytes.take 20)) 69 69 = 0) (hon : d.twinOn = true) (hp : d.paired = false) :
    d.twinFrame t bytes bad =
      let k := hdrField (beNat (bytes.take 20)) 4 51
      each ((twnBlocks (bytes.drop 20)).zipIdx.filter fun e => !blockHit bad e.2) (fun e (d : Dev) => d.twnBlock k false e.1)
        ((d.headerGood (512 + t)).partnerFrame k) := by
  have hfree := Dev.twinHears_free hh
  obtain ⟨-, -, -, hst, hlock⟩ := hh
  have hrun : ¬(d.laneState (512 + t) = 2 ∨ (!d.twinOn) = true) := by simp [hst, hon]
  have hnotEnc : ¬hdrField (beNat (bytes.take 20)) 69 69 = 1 := by omega
  calc d.twinFrame t bytes bad
    _ = _ := if_neg hfree
    _ = _ := if_neg (by simp [hlock])
    _ = _ := if_neg (show ¬(!twinHeaderOk bytes bad) = true by simp [hok])
    _ = _ := if_neg hrun
    _ = _ := if_neg hnotEnc
    _ = _ := if_neg (show ¬d.paired = true by simp [hp])

end Clear

/-! ## Missed heartbeats (R381) and role changes (R385, R386) -/

section Roles

variable {d : Dev} {r : RoleDue} {f : Nat} {p : RoleDue → Bool}

/-- A missed heartbeat is counted, once at each boundary. -/
def Dev.missCounted (d : Dev) : Dev := { d.bump TWN_STATUS_missed with twn := { d.twn with judged := d.frame + 1 } }

/-- A heartbeat missed before the third is counted alone. -/
theorem Dev.heartbeatMiss_counted (hon : d.twinOn = true) (hk : d.k03 = true) (hp : d.paired = true) (hheard : d.twn.heard < d.frame)
    (hj : d.twn.judged ≠ d.frame + 1) (hm : d.missCounted.get TWN_STATUS_missed < 3) : d.heartbeatMiss = d.missCounted := by
  have hmissed : (d.twinOn && d.k03 && d.paired && decide (d.twn.heard < d.frame) && d.twn.judged != d.frame + 1) = true := by
    simp [hon, hk, hp, hheard, hj]
  exact (if_pos hmissed).trans (if_neg (Nat.not_le.mpr hm))

/-- The device with no role change that waits. -/
def Dev.noDue (d : Dev) : Dev := { d with twn := { d.twn with due := [] } }

/-- The one role change that waits takes place once it has fallen due. -/
theorem Dev.rolesRun_single (hdue : d.twn.due = [r]) (hf : r.frame ≤ f) (hp : p r = true) :
    d.rolesRun f p = d.noDue.roleRun f r := by
  simp [Dev.rolesRun, Dev.noDue, each, hdue, hf, hp]

/-- A standby whose change to active takes place becomes active. -/
theorem Dev.roleRun_active (ha : r.active = true) (hs : d.flag TWN_STATUS_role = false) :
    d.roleRun f r = d.becomeActive r.cause f r.ticket :=
  (if_pos ha).trans (if_neg (by simp [hs]))

/-- An active device whose change to standby takes place becomes standby. -/
theorem Dev.roleRun_standby (ha : r.active = false) (hs : d.flag TWN_STATUS_role = true) :
    d.roleRun f r = d.becomeStandby r.cause f r.ticket :=
  (if_neg (by simp [ha])).trans (if_pos hs)

end Roles

/-! ## Completion -/

/-- Settles O53: each command's branch of its meaning; commands by the gate of the `TWN` page. -/
theorem twinCommandsComplete : Obligations.TwinCommandsComplete := by
  refine ⟨?_, ?_, ?_, ?_, ?_, ?_, ?_, ?_, fun c => .pageCommand rfl, fun c => .pageCommand rfl⟩
  · intro lane payload bad corr
    refine .of_onLane (fun s => (rfl : execTwinFrameReceived _ _ s = onLane _ s)) ?_
    rintro d ⟨hl, hlane, hcw, hst, hlock, h0, hg, hf, hclear, hon, hp, hrx⟩
    have hh : (d.rxTake (512 + lane)).twinHears lane := ⟨hl, hlane, hcw, hst, hlock⟩
    rw [hrx]
    exact (if_pos rfl).trans (Dev.twinFrame_clear hh (twinHeaderOk_of_good h0 hg hf) hclear hon hp)
  · exact .of_onDev (fun s => (rfl : execPairingKeyVerified s = onDev _ s)) fun d hon => if_pos hon
  · exact .of_onDev (fun s => (rfl : execXsealVerified s = onDev _ s)) fun d hon => if_pos hon
  · exact .of_onDev (fun s => (rfl : execSnapshotApply s = onDev _ s)) fun d hk => if_pos hk
  · exact .of_onDev (fun s => (rfl : execHeartbeatMiss s = onDev _ s)) fun d ⟨hon, hk, hp, hheard, hj, hm⟩ =>
      Dev.heartbeatMiss_counted hon hk hp hheard hj hm
  · intro r
    exact .of_onDev (fun s => (rfl : execBecomeActive s = onDev _ s)) fun d ⟨hdue, hk, ha, hf, hs⟩ =>
      (if_pos hk).trans ((Dev.rolesRun_single hdue hf ha).trans (Dev.roleRun_active ha hs))
  · intro r
    exact .of_onDev (fun s => (rfl : execDemote s = onDev _ s)) fun d ⟨hdue, hk, ha, hf, hs⟩ =>
      (if_pos hk).trans ((Dev.rolesRun_single hdue hf (by simp [ha])).trans (Dev.roleRun_standby ha hs))
  · refine .of_onDev (fun s => (rfl : execOrphanTakeover s = onDev _ s)) fun d ⟨hon, hs, hp, hk, hhold, hwait⟩ => if_pos ?_
    simp only [hon, hs, hp, hk, hhold, hwait, decide_true, Bool.not_false, Bool.and_self]

end Sys2Proof.Machine
end

/-!
Proofs of the statements on 13_time_and_clocks.md: raw edges counted under the trim (R414), the frame at which the timebase resumes
(R407), and where the commands of time and clocks complete.
-/
section
namespace Sys2Proof.Machine

/-! ## Edges counted under the trim (R411, R414) -/

/-- Settles O2. -/
theorem emptyQueueLetsTheClockGoOn : Obligations.EmptyQueueLetsTheClockGoOn := fun _ => rfl

/-- The tick count reads as it was set, cut to its 48 bits. -/
theorem Dev.tick_putTick (d : Dev) (v : Nat) : (d.putTick v).tick = v % 2 ^ 48 := d.get2_put2_same v 0 (by decide)

/-- The device whose tick count has grown by `n` and whose trim accumulator stands at `a`. -/
def Dev.ticked (d : Dev) (n : Nat) (a : Int) : Dev :=
  { (if n = 0 then d else d.putTick (d.tick + n)) with rtc := { d.rtc with acc := a } }

section Ticked

variable (d : Dev) (n : Nat) (a : Int)

theorem Dev.ticked_tick (h : d.tick + n < 2 ^ 48) : (d.ticked n a).tick = d.tick + n := by
  unfold Dev.ticked
  split
  · subst n
    rfl
  · exact (d.tick_putTick _).trans (Nat.mod_eq_of_lt h)

theorem Dev.ticked_get (f : Field) (k : Nat) (hlo : f.code ≠ RTC_TICK_LO_tick_lo.code) (hhi : f.code ≠ RTC_TICK_HI_tick_hi.code) :
    (d.ticked n a).get f k = d.get f k := by
  unfold Dev.ticked
  split
  · rfl
  · exact d.get_put2_field _ 0 k hlo.symm hhi.symm

theorem Dev.ticked_rest :
    { d.ticked n a with regs := d.regs, rtc := { (d.ticked n a).rtc with acc := d.rtc.acc } } = d := by
  unfold Dev.ticked
  split <;> rfl

/-- A raw edge adds one tick, and one more or one less where the accumulator passes 10^9 or -10^9, which is then taken off it. -/
theorem Dev.countEdge_eq : d.countEdge =
    if 1_000_000_000 ≤ d.rtc.acc + d.trimPpb then d.ticked 2 (d.rtc.acc + d.trimPpb - 1_000_000_000)
    else if d.rtc.acc + d.trimPpb ≤ -1_000_000_000 then d.ticked 0 (d.rtc.acc + d.trimPpb + 1_000_000_000)
    else d.ticked 1 (d.rtc.acc + d.trimPpb) := rfl

end Ticked

/-- Settles O37: in each of the three cases of an edge, what the count gains the accumulator loses. -/
theorem trimKeepsTime : Obligations.TrimKeepsTime := by
  intro d hlo hhi halo hahi hwrap
  change -500_000 ≤ d.trimPpb at hlo
  change d.trimPpb ≤ 500_000 at hhi
  have hcase : ∃ (n : Nat) (a : Int), d.countEdge = d.ticked n a ∧ n ≤ 2 ∧ a < 1_000_000_000 ∧ -1_000_000_000 < a ∧
      10 ^ 9 * (n : Int) + a = 10 ^ 9 + d.rtc.acc + d.trimPpb := by
    rw [d.countEdge_eq]
    split
    · exact ⟨2, _, rfl, by omega⟩
    · split
      · exact ⟨0, _, rfl, by omega⟩
      · exact ⟨1, _, rfl, by omega⟩
  obtain ⟨n, a, he, hn, hlt, hgt, hsum⟩ := hcase
  have htick : (d.ticked n a).tick = d.tick + n := d.ticked_tick n a (by omega)
  have hacc : (d.ticked n a).rtc.acc = a := rfl
  dsimp only
  rw [he, htick, hacc]
  refine ⟨hlt, hgt, by omega, by omega, ?_, fun f k => d.ticked_get n a f k, d.ticked_rest n a⟩
  change 10 ^ 9 * ((d.tick + n : Nat) : Int) + a = 10 ^ 9 * (d.tick + 1 : Int) + d.rtc.acc + d.trimPpb
  push_cast
  linarith

/-! ## The frame at which the timebase resumes (R407, R546) -/

theorem Dev.resumeFrame_started {d : Dev} (h : d.ck.started = true) : d.resumeFrame = (d.ck.last / 3_000_000 + 1) * 3_000_000 :=
  if_pos h

theorem Dev.resumeFrame_first {d : Dev} (h : d.ck.started = false) : d.resumeFrame = 0 := if_neg (ne_true_of_eq_false h)

/-- Settles O36. -/
theorem rearmResumesAtAMinute : Obligations.RearmResumesAtAMinute := by
  refine fun d => ⟨fun hs => ?_, Dev.resumeFrame_first⟩
  rw [Dev.resumeFrame_started hs]
  refine ⟨Nat.mul_mod_left .., by omega, fun m hm hlast => ?_⟩
  have hnext := Nat.div_lt_div_of_lt_of_dvd (Nat.dvd_of_mod_eq_zero hm) hlast
  omega

/-! ## Completion -/

/-- A command that acts through `onAny` completes with an effect where its action on the device is that effect. -/
theorem CompletesAlways.of_onAny {c : Instr} {cond : Dev → Prop} {f effect : Dev → Dev} (hf : ∀ s, exec c s = onAny f s)
    (h : ∀ d, cond d → f d = effect d) : CompletesAlways c cond effect :=
  .of fun s hc => ⟨f s.dev, hf s, h s.dev hc⟩

/-- `RTC_ALMa_HI` is written by its own operation. -/
theorem OwnWord.alarm {alarm val : Nat} (h : alarm < 2) :
    OwnWord 0x008 (0x134 + 16 * alarm) val (fun d => d.alarmWrite alarm val) where
  written d ch p := by
    obtain rfl | rfl : alarm = 0 ∨ alarm = 1 := by omega
    all_goals simp [Dev.ownWrite, msixTableWord]

/-- A source of the trim measurement that is not reserved is written to `RTC_TRIM_CFG` by its own operation (R415). -/
theorem Dev.ownWrite_trimCfg (d : Dev) (ch : Nat) {val : Nat} (hv : bits val 0 2 ≠ 3) :
    d.ownWrite ch true 0x008 0x118 val = some (true, d.trimCfgWrite val) := by
  simp [Dev.ownWrite, msixTableWord, hv]

theorem Dev.regWrite_trimCfg {d : Dev} {ch val : Nat} (hv : bits val 0 2 ≠ 3) (ht : d.takesPriv ch 0x008) :
    d.regWrite ch true 0x008 0x118 val = (d.privRecord ch 0 0x008 0x118 val 0 rOK).trimCfgWrite val := by
  rw [d.regWrite_priv ht (by decide) (by decide) (by decide), d.wokenBy_other (by decide)]
  obtain ⟨-, -, -, hs, -, -, hl⟩ := ht
  exact d.pageWrite_own_priv rfl hs rfl (by decide) hl (by decide) (d.ownWrite_trimCfg ch hv) (Dev.ownWrite_trimCfg _ ch hv)

/-- A trim gate that ends under its run condition without auto_apply shows its measurement and signals it (R415). -/
theorem Dev.trimGateEnd_shown {d : Dev} (raw : Nat) (hr : d.flag RTC_TRIM_STATUS_running = true) (hc : d.trimRuns = true)
    (ha : d.flag RTC_TRIM_CFG_auto_apply = false) :
    d.trimGateEnd raw =
      (((d.put RTC_TRIM_MEAS_ppb (ofSigned 32 (trimMeas d.trimIdeal raw))).put RTC_TRIM_STATUS_valid 1).bump
        RTC_TRIM_STATUS_completed).pageIrq 0x008 3 := by
  unfold Dev.trimGateEnd
  rw [hr, hc, if_neg (by decide)]
  refine if_neg ?_
  rw [Dev.flag, Dev.pageIrq_get _ _ _ _ _ (by decide), Dev.bump_get_other _ _ _ _ (by decide),
    Dev.get_put_field _ _ _ _ _ _ (by decide), Dev.get_put_field _ _ _ _ _ _ (by decide)]
  exact ne_true_of_eq_false ha

/-- Settles O54: each event's branch of its meaning; commands by the gate of their page, register writes by the operation of their
word. -/
theorem timeCommandsComplete : Obligations.TimeCommandsComplete := by
  refine ⟨?_, ?_, ?_, fun c => .pageCommand rfl, fun c => .pageCommand rfl, ?_, ?_, ?_, ?_, fun c => .pageCommand rfl, ?_,
    fun c => .pageCommand rfl, ?_, ?_, ?_, ?_, ?_, ?_, ?_⟩
  · intro osc ring rec_
    exact .of_onDev (fun s => (rfl : execClockGate _ _ _ s = onDev _ s)) fun d hc => if_pos hc
  · exact .of_onDev (fun s => (rfl : execOscEdgeLost s = onDev _ s)) fun d hc => if_pos hc
  · exact .of_onDev (fun s => (rfl : execNoneTimeout s = onDev _ s)) fun d hc => if_pos hc
  · intro pre
    exact .of_onDev (fun s => (rfl : execRearmRestart _ s = onDev _ s)) fun d hc => if_pos hc
  · exact .of_onAny (fun s => (rfl : execOscStop s = onAny _ s)) fun d hc => if_neg (by simpa using hc)
  · exact .of_onAny (fun s => (rfl : execD02PowerOnReset s = onAny _ s)) fun _ _ => rfl
  · exact .of_onAny (fun s => (rfl : execOscStart s = onAny _ s)) fun d hc => if_neg (by simpa using hc)
  · exact .of_onDev (fun s => (rfl : execSetEdgeApply s = onDev _ s)) fun d hc => if_pos hc
  · exact fun _ _ _ => .ownWord .alarm (fun s => (rfl : execAlarmArm _ _ _ _ s = onDev _ s))
  · exact fun _ _ _ => .ownWord_priv .alarm (fun s => (rfl : execAlarmArm _ _ _ _ s = onDev _ s))
  · intro a
    exact .of_onAny (fun s => (rfl : execAlarmFire _ s = onAny _ s)) fun d hc => if_pos hc
  · intro raw
    exact .of_onDev (fun s => (rfl : execTrimGateEnd _ s = onDev _ s)) fun d ⟨hr, hc, ha⟩ => Dev.trimGateEnd_shown raw hr hc ha
  · intro ch val
    exact .of_onDev (fun s => (rfl : execTrimCfgWrite _ _ s = onDev _ s)) fun d ⟨hv, ht⟩ => Dev.regWrite_trimCfg hv ht
  · exact .of_onDev (fun s => (rfl : execK02LockLost s = onDev _ s)) fun d hc => if_pos hc
  · exact .of_onAny (fun s => (rfl : execD02SupplyLost s = onAny _ s)) fun d hc => if_neg (by simpa using hc)

end Sys2Proof.Machine
end

/-!
Proofs of the statements on 14_supply_inputs_and_holdup.md: what the events of the inputs, the charger and the node do (R423, R425, R428,
R430, R435), and where their commands complete.
-/
section
namespace Sys2Proof.Machine

section Supply

variable {d : Dev}

/-! ## Inputs (R423) -/

/-- `VIN_AUX` that was not valid is declared valid from 9.0 V to 16.0 V. -/
theorem Dev.vinValid_declared {mv node : Nat} (hok : d.flag PWR_STATUS_vin_ok = false) (hlo : 9_000 ≤ mv) (hhi : mv ≤ 16_000) :
    d.vinValid mv node =
      let d := (((d.put PWR_VIN_mv mv).put PWR_NODE_mv node).put PWR_STATUS_vin_ok 1).pageIrq 0x009 3
      (((({ d with pwr := { d.pwr with upStarted := false, upFailed := false } }).sourceSettle).chgJudge).warnSettle).upJudge := by
  unfold Dev.vinValid
  simp only [hok, Bool.false_eq_true, if_false]
  exact if_neg (by omega)

/-! ## Pulse tests (R430) -/

/-- The pulse test's readings are shown and counted. -/
def Dev.pulseShown (d : Dev) (rise node : Nat) : Dev := ((d.put PWR_PULSE_rise rise).bump PWR_PULSE_tests).put PWR_NODE_mv node

/-- A test of `DETECT` in which the node gives way finds no cell. -/
theorem Dev.pulseEnd_missing {rise peak node : Nat} (h1 : d.chg = 1) (hr : 150 ≤ rise ∨ 4300 ≤ peak) :
    d.pulseEnd rise peak node = (d.pulseShown rise node).chgEnter 7 0 :=
  (if_neg (not_not.mpr h1)).trans (if_pos hr)

/-- A test of `DETECT` in which the node holds finds a cell. -/
theorem Dev.pulseEnd_present {rise peak node : Nat} (h1 : d.chg = 1) (hr : rise < 150) (hp : peak < 4300) :
    d.pulseEnd rise peak node = (d.pulseShown rise node).cellPresent node :=
  (if_neg (not_not.mpr h1)).trans (if_neg (by omega))

/-! ## The node (R425, R435) -/

/-- What feeds the node is shown in `PWR_STATUS.source` alone. -/
theorem Dev.sourceSettle_get (d : Dev) {f : Field} (k : Nat) (h : PWR_STATUS_source.code ≠ f.code) :
    d.sourceSettle.get f k = d.get f k := by
  unfold Dev.sourceSettle
  dsimp only
  generalize (if d.flag PWR_STATUS_vin_ok = true then 1 else _) = source
  split
  all_goals exact d.get_put_field _ _ _ _ _ h

/-- The node's voltage as `POWER_WARNING` names it, and what feeds the node then, change no other register. -/
theorem Dev.nodeAt_get (d : Dev) (node : Nat) {f : Field} (hs : PWR_STATUS_source.code ≠ f.code) (hn : PWR_NODE_mv.code ≠ f.code) :
    (d.put PWR_NODE_mv node).sourceSettle.get f = d.get f := by
  rw [Dev.sourceSettle_get _ _ hs, Dev.get_put_field _ _ _ _ _ _ hn]

end Supply

/-! ## Completion -/

/-- Settles O55: each event's branch of its meaning; commands by the gate of their page. -/
theorem supplyCommandsComplete : Obligations.SupplyCommandsComplete := by
  refine ⟨?_, ?_, ?_, ?_, ?_, ?_, ?_, ?_, ?_, ?_, ?_, ?_, ?_, ?_, ?_, ?_, ?_, ?_, fun c => .pageCommand rfl, fun c => .pageCommand rfl,
    fun c => .pageCommand rfl, ?_, ?_, ?_⟩
  · intro mv node
    exact .of_onDev (fun s => (rfl : execVinAuxValid _ _ s = onDev _ s)) fun d ⟨hok, hlo, hhi⟩ => Dev.vinValid_declared hok hlo hhi
  · refine .of_onDev (fun s => (rfl : execVinAuxLost s = onDev _ s)) fun d hok => if_neg ?_
    rw [hok]
    decide
  · intro mv node
    refine .of_onDev (fun s => (rfl : execVbusValid _ _ s = onDev _ s)) fun d ⟨hok, hmv⟩ => ?_
    simp only [hok, Bool.false_eq_true, if_false]
    exact if_neg (by omega)
  · exact .of_onDev (fun s => (rfl : execVbusLost s = onDev _ s)) fun d hc => if_pos hc
  · exact .of_onAny (fun s => (rfl : execPrechargeShorted s = onAny _ s)) fun d hc => if_pos hc
  · refine .of_onAny (fun s => (rfl : execAlwaysOnRailStop s = onAny _ s)) fun d ⟨hdown, hflag⟩ => ?_
    have hcollapsed : ¬(d.down = 0 ∧ (!d.flag PWR_PSTATE_collapse_block) = true) := by
      rintro ⟨h0, hb⟩
      rcases hdown with hdown | hdown
      · exact hdown h0
      · rw [hdown] at hb
        cases hb
    rw [if_neg hcollapsed]
    refine congrArg (Dev.holdOff · 3) (if_neg ?_)
    rcases hflag with hflag | hflag
    all_goals rw [hflag]; simp
  · refine .of_onAny (fun s => (rfl : execAlwaysOnRailStop s = onAny _ s)) fun d ⟨h0, hb⟩ => ?_
    rw [if_pos ⟨h0, by rw [hb]; rfl⟩]
  · exact .of_onDev (fun s => (rfl : execPulseTestPeriodic s = onDev _ s)) fun d hc => if_pos hc
  · intro rise peak node
    exact .of_onDev (fun s => (rfl : execPulseTestEnd _ _ _ s = onDev _ s)) fun d ⟨h1, hr⟩ =>
      congrArg Dev.warnSettle (Dev.pulseEnd_missing h1 hr)
  · intro rise peak node
    exact .of_onDev (fun s => (rfl : execPulseTestEnd _ _ _ s = onDev _ s)) fun d ⟨h1, hr, hp⟩ =>
      congrArg Dev.warnSettle (Dev.pulseEnd_present h1 hr hp)
  · exact .of_onDev (fun s => (rfl : execPrechargeComplete s = onDev _ s)) fun d hc => if_pos hc
  · exact .of_onDev (fun s => (rfl : execPrechargeTimeout s = onDev _ s)) fun d hc => if_pos hc
  · exact .of_onDev (fun s => (rfl : execFloatReached s = onDev _ s)) fun d hc => if_pos hc
  · exact .of_onDev (fun s => (rfl : execTaperTermination s = onDev _ s)) fun d ⟨h4, hl⟩ =>
      (if_pos h4).trans (if_neg (ne_true_of_eq_false hl))
  · exact .of_onDev (fun s => (rfl : execRecharge s = onDev _ s)) fun d hc => if_pos hc
  · exact .of_onDev (fun s => (rfl : execCellTempRecovered s = onDev _ s)) fun d hc => if_pos hc
  · exact .of_onDev (fun s => (rfl : execSafetyTimerExpiry s = onDev _ s)) fun d hc => if_pos hc
  · exact .of_onDev (fun s => (rfl : execChgTimerMismatch s = onDev _ s)) fun d hc => if_pos hc
  · intro node
    refine .of_onDev (fun s => (rfl : execPowerWarning _ s = onDev _ s)) fun d ⟨hlow, hvin, hvbus⟩ => if_pos ?_
    simp only [Dev.flag] at hvin hvbus ⊢
    rw [d.nodeAt_get node (by decide) (by decide), d.nodeAt_get node (by decide) (by decide), d.nodeAt_get node (by decide) (by decide),
      hvin, hvbus]
    exact ⟨hlow, rfl, rfl⟩
  · exact .of_onDev (fun s => (rfl : execInputCollapse s = onDev _ s)) fun _ _ => rfl
  · refine .of_onAny (fun s => (rfl : execShortedLatchClear s = onAny _ s)) fun d hc => if_neg ?_
    rcases hc with hdown | hboot | hpresent
    · simp [hdown]
    · simp [hboot]
    · rw [hpresent, Bool.and_false]
      exact Bool.false_ne_true

end Sys2Proof.Machine
end

/-!
Proofs of the statements on 15_regulator_loops.md: what power-good brings a loop (R447), and where the commands of the regulator loops
complete.
-/
section
namespace Sys2Proof.Machine

/-! ## Power-good (R447, R462) -/

section PowerGood

variable {d : Dev} {l : Nat}

/-- The loop has entered `RUN` with power-good set, and its phases sink current. -/
def Dev.pgRun (d : Dev) (l : Nat) : Dev :=
  ((d.putLoop l { d.loop l with sink := true }).loopEnter l 3).put BRN_STATUS_pg 1 l

/-- A ramp at its target enters `RUN`; a START that it ran under is done. -/
theorem Dev.pgSet_ramped (hw : d.inWindow l = true) (h2 : d.loopState l = 2) (ht : d.atTarget l = true) :
    d.pgSet l = if ((d.pgRun l).loop l).kind = 1 then (d.pgRun l).loopClose l 4 else d.pgRun l :=
  (if_neg (by rw [hw]; decide)).trans (if_pos ⟨h2, ht⟩)

/-- In `RUN` power-good is set alone. -/
theorem Dev.pgSet_run (hw : d.inWindow l = true) (h3 : d.loopState l = 3) : d.pgSet l = d.put BRN_STATUS_pg 1 l :=
  (if_neg (by rw [hw]; decide)).trans ((if_neg (by omega)).trans (if_pos h3))

end PowerGood

/-! ## Completion -/

/-- Settles O56: each event's branch of its meaning; commands by the gate of their page. -/
theorem regulatorCommandsComplete : Obligations.RegulatorCommandsComplete := by
  refine ⟨fun c => .pageCommand rfl, fun c => .pageCommand rfl, fun c => .pageCommand rfl, ?_, ?_, ?_, ?_, ?_, ?_, ?_, ?_, ?_, ?_, ?_, ?_⟩
  · intro loop peaks rise preBias
    exact .of_onDev (fun s => (rfl : execShortTestEnd _ _ _ _ s = onDev _ s)) fun d hc => if_pos hc
  · intro loop
    exact .of_onDev (fun s => (rfl : execPowerGoodSet _ s = onDev _ s)) fun d ⟨hw, h2, ht, hk⟩ =>
      (Dev.pgSet_ramped hw h2 ht).trans (if_neg hk)
  · intro loop
    exact .of_onDev (fun s => (rfl : execPowerGoodSet _ s = onDev _ s)) fun d ⟨hw, h2, ht, hk⟩ =>
      (Dev.pgSet_ramped hw h2 ht).trans (if_pos hk)
  · intro loop
    exact .of_onDev (fun s => (rfl : execPowerGoodSet _ s = onDev _ s)) fun d ⟨hw, h3⟩ => Dev.pgSet_run hw h3
  · intro loop
    exact .of_onDev (fun s => (rfl : execPowerGoodClear _ s = onDev _ s)) fun d ⟨h3, hw⟩ => if_pos ⟨h3, by rw [hw]; rfl⟩
  · intro loop sense vin imon
    exact .of_onDev (fun s => (rfl : execSwitchingCycle _ _ _ _ s = onDev _ s)) fun d ⟨hl, hs⟩ => (if_pos hl).trans (if_pos hs)
  · intro loop
    exact .of_onDev (fun s => (rfl : execHiccupEnd _ s = onDev _ s)) fun d hc => if_pos hc
  · intro loop
    exact .of_onDev (fun s => (rfl : execRetryCountClear _ s = onDev _ s)) fun d hc => if_pos hc
  · intro loop iTotal vOut tmon
    exact .of_onDev (fun s => (rfl : execPhaseShedEvaluation _ _ _ _ s = onDev _ s)) fun d hc => if_pos hc
  · intro loop tmon imon
    exact .of_onDev (fun s => (rfl : execPhaseTrimBalance _ _ _ s = onDev _ s)) fun d hc => if_pos hc
  · intro phase tmon
    exact .of_onDev (fun s => (rfl : execPhaseHot _ _ s = onDev _ s)) fun d hc => if_pos hc
  · intro phase
    exact .of_onDev (fun s => (rfl : execPhaseReturn _ s = onDev _ s)) fun d hc => if_pos hc

end Sys2Proof.Machine
end

/-!
Proofs of the statements on 16_sequencer.md: the dependency masks at first start (R467), and where the commands of the sequencer and
its recipes complete.
-/
section
namespace Sys2Proof.Machine

/-! ## Masks of rails (R466, R467) -/

theorem testBit_setBit (m b x : Nat) : (setBit m b).testBit x = (m.testBit x || decide (b = x)) := by
  rw [setBit, Nat.testBit_or, Nat.testBit_two_pow]

theorem testBit_railMask_onto (rs : List Nat) (m x : Nat) :
    (rs.foldl (fun m r => setBit m r) m).testBit x = true ↔ m.testBit x = true ∨ x ∈ rs := by
  induction rs generalizing m with
  | nil => simp
  | cons r rs ih =>
    rw [List.foldl_cons, ih, testBit_setBit, Bool.or_eq_true, decide_eq_true_eq, List.mem_cons, or_assoc, eq_comm (a := r)]

/-- A mask of rails holds exactly those rails. -/
theorem testBit_railMask (rs : List Nat) (x : Nat) : (railMask rs).testBit x = true ↔ x ∈ rs := by
  rw [railMask, testBit_railMask_onto, Nat.zero_testBit]
  simp

/-- After reset a rail's mask is that of the table. -/
theorem Dev.reset_depMask (r : Nat) : State.reset.dev.depMask r = firstDeps r := rfl

/-- Settles O38: the table's branches, each a mask of the rails that it names. -/
theorem dependencyMasksAtFirstStart : Obligations.DependencyMasksAtFirstStart := by
  intro r x _
  rw [← testBit_railMask, Dev.reset_depMask]
  simp only [apply_ite railMask]
  rfl

/-! ## Completion -/

section Sequencer

variable {d : Dev}

/-- A rail's mask word written through its window under the privileged view is taken, then recorded (R84, R466). -/
theorem Dev.windowWrite_book {ch off val : Nat} {e : Dev} (hon : d.pageOn (windowPage 12) = true) (hr : d.ldgReserve = false)
    (hb : d.bookWrite off val = (true, e)) : d.windowWrite ch true 12 off val = e.privRecord ch 1 12 off val 0 rOK := by
  have htook : d.tableWrite ch true 12 off val = (true, e) := hb
  simp [Dev.windowWrite, hon, hr, htook, snapWindows]

/-- Where engine 0 alone runs, a mismatch of the step timer stops that engine (R477). -/
theorem Dev.seqMismatch_first (h0 : d.engState 0 ≠ 0) (h1 : d.engState 1 = 0) :
    d.seqMismatch =
      let seq := d.nextSeq
      let d := d.abandonSetvid 0
      (d.raiseWith F_SEQ_TIMER_MISMATCH 0x00A 0 0 d.runTickets false).endRun 0 5 0 5 seq := by
  have hbusy : [0, 1].filter (fun e => d.engState e != 0) = [0] := by simp [h0, h1]
  unfold Dev.seqMismatch
  rw [hbusy]
  rfl

/-- A `SETVID` step in its turn is taken at once (R118). -/
theorem Dev.stepLoop_spaced {e : Nat} (hh : d.ownHeld (2 + e) e = false) (hs : d.spaced = true) : d.stepLoop e = d.stepLoopNow e :=
  (if_neg (ne_true_of_eq_false hh)).trans (if_pos hs)

/-- A `SETVID` step too soon after the last ticket waits (R118). -/
theorem Dev.stepLoop_soon {e : Nat} (hh : d.ownHeld (2 + e) e = false) (hs : d.spaced = false) :
    d.stepLoop e = d.holdOwn 0x00B (2 + e) e 0 :=
  (if_neg (ne_true_of_eq_false hh)).trans (if_neg (ne_true_of_eq_false hs))

end Sequencer

/-- Settles O57: each event's branch of its meaning; commands by the gate of their page, a mask's word by its window. -/
theorem sequencerCommandsComplete : Obligations.SequencerCommandsComplete := by
  refine ⟨fun c => .pageCommand rfl, fun c => .pageCommand rfl, fun c => .pageCommand rfl, fun c => .pageCommand rfl, ?_, ?_, ?_, ?_,
    ?_, ?_, ?_, ?_, ?_, ?_, ?_, ?_, ?_, ?_, ?_, ?_, ?_, ?_, ?_, ?_, ?_⟩
  · intro e
    exact .of_onDev (fun s => (rfl : execRecipeHalt _ s = onDev _ s)) fun d hc => if_pos hc
  · intro e
    exact .of_onDev (fun s => (rfl : execRecipeEnable _ s = onDev _ s)) fun d hc => if_pos hc
  · intro e
    exact .of_onDev (fun s => (rfl : execRecipeDisable _ s = onDev _ s)) fun d hc => if_pos hc
  · intro e
    exact .of_onDev (fun s => (rfl : execRecipeWait _ s = onDev _ s)) fun d hc => if_pos hc
  · intro e
    exact .of_onDev (fun s => (rfl : execWaitExpiry _ s = onDev _ s)) fun d hc => if_pos hc
  · intro e
    exact .of_onDev (fun s => (rfl : execRecipeWaitPg _ s = onDev _ s)) fun d hc => if_pos hc
  · intro e
    exact .of_onDev (fun s => (rfl : execWaitpgSatisfied _ s = onDev _ s)) fun d hc => if_pos hc
  · intro e
    exact .of_onDev (fun s => (rfl : execWaitpgTimeout _ s = onDev _ s)) fun d hc => if_pos hc
  · intro e
    exact .of_onDev (fun s => (rfl : execRecipeCheck _ s = onDev _ s)) fun d hc => if_pos hc
  · intro e
    exact .of_onDev (fun s => (rfl : execRecipeJump _ s = onDev _ s)) fun d hc => if_pos hc
  · intro e
    exact .of_onDev (fun s => (rfl : execRecipeSetvid _ s = onDev _ s)) fun d ⟨hat, hh, hs⟩ =>
      (if_pos hat).trans (Dev.stepLoop_spaced hh hs)
  · intro e
    exact .of_onDev (fun s => (rfl : execRecipeSetvid _ s = onDev _ s)) fun d ⟨hat, hh, hs⟩ =>
      (if_pos hat).trans (Dev.stepLoop_soon hh hs)
  · intro e
    exact .of_onDev (fun s => (rfl : execSetvidStepResume _ s = onDev _ s)) fun d ⟨hw, hclosed⟩ =>
      if_pos (by simp [hw, hclosed])
  · intro e
    exact .of_onDev (fun s => (rfl : execSetvidTimeout _ s = onDev _ s)) fun d ⟨hw, hopen⟩ =>
      (if_neg (by simp [hw])).trans (if_neg (by omega))
  · intro e
    exact .of_onDev (fun s => (rfl : execRecipeMark _ s = onDev _ s)) fun d hc => if_pos hc
  · intro rail
    exact .of_onDev (fun s => (rfl : execRailGood _ s = onDev _ s)) fun d hc => if_pos hc
  · intro rail
    exact .of_onDev (fun s => (rfl : execLossOfGood _ s = onDev _ s)) fun d hc => if_pos hc
  · intro root x
    refine .of_onDev (fun s => (rfl : execShutdownDepthAdvance _ s = onDev _ s)) fun d ⟨hx, hleft⟩ => ?_
    simp only [hx, hleft, List.isEmpty_nil, if_true]
  · intro root x
    refine .of_onDev (fun s => (rfl : execShutdownDepthAdvance _ s = onDev _ s)) fun d ⟨hx, hleft⟩ => ?_
    simp only [hx, List.isEmpty_iff, if_neg hleft]
  · intro ch rail word val e
    refine .of_onDev (fun s => (rfl : execDependencyMaskWrite _ _ _ _ s = onDev _ s)) ?_
    rintro d ⟨hrail, hword, ⟨hch, hu, hb, h4, hon, -⟩, hw, hph, hcov, hr, hbook⟩
    have hops : d.covers ch (pageScope (windowPage 12)) = true := hcov
    rw [if_pos ⟨hrail, hword⟩, d.tableAccess_priv hch hu hb h4 (.inr (by decide)) hw hph, hops, Dev.windowWrite_book hon hr hbook]
  · exact .of_onDev (fun s => (rfl : execSeqTimerMismatch s = onDev _ s)) fun d ⟨h0, h1⟩ => Dev.seqMismatch_first h0 h1

end Sys2Proof.Machine
end

/-!
Proofs of the statements on 17_service_port.md: what the release of the receive FIFO's head shows (R494, R503), what a packet of the
service link brings (R500, R501), and where the commands of the port and of the link complete.
-/
section
namespace Sys2Proof.Machine

/-! ## A field written in a run of places -/

section PutAll

/-- Field `f` takes `v k` at each of the places `k` below `n`. -/
def Dev.putAll (d : Dev) (f : Field) (v : Nat → Nat) (n : Nat) : Dev := each (List.range n) (fun k (d : Dev) => d.put f (v k) k) d

variable (d : Dev) (f : Field) (v : Nat → Nat) (n : Nat)

theorem Dev.putAll_succ : d.putAll f v (n + 1) = (d.putAll f v n).put f (v n) n := by
  simp only [Dev.putAll, each, List.range_succ, List.foldl_append, List.foldl_cons, List.foldl_nil]

theorem Dev.putAll_get_field {g : Field} (k : Nat) (h : f.code ≠ g.code) : (d.putAll f v n).get g k = d.get g k := by
  induction n with
  | zero => rfl
  | succ n ih => rw [Dev.putAll_succ, Dev.get_put_field _ _ _ _ _ _ h, ih]

theorem Dev.putAll_get {k : Nat} (hk : k < n) : (d.putAll f v n).get f k = v k % 2 ^ f.width := by
  induction n with
  | zero => omega
  | succ n ih =>
    rw [Dev.putAll_succ]
    by_cases hn : n = k
    · rw [hn, Dev.get_put_same]
    · rw [Dev.get_put_place _ _ _ _ _ _ hn, ih (by omega)]

/-- Only the register store changes. -/
theorem Dev.putAll_eq_withRegs : ∃ r, d.putAll f v n = { d with regs := r } := by
  induction n with
  | zero => exact ⟨d.regs, rfl⟩
  | succ n ih =>
    obtain ⟨r, hr⟩ := ih
    exact ⟨_, by rw [Dev.putAll_succ, hr]; rfl⟩

end PutAll

/-! ## The receive FIFO (R494, R503) -/

/-- `PD_RX_STATUS` as the receive FIFO stands: whether an entry waits, how many do, and the head's header. -/
def Dev.rxStatusShown (d : Dev) : Dev :=
  ((d.putB PD_RX_STATUS_valid (!d.pd.fifo.isEmpty)).put PD_RX_STATUS_count d.pd.fifo.length).put PD_RX_STATUS_header
    (d.pd.fifo.headD ⟨0, []⟩).header

theorem Dev.rxShow_eq (d : Dev) :
    d.rxShow = d.rxStatusShown.putAll PD_RX_OBJ_obj (fun k => (d.pd.fifo.headD ⟨0, []⟩).objs.getD k 0) 8 := rfl

theorem Dev.rxStatusShown_get (d : Dev) {f : Field} (k : Nat) (hv : PD_RX_STATUS_valid.code ≠ f.code)
    (hc : PD_RX_STATUS_count.code ≠ f.code) (hh : PD_RX_STATUS_header.code ≠ f.code) : d.rxStatusShown.get f k = d.get f k := by
  rw [Dev.rxStatusShown, Dev.get_put_field _ _ _ _ _ _ hh, Dev.get_put_field _ _ _ _ _ _ hc, Dev.putB,
    Dev.get_put_field _ _ _ _ _ _ hv]

/-- `PD_RX_STATUS.valid` shows whether an entry waits. -/
theorem Dev.rxStatusShown_valid (d : Dev) : d.rxStatusShown.get PD_RX_STATUS_valid = if d.pd.fifo = [] then 0 else 1 := by
  rw [Dev.rxStatusShown, Dev.get_put_field _ _ _ _ _ _ (by decide), Dev.get_put_field _ _ _ _ _ _ (by decide), Dev.putB,
    Dev.get_put_same]
  cases d.pd.fifo <;> rfl

theorem Dev.rxStatusShown_count (d : Dev) : d.rxStatusShown.get PD_RX_STATUS_count = d.pd.fifo.length % 8 := by
  rw [Dev.rxStatusShown, Dev.get_put_field _ _ _ _ _ _ (by decide), Dev.get_put_same]
  rfl

theorem Dev.rxStatusShown_header (d : Dev) :
    d.rxStatusShown.get PD_RX_STATUS_header = (d.pd.fifo.headD ⟨0, []⟩).header % 2 ^ 16 := Dev.get_put_same ..

/-- The device whose receive FIFO holds these entries. -/
def Dev.withFifo (d : Dev) (ms : List PdMsg) : Dev := { d with pd := { d.pd with fifo := ms } }

/-- Settles O35: the release drops the head and shows the FIFO that is left. -/
theorem receiveFifoGivesOutInOrder : Obligations.ReceiveFifoGivesOutInOrder := by
  intro d m rest hfifo
  have hrelease : d.rxRelease = (d.withFifo rest).rxShow := by
    rw [Dev.rxRelease, hfifo]
    rfl
  obtain ⟨r, hr⟩ := (d.withFifo rest).rxStatusShown.putAll_eq_withRegs PD_RX_OBJ_obj (fun k => (rest.headD ⟨0, []⟩).objs.getD k 0) 8
  have hget := fun {f : Field} (k : Nat) (h : PD_RX_OBJ_obj.code ≠ f.code) =>
    (d.withFifo rest).rxStatusShown.putAll_get_field PD_RX_OBJ_obj (fun k => (rest.headD ⟨0, []⟩).objs.getD k 0) 8 k h
  dsimp only
  rw [hrelease, Dev.rxShow_eq]
  refine ⟨congrArg Dev.pd hr, (hget 0 (by decide)).trans (Dev.rxStatusShown_valid _),
    (hget 0 (by decide)).trans (Dev.rxStatusShown_count _), (hget 0 (by decide)).trans (Dev.rxStatusShown_header _),
    fun k hk => Dev.putAll_get _ _ _ _ hk, fun f k hf => ?_, ?_⟩
  · simp only [List.mem_cons, List.not_mem_nil, or_false, not_or] at hf
    obtain ⟨hv, hc, hh, ho⟩ := hf
    exact (hget k (Ne.symm ho)).trans (Dev.rxStatusShown_get _ k (Ne.symm hv) (Ne.symm hc) (Ne.symm hh))
  · exact congrArg (fun e : Dev => { e with regs := d.regs, pd := d.pd }) hr

/-! ## Messages received (R491) -/

section Messages

variable {d : Dev} {header : Nat} {objs : List Nat}

/-- GoodCRC of the message being sent. -/
theorem Dev.pdReceive_goodCrc (hr : d.railGood 5 = true) (ha : d.attached = true) (hext : bit header 15 = false)
    (hn : bits header 12 3 = 0) (ht : bits header 0 5 = 1) (hid : bits header 9 3 = d.pd.txId) :
    d.pdReceive header objs = d.goodCrc.pdSettle := by
  have hport : ¬(!d.railGood 5 || !d.attached) = true := by rw [hr, ha]; decide
  have hcrc : (!bit header 15 && bits header 12 3 == 0 && bits header 0 5 == 1) = true := by rw [hext, hn, ht]; rfl
  exact (if_neg hport).trans ((if_pos hcrc).trans (congrArg Dev.pdSettle (if_pos hid)))

/-- Under the port's own policy a message that is not a repetition is acknowledged and handled. -/
theorem Dev.pdReceive_fixed (hr : d.railGood 5 = true) (ha : d.attached = true) (ht : bits header 0 5 ≠ 1)
    (hp : d.flag PD_POLICY_host = false) (hid : d.pd.rxId ≠ bits header 9 3 + 1) :
    d.pdReceive header objs =
      let d := d.emit .pd 0 [d.pdHeader 1 - d.pd.txId * 2 ^ 9 + bits header 9 3 * 2 ^ 9]
      ((({ d with pd := { d.pd with rxId := bits header 9 3 + 1 } }).pdDiscard).pdHandle header objs).pdSettle := by
  have hport : ¬(!d.railGood 5 || !d.attached) = true := by rw [hr, ha]; decide
  have hcrc : ¬(!bit header 15 && bits header 12 3 == 0 && bits header 0 5 == 1) = true := by simp [ht]
  have hroom : ¬(d.flag PD_POLICY_host && decide (4 ≤ d.pd.fifo.length)) = true := by simp [hp]
  exact (if_neg hport).trans ((if_neg hcrc).trans ((if_neg hroom).trans (if_neg hid)))

end Messages

/-! ## Registers of the port (R492, R494, R501) -/

/-- `PD_POLICY` is written by its own operation. -/
theorem OwnWord.pdPolicy (val : Nat) : OwnWord 0x010 0x108 val (fun d => d.policyWrite val) where
  written d ch p := by simp [Dev.ownWrite, msixTableWord]

/-- A write of 1 to `PD_RX_STATUS.valid` releases the receive FIFO's head. -/
theorem OwnWord.rxRelease : OwnWord 0x010 0x160 (2 ^ 31) Dev.rxRelease where
  written d ch p := by
    have hvalid : bit (2 ^ 31) 31 = true := by decide
    simp only [Dev.ownWrite, hvalid, if_true]
    rfl

/-- `PD_CFG` written whole through the privileged view: recorded, then written (R84, R498). -/
theorem Dev.regWrite_pdCfg {d : Dev} {ch a b : Nat} (en : Bool) (ha : a < 2) (hb : b < 2) (ht : d.takesPriv ch 0x010) :
    d.regWrite ch true 0x010 0x104 (4 * b2n en + 2 * a + b) =
      let e := (((d.privRecord ch 0 0x010 0x104 (4 * b2n en + 2 * a + b) 0 rOK).put PD_CFG_alt_en (b2n en)).put PD_CFG_src_en a).put
        PD_CFG_drp_en b
      (if en then e else e.altExit).pdSettle := by
  rw [d.regWrite_priv ht (by decide) (by decide) (by decide), d.wokenBy_other (by decide)]
  obtain ⟨-, -, -, hs, -, -, hl⟩ := ht
  have hassigned : assigned 0x010 = true := by decide
  simp [Dev.pageWrite, hassigned, hs, hl, Dev.wordWrite_pd _ ch en a b ha hb]

/-! ## The service link (R500–R502) -/

section ServiceLink

variable {d e : Dev} {bytes : List Nat} {type : Nat} {r : SlReq} {serve : SlReq → Dev → Dev} {soon : Bool}

/-- A packet that its checks refuse is counted. -/
theorem Dev.slReceive_bad (hu : d.slUp = true) (hc : d.slCheck bytes = (none, e)) :
    d.slReceive type bytes serve = e.bump PD_SL_STATUS_bad := by
  simp only [Dev.slReceive, hu, hc, Bool.not_true, Bool.false_eq_true, if_false]

/-- A repeated request gets its answer again. -/
theorem Dev.slReceive_again {a : SlAnswer} (hu : d.slUp = true) (hc : d.slCheck bytes = (some r, e))
    (ha : (e.pd.answers.find? fun a => a.request == r.header) = some a) :
    d.slReceive type bytes serve = e.slSend a.header a.payload := by
  simp only [Dev.slReceive, hu, hc, ha, Bool.not_true, Bool.false_eq_true, if_false]

/-- A request of the event's own type is served. -/
theorem Dev.slReceive_served (hu : d.slUp = true) (hc : d.slCheck bytes = (some r, e))
    (ha : (e.pd.answers.find? fun a => a.request == r.header) = none) (ht : r.type = type) :
    d.slReceive type bytes serve = serve r e := by
  simp only [Dev.slReceive, hu, hc, ha, ht, Bool.not_true, Bool.false_eq_true, if_false, if_true]

/-- A request that nothing makes wait is served as it arrives. -/
theorem Dev.slArrive_served (hw : e.slWaiting = 0) (hm : e.slMustWait r = false) : e.slArrive r soon = e.slServe r soon :=
  if_pos (by simp [hw, hm])

/-- A packet with a new request that nothing makes wait is served by what its type asks for. -/
theorem Completes.slRequest {c : Instr} {effect : Dev → Dev}
    (hf : ∀ s, exec c s = onDev (fun d => d.slReceive type bytes fun r d => d.slArrive r soon) s)
    (h : r.type = type → e.slServe r soon = effect e) :
    Completes c (fun d => d.slUp = true ∧ d.slCheck bytes = (some r, e) ∧
      (e.pd.answers.find? fun a => a.request == r.header) = none ∧ r.type = type ∧ e.slWaiting = 0 ∧ e.slMustWait r = false)
      (fun _ => effect e) :=
  .of_onDev hf fun _ ⟨hu, hc, ha, ht, hw, hm⟩ =>
    (Dev.slReceive_served hu hc ha ht).trans ((Dev.slArrive_served hw hm).trans (h ht))

/-- The signature of a `KEY_REPLY` completes while the link still waits for it (R502). -/
theorem Dev.keySigned_replies {j : SigJob} {rest : List SigJob} (hj : d.isl.docs = j :: rest) (h3 : d.isl.current = 3)
    (h7 : j.kind = 7) (he : e = { d with isl := { d.isl with docs := rest } }.engineFree)
    (hw : (e.slUp && e.get PD_STATUS_sl_state == 2 && e.pd.nonce != 0) = true) :
    d.keySigned = e.keyReply ⟨j.data.take 16, j.data.drop 16⟩ (j.data.drop 16) false := by
  subst he
  simp only [Dev.keySigned, hj, h3, h7]
  exact if_pos hw

end ServiceLink

/-! ## Completion -/

/-- A command of the port that nothing turns away or makes wait completes as accepted, and the port's standing judgements follow. -/
theorem Completes.pdCommand {i : Instr} {op : Nat} {x : CmdDef} {c : Cmd}
    (hf : ∀ s, exec i s = onDev (fun d => (d.cmd 0x010 op x c).pdSettle) s) :
    Completes i (fun d => d.accepts 0x010 op x c) (fun d => (d.accepted 0x010 op x c).pdSettle) :=
  .of_onDev hf fun d hc => congrArg Dev.pdSettle (d.cmd_accepted 0x010 op x c hc)

/-- Settles O58: each event's branch of its meaning; commands by the gate of their page, register writes by the operation of their
word, packets of the service link by their checks. -/
theorem servicePortCommandsComplete : Obligations.ServicePortCommandsComplete := by
  refine ⟨?_, ?_, ?_, ?_, ?_, ?_, ?_, ?_, ?_, ?_, ?_, ?_, ?_, ?_, ?_, ?_, ?_, ?_, ?_, ?_, ?_, ?_, ?_, ?_, ?_, ?_, ?_, ?_, ?_, ?_, ?_, ?_⟩
  · intro vbusLow
    exact .of_onDev (fun s => (rfl : execTypecAttach _ s = onDev _ s)) fun d hc => if_neg (by simpa using hc)
  · exact .of_onDev (fun s => (rfl : execTypecDetach s = onDev _ s)) fun d hc => if_neg (by simpa using hc)
  · exact .of_onDev (fun s => (rfl : execDrpToggle s = onDev _ s)) fun d hc => if_neg (by simpa using hc)
  · exact .of_onDev (fun s => (rfl : execErrorRecoveryEnd s = onDev _ s)) fun d hc => if_pos hc
  · intro header objs
    exact .of_onDev (fun s => (rfl : execPdMessageReceived _ _ s = onDev _ s)) fun d ⟨hr, ha, hext, hn, ht, hid⟩ =>
      Dev.pdReceive_goodCrc hr ha hext hn ht hid
  · intro header objs
    exact .of_onDev (fun s => (rfl : execPdMessageReceived _ _ s = onDev _ s)) fun d ⟨hr, ha, ht, hp, hid⟩ =>
      Dev.pdReceive_fixed hr ha ht hp hid
  · exact .of_onDev (fun s => (rfl : execGoodcrcTimeout s = onDev _ s)) fun d hc => if_pos hc
  · exact .of_onDev (fun s => (rfl : execHardResetReceived s = onDev _ s)) fun d hc => if_pos hc
  · exact .of_onDev (fun s => (rfl : execHardResetVbusWaitEnd s = onDev _ s)) fun d hc => if_pos hc
  · exact .of_onDev (fun s => (rfl : execPpsKeepalive s = onDev _ s)) fun d hc => if_pos hc
  · exact .of_onDev (fun s => (rfl : execPpsKeepaliveTimeout s = onDev _ s)) fun d hc => if_pos hc
  · exact .of_onDev (fun s => (rfl : execWaitRetryExpiry s = onDev _ s)) fun d hc => if_pos hc
  · intro ch host
    exact .of_onDev (fun s => (rfl : execPdPolicyWrite _ _ _ s = onDev _ s)) fun d ht => (OwnWord.pdPolicy _).regWrite ht
  · intro ch host
    exact .of_onDev (fun s => (rfl : execPdPolicyWrite _ _ _ s = onDev _ s)) fun d ht => (OwnWord.pdPolicy _).regWrite_priv ht
  · intro ch
    exact .of_onDev (fun s => (rfl : execRxFifoRelease _ _ s = onDev _ s)) fun d ht => OwnWord.rxRelease.regWrite ht
  · intro ch
    exact .of_onDev (fun s => (rfl : execRxFifoRelease _ _ s = onDev _ s)) fun d ht => OwnWord.rxRelease.regWrite_priv ht
  · intro ch en
    exact .of_onDev (fun s => (rfl : execAltEnWrite _ _ s = onDev _ s)) fun d ⟨ht, ha, hb⟩ => Dev.regWrite_pdCfg en ha hb ht
  · exact fun c => .pdCommand (fun s => (rfl : execPdTx _ s = onDev _ s))
  · exact fun c => .pdCommand (fun s => (rfl : execPdHardReset _ s = onDev _ s))
  · exact fun c => .pdCommand (fun s => (rfl : execPdRole _ s = onDev _ s))
  · intro cc rp before
    exact .of_onDev (fun s => (rfl : execPartnerTerminationSeen _ _ _ s = onDev _ s)) fun d hc => if_neg (by simpa using hc)
  · exact .of_onDev (fun s => (rfl : execServiceLinkUp s = onDev _ s)) fun d hc => if_pos hc
  · exact .of_onDev (fun s => (rfl : execServiceLinkDown s = onDev _ s)) fun d hc => if_pos hc
  · exact .of_onDev (fun s => (rfl : execSlPingSend s = onDev _ s)) fun d hc => if_pos hc
  · intro bytes r e
    exact .slRequest (effect := fun e => e.slRead r) (fun s => (rfl : execSlRead _ s = onDev _ s)) fun ht => if_pos ht
  · intro bytes soon r e
    exact .slRequest (effect := fun e => e.slWrite r soon) (fun s => (rfl : execSlWrite _ _ s = onDev _ s)) fun ht => by
      simp [Dev.slServe, ht]
  · intro bytes r e
    exact .slRequest (effect := fun e => e.slLdg r) (fun s => (rfl : execSlLdg _ s = onDev _ s)) fun ht => by
      simp [Dev.slServe, ht]
  · intro bytes r e
    exact .slRequest (effect := fun e => e.slAnswer r 0x84 0 0 []) (fun s => (rfl : execSlPing _ s = onDev _ s)) fun ht => by
      simp [Dev.slServe, ht]
  · intro bytes r e a
    exact .of_onDev (fun s => (rfl : execSlPing _ s = onDev _ s)) fun d ⟨hu, hc, ha⟩ => Dev.slReceive_again hu hc ha
  · intro bytes e
    exact .of_onDev (fun s => (rfl : execSlPing _ s = onDev _ s)) fun d ⟨hu, hc⟩ => Dev.slReceive_bad hu hc
  · intro bytes r e
    exact .of_onDev (fun s => (rfl : execKeyInit _ s = onDev _ s)) fun d ⟨hu, hc, ha, ht⟩ => Dev.slReceive_served hu hc ha ht
  · intro j rest
    exact .of_onDev (fun s => (rfl : execKeyReply s = onDev _ s)) fun d ⟨hj, h3, h7, hw⟩ => Dev.keySigned_replies hj h3 h7 rfl hw

end Sys2Proof.Machine
end

/-!
Proofs of the statements on 18_thermal_and_watchdog.md and 19_otp.md: how a watchdog check-in is taken (R517), and where the commands
of the thermal unit, the watchdog and the OTP complete.
-/
section
namespace Sys2Proof.Machine

/-! ## A check-in (R517) -/

/-- What makes `v` a check-in of an enabled slot while the timer runs. -/
def Dev.checksIn (d : Dev) (v : Nat) : Prop :=
  d.flag WDT_CFG_running = true ∧ v = 0x5A00 + v % 32 ∧ d.wdt.en.testBit (v % 32) = true

section Kick

variable {d : Dev} {v : Nat}

theorem Dev.wdtKick_done (hv : d.checksIn v) (hopen : d.wdtOpen = true) :
    d.wdtKick v = { d with wdt := { d.wdt with last := d.wdt.last.put (v % 32) (d.epoch, d.tick) } }.put WDT_DONE_done
      (d.get WDT_DONE_done ||| 2 ^ (v % 32)) :=
  (if_pos hv).trans (if_pos hopen)

theorem Dev.wdtKick_early (hv : d.checksIn v) (hopen : d.wdtOpen = false) :
    d.wdtKick v = d.put WDT_EARLY_early (d.get WDT_EARLY_early ||| 2 ^ (v % 32)) :=
  (if_pos hv).trans (if_neg (Bool.eq_false_iff.mp hopen))

theorem Dev.wdtKick_bad (hv : ¬d.checksIn v) : d.wdtKick v = d.bumpS WDT_BAD_KICKS_count WDT_BAD_KICKS_sat := if_neg hv

/-- A check-in changes registers and the watchdog's own state alone. -/
theorem Dev.wdtKick_rest (d : Dev) (v : Nat) : { d.wdtKick v with regs := d.regs, wdt := d.wdt } = d := by
  by_cases hv : d.checksIn v
  · cases hopen : d.wdtOpen
    · rw [d.wdtKick_early hv hopen]
      rfl
    · rw [d.wdtKick_done hv hopen]
      rfl
  · rw [d.wdtKick_bad hv]
    unfold Dev.bumpS
    dsimp only
    split <;> rfl

end Kick

/-- Settles O39, by the three ways in which a check-in is taken. -/
theorem checkInsAreSorted : Obligations.CheckInsAreSorted := by
  intro d v
  refine ⟨fun hv hopen => ?_, fun hv hopen => ?_, fun hv => Dev.wdtKick_bad hv, d.wdtKick_rest v⟩
  · rw [Dev.wdtKick_done hv hopen]
    exact ⟨Dev.get_put_same .., SMap.get_put_same .., fun k z hk => SMap.get_put_other _ _ _ hk.symm,
      fun f k hf => Dev.get_put_field _ _ _ _ _ _ hf.symm⟩
  · rw [Dev.wdtKick_early hv hopen]
    exact ⟨Dev.get_put_same .., fun f k hf => Dev.get_put_field _ _ _ _ _ _ hf.symm, rfl⟩

/-! ## Completion -/

/-- `WDT_KICK` is written by its own operation. -/
theorem OwnWord.wdtKick (val : Nat) : OwnWord 0x00D 0x108 val (fun d => d.wdtKick val) where
  written d ch p := by simp [Dev.ownWrite, msixTableWord]

/-- Settles O59: most commands act where one condition on the device holds; the OTP's work goes on by its job and what that has left. -/
theorem thermalWatchdogAndOtpCommandsComplete : Obligations.ThermalWatchdogAndOtpCommandsComplete := by
  refine ⟨?_, ?_, ?_, ?_, ?_, ?_, ?_, ?_, ?_, ?_, ?_, ?_, ?_, ?_, ?_, ?_, ?_, ?_, ?_, ?_⟩
  · intro raw bad
    exact .of_onDev (fun s => (rfl : execThermalScan _ _ s = onDev _ s)) fun d _ => rfl
  · intro input
    exact .of_onDev (fun s => (rfl : execSensorRestore _ s = onDev _ s)) fun d hc => if_pos hc
  · intro sensor
    exact .of_onDev (fun s => (rfl : execComparatorTrip _ s = onDev _ s)) fun d hc => if_pos hc
  · exact .of_onDev (fun s => (rfl : execShutdownRailStop s = onDev _ s)) fun d hc => if_pos hc
  · exact .of_onDev (fun s => (rfl : execCooledSet s = onDev _ s)) fun d hc => if_pos hc
  · intro ch val
    exact .of_onDev (fun s => (rfl : execWdtKick _ _ _ s = onDev _ s)) fun d ht => (OwnWord.wdtKick val).regWrite ht
  · intro ch val
    exact .of_onDev (fun s => (rfl : execWdtKick _ _ _ s = onDev _ s)) fun d ht => (OwnWord.wdtKick val).regWrite_priv ht
  · intro mismatch
    exact .of_onDev (fun s => (rfl : execWdtPeriodEnd _ s = onDev _ s)) fun d hc => if_pos hc
  · exact .of_onDev (fun s => (rfl : execWdtTimerMismatch s = onDev _ s)) fun d hc => if_pos hc
  · exact fun c => .pageCommand rfl
  · exact fun c => .pageCommand rfl
  · exact fun c => .pageCommand rfl
  · exact fun c => .pageCommand rfl
  · exact fun c => .pageCommand rfl
  · exact fun c => .pageCommand rfl
  · intro w rest
    exact .of_onDev (fun s => (rfl : execOtpWorkBegin s = onDev _ s)) fun d ⟨hjob, hwork⟩ => by simp only [hjob, hwork]
  · intro bitsSet j p rest
    exact .of_onDev (fun s => (rfl : execOtpAttempt _ s = onDev _ s)) fun d ⟨hjob, hkind, htodo⟩ => by
      simp only [hjob, if_neg hkind, htodo]
  · intro bitsSet j
    exact .of_onDev (fun s => (rfl : execOtpAttempt _ s = onDev _ s)) fun d ⟨hjob, hkind, htodo⟩ => by
      simp only [hjob, if_neg hkind, htodo]
  · intro j
    exact .of_onDev (fun s => (rfl : execSenseEnd s = onDev _ s)) fun d ⟨hjob, hkind⟩ => by simp only [hjob, if_pos hkind]
  · exact .of_onDev (fun s => (rfl : execD04Off s = onDev _ s)) fun d hc => if_pos hc

end Sys2Proof.Machine
end

/-!
Proofs of the statements on 20_power_states_and_startup.md and 98_reader.md: what acts on a held-off device (R543), what its clock
edges leave of it (R410), that every command answers, and where the commands of the power states complete.
-/
section
namespace Sys2Proof.Machine

/-! ## Commands that every device answers -/

/-- Settles O3. -/
theorem everyCommandAnswers : Obligations.EveryCommandAnswers := by
  intro c d
  obtain ⟨f, hf⟩ := exec_acts_on_dev c
  exact ⟨f d, fun cs => hf ⟨cs, d⟩⟩

/-- A command that a held-off D00 does not take leaves the state as it is. -/
theorem exec_heldOff {c : Instr} {s : State} (hd : heldOff s) (hc : survivesHoldOff c = false) : exec c s = .next s := by
  obtain ⟨f, hf⟩ := exec_onDev c hc
  rw [hf, onDev, if_neg hd]

/-- Settles O5. -/
theorem heldOffDeviceIsDeaf : Obligations.HeldOffDeviceIsDeaf := fun _ _ => exec_heldOff

/-! ## What a K00 edge leaves of a held-off device (R410, R543) -/

/-- `e` stands as `d` but for elapsed time, the trim accumulator and the RTC's registers, among which a pending `SET` is as in `d`. -/
structure RtcAlone (d e : Dev) : Prop where
  frozen : e.frozen = d.frozen
  regs : ∀ (f : Field) (i : Nat), f.code / 2 ^ 17 ≠ 8 → e.get f i = d.get f i
  pending : e.get RTC_STATUS_set_pending = d.get RTC_STATUS_set_pending

namespace RtcAlone

variable {d e e' : Dev}

theorem refl (d : Dev) : RtcAlone d d := ⟨rfl, fun _ _ _ => rfl, rfl⟩

theorem trans (h : RtcAlone d e) (h' : RtcAlone e e') : RtcAlone d e' :=
  ⟨h'.frozen.trans h.frozen, fun f i hf => (h'.regs f i hf).trans (h.regs f i hf), h'.pending.trans h.pending⟩

/-- A register of the RTC's page other than the pending `SET` may be written. -/
theorem put (h : RtcAlone d e) (f : Field) (v i : Nat) (hf : f.code / 2 ^ 17 = 8 := by decide)
    (hp : f.code ≠ RTC_STATUS_set_pending.code := by decide) : RtcAlone d (e.put f v i) where
  frozen := h.frozen
  regs g j hg := (Dev.get_put_field _ _ _ _ _ _ fun hfg => hg (hfg ▸ hf)).trans (h.regs g j hg)
  pending := (Dev.get_put_field _ _ _ _ _ _ hp).trans h.pending

theorem withTime (h : RtcAlone d e) (t : Nat) : RtcAlone d { e with time := t } := ⟨h.frozen, h.regs, h.pending⟩

theorem withAcc (h : RtcAlone d e) (a : Int) : RtcAlone d { e with rtc := { e.rtc with acc := a } } :=
  ⟨h.frozen, h.regs, h.pending⟩

theorem down_eq (h : RtcAlone d e) : e.down = d.down := (congrArg Dev.down h.frozen :)

theorem down_ne (h : RtcAlone d e) (hd : d.down ≠ 0) : e.down ≠ 0 := ne_of_eq_of_ne h.down_eq hd

theorem ite {c : Prop} [Decidable c] {e₁ e₂ : Dev} (h₁ : RtcAlone d e₁) (h₂ : RtcAlone d e₂) :
    RtcAlone d (if c then e₁ else e₂) := by
  split <;> assumption

theorem putTick (h : RtcAlone d e) (v : Nat) : RtcAlone d (e.putTick v) :=
  (h.put RTC_TICK_LO_tick_lo _ _).put RTC_TICK_HI_tick_hi _ _

/-- The count goes on (R414). -/
theorem countEdge (h : RtcAlone d e) : RtcAlone d e.countEdge := by
  unfold Dev.countEdge
  exact .ite ((h.putTick _).withAcc _) (.ite (h.withAcc _) ((h.putTick _).withAcc _))

/-- A trim gate opens or is abandoned (R415). -/
theorem trimSettle (h : RtcAlone d e) : RtcAlone d e.trimSettle := by
  unfold Dev.trimSettle Dev.trimAbort Dev.bump
  exact .ite (h.put RTC_TRIM_STATUS_running _ _) (.ite ((h.put RTC_TRIM_STATUS_running _ _).put RTC_TRIM_STATUS_aborts _ _) h)

/-- No wake cause reaches a held-off device. -/
theorem unwoken (h : RtcAlone d e) (hd : d.down ≠ 0) (b : Bool) : RtcAlone d (if b && e.down == 0 then e.wakeCause else e) := by
  have hawake : (b && e.down == 0) = false := by rw [h.down_eq, beq_eq_false_iff_ne.mpr hd, Bool.and_false]
  rwa [hawake, if_neg Bool.false_ne_true]

/-- An alarm that fires while D00 is held off sets its flag and is disarmed or set to its next value, and signals nothing (R416). -/
theorem alarmFire (h : RtcAlone d e) (hd : d.down ≠ 0) (a : Nat) : RtcAlone d (e.alarmFire a) := by
  have hfired := h.put RTC_ALM_HI_fired 1 a
  unfold Dev.alarmFire
  refine .ite ?_ h
  dsimp only
  rw [if_neg (hfired.down_ne hd)]
  exact unwoken (.ite (hfired.put RTC_ALM_HI_arm _ _) ((hfired.put RTC_ALM_LO_value_lo _ _).put RTC_ALM_HI_value_hi _ _)) hd _

/-- The RTC's part of a K00 edge where no `SET` waits (R413, R414, R416). -/
theorem rtcEdge (h : RtcAlone d e) (hd : d.down ≠ 0) (hp : d.flag RTC_STATUS_set_pending = false) : RtcAlone d e.rtcEdge := by
  have hwaits : e.flag RTC_STATUS_set_pending = false := (congrArg (· != 0) h.pending).trans hp
  unfold Dev.rtcEdge
  dsimp only
  rw [hwaits, if_neg Bool.false_ne_true]
  have hcounted := h.countEdge.trimSettle
  exact .ite h (.ite hcounted ((hcounted.alarmFire hd 0).alarmFire hd 1))

/-- One K00 edge of a held-off device in which no `SET` waits (R411): neither the charger's timer nor the attention messages go on. -/
theorem idle (hd : d.down ≠ 0) (hp : d.flag RTC_STATUS_set_pending = false) : RtcAlone d d.idle := by
  have htimed : RtcAlone d (if d.k03 then d else { d with time := d.time + 100_000 }) := .ite (.refl d) ((RtcAlone.refl d).withTime _)
  have hedge := htimed.rtcEdge hd hp
  unfold Dev.idle
  dsimp only
  rwa [if_neg (hedge.down_ne hd)]

end RtcAlone

/-- A state whose device an RTC edge changed stands as the state before it stood, with the queue or a rest of it. -/
theorem FrozenSince.of_rtcAlone {d0 e : Dev} {s : State} {cs : List Instr} (h : FrozenSince d0 s) (he : RtcAlone s.dev e)
    (hcs : ∀ c ∈ cs, c ∈ s.pending) : FrozenSince d0 ⟨cs, e⟩ := by
  obtain ⟨hd, hp, hq, hf, hr⟩ := h
  exact ⟨he.down_ne hd, (congrArg (· != 0) he.pending).trans hp, fun c hc => hq c (hcs c hc), he.frozen.trans hf,
    fun f i h8 => (he.regs f i h8).trans (hr f i h8)⟩

/-- Settles O6: a step takes a command that a held-off D00 does not take, or is a K00 edge. -/
theorem nothingButTheClockGoesOnWhileHeldOff : Obligations.NothingButTheClockGoesOnWhileHeldOff := by
  rintro d0 ⟨cs, d⟩ t h hstep
  obtain ⟨hd, hp, hq, -⟩ := id h
  cases cs with
  | nil =>
    cases hstep
    exact h.of_rtcAlone (.idle hd hp) fun _ hc => hc
  | cons c cs =>
    cases (exec_heldOff (s := ⟨cs, d⟩) hd (hq c (List.mem_cons_self ..))).symm.trans hstep
    exact h.of_rtcAlone (.refl d) fun _ hc => List.mem_cons_of_mem c hc

/-! ## What holds D00 off (R543) -/

/-- An open trim gate's end writes its own status alone. -/
theorem Dev.trimAbort_rtcAlone (d : Dev) : RtcAlone d d.trimAbort := by
  unfold Dev.trimAbort Dev.bump
  exact .ite (((RtcAlone.refl d).put RTC_TRIM_STATUS_running _ _).put RTC_TRIM_STATUS_aborts _ _) (.refl d)

/-- Holding D00 off leaves a `SET` as it waits. -/
theorem Dev.holdOff_setPending (d : Dev) (why : Nat) : (d.holdOff why).flag RTC_STATUS_set_pending = d.flag RTC_STATUS_set_pending := by
  have hrails : (d.holdOff why).get RTC_STATUS_set_pending = d.trimAbort.get RTC_STATUS_set_pending := by
    show (Dev.put _ _ _ _).get RTC_STATUS_set_pending 0 = _
    iterate 6 rw [Dev.get_put_field _ _ _ _ _ _ (by decide)]
  exact congrArg (· != 0) (hrails.trans d.trimAbort_rtcAlone.pending)

/-- `RESET_N` leaves D00 held off (R543). -/
theorem exec_resetNAssert (s : State) :
    exec .resetNAssert s = .next { s with dev := if s.dev.down = 3 then s.dev else s.dev.holdOff 1 } := rfl

/-- Settles O7. -/
theorem resetNFreezesTheDevice : Obligations.ResetNFreezesTheDevice := by
  intro d cs hp hcs
  refine ⟨_, exec_resetNAssert ⟨cs, d⟩, ?_, ?_, hcs, rfl, fun _ _ _ => rfl⟩
  · dsimp only
    split
    · omega
    · exact Nat.one_ne_zero
  · dsimp only
    split
    · exact hp
    · rw [Dev.holdOff_setPending, hp]

/-! ## Completion -/

/-- Settles O60: each event acts where its condition holds, and `RESET_N` unless the always-on rail is off. -/
theorem powerStateCommandsComplete : Obligations.PowerStateCommandsComplete := by
  refine ⟨?_, ?_, ?_, ?_, ?_, ?_, ?_, ?_, ?_, ?_⟩
  · intro group
    exact .of_onLane (fun s => (rfl : execAutoEnable _ s = onLane _ s)) fun d hc => if_pos hc
  · exact .of_onAny (fun s => (rfl : execResetNAssert s = onAny _ s)) fun d hdown => if_neg hdown
  · exact .of_onAny (fun s => (rfl : execResetNAssert s = onAny _ s)) fun d hdown => if_pos hdown
  · intro cause estop trng journal intact
    exact .of_onAny (fun s => (rfl : execColdStart _ _ _ _ _ s = onAny _ s)) fun d hc => if_pos hc
  · exact .of_onDev (fun s => (rfl : execPowerUpRunStart s = onDev _ s)) fun d hc => if_pos hc
  · exact fun c => .pageCommand rfl
  · exact fun c => .pageCommand rfl
  · exact fun c => .pageCommand rfl
  · exact .of_onDev (fun s => (rfl : execHibernateRecipeStart s = onDev _ s)) fun d hc => if_pos hc
  · exact .of_onDev (fun s => (rfl : execWakeRecipeStart s = onDev _ s)) fun d hc => if_pos hc

end Sys2Proof.Machine
end
